-- ==== Sys2Proof/Word.lean ====
section
/-! DEFINITION. The word types of the device: bytes, 32-bit register words (R12), and the byte strings
that keys, digests and addresses are. -/

namespace Sys2Proof

/-- A byte, as memory and the wire hold it. -/
abbrev Byte := BitVec 8

/-- A register word (R12). -/
abbrev Word := BitVec 32

/-- A string of bytes, byte 0 first (R12). -/
abbrev Bytes := List Byte

/-- A 128-bit block of AES and GHASH, byte 0 in its most significant byte (R160). -/
abbrev Block := BitVec 128

/-- A key of 256 bits, byte 0 most significant; a 128-bit key stands in the upper half (R214). -/
abbrev Key := BitVec 256

/-- A SHA-384 digest. -/
abbrev Digest := BitVec 384

end Sys2Proof
end

