-- ==== Sys2Proof/Syntax.lean ====
section
/-! DEFINITION. The commands the device takes: one constructor of `Instr` per row of the table of
operations and events. What a command brings from outside (a received frame, a host buffer, a message
of the twin, a measurement) stands in its operands; what it reads of the device it reads from State. -/

namespace Sys2Proof

/-- The order codes (R1). -/
inductive Variant where
  | gd1640 | gd1620 | gd1610
deriving DecidableEq, Repr

/-- A timestamp: TAI seconds, nanoseconds and quarter nanoseconds (R283). -/
structure Stamp where
  sec : Nat := 0
  ns : Nat := 0
  qns : Nat := 0
deriving DecidableEq, Repr

/-- What resolution does with a frame; the numbers are those of SETCH (R103, R107). -/
inductive Action where
  | protect | clear | punt | drop
deriving DecidableEq, Repr

/-! ### Peal images (R41 to R44) -/

/-- The modes of a port (R62). -/
inductive PortMode where
  | m1x400 | m2x200 | m4x100 | m4x50 | m4x25 | m4x10 | m800 | flexe400 | flexe200 | flexe100
deriving DecidableEq, Repr

/-- FEC modes; the numbers are those of PRT_EP_STATUS.FEC (R76). -/
inductive Fec where
  | none | rs528 | rs544
deriving DecidableEq, Repr

/-- One port of a PORT_MAP section (R59, R62, R70): its side, its number, its mode, its FEC, the
polarity inversion of its lanes and the endpoints (by channel) marked LPI_ALLOWED. -/
structure PortDef where
  line : Bool
  port : Nat
  mode : PortMode
  fec : Fec
  txInv : Nat := 0
  rxInv : Nat := 0
  lpi : List Nat := []
deriving DecidableEq, Repr

/-- One FlexE client of a group (R63, R77, R96): its channel, its client ID, the group that sends it
and, for a transit client, `transit`. -/
structure FlexClient where
  channel : Nat
  clientId : Nat
  txGroup : Nat
  transit : Bool := false
deriving DecidableEq, Repr

/-- One FlexE group of a FLEXE section (R77, R78, R91). `instances` gives (instance index, instance
number) in ascending index; a page gives the channel of each group slot, or none. -/
structure FlexGroup where
  index : Nat
  number : Nat
  phyPorts : List Nat
  instances : List (Nat × Nat)
  clients : List FlexClient
  txA : List (Option Nat)
  txB : List (Option Nat)
  rxA : List (Option Nat)
  rxB : List (Option Nat)
deriving DecidableEq, Repr

/-- A Stroke program (R101, R103): its instruction words and its class maps. -/
structure StrokeProgram where
  code : List Word
  maps : List (List Nat) := []
deriving DecidableEq, Repr

/-- A protection-shaper profile (R264). -/
structure PShaper where
  index : Nat
  queue : Option Nat
  rate : Nat
  burst : Nat
  resetTo : Bool
deriving DecidableEq, Repr

/-- An ordinary shaper profile of a queue or a channel (R57, R265). -/
structure ShaperProfile where
  index : Nat
  rate : Nat
  burst : Nat
deriving DecidableEq, Repr

/-- A QUEUES section (R41, R137, R149, R157, R172, R264). -/
structure QueuesSection where
  minCells : Nat
  queueMin : List (Nat × Nat) := []
  headroom : List (Nat × Nat) := []
  pDecryptCt : List Nat := []
  pShapers : List PShaper := []
  queueShapers : List ShaperProfile := []
  channelShapers : List ShaperProfile := []
  holdUs : List Nat := []
  snareClearFull : Bool := false
  classes67 : List Nat := []
deriving DecidableEq, Repr

/-- One gate control list (R268, R269). -/
structure GateList where
  channel : Nat
  cycleNs : Nat
  baseSec : Nat
  baseNs : Nat
  entries : List (Nat × Nat)
deriving DecidableEq, Repr

/-- A TABLES section (R111, R113). Sizes are entries and nodes. -/
structure TablesSection where
  mac : Nat := 262144
  saStore : Nat := 32768
  lpm4 : Nat := 12288
  lpm6 : Nat := 11776
  seed0 : Nat := 0
  seed1 : Nat := 0
deriving DecidableEq, Repr

/-- A TAMPER section (R58, R378): masks by source, and the thresholds in 1/16 degree Celsius. -/
structure TamperSection where
  masks : List (Nat × Nat) := []
  tHigh : Option Int := none
  tLow : Option Int := none
deriving DecidableEq, Repr

/-- Twin roles; the numbers are those of TWN_STATUS.ROLE (R326). -/
inductive TwinRole where
  | standalone | preferred | nonPreferred
deriving DecidableEq, Repr

/-- One dual stream of a TWIN section: stream ID, local transmit SC, client channel (R305). -/
structure TwinStream where
  id : Nat
  sc : Nat
  client : Nat
deriving DecidableEq, Repr

/-- A TWIN section (R305). -/
structure TwinSection where
  role : TwinRole
  domainSlot : Nat := 0
  channels : List Nat := []
  streams : List TwinStream := []
  leaseMs : Nat := 100
  revertS : Nat := 60
deriving DecidableEq, Repr

/-- One REG_INIT entry (R55): the BAR0 offset of a register, the low bit of a field and its value. -/
structure RegInit where
  offset : Nat
  lo : Nat
  value : Nat
deriving DecidableEq, Repr

/-- The content of a section, by type (R41). `other` is the content of a section whose TYPE is none
of R41. -/
inductive SectionBody where
  | portMap (ports : List PortDef)
  | flexe (groups : List FlexGroup)
  | enginePool (reserved : Nat) (classes : Nat)
  | tables (t : TablesSection)
  | stroke (programs : List StrokeProgram) (assign : List (Nat × Nat))
  | queues (q : QueuesSection)
  | gates (lists : List GateList)
  | tamper (t : TamperSection)
  | power (off : List Nat)
  | twin (t : TwinSection)
  | regInit (entries : List RegInit)
  | notes
  | other
deriving DecidableEq, Repr

/-- One entry of the section table (R43) with the section it names: its bytes, and what they say. -/
structure SectionEntry where
  typ : Nat
  zero2 : Nat := 0
  offset : Nat
  length : Nat
  zero12 : Nat := 0
  digest : Digest
  bytes : Bytes
  body : SectionBody
deriving DecidableEq, Repr

/-- The signature block of an image, a package or a token (R44); keys and signatures as numbers. -/
structure SigBlock where
  ecdsaKey : Nat
  zero97 : Nat := 0
  mldsaKey : Nat
  ecdsaSig : Nat
  mldsaSig : Nat
  zero7419 : Nat := 0
deriving DecidableEq, Repr, Inhabited

/-- A Peal image: header, section table with sections, signature block (R42 to R44), and the SHA-384
of bytes 0 to SIGNATURE_OFFSET - 1 as computed over the copy. -/
structure Image where
  magic : Nat
  format : Nat
  headerLen : Nat
  imageLen : Nat
  variantMask : Nat
  signerSlot : Nat
  svn : Nat
  flags : Nat
  imageId : Nat
  buildTime : Nat
  sectionCount : Nat
  zero34 : Nat := 0
  tableOffset : Nat
  sigOffset : Nat
  zero44 : Nat := 0
  entries : List SectionEntry
  sig : SigBlock
  digest : Digest
deriving DecidableEq, Repr

/-- The copy of an image in the loader's region (R45): its bytes, and what the sections without a byte layout in the manual
say, by index. -/
structure PealCopy where
  bytes : Bytes := []
  bodies : List SectionBody := []
deriving DecidableEq, Repr, Inhabited

/-! ### Operands of the datapath -/

/-- A frame at the receive balls of a channel (R31, R68): its bytes from the destination address up to
the byte before the FCS, whether its FCS and its FEC blocks are good, whether its tail reaches the
buffer only after its head was dispatched (possible only in cut-through, R134), and the quarter
nanosecond of its ingress stamp. -/
structure RxFrame where
  bytes : Bytes
  fcsOk : Bool := true
  fecOk : Bool := true
  tailLate : Bool := false
  qns : Nat := 0
deriving DecidableEq, Repr

/-- A generated PTP message request (R296). -/
structure PtpRequest where
  channel : Nat
  cls : Nat
  action : Nat
  sc : Nat
  launch : Option Nat := none
  message : Bytes
  tsOrigin : Bool := false
  corrAdd : Bool := false
  corrRef : Bool := false
  udpCsum : Bool := false
  twoStep : Bool := false
  tsOff : Nat := 0
  corrOff : Nat := 0
  csumOff : Nat := 0
  tag : Nat := 0
  ref : Stamp := {}
deriving DecidableEq, Repr

/-- A FlexE block at a position an instance examines (R84): its phase, the position modulo the 20,461
blocks between overhead positions; whether it is a marker block, with the group number, the instance
number and the OMF it then carries; whether its sync header is valid; and, at the last position of a
frame, whether the CRC-16 of that frame checks. -/
structure OhBlock where
  phase : Nat
  marker : Bool
  groupNumber : Nat := 0
  instNumber : Nat := 0
  omf : Bool := false
  headerOk : Bool := true
  crcOk : Bool := true
deriving DecidableEq, Repr

/-- A complete overhead frame of an instance (R81, R82). `slotA` and `slotB` are the client IDs that it carries of calendars A
and B, 0 for a slot without a client: those of slot n in frame n of a multiframe, n below 20. `arrival` is its arrival
time in nanoseconds (R88). -/
structure OhFrame where
  crcOk : Bool
  c : Bool
  cr : Bool
  ca : Bool
  rpf : Bool
  groupNumber : Nat
  instNumber : Nat
  mapOk : Bool
  arrival : Nat := 0
  slotA : Nat := 0
  slotB : Nat := 0
deriving DecidableEq, Repr

/-! ### Twin messages (R307, R308) -/

/-- The checked fields of a Twin link frame header, and its tag (R307). -/
structure TwinHdr where
  epoch : Nat
  node : Nat
  seq : Nat
  icv : Block
deriving DecidableEq, Repr

/-- States of a twin; the numbers are those of TWN_STATUS.STATE (R326). -/
inductive TwinState where
  | init | seeking | joining | standby | active | handing
deriving DecidableEq, Repr

/-- Values of a Clapper line; the numbers are those of TWN_STATUS.CLAP_IN (R326). -/
inductive Clap where
  | absent | ready | drive
deriving DecidableEq, Repr

/-- The payload of HELLO (R308). -/
structure HelloMsg where
  role : TwinRole
  state : TwinState
  synced : Bool
  epoch : Nat
  holder : Nat
  structure' : Digest
  domainId : Nat
  random : Block
deriving DecidableEq, Repr

/-- An SC record of MIRROR and SYNC (R315); the entry's fields of R212 as numbers. -/
structure ScRecord where
  sc : Nat
  created : Bool
  enable : Bool
  dirRx : Bool
  sci : Nat
  conf : Bool
  offset : Nat
  clearTags : Nat
  tagAuth : Bool
  twinTagged : Bool
  dupCtx : Nat
  channel : Nat
  owner : Nat
  egress : Nat
  window : Nat
  overlapMs : Nat
  slots : List (Option Nat)
  txAn : Option Nat
  rollMode : Nat
  nextAn : Nat
  rollSec : Nat
  rollNs : Nat
deriving DecidableEq, Repr

/-- An SA record of MIRROR and SYNC (R315): the SAK travels wrapped under the session key. -/
structure SaRecord where
  sa : Nat
  state : Nat
  dirRx : Bool
  suite : Nat
  an : Nat
  sc : Nat
  wrapped : List Nat
  salt : Nat
  ssci : Nat
  threshold : Nat
  firstEnd : Nat
  nextRxPn : Nat
deriving DecidableEq, Repr

/-- A record of MIRROR or SYNC (R315). -/
inductive MirrorRec where
  | sc (r : ScRecord)
  | sa (r : SaRecord)
  | rxPn (sa pn : Nat)
  | syncEnd
deriving DecidableEq, Repr

/-- The kinds of LEASE message (R308, R321, R323). -/
inductive LeaseKind where
  | claim | renew
deriving DecidableEq, Repr

/-- The kinds of ROLE message (R308, R325). -/
inductive RoleKind where
  | req
  | grant (seqs : List (Nat × Nat))
  | done
deriving DecidableEq, Repr

/-- A message of the Twin link (R308). -/
inductive TwinMsg where
  | hello (m : HelloMsg)
  | heartbeat (state : TwinState) (synced : Bool) (clap : Clap)
  | mirror (r : MirrorRec)
  | reserve (sa newEnd : Nat)
  | ack (seq : Nat)
  | lease (kind : LeaseKind) (epoch holder ms : Nat) (test : Bool)
  | role (k : RoleKind)
  | sync (r : MirrorRec)
  | dual (stream seqNo tIn : Nat) (frame : Bytes)
  | notice (source mask : Nat)
deriving DecidableEq, Repr

/-! ### Operands of the control plane -/

/-- A domain package (R244). -/
structure DomainPackage where
  kemCt : Nat
  ecdhPub : Nat
  signerSlot : Nat
  domainId : Nat
  nodeId : Nat
  zero1670 : Nat := 0
  serial : Nat
  challenge : BitVec 128
  wrapped : List Nat
  sig : SigBlock
deriving DecidableEq, Repr, Inhabited

/-- A hybrid message (R248); `body` is the message's KEM and ECDH part as numbers. -/
structure HybMsg where
  magic : Nat
  initiator : Nat
  responder : Nat
  domainId : Nat
  zero10 : Nat := 0
  ckn : BitVec 128
  session : Nat
  kem : Nat
  ecdh : Nat
  zero1697 : Nat := 0
  confirm : Block := 0
  tag : Block
deriving DecidableEq, Repr, Inhabited

/-- The debug token (R413). -/
structure DebugToken where
  magic : Nat
  signerSlot : Nat
  zero : Nat := 0
  serial : Nat
  challenge : BitVec 128
  sig : SigBlock
deriving DecidableEq, Repr

/-- A BOOT or FW image (R411): the fields of its header, and every byte before its signature block. -/
structure FwImage where
  magic : Nat
  format : Nat
  signerSlot : Nat
  svn : Nat
  imageLen : Nat
  bodyLen : Nat
  bytes : Bytes
  sig : SigBlock
deriving DecidableEq, Repr, Inhabited

/-- One slot of the boot flash (R410): BOOT, FW and PEAL. -/
structure BootSlot where
  boot : FwImage
  fw : FwImage
  peal : PealCopy
deriving DecidableEq, Repr, Inhabited

/-- What boot finds in the flash (R410): the first 11 bytes of the header, the two slots; and
the key of the PUF reconstruction, if that passes its integrity check (R236). -/
structure BootFlash where
  header : Bytes
  slotA : BootSlot
  slotB : BootSlot
  pufKey : Option Key
deriving DecidableEq, Repr

/-- An access: its bytes, and whether it writes. -/
structure Access where
  size : Nat
  write : Bool
deriving DecidableEq, Repr

/-- A chain of a send ring (R333): its descriptors of 32 bytes, from the one with SOF on, and the bytes of its buffers. -/
structure SendChain where
  descs : List Bytes
  data : Bytes
deriving DecidableEq, Repr

/-- The inputs of a journal plan for which nothing has been counted (R368), free values since the manual gives none: H and H0 in
1/256 and WA in 1/1000. -/
structure PlanGaps where
  h : Nat
  h0 : Nat
  wa : Nat
deriving DecidableEq, Repr, Inhabited

/-- A power-up: whether VBAT was lost as well (R247, R389), and the copies of fuse words that the power loss left with bad parity, by
word and copy, false A and true B (R450). -/
structure PowerUp where
  vbatLost : Bool
  parity : List (Nat × Bool)
deriving DecidableEq, Repr

/-- A NAND die as RESET, READ ID and READ PARAMETER PAGE find it (R353, R354): whether it answers, its density in Gb, the KiB of
data of a page, its planes, the blocks of a plane, the pages of a TLC block, and the highest rate it supports (0 800, 1 1,200,
2 1,600 MT/s). -/
structure NandDie where
  answers : Bool := true
  density : Nat
  pageKib : Nat
  planes : Nat
  blocks : Nat
  pages : Nat
  rate : Nat
deriving DecidableEq, Repr

/-- What the mount finds on the medium (R354, R356, R363, R371): the dies, the blocks that the factory marked, which of the
superblock's two copies check, the newer first, the JSEQs of the records whose CRC fails, and the first and last JSEQ lost. -/
structure MountScan where
  dies : List NandDie
  marks : List Nat := []
  newerOk : Bool := true
  olderOk : Bool := true
  crcBad : List Nat := []
  lost : Option (Nat × Nat) := none
deriving DecidableEq, Repr

/-- The measured inputs of a voltage plan (R416): the minimum slack in ps and its monitor, the gain of the 10 mV probe in ps,
the temperature in 1/16 degree Celsius, the time since the first power-up in 1/10 year, the lowest eyes with their lanes and the
powered hours. -/
structure AvsInputs where
  slack : Int
  monitor : Nat
  gain10mV : Nat
  temp : Int
  age10 : Nat
  eyeHeight : Nat
  eyeHeightLane : Nat
  eyeWidth : Nat
  eyeWidthLane : Nat
  hours : Nat
deriving DecidableEq, Repr, Inhabited

/-- What the check unit of an engine finds (R199): the fault causes, in the order of DRM_ENG_FAULT.CAUSE (R209), and a single-bit
error of a key slot, which it corrects. -/
inductive EngineCause where
  | parity | tag | len | keyEcc | timeout | keyEccCorrected
deriving DecidableEq, Repr

/-- A journal record class; the numbers are those of R358. -/
inductive JClass where
  | snare | event | roll | ledger | tamper | keyBackup
deriving DecidableEq, Repr


/-! ### The commands -/

/-- The operations and events of the device, one constructor per row of spec/opcode_table.json. `who`
is a requester: 0 to 3 the management cores, 4 the PF, 5 to 12 VF1 to VF8 (R125). A command row reads
its arguments in the window or argument registers of its requester; an event row is the occurrence of
its event, with what comes from outside in its operands. -/
inductive Instr where
  /-- A write of `size` bytes (4 or 8) at a byte offset of BAR0 as `who` sees it (R438 to R445). -/
  | registerWrite (who off size : Nat) (val : BitVec 64) (dma : Bytes)
  /-- A write of 1 or 2 bytes (R438). -/
  | subwordWrite (who off size : Nat)
  /-- An access to an address that no register occupies, or an unaligned one (R438, R442). -/
  | unmapped (who off : Nat) (acc : Access)
  | load (who : Nat)
  /-- Verification ends over the copy. -/
  | verificationDone (copy : PealCopy)
  /-- ARM_NOW; `alarm`: an alarm with a response beyond LOG and IRQ arrives in the same cycle (R50). -/
  | armNow (who : Nat) (alarm : Bool)
  | armAt (who : Nat)
  | disarm (who : Nat)
  | clearShadow (who : Nat)
  | advanceFloor (who : Nat)
  | timedStrike
  | drainComplete
  | dataPlaneStart
  | powerSequenceSlot
  | lossConditionDetected (ch kind : Nat)
  | lossConditionCleared (ch kind : Nat)
  | linkDown (ch : Nat)
  | linkUp (ch rxDelay txDelay : Nat)
  | serdesRefLost (grp : Nat)
  | fecDegrade (ch symbols : Nat)
  | lpiEnter (ch : Nat)
  | lpiExit (ch : Nat)
  | lpiWakeDone (ch : Nat)
  | frameReceived (ch : Nat) (f : RxFrame)
  | pauseRepeat (ch : Nat)
  | pauseReceived (ch quanta : Nat)
  | pauseExpiry (ch : Nat)
  | schedulerMatch
  | dispatch (q : Nat)
  | chunkCommit (port : Nat)
  | engineFault (e : Nat) (cause : EngineCause)
  | fence (who e : Nat)
  | restore (who e : Nat)
  | restoreTestsDone (e : Nat) (pass : Bool)
  | engineGate (e : Nat)
  | holdTimerExpiry (q : Nat)
  | overheadBlockReceived (inst : Nat) (b : OhBlock)
  | overheadFrameReceived (inst : Nat) (f : OhFrame)
  | groupDown (g : Nat)
  | groupUp (g : Nat)
  | txSwapped (g : Nat)
  | calSwStall (g : Nat)
  | cancel (who g : Nat)
  | retry (who g : Nat)
  | secondsRollover
  | macInsert (who : Nat)
  | macDelete (who : Nat)
  | macDump (who : Nat)
  | lpmAdd (who : Nat)
  | lpmDel (who : Nat)
  | lpmDump (who : Nat)
  | lpmNodeReturn
  | tblLockRead (who part : Nat)
  | release (who part : Nat)
  | renew (who part : Nat)
  | lockExpired (part : Nat)
  | learnEventApply
  | brushVisit
  | snareRecordWrite
  | snareRingResize (who log2 : Nat)
  | scCreate (who : Nat)
  | scModify (who : Nat)
  | scDelete (who : Nat)
  | scRead (who : Nat)
  | saStage (who : Nat)
  | saInstall (who : Nat)
  | saActivate (who : Nat)
  | saRetire (who : Nat)
  | saDelete (who : Nat)
  | saSetPn (who : Nat)
  | saSetThreshold (who : Nat)
  | saPin (who : Nat)
  | saUnpin (who : Nat)
  | saRead (who : Nat)
  | rollArm (who : Nat)
  | rollNow (who : Nat)
  | rollDisarm (who : Nat)
  | rollTimeReached (sc : Nat)
  | retireAtReached (sa : Nat)
  | coldFetchDone (sa : Nat) (ok : Bool)
  | samEvqPop (who : Nat)
  | challenge (who : Nat)
  | domainImport (who : Nat) (pkg : DomainPackage)
  | groupDerive (who : Nat)
  | cakDerive (who : Nat)
  | keyImport (who : Nat)
  | keyExport (who : Nat)
  | keyInvalidate (who : Nat)
  | sweepDone
  | keyRead (who : Nat)
  | mkaIcv (who : Nat) (data : Bytes)
  | hybStart (who : Nat)
  | hybRespond (who : Nat) (msg : HybMsg)
  | hybFinish (who : Nat) (msg : HybMsg)
  | hybCancel (who : Nat)
  | hybExpired (session : Nat)
  | idGet (who : Nat)
  | attest (who : Nat)
  | shaperRefill
  | protShaperWrite (who shaper : Nat) (burst : Bool) (val : Nat)
  | gateEvent (ch : Nat)
  | gateEnWrite (who ch : Nat) (en : Bool)
  | timIncCommit (who val : Nat)
  | step (who : Nat) (pending : Bool)
  | timNowLatch (who : Nat)
  | refLost
  | refLocked
  | ppsOutPulse
  | captureEdge (input : Nat) (rising : Bool)
  | timCapPop (who fifo : Nat)
  | timTxtsPop (who : Nat)
  | arm (who t : Nat)
  | triggerDisarm (who t : Nat)
  | triggerEdge (t : Nat)
  | ptpTxRequest (req : PtpRequest)
  /-- A HELLO; `skewNs` is the transit that the link measures if it comes up (R307). -/
  | hello (h : TwinHdr) (m : HelloMsg) (skewNs : Nat)
  | heartbeat (h : TwinHdr) (state : TwinState) (synced : Bool) (clap : Clap)
  | mirror (h : TwinHdr) (r : MirrorRec)
  | reserve (h : TwinHdr) (sa newEnd : Nat)
  | ack (h : TwinHdr) (seq : Nat)
  | lease (h : TwinHdr) (kind : LeaseKind) (epoch holder ms : Nat) (test : Bool)
  | role (h : TwinHdr) (kind : RoleKind)
  | sync (h : TwinHdr) (r : MirrorRec)
  | dual (h : TwinHdr) (stream seqNo tIn : Nat) (frame : Bytes)
  | notice (h : TwinHdr) (source mask : Nat)
  | twinRetransmit
  | twinLinkDown
  | helloTimer
  | heartbeatTimer
  | clapperInputChange (v : Clap)
  | takeover
  | bulkPermit
  | clapperFault
  | clapperFaultClear
  | seekTimeout
  | leaseRenewTimer
  | leaseLapsed
  | revertHoldoffExpiry
  | handoverGrant
  | yield (who : Nat)
  | take (who : Nat)
  | testEnter (who : Nat)
  | testExit (who : Nat)
  | vfFlr (vf : Nat)
  | pfFlr
  | pcieHotReset
  /-- The chain at the head of a send ring (R333). -/
  | sendDescriptorFetch (rs : Nat) (chain : SendChain)
  /-- Delivery of the head frame of a punt class; `bufs` are the 16 bytes of each free receive descriptor of
  its ring, from HIF_RX_CONS on (R336, R337). -/
  | puntDelivery (cls : Nat) (bufs : List Bytes)
  | ringSetEnable (who rs val : Nat)
  | dmaError (rs : Nat)
  | ringIrqHoldoff (rs : Nat)
  /-- SEND on the view of a pair, with the fields of CHM_OUT_SEND (R339). -/
  | send (who pair len : Nat) (ackReq : Bool) (tag : Nat)
  | fullWrite (who pair : Nat)
  | pop (who pair : Nat)
  | withdraw (who pair : Nat)
  | chmNoticeRead (who pair : Nat)
  | crossed (pair : Nat)
  /-- A control block of a receive lane: its type byte, and bytes 1 to 7 (R347). -/
  | credit (typ : Byte) (rest : Bytes)
  | taborBurst
  | taborTime
  | taborLinkUp (lane : Nat)
  | taborLinkDown
  | creditLost
  | taborRefLost
  | format (who : Nat)
  /-- READ; `bad` gives the records whose pages fail at every read-retry level (R364). -/
  | read (who : Nat) (bad : List Nat)
  | flush (who : Nat)
  | setLife (who : Nat) (gaps : PlanGaps)
  | planNow (who : Nat) (gaps : PlanGaps)
  | journalMount (scan : MountScan) (gaps : PlanGaps)
  | journalRecordAccept (cls : JClass) (payload : Bytes)
  | journalFlushTimer
  /-- The program of a wordline of a segment, or of an SLC page of a system block, ends; `bad` names the block that failed its
  status check (R361, R362). -/
  | programDone (system : Bool) (place page : Nat) (bad : Option Nat) (gaps : PlanGaps)
  /-- A patrol read of a page (R364, R366): its block and its number in the block, the highest corrected bit count per codeword,
  the read-retry level used, whether a level corrected it, and, for a page that none corrects, the records it holds and whether its
  block passes the test of R365. -/
  | patrolRead (blk page corrected level : Nat) (recovered : Bool) (recs : List Nat) (testOk : Bool) (gaps : PlanGaps)
  | journalPlan (gaps : PlanGaps)
  /-- The sources that assert in one instant, in source order, each with its VALUE (R386, R395). -/
  | tamperAssert (alarms : List (Nat × Nat))
  | tamperClear (src : Nat)
  | soft (who code : Nat)
  | releaseHold (who : Nat)
  | batteryOnly
  | active (who : Nat)
  | doze (who : Nat)
  | standby (who : Nat)
  | hibernate (who : Nat)
  | dpReset (who : Nat)
  | cpReset (who : Nat)
  | deviceReset (who : Nat)
  | avsPlan (who : Nat) (inp : AvsInputs)
  /-- RECOVER; `img` is the recovery image that stands at PWR_RECOVER_ADDR, laid out as a slot (R412). -/
  | recover (who : Nat) (img : BootSlot)
  | dataPlaneResetEnd
  | controlPlaneResetEnd
  | wake (cause : Nat)
  | resetN
  | powerOn (how : PowerUp)
  | railFault (rail : Nat)
  | boot (flash : BootFlash)
  /-- A write of PWR_WDOG with KICK; `timeout` is the TIMEOUT_MS that it writes (R409). -/
  | kick (who timeout : Nat)
  | wdog
  /-- A plan that is due, at the first Strike or PLAN_H hours after the last, with what it measures (R416). -/
  | avsPlanTimer (inp : AvsInputs)
  | lowMargin
  | dbgTokenWrite (who : Nat) (token : DebugToken)
  | cntProgSelWrite (who n val : Nat)
  | rollLatch
  | rollDumpWritten
  | cntSamplePop (who : Nat)
  | blow (who : Nat)
  | pcieLinkUp (gen width : Nat)
  /-- The erase of a segment, or of a system block, ends; `bad` names the block that failed it (R355, R356, R365). -/
  | eraseDone (system : Bool) (place : Nat) (bad : Option Nat) (gaps : PlanGaps)
deriving DecidableEq, Repr

end Sys2Proof
end

