-- ==== Sys2Proof/Decode.lean ====
section
/-! DEFINITION. The words of the table. The device takes commands and events, not instruction words: no row of
spec/opcode_table.json gives bits, so no word spells a command. -/

namespace Sys2Proof

/-- The command that a word of the table's bits spells: none, as no row gives bits. -/
def decodeTableWord (_nbits _w : Nat) : Option Instr := none

end Sys2Proof
end

