-- ==== Sys2Proof/Config.lean ====
section
/-! DEFINITION. What the manual leaves to an implementation or takes from another standard: uninterpreted
functions without a body, of which nothing can be computed or proved. -/

namespace Sys2Proof.Config

/-- The `n`-th value drawn from the DRBG, or otherwise left open; the step advances State.free with each
draw. -/
opaque random : Nat → Nat

/-- The AES block cipher (FIPS 197) with a key of 128 or 256 bits, a 128-bit key in the upper half. -/
opaque aes : (bits : Nat) → Key → Block → Block

/-- The inverse of the AES block cipher. -/
opaque aesInv : (bits : Nat) → Key → Block → Block

/-- SHA-384 of a byte string. -/
opaque sha384 : Bytes → Digest

/-- Verification of an ECDSA P-384 signature over a digest. -/
opaque ecdsaVerify : (key : Nat) → Digest → (sig : Nat) → Bool

/-- Verification of an ML-DSA-87 signature over a digest. -/
opaque mldsaVerify : (key : Nat) → Digest → (sig : Nat) → Bool

/-- An ECDSA P-384 signature over a digest under a private key. -/
opaque ecdsaSign : (priv : Nat) → Digest → Nat

/-- An ML-DSA-87 signature over a digest under a private key. -/
opaque mldsaSign : (priv : Nat) → Digest → Nat

/-- ML-KEM-1024: the encapsulation key of a seed. -/
opaque kemPublic : (seed : Nat) → Nat

/-- ML-KEM-1024: ciphertext and shared secret for an encapsulation key and randomness. -/
opaque kemEncap : (ek rand : Nat) → Nat × Nat

/-- ML-KEM-1024: the shared secret of a ciphertext under the decapsulation key of a seed. -/
opaque kemDecap : (seed ct : Nat) → Nat

/-- ML-KEM-1024: the input checks of an encapsulation key and of a ciphertext. -/
opaque kemKeyOk : (ek : Nat) → Bool

/-- The check of a ciphertext. -/
opaque kemCtOk : (ct : Nat) → Bool

/-- ECDH P-384: the public point of a private value. -/
opaque ecdhPublic : (priv : Nat) → Nat

/-- ECDH P-384: the shared secret. -/
opaque ecdh : (priv pub : Nat) → Nat

/-- ECDH P-384: whether a point is valid. -/
opaque ecdhOk : (pub : Nat) → Bool

/-- ML-DSA-87: the public key of a seed. -/
opaque mldsaPublic : (seed : Nat) → Nat

/-- The CRC-16 of a FlexE overhead frame (the FlexE IA), for the numbers that its fields carry. -/
opaque ohCrc : List Nat → Nat

/-- The payload of a Twin link message: R308 lists what it holds and gives no layout. -/
opaque twinPayload : TwinMsg → Bytes

/-- The node ID that a twin takes its peer to have before it has heard from it: the manual does not say how it
knows. -/
opaque twinPeer : (own : Nat) → Nat

/-- The fuse seed of the Device Root (R236): fuse content, which the manual does not give. -/
opaque fuseSeed : Key

/-- The constant that the Ocoon SDK publishes for the test root (R237). -/
opaque testConstant : Key

/-! What a command word in a command register finds outside the device, where the command's own row brings it as an
operand: nothing is known of it. -/

/-- The domain package that DOMAIN_IMPORT reads. -/
opaque foundPackage : Nat → DomainPackage

/-- The hybrid message that HYB_RESPOND or HYB_FINISH reads. -/
opaque foundMessage : Nat → HybMsg

/-- The records that a journal READ cannot read. -/
opaque foundBad : Nat → List Nat

/-- The inputs of a journal plan that nothing has counted. -/
opaque foundGaps : Nat → PlanGaps

/-- What a voltage plan measures. -/
opaque foundAvs : Nat → AvsInputs

/-- The recovery image that RECOVER reads. -/
opaque foundSlot : Nat → BootSlot

/-- The form in which DDR5 holds an SA entry: encrypted and authenticated under the table key (R215), by a mode the manual does not
name. DESIGN CHOICE (notes/assumptions/110). -/
opaque saSeal : (tableKey : Key) → (sa : Nat) → Bytes → Bytes

/-- The next state of the 16-bit sequence of a case loop (R377), whose polynomial the manual does not give. -/
opaque loopNext : Nat → Nat

/-- What the memory of a trie node that no trie uses holds, by node and entry. -/
opaque freeNode : Nat → Nat → Nat

end Sys2Proof.Config
end

