-- ==== Sys2Proof/Machine/Bits.lean ====
section
/-! DEFINITION. Bits, fields and byte strings: the helpers that the meanings share. -/

namespace Sys2Proof.Machine

/-- The field of `w` bits from bit `lo` of a number. -/
def field (n lo w : Nat) : Nat := (n >>> lo) % 2 ^ w

/-- A number with bit `i` set. -/
def setBit (n i : Nat) : Nat := n ||| (1 <<< i)

/-- A number without the bits of a mask (a W1C write, R15). -/
def clearBits (n m : Nat) : Nat := n - (n &&& m)

/-- A number as 0 or 1. -/
def bit (b : Bool) : Nat := if b then 1 else 0

/-- The value of a byte string, byte 0 most significant (network order, R12). -/
def beNat (bs : Bytes) : Nat := bs.foldl (fun n b => n * 256 + b.toNat) 0

/-- The value of a byte string, byte 0 least significant. -/
def leNat (bs : Bytes) : Nat := bs.foldr (fun b n => n * 256 + b.toNat) 0

/-- The `len` bytes of a number, most significant first. -/
def beBytes : Nat → Nat → Bytes
  | 0, _ => []
  | len + 1, n => beBytes len (n / 256) ++ [BitVec.ofNat 8 n]

/-- The `len` bytes of a number, least significant first. -/
def leBytes : Nat → Nat → Bytes
  | 0, _ => []
  | len + 1, n => BitVec.ofNat 8 n :: leBytes len (n / 256)

/-- `len` bytes of a string from offset `off`; bytes beyond its end are absent. -/
def slice (bs : Bytes) (off len : Nat) : Bytes := (bs.drop off).take len

/-- A string with the bytes from `off` replaced. -/
def splice (bs : Bytes) (off : Nat) (new : Bytes) : Bytes :=
  bs.take off ++ new ++ bs.drop (off + new.length)

/-- A 16-bit or wider big-endian number at an offset. -/
def beAt (bs : Bytes) (off len : Nat) : Nat := beNat (slice bs off len)

/-- The bytewise exclusive or of two strings. -/
def xorBytes (a b : Bytes) : Bytes := List.zipWith (· ^^^ ·) a b

/-- The 32-bit words of a byte string: byte 0 in bits 31:24 of word 0 (R12). -/
def words : Nat → Bytes → List Nat
  | 0, _ => []
  | k + 1, bs => beNat (bs.take 4 ++ List.replicate (4 - (bs.take 4).length) 0) :: words k (bs.drop 4)

/-- One bit of a reflected CRC: shift right and add the polynomial if the bit shifted out is 1. -/
def crcBit (poly r : Nat) : Nat := if r % 2 = 1 then (r / 2) ^^^ poly else r / 2

/-- One byte of a reflected 32-bit CRC. -/
def crcByte (poly r : Nat) (b : Byte) : Nat :=
  (List.range 8).foldl (fun r _ => crcBit poly r) (r ^^^ b.toNat)

/-- CRC-32C (Castagnoli) from a starting register: reflected, not inverted (R113). -/
def crc32cFrom (r : Nat) (bs : Bytes) : Nat := bs.foldl (crcByte 0x82F63B78) r

/-- CRC-32C as a check: register of ones, inverted result (R429). -/
def crc32c (bs : Bytes) : Nat := crc32cFrom 0xFFFFFFFF bs ^^^ 0xFFFFFFFF

/-- A signed number of `w` bits. -/
def signed (w n : Nat) : Int := if n % 2 ^ w ≥ 2 ^ (w - 1) then (n % 2 ^ w : Int) - 2 ^ w else (n % 2 ^ w : Int)

/-- Rounding up a quotient. -/
def ceilDiv (a b : Nat) : Nat := (a + b - 1) / b

/-- CRC-32 of IEEE 802.3. -/
def crc32 (bs : Bytes) : Nat := bs.foldl (crcByte 0xEDB88320) 0xFFFFFFFF ^^^ 0xFFFFFFFF

/-- The FCS of a frame (IEEE 802.3). -/
def fcsBytes (bs : Bytes) : Bytes := leBytes 4 (crc32 bs)

end Sys2Proof.Machine
end

