-- ==== Sys2Proof/Machine/Crypto.lean ====
section
/-! DEFINITION. The cryptographic constructions that the manual names, over the AES block of Config: CMAC,
the KDF of R240, AES-KW (R243), GHASH and GCM (R160), and the key derivation of IEEE 802.1X (R242). -/

namespace Sys2Proof.Machine
open Sys2Proof

/-- Up to 16 bytes as a block, zero-padded on the right. -/
def toBlock (bs : Bytes) : Block := BitVec.ofNat 128 (beNat (bs.take 16 ++ List.replicate (16 - (bs.take 16).length) 0))

/-- The 16 bytes of a block. -/
def blockBytes (b : Block) : Bytes := beBytes 16 b.toNat

/-- The first `n` blocks of a string, the last one zero-padded. -/
def blocksOf : Nat → Bytes → List Block
  | 0, _ => []
  | n + 1, bs => toBlock bs :: blocksOf n (bs.drop 16)

/-- The blocks that cover a string. -/
def padBlocks (bs : Bytes) : List Block := blocksOf (ceilDiv bs.length 16) bs

/-- A 256-bit key of 32 bytes, or of 16 bytes in the upper half (R214). -/
def toKey (bs : Bytes) : Key := BitVec.ofNat 256 (beNat (bs.take 32 ++ List.replicate (32 - (bs.take 32).length) 0))

/-- The first bytes of a key. -/
def keyBytes (k : Key) (n : Nat) : Bytes := (beBytes 32 k.toNat).take n

/-! ### CMAC and the KDF of SP 800-108 (R240) -/

/-- The doubling of CMAC. -/
def cmacDouble (b : Block) : Block := (b <<< 1) ^^^ (if b.msb then 0x87 else 0)

/-- AES-CMAC with a 256-bit key. -/
def cmac (k : Key) (msg : Bytes) : Block :=
  let e := Config.aes 256 k
  let k1 := cmacDouble (e 0)
  let n := max 1 (ceilDiv msg.length 16)
  let whole := decide (msg ≠ []) && msg.length % 16 = 0
  let lastBytes := msg.drop (16 * (n - 1))
  let last := if whole then toBlock lastBytes ^^^ k1 else toBlock (lastBytes ++ [0x80]) ^^^ cmacDouble k1
  e ((blocksOf (n - 1) msg).foldl (fun x b => e (x ^^^ b)) 0 ^^^ last)

/-- The bytes of an ASCII string. -/
def ascii (s : String) : Bytes := s.toList.map (fun c => BitVec.ofNat 8 c.toNat)

/-- The KDF in counter mode: `len` bits of output, as a byte string (R240). -/
def kdf (kdk : Key) (label : String) (context : Bytes) (len : Nat) : Bytes :=
  ((List.range (ceilDiv len 128)).flatMap (fun i =>
    blockBytes (cmac kdk (beBytes 4 (i + 1) ++ ascii label ++ [0] ++ context ++ beBytes 4 len)))).take (len / 8)

/-- The KDF of IEEE 802.1X-2020 that gives a CAK's ICK and KEK of 256 bits (R242): counter and length are one
and two bytes, the context is the CKN. -/
def kdfDot1x (cak : Key) (label : String) (ckn : BitVec 128) : Key :=
  toKey ([1, 2].flatMap (fun i =>
    blockBytes (cmac cak ([i] ++ ascii label ++ [0] ++ beBytes 16 ckn.toNat ++ beBytes 2 256))))

/-! ### AES-KW (SP 800-38F, R243) -/

/-- One step of the wrapping function on the register A and the rotating list of 64-bit blocks. -/
def kwStep (bits : Nat) (k : Key) (t a : Nat) (r : Nat) : Nat × Nat :=
  let b := (Config.aes bits k (BitVec.ofNat 128 (a * 2 ^ 64 + r))).toNat
  ((b / 2 ^ 64) ^^^ t, b % 2 ^ 64)

/-- One pass over the blocks, from step number `t`. -/
def kwPass (bits : Nat) (k : Key) : Nat → Nat → List Nat → Nat × List Nat
  | _, a, [] => (a, [])
  | t, a, r :: rs =>
    let (a, r) := kwStep bits k t a r
    let (a, rs) := kwPass bits k (t + 1) a rs
    (a, r :: rs)

/-- The 64-bit blocks of a string. -/
def blocks64 : Nat → Bytes → List Nat
  | 0, _ => []
  | n + 1, bs => beNat (bs.take 8) :: blocks64 n (bs.drop 8)

/-- AES-KW of a key of 16 or 32 bytes under a 256-bit KEK. -/
def kwWrap (kek : Key) (data : Bytes) : Bytes :=
  let n := data.length / 8
  let (a, r) := (List.range 6).foldl (fun (p : Nat × List Nat) j => kwPass 256 kek (n * j + 1) p.1 p.2)
    (0xA6A6A6A6A6A6A6A6, blocks64 n data)
  beBytes 8 a ++ r.flatMap (beBytes 8)

/-- One pass of the unwrapping function, over the blocks from the last to the first. -/
def kwBack (kek : Key) : Nat → Nat → List Nat → Nat × List Nat
  | _, a, [] => (a, [])
  | t, a, r :: rs =>
    let b := (Config.aesInv 256 kek (BitVec.ofNat 128 ((a ^^^ t) * 2 ^ 64 + r))).toNat
    let (a, rs) := kwBack kek (t - 1) (b / 2 ^ 64) rs
    (a, b % 2 ^ 64 :: rs)

/-- The key of an AES-KW blob, or none where its integrity check fails. -/
def kwUnwrap (kek : Key) (blob : Bytes) : Option Bytes :=
  let n := blob.length / 8 - 1
  let (a, r) := (List.range 6).foldl (fun (p : Nat × List Nat) j => kwBack kek (n * (6 - j)) p.1 p.2)
    (beNat (blob.take 8), (blocks64 n (blob.drop 8)).reverse)
  if a = 0xA6A6A6A6A6A6A6A6 then some (r.reverse.flatMap (beBytes 8)) else none

/-! ### GHASH and GCM (SP 800-38D, R160) -/

/-- One step of the multiplication in GF(2^128), most significant bit first. -/
def gfStep (x : Block) (p : Block × Block) (i : Nat) : Block × Block :=
  (if x.getMsbD i then p.1 ^^^ p.2 else p.1,
    (p.2 >>> 1) ^^^ (if p.2.getLsbD 0 then (0xE1#128) <<< 120 else 0))

/-- Multiplication in GF(2^128). -/
def gfMul (x y : Block) : Block := ((List.range 128).foldl (gfStep x) (0, y)).1

/-- H to the power `n`. -/
def gfPow (h : Block) (n : Nat) : Block := (List.range n).foldl (fun x _ => gfMul x h) ((1#128) <<< 127)

/-- GHASH of a list of blocks. -/
def ghash (h : Block) (bs : List Block) : Block := bs.foldl (fun y b => gfMul (y ^^^ b) h) 0

/-- The hash key of an SAK. -/
def hashKey (bits : Nat) (k : Key) : Block := Config.aes bits k 0

/-- The pre-counter block of a 96-bit IV. -/
def preCounter (iv : BitVec 96) : Block := BitVec.ofNat 128 (iv.toNat * 2 ^ 32 + 1)

/-- The counter mode of GCM over a string. -/
def gctr (bits : Nat) (k : Key) (iv : BitVec 96) (p : Bytes) : Bytes :=
  ((List.range (ceilDiv p.length 16)).flatMap (fun i =>
    xorBytes (blockBytes (toBlock (p.drop (16 * i)))) (blockBytes (Config.aes bits k (preCounter iv + BitVec.ofNat 128 (i + 1)))))).take
      p.length

/-- The blocks that GHASH takes: the AAD, the ciphertext and the block of lengths. -/
def ghashInput (aad ct : Bytes) : List Block :=
  padBlocks aad ++ padBlocks ct ++ [BitVec.ofNat 128 (8 * aad.length * 2 ^ 64 + 8 * ct.length)]

/-- The tag of GCM. -/
def gcmTag (bits : Nat) (k : Key) (iv : BitVec 96) (aad ct : Bytes) : Block :=
  ghash (hashKey bits k) (ghashInput aad ct) ^^^ Config.aes bits k (preCounter iv)

/-- GCM authenticated encryption: ciphertext and tag. -/
def gcmSeal (bits : Nat) (k : Key) (iv : BitVec 96) (aad p : Bytes) : Bytes × Block :=
  let c := gctr bits k iv p
  (c, gcmTag bits k iv aad c)

end Sys2Proof.Machine
end

