-- ==== Sys2Proof/Machine/Registers.lean ====
section
/-! DEFINITION. The register map: every register of the blocks TOP to FUS (R436) and of the
virtual-function view (R445), each with its places, its fields, their access codes (R15) and their
reset values, as the register tables of spec/ give them. A register field is named by the register,
its element and its low bit. -/

namespace Sys2Proof.Machine

/-- The registers by their names in the manual; arrays and repeated words are one name (R443). -/
inductive Reg where
  | TOP_STATUS | TOP_CAP_UNITS | TOP_ID | TOP_SERIAL_LO | TOP_SERIAL_HI | TOP_SUMMARY
  | TOP_EVENT | TOP_MASK | TOP_SCRATCH | TOP_SCRATCH_SH | TOP_TBLWIN | TOP_UNMAPPED
  | PEL_CMD | PEL_RESULT | PEL_LOAD_ADDR_LO | PEL_LOAD_ADDR_HI | PEL_LOAD_LEN | PEL_STRIKE_SEC_LO
  | PEL_STRIKE_SEC_HI | PEL_STRIKE_NS | PEL_STATUS | PEL_ACTIVE_ID_LO | PEL_ACTIVE_ID_HI | PEL_STRIKE_COUNT
  | PEL_EVENT | PEL_MASK | PRT_STATUS | PRT_EP_CFG | PRT_EP_TIMERS | PRT_EP_STATUS
  | PRT_EP_EVENT | PRT_EP_MASK | FLX_STATUS | FLX_SEC_STAMP | FLX_GRP_CFG | FLX_GRP_DESKEW
  | FLX_GRP_STATUS | FLX_GRP_EVENT | FLX_GRP_MASK | FLX_GRP_CMD | FLX_INST_STATUS | FLX_INST_SEC_CRC
  | FLX_INST_SEC_MISS | FLX_INST_SEC_FALSE | FLX_INST_SEC_DEFECT | FLX_CLI_SEC_RX_LO | FLX_CLI_SEC_RX_HI | FLX_CLI_SEC_ERR
  | FLX_CLI_SEC_INS | FLX_CLI_SEC_DEL | FLX_CLI_SEC_TX_LO | FLX_CLI_SEC_TX_HI | CLS_STATUS | CLS_CH_CFG
  | CLS_CH_SC | TBL_STATUS | TBL_LEASE | TBL_BRUSH | TBL_EVENT | TBL_MASK
  | TBL_LOCK | TBL_LOCK_PEEK | TBL_LOCK_CTL | TBL_ARG | TBL_CMD | TBL_CMD_RESULT
  | SWC_STATUS | SWC_SHARED | SWC_RECIRC | SWC_HOLD | SWC_SNR_BASE_LO | SWC_SNR_BASE_HI
  | SWC_SNR_SIZE | SWC_SNR_PROD | SWC_SNR_CONS | SWC_SNR_WB_LO | SWC_SNR_WB_HI | SWC_SNR_SEL
  | SWC_SNR_CTL | SWC_SNR_LOST | SWC_CH_CFG | SWC_CH_PAUSE | SWC_CH_STATUS | SWC_Q_CFG
  | SWC_Q_STATUS | DRM_STATUS | DRM_POOL_CFG | DRM_CMD | DRM_CMD_RESULT | DRM_EVENT
  | DRM_MASK | DRM_ENG_STATUS | DRM_ENG_FAULT | DRM_ENG_FAULT_NS | DRM_ENG_ECC | SEQ_STATUS
  | SEQ_CFG | SEQ_PORT_STATUS | SEQ_PORT_STALL | SEQ_CH_DSN | SEQ_CH_INFLIGHT | SEQ_CH_RECALL
  | SEQ_CH_PROT | SEQ_CH_ISCI_LO | SEQ_CH_ISCI_HI | SEQ_DUP_CFG | SEQ_DUP_NODES | SEQ_DUP_SMAX
  | SEQ_DUP_STATUS | SAM_STATUS | SAM_STORE | SAM_COLD | SAM_EVENT | SAM_MASK
  | SAM_EVQ_HEAD | SAM_EVQ_LOST | SAM_ARG | SAM_CMD | SAM_CMD_RESULT | SAM_RES
  | KEY_STATUS | KEY_COUNT | KEY_EVENT | KEY_MASK | KEY_HYB_EXPIRY | KEY_ARG
  | KEY_CMD | KEY_CMD_RESULT | KEY_RES | SCH_STATUS | SCH_EVENT | SCH_MASK
  | SCH_PUNT_RATE | SCH_P_RATE | SCH_P_BURST | SCH_P_BIND | SCH_P_TOKENS | SCH_CH_CFG
  | SCH_CH_RATE | SCH_CH_BURST | SCH_CH_TOKENS | SCH_CH_GATE | SCH_CH_CYCLE | SCH_CH_LEAD
  | SCH_Q_RATE | SCH_Q_BURST | SCH_Q_CFG | SCH_Q_TOKENS | TIM_STATUS | TIM_CFG
  | TIM_EVENT | TIM_MASK | TIM_NOW_SEC_LO | TIM_NOW_SEC_HI | TIM_NOW_NS | TIM_NOW_FRAC
  | TIM_INC_FRAC | TIM_INC_NS | TIM_STEP_SEC_LO | TIM_STEP_SEC_HI | TIM_STEP_NS | TIM_CMD
  | TIM_CMD_RESULT | TIM_PPS_OUT | TIM_TXTS_TAG | TIM_TXTS_SEC_LO | TIM_TXTS_SEC_HI | TIM_TXTS_NS
  | TIM_TXTS_POP | TIM_CAP_CFG | TIM_CAP_SEC_LO | TIM_CAP_SEC_HI | TIM_CAP_NS | TIM_CAP_POP
  | TIM_CAP_LOST | TIM_TRIG_SEC_LO | TIM_TRIG_SEC_HI | TIM_TRIG_NS | TIM_TRIG_PERIOD | TIM_TRIG_WIDTH
  | TIM_TRIG_CTL | TIM_TRIG_STATUS | TIM_CH_CFG | TIM_CH_LINK_DLY | TIM_CH_RX_DLY | TIM_CH_TX_DLY
  | TWN_STATUS | TWN_LEASE | TWN_CFG | TWN_SKEW | TWN_EVENT | TWN_MASK
  | TWN_CMD | TWN_CMD_RESULT | TWN_DISCARDS | TWN_TAKEOVERS | TWN_STR_CFG | TWN_STR_SEQ
  | TWN_STR_LAST | HIF_STATUS | HIF_PUNT_MAP | HIF_EVENT | HIF_MASK | HIF_RS_CTL
  | HIF_TX_BASE_LO | HIF_TX_BASE_HI | HIF_RX_BASE_LO | HIF_RX_BASE_HI | HIF_CQ_BASE_LO | HIF_CQ_BASE_HI
  | HIF_TX_PROD | HIF_TX_CONS | HIF_RX_PROD | HIF_RX_CONS | HIF_CQ_PROD | HIF_CQ_CONS
  | CHM_STATUS | CHM_PAIR_CFG | CHM_OUT_DATA | CHM_IN_DATA | CHM_OUT_SEND | CHM_OUT_STATUS
  | CHM_OUT_CTL | CHM_IN_HDR | CHM_IN_POP | CHM_NOTICE | CHM_EVENT | CHM_MASK
  | TAB_STATUS | TAB_CFG | TAB_EVENT | TAB_MASK | TAB_GRANTED | TAB_CONSUMED
  | TAB_CREDIT_BAD | TAB_BURSTS | JNL_STATUS | JNL_CFG | JNL_LIFE | JNL_EVENT
  | JNL_MASK | JNL_DURABLE_LO | JNL_DURABLE_HI | JNL_OLDEST_LO | JNL_OLDEST_HI | JNL_FORMAT
  | JNL_PLAN_RATE | JNL_PLAN_WEAR | JNL_PLAN_HEALTH | JNL_PLAN_MISC | JNL_DISCARDED | JNL_ARG
  | JNL_CMD | JNL_CMD_RESULT | JNL_RES | TMP_STATUS | TMP_EVENT | TMP_MASK
  | TMP_CMD | TMP_CMD_RESULT | TMP_LOG_INFO | TMP_LOG_SEQ | TMP_BAT_INFO | TMP_SRC_CFG
  | TMP_SRC_LIMIT | TMP_SRC_VALUE | TMP_SRC_COUNT | PWR_STATUS | PWR_CMD | PWR_CMD_RESULT
  | PWR_EVENT | PWR_MASK | PWR_WDOG | PWR_WAKE_TIMER | PWR_RECOVER_ADDR_LO | PWR_RECOVER_ADDR_HI
  | PWR_AVS_CFG | PWR_AVS_STATUS | PWR_LIFE | PWR_DOMAINS_LO | PWR_DOMAINS_HI | CNT_STATUS
  | CNT_ROLL_CFG | CNT_ROLL_MASK | CNT_ROLL_LIMIT | CNT_ROLL_BASE_LO | CNT_ROLL_BASE_HI | CNT_ROLL_BUF
  | CNT_ROLL_WB_LO | CNT_ROLL_WB_HI | CNT_ROLL_SEQ_LO | CNT_ROLL_SEQ_HI | CNT_EVENT | CNT_MASK
  | CNT_SEC_STAMP | CNT_VF_EN | CNT_SAMPLE_CFG | CNT_SAMPLE_POP | CNT_SAMPLE_DEPTH | CNT_SAMPLE_HEAD
  | CNT_PROG_SEL | CNT_PROG_ARG | FUS_STATUS | FUS_VARIANT | FUS_FLOORS | FUS_DEBUG
  | FUS_PROG_WORD | FUS_PROG_BITS | FUS_CMD | FUS_CMD_RESULT | FUS_SIG_ECDSA | FUS_SIG_MLDSA
  | FUS_SIG_REVOKE | FUS_TMP | VF_STATUS | VF_EVENT | VF_MASK
deriving DecidableEq, Repr

/-- Access codes (R15). -/
inductive Acc where
  | rw | ro | w1c | w1s | rc | wo | rwl | sh
deriving DecidableEq, Repr

/-- One field of a register: its low bit, its width, its access code and its reset value. -/
structure FieldRow where
  lo : Nat
  width : Nat
  acc : Acc
  reset : Nat
deriving DecidableEq, Repr

/-- One register: its block number (R436), the offset of its first word in the block, the stride and
count of its elements, the number of consecutive words it spans in an element, the index of its first
element, and its fields. A register with two places has two rows. -/
structure RegRow where
  reg : Reg
  block : Nat
  off : Nat
  stride : Nat
  count : Nat
  words : Nat
  first : Nat
  fields : List FieldRow
deriving DecidableEq, Repr

/-- The name of one register field: the register, its element (element times words plus word for a
register that spans several words) and the field's low bit. -/
structure FKey where
  reg : Reg
  elem : Nat
  lo : Nat
deriving DecidableEq, Repr

/-- The place of a field's cell in the canonical order of the register file: different fields have different codes. -/
def FKey.code (k : FKey) : Nat :=
  (if k.elem < k.lo then k.lo * k.lo + k.elem else k.elem * k.elem + k.elem + k.lo) * 512 + k.reg.ctorIdx

/-- The TOP block (R7, R446). -/
def regTableTOP : List RegRow :=
  [ ⟨.TOP_STATUS, 0, 0, 0, 1, 1, 0, [⟨0, 1, .w1c, 0⟩]⟩
  , ⟨.TOP_CAP_UNITS, 0, 4, 0, 1, 1, 0, [⟨0, 4, .ro, 0⟩, ⟨4, 4, .ro, 0⟩, ⟨8, 5, .ro, 0⟩, ⟨13, 1, .ro, 0⟩, ⟨14, 1, .ro, 0⟩, ⟨15, 1, .ro, 0⟩, ⟨16, 1, .ro, 0⟩]⟩
  , ⟨.TOP_ID, 0, 8, 0, 1, 1, 0, [⟨0, 16, .ro, 0⟩, ⟨16, 8, .ro, 176⟩]⟩
  , ⟨.TOP_SERIAL_LO, 0, 12, 0, 1, 1, 0, [⟨0, 32, .ro, 0⟩]⟩
  , ⟨.TOP_SERIAL_HI, 0, 16, 0, 1, 1, 0, [⟨0, 32, .ro, 0⟩]⟩
  , ⟨.TOP_SUMMARY, 0, 20, 0, 1, 1, 0, [⟨0, 22, .ro, 0⟩]⟩
  , ⟨.TOP_EVENT, 0, 24, 0, 1, 1, 0, [⟨0, 2, .w1c, 0⟩]⟩
  , ⟨.TOP_MASK, 0, 28, 0, 1, 1, 0, [⟨0, 2, .rw, 0⟩]⟩
  , ⟨.TOP_SCRATCH, 0, 32, 0, 1, 1, 0, [⟨0, 32, .rw, 0⟩]⟩
  , ⟨.TOP_SCRATCH_SH, 0, 36, 0, 1, 1, 0, [⟨0, 32, .sh, 0⟩]⟩
  , ⟨.TOP_TBLWIN, 0, 48, 0, 1, 1, 0, [⟨0, 2, .rw, 0⟩, ⟨8, 5, .rw, 0⟩]⟩
  , ⟨.TOP_UNMAPPED, 0, 52, 0, 1, 1, 0, [⟨0, 25, .ro, 0⟩, ⟨25, 4, .ro, 0⟩, ⟨29, 1, .ro, 0⟩]⟩ ]

/-- The PEL block (R54). -/
def regTablePEL : List RegRow :=
  [ ⟨.PEL_CMD, 1, 0, 0, 1, 1, 0, [⟨0, 4, .wo, 0⟩]⟩
  , ⟨.PEL_RESULT, 1, 4, 0, 1, 1, 0, [⟨0, 4, .ro, 0⟩, ⟨4, 4, .ro, 0⟩, ⟨8, 4, .ro, 0⟩, ⟨16, 4, .ro, 0⟩]⟩
  , ⟨.PEL_LOAD_ADDR_LO, 1, 8, 0, 1, 1, 0, [⟨0, 32, .rw, 0⟩]⟩
  , ⟨.PEL_LOAD_ADDR_HI, 1, 12, 0, 1, 1, 0, [⟨0, 32, .rw, 0⟩]⟩
  , ⟨.PEL_LOAD_LEN, 1, 16, 0, 1, 1, 0, [⟨0, 32, .rw, 0⟩]⟩
  , ⟨.PEL_STRIKE_SEC_LO, 1, 20, 0, 1, 1, 0, [⟨0, 32, .rw, 0⟩]⟩
  , ⟨.PEL_STRIKE_SEC_HI, 1, 24, 0, 1, 1, 0, [⟨0, 16, .rw, 0⟩]⟩
  , ⟨.PEL_STRIKE_NS, 1, 28, 0, 1, 1, 0, [⟨0, 30, .rw, 0⟩]⟩
  , ⟨.PEL_STATUS, 1, 32, 0, 1, 1, 0, [⟨0, 3, .ro, 0⟩, ⟨3, 2, .ro, 0⟩, ⟨5, 1, .w1c, 0⟩, ⟨6, 1, .w1c, 0⟩, ⟨7, 1, .ro, 0⟩, ⟨8, 8, .ro, 0⟩, ⟨16, 8, .ro, 0⟩]⟩
  , ⟨.PEL_ACTIVE_ID_LO, 1, 40, 0, 1, 1, 0, [⟨0, 32, .ro, 0⟩]⟩
  , ⟨.PEL_ACTIVE_ID_HI, 1, 44, 0, 1, 1, 0, [⟨0, 32, .ro, 0⟩]⟩
  , ⟨.PEL_STRIKE_COUNT, 1, 48, 0, 1, 1, 0, [⟨0, 32, .ro, 0⟩]⟩
  , ⟨.PEL_EVENT, 1, 52, 0, 1, 1, 0, [⟨0, 1, .w1c, 0⟩]⟩
  , ⟨.PEL_MASK, 1, 56, 0, 1, 1, 0, [⟨0, 1, .rw, 0⟩]⟩ ]

/-- The PRT block (R76). -/
def regTablePRT : List RegRow :=
  [ ⟨.PRT_STATUS, 2, 0, 0, 1, 1, 0, [⟨0, 1, .w1c, 0⟩]⟩
  , ⟨.PRT_EP_CFG, 2, 4096, 64, 192, 1, 0, [⟨0, 14, .rw, 0⟩, ⟨14, 1, .rw, 0⟩]⟩
  , ⟨.PRT_EP_TIMERS, 2, 4100, 64, 192, 1, 0, [⟨0, 10, .rw, 0⟩, ⟨10, 6, .rw, 0⟩, ⟨16, 10, .rw, 10⟩]⟩
  , ⟨.PRT_EP_STATUS, 2, 4104, 64, 192, 1, 0, [⟨0, 1, .ro, 0⟩, ⟨1, 1, .ro, 0⟩, ⟨2, 3, .ro, 0⟩, ⟨5, 2, .ro, 0⟩, ⟨7, 1, .ro, 0⟩, ⟨8, 1, .ro, 0⟩, ⟨9, 2, .ro, 0⟩]⟩
  , ⟨.PRT_EP_EVENT, 2, 4108, 64, 192, 1, 0, [⟨0, 6, .w1c, 0⟩]⟩
  , ⟨.PRT_EP_MASK, 2, 4112, 64, 192, 1, 0, [⟨0, 6, .rw, 0⟩]⟩ ]

/-- The FLX block (R100). -/
def regTableFLX : List RegRow :=
  [ ⟨.FLX_STATUS, 3, 0, 0, 1, 1, 0, [⟨0, 1, .w1c, 0⟩]⟩
  , ⟨.FLX_SEC_STAMP, 3, 8, 0, 1, 1, 0, [⟨0, 32, .ro, 0⟩]⟩
  , ⟨.FLX_GRP_CFG, 3, 4096, 256, 4, 1, 0, [⟨0, 10, .rw, 0⟩, ⟨10, 10, .rw, 10⟩, ⟨20, 12, .rw, 300⟩]⟩
  , ⟨.FLX_GRP_DESKEW, 3, 4100, 256, 4, 1, 0, [⟨0, 14, .rw, 4000⟩]⟩
  , ⟨.FLX_GRP_STATUS, 3, 4104, 256, 4, 1, 0, [⟨0, 3, .ro, 0⟩, ⟨3, 1, .ro, 0⟩, ⟨4, 3, .ro, 0⟩, ⟨8, 20, .ro, 0⟩]⟩
  , ⟨.FLX_GRP_EVENT, 3, 4108, 256, 4, 1, 0, [⟨0, 13, .w1c, 0⟩]⟩
  , ⟨.FLX_GRP_MASK, 3, 4112, 256, 4, 1, 0, [⟨0, 13, .rw, 0⟩]⟩
  , ⟨.FLX_GRP_CMD, 3, 4116, 256, 4, 1, 0, [⟨0, 1, .wo, 0⟩, ⟨1, 1, .wo, 0⟩]⟩
  , ⟨.FLX_INST_STATUS, 3, 8192, 64, 32, 1, 0, [⟨0, 1, .ro, 0⟩, ⟨1, 2, .ro, 0⟩, ⟨3, 1, .ro, 0⟩, ⟨4, 1, .ro, 0⟩, ⟨5, 1, .ro, 0⟩, ⟨8, 8, .ro, 0⟩, ⟨16, 14, .ro, 0⟩]⟩
  , ⟨.FLX_INST_SEC_CRC, 3, 8196, 64, 32, 1, 0, [⟨0, 32, .ro, 0⟩]⟩
  , ⟨.FLX_INST_SEC_MISS, 3, 8200, 64, 32, 1, 0, [⟨0, 32, .ro, 0⟩]⟩
  , ⟨.FLX_INST_SEC_FALSE, 3, 8204, 64, 32, 1, 0, [⟨0, 32, .ro, 0⟩]⟩
  , ⟨.FLX_INST_SEC_DEFECT, 3, 8208, 64, 32, 1, 0, [⟨0, 13, .ro, 0⟩]⟩
  , ⟨.FLX_CLI_SEC_RX_LO, 3, 16384, 32, 128, 1, 0, [⟨0, 32, .ro, 0⟩]⟩
  , ⟨.FLX_CLI_SEC_RX_HI, 3, 16388, 32, 128, 1, 0, [⟨0, 32, .ro, 0⟩]⟩
  , ⟨.FLX_CLI_SEC_ERR, 3, 16392, 32, 128, 1, 0, [⟨0, 32, .ro, 0⟩]⟩
  , ⟨.FLX_CLI_SEC_INS, 3, 16396, 32, 128, 1, 0, [⟨0, 32, .ro, 0⟩]⟩
  , ⟨.FLX_CLI_SEC_DEL, 3, 16400, 32, 128, 1, 0, [⟨0, 32, .ro, 0⟩]⟩
  , ⟨.FLX_CLI_SEC_TX_LO, 3, 16404, 32, 128, 1, 0, [⟨0, 32, .ro, 0⟩]⟩
  , ⟨.FLX_CLI_SEC_TX_HI, 3, 16408, 32, 128, 1, 0, [⟨0, 32, .ro, 0⟩]⟩ ]

/-- The CLS block (R130). -/
def regTableCLS : List RegRow :=
  [ ⟨.CLS_STATUS, 4, 0, 0, 1, 1, 0, [⟨0, 1, .w1c, 0⟩]⟩
  , ⟨.CLS_CH_CFG, 4, 4096, 16, 192, 1, 0, [⟨0, 4, .ro, 0⟩, ⟨4, 1, .rw, 0⟩, ⟨5, 1, .rw, 0⟩, ⟨6, 1, .rw, 0⟩, ⟨8, 8, .rw, 255⟩]⟩
  , ⟨.CLS_CH_SC, 4, 4100, 16, 192, 1, 0, [⟨0, 16, .rw, 0⟩, ⟨16, 1, .rw, 0⟩]⟩ ]

/-- The TBL block (R131). -/
def regTableTBL : List RegRow :=
  [ ⟨.TBL_STATUS, 5, 0, 0, 1, 1, 0, [⟨0, 1, .w1c, 0⟩, ⟨1, 13, .ro, 0⟩]⟩
  , ⟨.TBL_LEASE, 5, 4, 0, 1, 1, 0, [⟨0, 20, .rw, 10000⟩]⟩
  , ⟨.TBL_BRUSH, 5, 8, 0, 1, 1, 0, [⟨0, 12, .rw, 150⟩]⟩
  , ⟨.TBL_EVENT, 5, 12, 0, 1, 1, 0, [⟨0, 5, .w1c, 0⟩]⟩
  , ⟨.TBL_MASK, 5, 16, 0, 1, 1, 0, [⟨0, 5, .rw, 0⟩]⟩
  , ⟨.TBL_LOCK, 5, 256, 16, 3, 1, 0, [⟨0, 1, .ro, 0⟩, ⟨4, 4, .ro, 0⟩]⟩
  , ⟨.TBL_LOCK_PEEK, 5, 260, 16, 3, 1, 0, [⟨0, 8, .ro, 0⟩]⟩
  , ⟨.TBL_LOCK_CTL, 5, 264, 16, 3, 1, 0, [⟨0, 1, .wo, 0⟩, ⟨1, 1, .wo, 0⟩]⟩
  , ⟨.TBL_ARG, 5, 4096, 64, 13, 6, 0, [⟨0, 32, .rw, 0⟩]⟩
  , ⟨.TBL_CMD, 5, 4128, 64, 13, 1, 0, [⟨0, 4, .wo, 0⟩]⟩
  , ⟨.TBL_CMD_RESULT, 5, 4132, 64, 13, 1, 0, [⟨0, 4, .ro, 0⟩, ⟨4, 4, .ro, 0⟩, ⟨8, 1, .ro, 0⟩]⟩ ]

/-- The SWC block (R158). -/
def regTableSWC : List RegRow :=
  [ ⟨.SWC_STATUS, 6, 0, 0, 1, 1, 0, [⟨0, 1, .w1c, 0⟩, ⟨1, 19, .ro, 393216⟩]⟩
  , ⟨.SWC_SHARED, 6, 4, 0, 1, 1, 0, [⟨0, 19, .ro, 0⟩]⟩
  , ⟨.SWC_RECIRC, 6, 8, 0, 1, 1, 0, [⟨0, 8, .rw, 255⟩]⟩
  , ⟨.SWC_HOLD, 6, 16, 4, 8, 1, 0, [⟨0, 14, .rw, 0⟩]⟩
  , ⟨.SWC_SNR_BASE_LO, 6, 64, 0, 1, 1, 0, [⟨0, 32, .rw, 0⟩]⟩
  , ⟨.SWC_SNR_BASE_HI, 6, 68, 0, 1, 1, 0, [⟨0, 32, .rw, 0⟩]⟩
  , ⟨.SWC_SNR_SIZE, 6, 72, 0, 1, 1, 0, [⟨0, 5, .rw, 16⟩]⟩
  , ⟨.SWC_SNR_PROD, 6, 76, 0, 1, 1, 0, [⟨0, 30, .ro, 0⟩]⟩
  , ⟨.SWC_SNR_CONS, 6, 80, 0, 1, 1, 0, [⟨0, 30, .rw, 0⟩]⟩
  , ⟨.SWC_SNR_WB_LO, 6, 88, 0, 1, 1, 0, [⟨0, 32, .rw, 0⟩]⟩
  , ⟨.SWC_SNR_WB_HI, 6, 92, 0, 1, 1, 0, [⟨0, 32, .rw, 0⟩]⟩
  , ⟨.SWC_SNR_SEL, 6, 256, 16, 8, 1, 0, [⟨0, 8, .rw, 255⟩, ⟨8, 8, .rw, 0⟩, ⟨16, 2, .rw, 0⟩]⟩
  , ⟨.SWC_SNR_CTL, 6, 260, 16, 8, 1, 0, [⟨0, 5, .rw, 0⟩, ⟨5, 2, .rw, 0⟩, ⟨7, 3, .rw, 0⟩]⟩
  , ⟨.SWC_SNR_LOST, 6, 264, 16, 8, 1, 0, [⟨0, 32, .rc, 0⟩]⟩
  , ⟨.SWC_CH_CFG, 6, 32768, 16, 192, 1, 0, [⟨0, 8, .rw, 255⟩, ⟨8, 1, .rw, 0⟩, ⟨9, 1, .rw, 0⟩]⟩
  , ⟨.SWC_CH_PAUSE, 6, 32772, 16, 192, 1, 0, [⟨0, 16, .rw, 65535⟩, ⟨16, 16, .rw, 0⟩]⟩
  , ⟨.SWC_CH_STATUS, 6, 32776, 16, 192, 1, 0, [⟨0, 19, .ro, 0⟩, ⟨19, 1, .ro, 0⟩, ⟨20, 12, .ro, 0⟩]⟩
  , ⟨.SWC_Q_CFG, 6, 65536, 16, 1568, 1, 0, [⟨0, 12, .ro, 0⟩, ⟨12, 4, .rw, 3⟩, ⟨16, 16, .rw, 0⟩]⟩
  , ⟨.SWC_Q_STATUS, 6, 65540, 16, 1568, 1, 0, [⟨0, 19, .ro, 0⟩, ⟨19, 2, .ro, 0⟩]⟩ ]

/-- The DRM block (R209). -/
def regTableDRM : List RegRow :=
  [ ⟨.DRM_STATUS, 7, 0, 0, 1, 1, 0, [⟨0, 1, .w1c, 0⟩, ⟨1, 5, .ro, 0⟩, ⟨6, 5, .ro, 0⟩, ⟨11, 3, .ro, 0⟩]⟩
  , ⟨.DRM_POOL_CFG, 7, 4, 0, 1, 1, 0, [⟨0, 5, .rw, 4⟩]⟩
  , ⟨.DRM_CMD, 7, 8, 0, 1, 1, 0, [⟨0, 4, .wo, 0⟩, ⟨4, 4, .wo, 0⟩]⟩
  , ⟨.DRM_CMD_RESULT, 7, 12, 0, 1, 1, 0, [⟨0, 4, .ro, 0⟩, ⟨4, 4, .ro, 0⟩, ⟨8, 4, .ro, 0⟩, ⟨12, 1, .ro, 0⟩]⟩
  , ⟨.DRM_EVENT, 7, 16, 0, 1, 1, 0, [⟨0, 5, .w1c, 0⟩]⟩
  , ⟨.DRM_MASK, 7, 20, 0, 1, 1, 0, [⟨0, 5, .rw, 0⟩]⟩
  , ⟨.DRM_ENG_STATUS, 7, 256, 16, 16, 1, 0, [⟨0, 3, .ro, 0⟩, ⟨3, 1, .ro, 0⟩, ⟨4, 6, .ro, 0⟩]⟩
  , ⟨.DRM_ENG_FAULT, 7, 260, 16, 16, 1, 0, [⟨0, 4, .ro, 0⟩, ⟨16, 16, .ro, 0⟩]⟩
  , ⟨.DRM_ENG_FAULT_NS, 7, 264, 16, 16, 1, 0, [⟨0, 32, .ro, 0⟩]⟩
  , ⟨.DRM_ENG_ECC, 7, 268, 16, 16, 1, 0, [⟨0, 32, .rc, 0⟩]⟩ ]

/-- The SEQ block (R185, R210). -/
def regTableSEQ : List RegRow :=
  [ ⟨.SEQ_STATUS, 8, 0, 0, 1, 1, 0, [⟨0, 1, .w1c, 0⟩, ⟨1, 13, .ro, 0⟩]⟩
  , ⟨.SEQ_CFG, 8, 4, 0, 1, 1, 0, [⟨0, 14, .rw, 4000⟩]⟩
  , ⟨.SEQ_PORT_STATUS, 8, 256, 16, 17, 1, 0, [⟨0, 9, .ro, 0⟩, ⟨9, 1, .ro, 0⟩]⟩
  , ⟨.SEQ_PORT_STALL, 8, 260, 16, 17, 1, 0, [⟨0, 32, .rc, 0⟩]⟩
  , ⟨.SEQ_CH_DSN, 8, 4096, 16, 192, 1, 0, [⟨0, 16, .ro, 0⟩, ⟨16, 16, .ro, 0⟩]⟩
  , ⟨.SEQ_CH_INFLIGHT, 8, 4100, 16, 192, 1, 0, [⟨0, 24, .ro, 0⟩]⟩
  , ⟨.SEQ_CH_RECALL, 8, 4104, 16, 192, 1, 0, [⟨0, 32, .rc, 0⟩]⟩
  , ⟨.SEQ_CH_PROT, 8, 32768, 16, 192, 1, 0, [⟨0, 1, .ro, 0⟩, ⟨1, 1, .rw, 0⟩, ⟨2, 1, .rw, 0⟩, ⟨4, 10, .rw, 0⟩]⟩
  , ⟨.SEQ_CH_ISCI_LO, 8, 32772, 16, 192, 1, 0, [⟨0, 32, .rw, 0⟩]⟩
  , ⟨.SEQ_CH_ISCI_HI, 8, 32776, 16, 192, 1, 0, [⟨0, 32, .rw, 0⟩]⟩
  , ⟨.SEQ_DUP_CFG, 8, 40960, 16, 256, 1, 0, [⟨0, 16, .rw, 0⟩, ⟨16, 1, .rw, 0⟩]⟩
  , ⟨.SEQ_DUP_NODES, 8, 40964, 16, 256, 1, 0, [⟨0, 16, .rw, 0⟩, ⟨16, 16, .rw, 0⟩]⟩
  , ⟨.SEQ_DUP_SMAX, 8, 40968, 16, 256, 1, 0, [⟨0, 32, .ro, 0⟩]⟩
  , ⟨.SEQ_DUP_STATUS, 8, 40972, 16, 256, 1, 0, [⟨0, 1, .ro, 0⟩]⟩ ]

/-- The SAM block (R234). -/
def regTableSAM : List RegRow :=
  [ ⟨.SAM_STATUS, 9, 0, 0, 1, 1, 0, [⟨0, 1, .w1c, 0⟩, ⟨1, 18, .ro, 0⟩]⟩
  , ⟨.SAM_STORE, 9, 4, 0, 1, 1, 0, [⟨0, 16, .ro, 0⟩, ⟨16, 16, .ro, 0⟩]⟩
  , ⟨.SAM_COLD, 9, 8, 0, 1, 1, 0, [⟨0, 11, .ro, 0⟩]⟩
  , ⟨.SAM_EVENT, 9, 12, 0, 1, 1, 0, [⟨0, 7, .w1c, 0⟩]⟩
  , ⟨.SAM_MASK, 9, 16, 0, 1, 1, 0, [⟨0, 7, .rw, 0⟩]⟩
  , ⟨.SAM_EVQ_HEAD, 9, 20, 0, 1, 1, 0, [⟨0, 17, .rc, 0⟩, ⟨27, 4, .rc, 0⟩, ⟨31, 1, .rc, 0⟩]⟩
  , ⟨.SAM_EVQ_LOST, 9, 24, 0, 1, 1, 0, [⟨0, 32, .rc, 0⟩]⟩
  , ⟨.SAM_ARG, 9, 4096, 256, 13, 24, 0, [⟨0, 32, .rw, 0⟩]⟩
  , ⟨.SAM_CMD, 9, 4224, 256, 13, 1, 0, [⟨0, 8, .wo, 0⟩]⟩
  , ⟨.SAM_CMD_RESULT, 9, 4228, 256, 13, 1, 0, [⟨0, 4, .ro, 0⟩, ⟨4, 8, .ro, 0⟩, ⟨12, 1, .ro, 0⟩]⟩
  , ⟨.SAM_RES, 9, 4256, 256, 13, 12, 0, [⟨0, 32, .ro, 0⟩]⟩ ]

/-- The KEY block (R256). -/
def regTableKEY : List RegRow :=
  [ ⟨.KEY_STATUS, 10, 0, 0, 1, 1, 0, [⟨0, 1, .w1c, 0⟩, ⟨1, 1, .ro, 0⟩, ⟨2, 1, .ro, 0⟩, ⟨3, 5, .ro, 0⟩, ⟨8, 7, .ro, 0⟩, ⟨15, 1, .ro, 0⟩]⟩
  , ⟨.KEY_COUNT, 10, 4, 0, 1, 1, 0, [⟨0, 13, .ro, 0⟩, ⟨13, 15, .ro, 0⟩]⟩
  , ⟨.KEY_EVENT, 10, 8, 0, 1, 1, 0, [⟨0, 5, .w1c, 0⟩]⟩
  , ⟨.KEY_MASK, 10, 12, 0, 1, 1, 0, [⟨0, 5, .rw, 0⟩]⟩
  , ⟨.KEY_HYB_EXPIRY, 10, 16, 0, 1, 1, 0, [⟨0, 12, .rw, 10⟩]⟩
  , ⟨.KEY_ARG, 10, 4096, 256, 5, 24, 0, [⟨0, 32, .rw, 0⟩]⟩
  , ⟨.KEY_CMD, 10, 4224, 256, 5, 1, 0, [⟨0, 8, .wo, 0⟩]⟩
  , ⟨.KEY_CMD_RESULT, 10, 4228, 256, 5, 1, 0, [⟨0, 4, .ro, 0⟩, ⟨4, 8, .ro, 0⟩, ⟨12, 1, .ro, 0⟩]⟩
  , ⟨.KEY_RES, 10, 4256, 256, 5, 12, 0, [⟨0, 32, .ro, 0⟩]⟩ ]

/-- The SCH block (R281). -/
def regTableSCH : List RegRow :=
  [ ⟨.SCH_STATUS, 11, 0, 0, 1, 1, 0, [⟨0, 1, .w1c, 0⟩]⟩
  , ⟨.SCH_EVENT, 11, 4, 0, 1, 1, 0, [⟨0, 5, .w1c, 0⟩]⟩
  , ⟨.SCH_MASK, 11, 8, 0, 1, 1, 0, [⟨0, 5, .rw, 0⟩]⟩
  , ⟨.SCH_PUNT_RATE, 11, 12, 0, 1, 1, 0, [⟨0, 30, .rw, 0⟩]⟩
  , ⟨.SCH_P_RATE, 11, 16384, 16, 64, 1, 0, [⟨0, 30, .rw, 0⟩, ⟨31, 1, .rw, 0⟩]⟩
  , ⟨.SCH_P_BURST, 11, 16388, 16, 64, 1, 0, [⟨0, 20, .rw, 16384⟩]⟩
  , ⟨.SCH_P_BIND, 11, 16392, 16, 64, 1, 0, [⟨0, 11, .ro, 0⟩, ⟨31, 1, .ro, 0⟩]⟩
  , ⟨.SCH_P_TOKENS, 11, 16396, 16, 64, 1, 0, [⟨0, 32, .ro, 0⟩]⟩
  , ⟨.SCH_CH_CFG, 11, 32768, 32, 192, 1, 0, [⟨0, 1, .rw, 0⟩, ⟨1, 1, .rw, 0⟩, ⟨2, 6, .rw, 0⟩, ⟨8, 1, .rw, 1⟩]⟩
  , ⟨.SCH_CH_RATE, 11, 32772, 32, 192, 1, 0, [⟨0, 30, .rw, 0⟩]⟩
  , ⟨.SCH_CH_BURST, 11, 32776, 32, 192, 1, 0, [⟨0, 20, .rw, 65536⟩]⟩
  , ⟨.SCH_CH_TOKENS, 11, 32780, 32, 192, 1, 0, [⟨0, 32, .ro, 0⟩]⟩
  , ⟨.SCH_CH_GATE, 11, 32784, 32, 192, 1, 0, [⟨0, 8, .ro, 255⟩, ⟨8, 10, .ro, 0⟩, ⟨18, 1, .ro, 0⟩, ⟨19, 1, .ro, 0⟩]⟩
  , ⟨.SCH_CH_CYCLE, 11, 32788, 32, 192, 1, 0, [⟨0, 30, .ro, 0⟩]⟩
  , ⟨.SCH_CH_LEAD, 11, 32792, 32, 192, 1, 0, [⟨0, 11, .ro, 0⟩]⟩
  , ⟨.SCH_Q_RATE, 11, 65536, 16, 1536, 1, 0, [⟨0, 30, .rw, 0⟩]⟩
  , ⟨.SCH_Q_BURST, 11, 65540, 16, 1536, 1, 0, [⟨0, 20, .rw, 16384⟩]⟩
  , ⟨.SCH_Q_CFG, 11, 65544, 16, 1536, 1, 0, [⟨0, 14, .rw, 0⟩, ⟨14, 8, .rw, 1⟩, ⟨22, 10, .rw, 0⟩]⟩
  , ⟨.SCH_Q_TOKENS, 11, 65548, 16, 1536, 1, 0, [⟨0, 32, .ro, 0⟩]⟩ ]

/-- The TIM block (R304). -/
def regTableTIM : List RegRow :=
  [ ⟨.TIM_STATUS, 12, 0, 0, 1, 1, 0, [⟨0, 1, .w1c, 0⟩, ⟨1, 1, .ro, 0⟩, ⟨2, 1, .ro, 0⟩, ⟨3, 1, .ro, 0⟩]⟩
  , ⟨.TIM_CFG, 12, 4, 0, 1, 1, 0, [⟨0, 1, .rw, 0⟩, ⟨1, 1, .rw, 0⟩, ⟨2, 1, .rw, 0⟩, ⟨3, 1, .rw, 1⟩]⟩
  , ⟨.TIM_EVENT, 12, 8, 0, 1, 1, 0, [⟨0, 7, .w1c, 0⟩]⟩
  , ⟨.TIM_MASK, 12, 12, 0, 1, 1, 0, [⟨0, 7, .rw, 0⟩]⟩
  , ⟨.TIM_NOW_SEC_LO, 12, 16, 0, 1, 1, 0, [⟨0, 32, .ro, 0⟩]⟩
  , ⟨.TIM_NOW_SEC_HI, 12, 20, 0, 1, 1, 0, [⟨0, 16, .ro, 0⟩]⟩
  , ⟨.TIM_NOW_NS, 12, 24, 0, 1, 1, 0, [⟨0, 30, .ro, 0⟩]⟩
  , ⟨.TIM_NOW_FRAC, 12, 28, 0, 1, 1, 0, [⟨0, 32, .ro, 0⟩]⟩
  , ⟨.TIM_INC_FRAC, 12, 32, 0, 1, 1, 0, [⟨0, 32, .rw, 0⟩]⟩
  , ⟨.TIM_INC_NS, 12, 36, 0, 1, 1, 0, [⟨0, 8, .rw, 2⟩]⟩
  , ⟨.TIM_STEP_SEC_LO, 12, 40, 0, 1, 1, 0, [⟨0, 32, .rw, 0⟩]⟩
  , ⟨.TIM_STEP_SEC_HI, 12, 44, 0, 1, 1, 0, [⟨0, 16, .rw, 0⟩]⟩
  , ⟨.TIM_STEP_NS, 12, 48, 0, 1, 1, 0, [⟨0, 32, .rw, 0⟩]⟩
  , ⟨.TIM_CMD, 12, 52, 0, 1, 1, 0, [⟨0, 4, .wo, 0⟩]⟩
  , ⟨.TIM_CMD_RESULT, 12, 56, 0, 1, 1, 0, [⟨0, 4, .ro, 0⟩, ⟨4, 4, .ro, 0⟩]⟩
  , ⟨.TIM_PPS_OUT, 12, 64, 0, 1, 1, 0, [⟨0, 21, .rw, 0⟩, ⟨21, 10, .rw, 100⟩]⟩
  , ⟨.TIM_TXTS_TAG, 12, 80, 0, 1, 1, 0, [⟨0, 16, .ro, 0⟩, ⟨16, 8, .ro, 0⟩, ⟨24, 7, .ro, 0⟩, ⟨31, 1, .ro, 0⟩]⟩
  , ⟨.TIM_TXTS_SEC_LO, 12, 84, 0, 1, 1, 0, [⟨0, 32, .ro, 0⟩]⟩
  , ⟨.TIM_TXTS_SEC_HI, 12, 88, 0, 1, 1, 0, [⟨0, 16, .ro, 0⟩]⟩
  , ⟨.TIM_TXTS_NS, 12, 92, 0, 1, 1, 0, [⟨0, 30, .ro, 0⟩, ⟨30, 2, .ro, 0⟩]⟩
  , ⟨.TIM_TXTS_POP, 12, 96, 0, 1, 1, 0, [⟨0, 1, .wo, 0⟩]⟩
  , ⟨.TIM_CAP_CFG, 12, 256, 32, 3, 1, 0, [⟨0, 2, .rw, 0⟩]⟩
  , ⟨.TIM_CAP_SEC_LO, 12, 260, 32, 3, 1, 0, [⟨0, 32, .ro, 0⟩]⟩
  , ⟨.TIM_CAP_SEC_HI, 12, 264, 32, 3, 1, 0, [⟨0, 16, .ro, 0⟩, ⟨16, 5, .ro, 0⟩, ⟨21, 1, .ro, 0⟩, ⟨31, 1, .ro, 0⟩]⟩
  , ⟨.TIM_CAP_NS, 12, 268, 32, 3, 1, 0, [⟨0, 30, .ro, 0⟩, ⟨30, 2, .ro, 0⟩]⟩
  , ⟨.TIM_CAP_POP, 12, 272, 32, 3, 1, 0, [⟨0, 1, .wo, 0⟩]⟩
  , ⟨.TIM_CAP_LOST, 12, 276, 32, 3, 1, 0, [⟨0, 32, .rc, 0⟩]⟩
  , ⟨.TIM_TRIG_SEC_LO, 12, 512, 32, 2, 1, 0, [⟨0, 32, .rw, 0⟩]⟩
  , ⟨.TIM_TRIG_SEC_HI, 12, 516, 32, 2, 1, 0, [⟨0, 16, .rw, 0⟩]⟩
  , ⟨.TIM_TRIG_NS, 12, 520, 32, 2, 1, 0, [⟨0, 30, .rw, 0⟩]⟩
  , ⟨.TIM_TRIG_PERIOD, 12, 524, 32, 2, 1, 0, [⟨0, 30, .rw, 0⟩]⟩
  , ⟨.TIM_TRIG_WIDTH, 12, 528, 32, 2, 1, 0, [⟨0, 30, .rw, 0⟩]⟩
  , ⟨.TIM_TRIG_CTL, 12, 532, 32, 2, 1, 0, [⟨0, 1, .wo, 0⟩, ⟨1, 1, .wo, 0⟩]⟩
  , ⟨.TIM_TRIG_STATUS, 12, 536, 32, 2, 1, 0, [⟨0, 1, .ro, 0⟩]⟩
  , ⟨.TIM_CH_CFG, 12, 4096, 16, 192, 1, 0, [⟨0, 1, .rw, 0⟩]⟩
  , ⟨.TIM_CH_LINK_DLY, 12, 4100, 16, 192, 1, 0, [⟨0, 24, .rw, 0⟩]⟩
  , ⟨.TIM_CH_RX_DLY, 12, 4104, 16, 192, 1, 0, [⟨0, 16, .ro, 0⟩]⟩
  , ⟨.TIM_CH_TX_DLY, 12, 4108, 16, 192, 1, 0, [⟨0, 16, .ro, 0⟩]⟩ ]

/-- The TWN block (R326). -/
def regTableTWN : List RegRow :=
  [ ⟨.TWN_STATUS, 13, 0, 0, 1, 1, 0, [⟨0, 1, .w1c, 0⟩, ⟨1, 3, .ro, 0⟩, ⟨4, 1, .ro, 1⟩, ⟨5, 1, .ro, 0⟩, ⟨6, 2, .ro, 0⟩, ⟨8, 2, .ro, 0⟩, ⟨10, 1, .ro, 0⟩, ⟨11, 1, .ro, 0⟩, ⟨12, 1, .ro, 0⟩, ⟨13, 1, .ro, 0⟩, ⟨14, 2, .ro, 0⟩, ⟨16, 16, .ro, 0⟩]⟩
  , ⟨.TWN_LEASE, 13, 4, 0, 1, 1, 0, [⟨0, 16, .ro, 0⟩, ⟨16, 1, .ro, 0⟩]⟩
  , ⟨.TWN_CFG, 13, 8, 0, 1, 1, 0, [⟨0, 10, .rw, 100⟩, ⟨10, 16, .rw, 60⟩]⟩
  , ⟨.TWN_SKEW, 13, 12, 0, 1, 1, 0, [⟨0, 16, .ro, 0⟩]⟩
  , ⟨.TWN_EVENT, 13, 16, 0, 1, 1, 0, [⟨0, 12, .w1c, 0⟩]⟩
  , ⟨.TWN_MASK, 13, 20, 0, 1, 1, 0, [⟨0, 12, .rw, 0⟩]⟩
  , ⟨.TWN_CMD, 13, 24, 0, 1, 1, 0, [⟨0, 4, .wo, 0⟩]⟩
  , ⟨.TWN_CMD_RESULT, 13, 28, 0, 1, 1, 0, [⟨0, 4, .ro, 0⟩, ⟨4, 4, .ro, 0⟩, ⟨8, 1, .ro, 0⟩]⟩
  , ⟨.TWN_DISCARDS, 13, 32, 0, 1, 1, 0, [⟨0, 16, .rc, 0⟩, ⟨16, 16, .rc, 0⟩]⟩
  , ⟨.TWN_TAKEOVERS, 13, 36, 0, 1, 1, 0, [⟨0, 32, .ro, 0⟩]⟩
  , ⟨.TWN_STR_CFG, 13, 4096, 16, 256, 1, 0, [⟨0, 16, .ro, 0⟩, ⟨16, 16, .ro, 0⟩]⟩
  , ⟨.TWN_STR_SEQ, 13, 4100, 16, 256, 1, 0, [⟨0, 32, .ro, 0⟩]⟩
  , ⟨.TWN_STR_LAST, 13, 4104, 16, 256, 1, 0, [⟨0, 32, .ro, 0⟩]⟩ ]

/-- The HIF block (R350). -/
def regTableHIF : List RegRow :=
  [ ⟨.HIF_STATUS, 14, 0, 0, 1, 1, 0, [⟨0, 1, .w1c, 0⟩, ⟨1, 3, .ro, 0⟩, ⟨4, 2, .ro, 0⟩, ⟨6, 4, .ro, 0⟩]⟩
  , ⟨.HIF_PUNT_MAP, 14, 4, 0, 1, 1, 0, [⟨0, 32, .rw, 0⟩]⟩
  , ⟨.HIF_EVENT, 14, 8, 0, 1, 1, 0, [⟨0, 2, .w1c, 0⟩]⟩
  , ⟨.HIF_MASK, 14, 12, 0, 1, 1, 0, [⟨0, 2, .rw, 0⟩]⟩
  , ⟨.HIF_RS_CTL, 14, 4096, 64, 8, 1, 0, [⟨0, 1, .rw, 0⟩, ⟨1, 5, .rw, 6⟩, ⟨6, 5, .rw, 6⟩, ⟨11, 5, .rw, 6⟩, ⟨16, 10, .rw, 0⟩, ⟨26, 1, .ro, 0⟩]⟩
  , ⟨.HIF_TX_BASE_LO, 14, 4100, 64, 8, 1, 0, [⟨0, 32, .rw, 0⟩]⟩
  , ⟨.HIF_TX_BASE_HI, 14, 4104, 64, 8, 1, 0, [⟨0, 32, .rw, 0⟩]⟩
  , ⟨.HIF_RX_BASE_LO, 14, 4108, 64, 8, 1, 0, [⟨0, 32, .rw, 0⟩]⟩
  , ⟨.HIF_RX_BASE_HI, 14, 4112, 64, 8, 1, 0, [⟨0, 32, .rw, 0⟩]⟩
  , ⟨.HIF_CQ_BASE_LO, 14, 4116, 64, 8, 1, 0, [⟨0, 32, .rw, 0⟩]⟩
  , ⟨.HIF_CQ_BASE_HI, 14, 4120, 64, 8, 1, 0, [⟨0, 32, .rw, 0⟩]⟩
  , ⟨.HIF_TX_PROD, 14, 4124, 64, 8, 1, 0, [⟨0, 32, .rw, 0⟩]⟩
  , ⟨.HIF_TX_CONS, 14, 4128, 64, 8, 1, 0, [⟨0, 32, .ro, 0⟩]⟩
  , ⟨.HIF_RX_PROD, 14, 4132, 64, 8, 1, 0, [⟨0, 32, .rw, 0⟩]⟩
  , ⟨.HIF_RX_CONS, 14, 4136, 64, 8, 1, 0, [⟨0, 32, .ro, 0⟩]⟩
  , ⟨.HIF_CQ_PROD, 14, 4140, 64, 8, 1, 0, [⟨0, 32, .ro, 0⟩]⟩
  , ⟨.HIF_CQ_CONS, 14, 4144, 64, 8, 1, 0, [⟨0, 32, .rw, 0⟩]⟩ ]

/-- The CHM block (R351). -/
def regTableCHM : List RegRow :=
  [ ⟨.CHM_STATUS, 15, 0, 0, 1, 1, 0, [⟨0, 1, .w1c, 0⟩]⟩
  , ⟨.CHM_PAIR_CFG, 15, 16, 4, 8, 1, 0, [⟨0, 4, .rw, 4⟩, ⟨4, 2, .rw, 0⟩]⟩
  , ⟨.CHM_OUT_DATA, 15, 4096, 1024, 8, 64, 0, [⟨0, 32, .rw, 0⟩]⟩
  , ⟨.CHM_OUT_DATA, 15, 16384, 1024, 8, 64, 8, [⟨0, 32, .rw, 0⟩]⟩
  , ⟨.CHM_IN_DATA, 15, 4352, 1024, 8, 64, 0, [⟨0, 32, .ro, 0⟩]⟩
  , ⟨.CHM_IN_DATA, 15, 16640, 1024, 8, 64, 8, [⟨0, 32, .ro, 0⟩]⟩
  , ⟨.CHM_OUT_SEND, 15, 4608, 1024, 8, 1, 0, [⟨0, 6, .wo, 0⟩, ⟨6, 1, .wo, 0⟩, ⟨8, 16, .wo, 0⟩]⟩
  , ⟨.CHM_OUT_SEND, 15, 16896, 1024, 8, 1, 8, [⟨0, 6, .wo, 0⟩, ⟨6, 1, .wo, 0⟩, ⟨8, 16, .wo, 0⟩]⟩
  , ⟨.CHM_OUT_STATUS, 15, 4612, 1024, 8, 1, 0, [⟨0, 1, .ro, 0⟩]⟩
  , ⟨.CHM_OUT_STATUS, 15, 16900, 1024, 8, 1, 8, [⟨0, 1, .ro, 0⟩]⟩
  , ⟨.CHM_OUT_CTL, 15, 4616, 1024, 8, 1, 0, [⟨0, 1, .wo, 0⟩]⟩
  , ⟨.CHM_OUT_CTL, 15, 16904, 1024, 8, 1, 8, [⟨0, 1, .wo, 0⟩]⟩
  , ⟨.CHM_IN_HDR, 15, 4620, 1024, 8, 1, 0, [⟨0, 6, .ro, 0⟩, ⟨6, 1, .ro, 0⟩, ⟨7, 1, .ro, 0⟩, ⟨8, 16, .ro, 0⟩, ⟨24, 4, .ro, 0⟩]⟩
  , ⟨.CHM_IN_HDR, 15, 16908, 1024, 8, 1, 8, [⟨0, 6, .ro, 0⟩, ⟨6, 1, .ro, 0⟩, ⟨7, 1, .ro, 0⟩, ⟨8, 16, .ro, 0⟩, ⟨24, 4, .ro, 0⟩]⟩
  , ⟨.CHM_IN_POP, 15, 4624, 1024, 8, 1, 0, [⟨0, 1, .wo, 0⟩]⟩
  , ⟨.CHM_IN_POP, 15, 16912, 1024, 8, 1, 8, [⟨0, 1, .wo, 0⟩]⟩
  , ⟨.CHM_NOTICE, 15, 4628, 1024, 8, 1, 0, [⟨0, 16, .rc, 0⟩, ⟨16, 2, .rc, 0⟩, ⟨31, 1, .rc, 0⟩]⟩
  , ⟨.CHM_NOTICE, 15, 16916, 1024, 8, 1, 8, [⟨0, 16, .rc, 0⟩, ⟨16, 2, .rc, 0⟩, ⟨31, 1, .rc, 0⟩]⟩
  , ⟨.CHM_EVENT, 15, 4632, 1024, 8, 1, 0, [⟨0, 5, .w1c, 0⟩]⟩
  , ⟨.CHM_EVENT, 15, 16920, 1024, 8, 1, 8, [⟨0, 5, .w1c, 0⟩]⟩
  , ⟨.CHM_MASK, 15, 4636, 1024, 8, 1, 0, [⟨0, 5, .rw, 0⟩]⟩
  , ⟨.CHM_MASK, 15, 16924, 1024, 8, 1, 8, [⟨0, 5, .rw, 0⟩]⟩ ]

/-- The TAB block (R352). -/
def regTableTAB : List RegRow :=
  [ ⟨.TAB_STATUS, 16, 0, 0, 1, 1, 0, [⟨0, 1, .w1c, 0⟩, ⟨1, 1, .ro, 0⟩, ⟨2, 2, .ro, 0⟩, ⟨4, 1, .ro, 0⟩, ⟨5, 18, .ro, 0⟩]⟩
  , ⟨.TAB_CFG, 16, 4, 0, 1, 1, 0, [⟨0, 1, .rw, 0⟩, ⟨1, 4, .rw, 0⟩, ⟨5, 4, .rw, 0⟩, ⟨9, 10, .rw, 1000⟩]⟩
  , ⟨.TAB_EVENT, 16, 8, 0, 1, 1, 0, [⟨0, 4, .w1c, 0⟩]⟩
  , ⟨.TAB_MASK, 16, 12, 0, 1, 1, 0, [⟨0, 4, .rw, 0⟩]⟩
  , ⟨.TAB_GRANTED, 16, 16, 0, 1, 1, 0, [⟨0, 32, .ro, 0⟩]⟩
  , ⟨.TAB_CONSUMED, 16, 20, 0, 1, 1, 0, [⟨0, 32, .ro, 0⟩]⟩
  , ⟨.TAB_CREDIT_BAD, 16, 24, 0, 1, 1, 0, [⟨0, 32, .rc, 0⟩]⟩
  , ⟨.TAB_BURSTS, 16, 28, 0, 1, 1, 0, [⟨0, 32, .rc, 0⟩]⟩ ]

/-- The JNL block (R375). -/
def regTableJNL : List RegRow :=
  [ ⟨.JNL_STATUS, 17, 0, 0, 1, 1, 0, [⟨0, 1, .w1c, 0⟩, ⟨1, 3, .ro, 0⟩, ⟨4, 2, .ro, 0⟩, ⟨6, 2, .ro, 0⟩, ⟨8, 2, .ro, 0⟩, ⟨10, 2, .ro, 0⟩]⟩
  , ⟨.JNL_CFG, 17, 4, 0, 1, 1, 0, [⟨0, 2, .rw, 2⟩, ⟨2, 11, .rw, 1000⟩, ⟨13, 5, .rw, 7⟩, ⟨18, 8, .rw, 1⟩]⟩
  , ⟨.JNL_LIFE, 17, 8, 0, 1, 1, 0, [⟨0, 6, .ro, 0⟩, ⟨6, 14, .rw, 3000⟩]⟩
  , ⟨.JNL_EVENT, 17, 12, 0, 1, 1, 0, [⟨0, 8, .w1c, 0⟩]⟩
  , ⟨.JNL_MASK, 17, 16, 0, 1, 1, 0, [⟨0, 8, .rw, 0⟩]⟩
  , ⟨.JNL_DURABLE_LO, 17, 20, 0, 1, 1, 0, [⟨0, 32, .ro, 0⟩]⟩
  , ⟨.JNL_DURABLE_HI, 17, 24, 0, 1, 1, 0, [⟨0, 32, .ro, 0⟩]⟩
  , ⟨.JNL_OLDEST_LO, 17, 28, 0, 1, 1, 0, [⟨0, 32, .ro, 0⟩]⟩
  , ⟨.JNL_OLDEST_HI, 17, 32, 0, 1, 1, 0, [⟨0, 32, .ro, 0⟩]⟩
  , ⟨.JNL_FORMAT, 17, 36, 0, 1, 1, 0, [⟨0, 16, .ro, 0⟩]⟩
  , ⟨.JNL_PLAN_RATE, 17, 40, 0, 1, 1, 0, [⟨0, 16, .ro, 0⟩, ⟨16, 16, .ro, 0⟩]⟩
  , ⟨.JNL_PLAN_WEAR, 17, 44, 0, 1, 1, 0, [⟨0, 14, .ro, 0⟩, ⟨14, 14, .ro, 0⟩]⟩
  , ⟨.JNL_PLAN_HEALTH, 17, 48, 0, 1, 1, 0, [⟨0, 8, .ro, 0⟩, ⟨8, 8, .ro, 0⟩, ⟨16, 10, .ro, 0⟩]⟩
  , ⟨.JNL_PLAN_MISC, 17, 52, 0, 1, 1, 0, [⟨0, 16, .ro, 1000⟩, ⟨16, 8, .ro, 1⟩]⟩
  , ⟨.JNL_DISCARDED, 17, 56, 0, 1, 1, 0, [⟨0, 32, .rc, 0⟩]⟩
  , ⟨.JNL_ARG, 17, 4096, 256, 5, 8, 0, [⟨0, 32, .rw, 0⟩]⟩
  , ⟨.JNL_CMD, 17, 4224, 256, 5, 1, 0, [⟨0, 4, .wo, 0⟩]⟩
  , ⟨.JNL_CMD_RESULT, 17, 4228, 256, 5, 1, 0, [⟨0, 4, .ro, 0⟩, ⟨4, 4, .ro, 0⟩, ⟨8, 1, .ro, 0⟩]⟩
  , ⟨.JNL_RES, 17, 4256, 256, 5, 6, 0, [⟨0, 32, .ro, 0⟩]⟩ ]

/-- The TMP block (R398). -/
def regTableTMP : List RegRow :=
  [ ⟨.TMP_STATUS, 18, 0, 0, 1, 1, 0, [⟨0, 1, .w1c, 0⟩, ⟨1, 1, .ro, 0⟩, ⟨2, 1, .ro, 0⟩, ⟨3, 1, .ro, 0⟩, ⟨4, 1, .ro, 0⟩, ⟨5, 1, .ro, 0⟩, ⟨16, 16, .ro, 0⟩]⟩
  , ⟨.TMP_EVENT, 18, 4, 0, 1, 1, 0, [⟨0, 19, .w1c, 0⟩]⟩
  , ⟨.TMP_MASK, 18, 8, 0, 1, 1, 0, [⟨0, 19, .rw, 0⟩]⟩
  , ⟨.TMP_CMD, 18, 12, 0, 1, 1, 0, [⟨0, 4, .wo, 0⟩, ⟨8, 8, .wo, 0⟩]⟩
  , ⟨.TMP_CMD_RESULT, 18, 16, 0, 1, 1, 0, [⟨0, 4, .ro, 0⟩, ⟨4, 4, .ro, 0⟩]⟩
  , ⟨.TMP_LOG_INFO, 18, 20, 0, 1, 1, 0, [⟨0, 8, .ro, 0⟩, ⟨8, 1, .ro, 0⟩]⟩
  , ⟨.TMP_LOG_SEQ, 18, 24, 0, 1, 1, 0, [⟨0, 32, .ro, 0⟩]⟩
  , ⟨.TMP_BAT_INFO, 18, 28, 0, 1, 1, 0, [⟨0, 4, .ro, 0⟩, ⟨4, 8, .ro, 0⟩, ⟨12, 8, .ro, 0⟩]⟩
  , ⟨.TMP_SRC_CFG, 18, 256, 16, 16, 1, 0, [⟨0, 8, .ro, 0⟩, ⟨8, 1, .ro, 0⟩, ⟨9, 1, .ro, 0⟩]⟩
  , ⟨.TMP_SRC_LIMIT, 18, 260, 16, 16, 1, 0, [⟨0, 16, .ro, 0⟩]⟩
  , ⟨.TMP_SRC_VALUE, 18, 264, 16, 16, 1, 0, [⟨0, 32, .ro, 0⟩]⟩
  , ⟨.TMP_SRC_COUNT, 18, 268, 16, 16, 1, 0, [⟨0, 32, .rc, 0⟩]⟩ ]

/-- The PWR block (R419). -/
def regTablePWR : List RegRow :=
  [ ⟨.PWR_STATUS, 19, 0, 0, 1, 1, 0, [⟨0, 1, .w1c, 0⟩, ⟨1, 2, .ro, 0⟩, ⟨3, 1, .ro, 0⟩, ⟨4, 1, .ro, 0⟩, ⟨5, 2, .ro, 0⟩, ⟨7, 3, .ro, 0⟩, ⟨10, 1, .ro, 0⟩, ⟨11, 3, .ro, 0⟩]⟩
  , ⟨.PWR_CMD, 19, 4, 0, 1, 1, 0, [⟨0, 4, .wo, 0⟩, ⟨16, 8, .wo, 0⟩]⟩
  , ⟨.PWR_CMD_RESULT, 19, 8, 0, 1, 1, 0, [⟨0, 4, .ro, 0⟩, ⟨4, 4, .ro, 0⟩, ⟨8, 1, .ro, 0⟩]⟩
  , ⟨.PWR_EVENT, 19, 12, 0, 1, 1, 0, [⟨0, 8, .w1c, 0⟩]⟩
  , ⟨.PWR_MASK, 19, 16, 0, 1, 1, 0, [⟨0, 8, .rw, 0⟩]⟩
  , ⟨.PWR_WDOG, 19, 20, 0, 1, 1, 0, [⟨0, 16, .rw, 0⟩, ⟨31, 1, .wo, 0⟩]⟩
  , ⟨.PWR_WAKE_TIMER, 19, 24, 0, 1, 1, 0, [⟨0, 32, .rw, 0⟩]⟩
  , ⟨.PWR_RECOVER_ADDR_LO, 19, 28, 0, 1, 1, 0, [⟨0, 32, .rw, 0⟩]⟩
  , ⟨.PWR_RECOVER_ADDR_HI, 19, 32, 0, 1, 1, 0, [⟨0, 32, .rw, 0⟩]⟩
  , ⟨.PWR_AVS_CFG, 19, 36, 0, 1, 1, 0, [⟨0, 8, .rw, 60⟩, ⟨8, 8, .rw, 30⟩, ⟨16, 8, .rw, 24⟩, ⟨24, 8, .rw, 25⟩]⟩
  , ⟨.PWR_AVS_STATUS, 19, 40, 0, 1, 1, 0, [⟨0, 10, .ro, 800⟩, ⟨10, 10, .ro, 0⟩, ⟨20, 8, .ro, 0⟩]⟩
  , ⟨.PWR_LIFE, 19, 44, 0, 1, 1, 0, [⟨0, 6, .rw, 20⟩]⟩
  , ⟨.PWR_DOMAINS_LO, 19, 48, 0, 1, 1, 0, [⟨0, 32, .ro, 0⟩]⟩
  , ⟨.PWR_DOMAINS_HI, 19, 52, 0, 1, 1, 0, [⟨0, 24, .ro, 0⟩]⟩ ]

/-- The CNT block (R435). -/
def regTableCNT : List RegRow :=
  [ ⟨.CNT_STATUS, 20, 0, 0, 1, 1, 0, [⟨0, 1, .w1c, 0⟩, ⟨1, 1, .ro, 0⟩]⟩
  , ⟨.CNT_ROLL_CFG, 20, 4, 0, 1, 1, 0, [⟨0, 11, .rw, 1000⟩, ⟨11, 1, .rw, 1⟩, ⟨12, 1, .rw, 0⟩, ⟨13, 1, .rw, 0⟩]⟩
  , ⟨.CNT_ROLL_MASK, 20, 8, 0, 1, 1, 0, [⟨0, 5, .rw, 7⟩, ⟨8, 5, .rw, 7⟩]⟩
  , ⟨.CNT_ROLL_LIMIT, 20, 12, 0, 1, 1, 0, [⟨0, 9, .rw, 256⟩]⟩
  , ⟨.CNT_ROLL_BASE_LO, 20, 16, 0, 1, 1, 0, [⟨0, 32, .rw, 0⟩]⟩
  , ⟨.CNT_ROLL_BASE_HI, 20, 20, 0, 1, 1, 0, [⟨0, 32, .rw, 0⟩]⟩
  , ⟨.CNT_ROLL_BUF, 20, 24, 0, 1, 1, 0, [⟨0, 3, .rw, 1⟩, ⟨8, 6, .rw, 1⟩]⟩
  , ⟨.CNT_ROLL_WB_LO, 20, 32, 0, 1, 1, 0, [⟨0, 32, .rw, 0⟩]⟩
  , ⟨.CNT_ROLL_WB_HI, 20, 36, 0, 1, 1, 0, [⟨0, 32, .rw, 0⟩]⟩
  , ⟨.CNT_ROLL_SEQ_LO, 20, 40, 0, 1, 1, 0, [⟨0, 32, .ro, 0⟩]⟩
  , ⟨.CNT_ROLL_SEQ_HI, 20, 44, 0, 1, 1, 0, [⟨0, 32, .ro, 0⟩]⟩
  , ⟨.CNT_EVENT, 20, 48, 0, 1, 1, 0, [⟨0, 4, .w1c, 0⟩]⟩
  , ⟨.CNT_MASK, 20, 52, 0, 1, 1, 0, [⟨0, 4, .rw, 0⟩]⟩
  , ⟨.CNT_SEC_STAMP, 20, 56, 0, 1, 1, 0, [⟨0, 32, .ro, 0⟩]⟩
  , ⟨.CNT_VF_EN, 20, 60, 0, 1, 1, 0, [⟨0, 8, .rw, 0⟩]⟩
  , ⟨.CNT_SAMPLE_CFG, 20, 64, 0, 1, 1, 0, [⟨0, 8, .rw, 255⟩, ⟨8, 8, .rw, 0⟩, ⟨16, 5, .rw, 10⟩, ⟨21, 2, .rw, 0⟩]⟩
  , ⟨.CNT_SAMPLE_POP, 20, 68, 0, 1, 1, 0, [⟨0, 1, .wo, 0⟩]⟩
  , ⟨.CNT_SAMPLE_DEPTH, 20, 72, 0, 1, 1, 0, [⟨0, 7, .ro, 0⟩]⟩
  , ⟨.CNT_SAMPLE_HEAD, 20, 256, 0, 1, 16, 0, [⟨0, 32, .ro, 0⟩]⟩
  , ⟨.CNT_PROG_SEL, 20, 4096, 8, 512, 1, 0, [⟨0, 5, .rw, 0⟩, ⟨5, 1, .rw, 0⟩, ⟨6, 1, .rw, 0⟩, ⟨7, 1, .w1c, 0⟩, ⟨8, 8, .rw, 255⟩, ⟨16, 8, .rw, 0⟩]⟩
  , ⟨.CNT_PROG_ARG, 20, 4100, 8, 512, 1, 0, [⟨0, 16, .rw, 0⟩]⟩ ]

/-- The FUS block (R448). -/
def regTableFUS : List RegRow :=
  [ ⟨.FUS_STATUS, 21, 0, 0, 1, 1, 0, [⟨0, 1, .w1c, 0⟩, ⟨1, 1, .ro, 0⟩, ⟨2, 1, .ro, 0⟩]⟩
  , ⟨.FUS_VARIANT, 21, 4, 0, 1, 1, 0, [⟨0, 2, .ro, 0⟩]⟩
  , ⟨.FUS_FLOORS, 21, 8, 0, 1, 1, 0, [⟨0, 7, .ro, 0⟩, ⟨8, 6, .ro, 0⟩]⟩
  , ⟨.FUS_DEBUG, 21, 12, 0, 1, 1, 0, [⟨0, 1, .ro, 0⟩, ⟨1, 7, .ro, 0⟩, ⟨8, 7, .ro, 0⟩]⟩
  , ⟨.FUS_PROG_WORD, 21, 32, 0, 1, 1, 0, [⟨0, 8, .rw, 0⟩]⟩
  , ⟨.FUS_PROG_BITS, 21, 36, 0, 1, 1, 0, [⟨0, 32, .rw, 0⟩]⟩
  , ⟨.FUS_CMD, 21, 40, 0, 1, 1, 0, [⟨0, 4, .wo, 0⟩, ⟨16, 8, .wo, 0⟩]⟩
  , ⟨.FUS_CMD_RESULT, 21, 44, 0, 1, 1, 0, [⟨0, 4, .ro, 0⟩, ⟨4, 4, .ro, 0⟩, ⟨8, 1, .ro, 0⟩]⟩
  , ⟨.FUS_SIG_ECDSA, 21, 256, 128, 4, 12, 0, [⟨0, 32, .ro, 0⟩]⟩
  , ⟨.FUS_SIG_MLDSA, 21, 304, 128, 4, 12, 0, [⟨0, 32, .ro, 0⟩]⟩
  , ⟨.FUS_SIG_REVOKE, 21, 352, 128, 4, 1, 0, [⟨0, 1, .ro, 0⟩]⟩
  , ⟨.FUS_TMP, 21, 1024, 4, 16, 1, 0, [⟨0, 1, .ro, 0⟩, ⟨8, 8, .ro, 0⟩, ⟨16, 8, .ro, 0⟩]⟩ ]

/-- The VF block (R445). -/
def regTableVF : List RegRow :=
  [ ⟨.VF_STATUS, 22, 0, 0, 8, 1, 0, [⟨0, 1, .w1c, 0⟩, ⟨1, 4, .ro, 0⟩]⟩
  , ⟨.VF_EVENT, 22, 4, 0, 8, 1, 0, [⟨0, 3, .w1c, 0⟩]⟩
  , ⟨.VF_MASK, 22, 8, 0, 8, 1, 0, [⟨0, 3, .rw, 0⟩]⟩ ]

/-- Every register of the map, block by block. -/
def regTable : List RegRow :=
  regTableTOP ++ regTablePEL ++ regTablePRT ++ regTableFLX ++ regTableCLS ++ regTableTBL ++ regTableSWC ++ regTableDRM ++ regTableSEQ ++ regTableSAM ++ regTableKEY ++ regTableSCH ++ regTableTIM ++ regTableTWN ++ regTableHIF ++ regTableCHM ++ regTableTAB ++ regTableJNL ++ regTableTMP ++ regTablePWR ++ regTableCNT ++ regTableFUS ++ regTableVF

/-- The fields whose reset value is not 0 and does not vary with the element. -/
def resetTable : List (Reg × Nat × Nat) :=
  [ (.TOP_ID, 16, 176)
  , (.PRT_EP_TIMERS, 16, 10)
  , (.FLX_GRP_CFG, 10, 10)
  , (.FLX_GRP_CFG, 20, 300)
  , (.FLX_GRP_DESKEW, 0, 4000)
  , (.CLS_CH_CFG, 8, 255)
  , (.TBL_LEASE, 0, 10000)
  , (.TBL_BRUSH, 0, 150)
  , (.SWC_STATUS, 1, 393216)
  , (.SWC_RECIRC, 0, 255)
  , (.SWC_SNR_SIZE, 0, 16)
  , (.SWC_SNR_SEL, 0, 255)
  , (.SWC_CH_CFG, 0, 255)
  , (.SWC_CH_PAUSE, 0, 65535)
  , (.SWC_Q_CFG, 12, 3)
  , (.DRM_POOL_CFG, 0, 4)
  , (.SEQ_CFG, 0, 4000)
  , (.KEY_HYB_EXPIRY, 0, 10)
  , (.SCH_P_BURST, 0, 16384)
  , (.SCH_CH_CFG, 8, 1)
  , (.SCH_CH_BURST, 0, 65536)
  , (.SCH_CH_GATE, 0, 255)
  , (.SCH_Q_BURST, 0, 16384)
  , (.SCH_Q_CFG, 14, 1)
  , (.TIM_CFG, 3, 1)
  , (.TIM_INC_NS, 0, 2)
  , (.TIM_PPS_OUT, 21, 100)
  , (.TWN_STATUS, 4, 1)
  , (.TWN_CFG, 0, 100)
  , (.TWN_CFG, 10, 60)
  , (.HIF_RS_CTL, 1, 6)
  , (.HIF_RS_CTL, 6, 6)
  , (.HIF_RS_CTL, 11, 6)
  , (.CHM_PAIR_CFG, 0, 4)
  , (.TAB_CFG, 9, 1000)
  , (.JNL_CFG, 0, 2)
  , (.JNL_CFG, 2, 1000)
  , (.JNL_CFG, 13, 7)
  , (.JNL_CFG, 18, 1)
  , (.JNL_LIFE, 6, 3000)
  , (.JNL_PLAN_MISC, 0, 1000)
  , (.JNL_PLAN_MISC, 16, 1)
  , (.PWR_AVS_CFG, 0, 60)
  , (.PWR_AVS_CFG, 8, 30)
  , (.PWR_AVS_CFG, 16, 24)
  , (.PWR_AVS_CFG, 24, 25)
  , (.PWR_AVS_STATUS, 0, 800)
  , (.PWR_LIFE, 0, 20)
  , (.CNT_ROLL_CFG, 0, 1000)
  , (.CNT_ROLL_CFG, 11, 1)
  , (.CNT_ROLL_MASK, 0, 7)
  , (.CNT_ROLL_MASK, 8, 7)
  , (.CNT_ROLL_LIMIT, 0, 256)
  , (.CNT_ROLL_BUF, 0, 1)
  , (.CNT_ROLL_BUF, 8, 1)
  , (.CNT_SAMPLE_CFG, 0, 255)
  , (.CNT_SAMPLE_CFG, 16, 10)
  , (.CNT_PROG_SEL, 8, 255) ]

/-- The reset value of a field. PRT_EP_CFG.MTU is 16,000 on client endpoints and 16,032 on line and
FlexE ones (R76); SCH_Q_CFG.MAX_FRAME is the channel MTU (R281). Fields that the spec loads from fuses
or takes from the variant are views (State.view) and have no stored value. -/
def FKey.reset (k : FKey) : Nat :=
  if k.reg = .PRT_EP_CFG ∧ k.lo = 0 then (if k.elem < 32 then 16000 else 16032)
  else if k.reg = .SCH_Q_CFG ∧ k.lo = 0 then (if k.elem < 256 then 16000 else 16032)
  else match resetTable.find? (fun r => r.1 = k.reg ∧ r.2.1 = k.lo) with
    | some r => r.2.2
    | none => 0

end Sys2Proof.Machine
end

