-- ==== Sys2Proof/Machine/Fields.lean ====
section
/-! DEFINITION. The names of the register fields, REGISTER_FIELD, each the key of its cell. An array's
field takes its element. -/

namespace Sys2Proof.Machine.F
open Sys2Proof.Machine (FKey)

abbrev TOP_STATUS_WRITE_IGNORED : FKey := ⟨.TOP_STATUS, 0, 0⟩
abbrev TOP_CAP_UNITS_CLIENT_PORTS : FKey := ⟨.TOP_CAP_UNITS, 0, 0⟩
abbrev TOP_CAP_UNITS_LINE_PORTS : FKey := ⟨.TOP_CAP_UNITS, 0, 4⟩
abbrev TOP_CAP_UNITS_ENGINES : FKey := ⟨.TOP_CAP_UNITS, 0, 8⟩
abbrev TOP_CAP_UNITS_FLEXE : FKey := ⟨.TOP_CAP_UNITS, 0, 13⟩
abbrev TOP_CAP_UNITS_TWIN : FKey := ⟨.TOP_CAP_UNITS, 0, 14⟩
abbrev TOP_CAP_UNITS_ASYM : FKey := ⟨.TOP_CAP_UNITS, 0, 15⟩
abbrev TOP_CAP_UNITS_JOURNAL : FKey := ⟨.TOP_CAP_UNITS, 0, 16⟩
abbrev TOP_ID_ORDER_CODE : FKey := ⟨.TOP_ID, 0, 0⟩
abbrev TOP_ID_STEPPING : FKey := ⟨.TOP_ID, 0, 16⟩
abbrev TOP_SERIAL_LO_SERIAL : FKey := ⟨.TOP_SERIAL_LO, 0, 0⟩
abbrev TOP_SERIAL_HI_SERIAL : FKey := ⟨.TOP_SERIAL_HI, 0, 0⟩
abbrev TOP_SUMMARY_PENDING : FKey := ⟨.TOP_SUMMARY, 0, 0⟩
abbrev TOP_EVENT_EVENTS : FKey := ⟨.TOP_EVENT, 0, 0⟩
abbrev TOP_MASK_MASK : FKey := ⟨.TOP_MASK, 0, 0⟩
abbrev TOP_SCRATCH_DATA : FKey := ⟨.TOP_SCRATCH, 0, 0⟩
abbrev TOP_SCRATCH_SH_DATA : FKey := ⟨.TOP_SCRATCH_SH, 0, 0⟩
abbrev TOP_TBLWIN_MEM : FKey := ⟨.TOP_TBLWIN, 0, 0⟩
abbrev TOP_TBLWIN_PAGE : FKey := ⟨.TOP_TBLWIN, 0, 8⟩
abbrev TOP_UNMAPPED_OFFSET : FKey := ⟨.TOP_UNMAPPED, 0, 0⟩
abbrev TOP_UNMAPPED_REQUESTER : FKey := ⟨.TOP_UNMAPPED, 0, 25⟩
abbrev TOP_UNMAPPED_WRITE : FKey := ⟨.TOP_UNMAPPED, 0, 29⟩
abbrev PEL_CMD_OP : FKey := ⟨.PEL_CMD, 0, 0⟩
abbrev PEL_RESULT_STATUS : FKey := ⟨.PEL_RESULT, 0, 0⟩
abbrev PEL_RESULT_OP : FKey := ⟨.PEL_RESULT, 0, 4⟩
abbrev PEL_RESULT_FAIL_STEP : FKey := ⟨.PEL_RESULT, 0, 8⟩
abbrev PEL_RESULT_FAIL_SECTION : FKey := ⟨.PEL_RESULT, 0, 16⟩
abbrev PEL_LOAD_ADDR_LO_ADDR : FKey := ⟨.PEL_LOAD_ADDR_LO, 0, 0⟩
abbrev PEL_LOAD_ADDR_HI_ADDR : FKey := ⟨.PEL_LOAD_ADDR_HI, 0, 0⟩
abbrev PEL_LOAD_LEN_LEN : FKey := ⟨.PEL_LOAD_LEN, 0, 0⟩
abbrev PEL_STRIKE_SEC_LO_SEC : FKey := ⟨.PEL_STRIKE_SEC_LO, 0, 0⟩
abbrev PEL_STRIKE_SEC_HI_SEC : FKey := ⟨.PEL_STRIKE_SEC_HI, 0, 0⟩
abbrev PEL_STRIKE_NS_NS : FKey := ⟨.PEL_STRIKE_NS, 0, 0⟩
abbrev PEL_STATUS_SHADOW : FKey := ⟨.PEL_STATUS, 0, 0⟩
abbrev PEL_STATUS_ACTIVE : FKey := ⟨.PEL_STATUS, 0, 3⟩
abbrev PEL_STATUS_WRITE_IGNORED : FKey := ⟨.PEL_STATUS, 0, 5⟩
abbrev PEL_STATUS_TUNE_CLIPPED : FKey := ⟨.PEL_STATUS, 0, 6⟩
abbrev PEL_STATUS_BANK : FKey := ⟨.PEL_STATUS, 0, 7⟩
abbrev PEL_STATUS_ACTIVE_SVN : FKey := ⟨.PEL_STATUS, 0, 8⟩
abbrev PEL_STATUS_FLOOR : FKey := ⟨.PEL_STATUS, 0, 16⟩
abbrev PEL_ACTIVE_ID_LO_ID : FKey := ⟨.PEL_ACTIVE_ID_LO, 0, 0⟩
abbrev PEL_ACTIVE_ID_HI_ID : FKey := ⟨.PEL_ACTIVE_ID_HI, 0, 0⟩
abbrev PEL_STRIKE_COUNT_COUNT : FKey := ⟨.PEL_STRIKE_COUNT, 0, 0⟩
abbrev PEL_EVENT_DONE : FKey := ⟨.PEL_EVENT, 0, 0⟩
abbrev PEL_MASK_MASK : FKey := ⟨.PEL_MASK, 0, 0⟩
abbrev PRT_STATUS_WRITE_IGNORED : FKey := ⟨.PRT_STATUS, 0, 0⟩
abbrev PRT_EP_CFG_MTU (e : Nat) : FKey := ⟨.PRT_EP_CFG, e, 0⟩
abbrev PRT_EP_CFG_LPI_EN (e : Nat) : FKey := ⟨.PRT_EP_CFG, e, 14⟩
abbrev PRT_EP_TIMERS_DOWN_HOLDOFF (e : Nat) : FKey := ⟨.PRT_EP_TIMERS, e, 0⟩
abbrev PRT_EP_TIMERS_SER_LIMIT (e : Nat) : FKey := ⟨.PRT_EP_TIMERS, e, 10⟩
abbrev PRT_EP_TIMERS_UP_DEBOUNCE (e : Nat) : FKey := ⟨.PRT_EP_TIMERS, e, 16⟩
abbrev PRT_EP_STATUS_PRESENT (e : Nat) : FKey := ⟨.PRT_EP_STATUS, e, 0⟩
abbrev PRT_EP_STATUS_LINK_UP (e : Nat) : FKey := ⟨.PRT_EP_STATUS, e, 1⟩
abbrev PRT_EP_STATUS_SPEED (e : Nat) : FKey := ⟨.PRT_EP_STATUS, e, 2⟩
abbrev PRT_EP_STATUS_FEC (e : Nat) : FKey := ⟨.PRT_EP_STATUS, e, 5⟩
abbrev PRT_EP_STATUS_LPI_TX (e : Nat) : FKey := ⟨.PRT_EP_STATUS, e, 7⟩
abbrev PRT_EP_STATUS_LPI_RX (e : Nat) : FKey := ⟨.PRT_EP_STATUS, e, 8⟩
abbrev PRT_EP_STATUS_FAULT (e : Nat) : FKey := ⟨.PRT_EP_STATUS, e, 9⟩
abbrev PRT_EP_EVENT_EVENTS (e : Nat) : FKey := ⟨.PRT_EP_EVENT, e, 0⟩
abbrev PRT_EP_MASK_MASK (e : Nat) : FKey := ⟨.PRT_EP_MASK, e, 0⟩
abbrev FLX_STATUS_WRITE_IGNORED : FKey := ⟨.FLX_STATUS, 0, 0⟩
abbrev FLX_SEC_STAMP_SEC : FKey := ⟨.FLX_SEC_STAMP, 0, 0⟩
abbrev FLX_GRP_CFG_DOWN_HOLDOFF (e : Nat) : FKey := ⟨.FLX_GRP_CFG, e, 0⟩
abbrev FLX_GRP_CFG_UP_DEBOUNCE (e : Nat) : FKey := ⟨.FLX_GRP_CFG, e, 10⟩
abbrev FLX_GRP_CFG_CAL_REQ_TIMEOUT (e : Nat) : FKey := ⟨.FLX_GRP_CFG, e, 20⟩
abbrev FLX_GRP_DESKEW_LIMIT_NS (e : Nat) : FKey := ⟨.FLX_GRP_DESKEW, e, 0⟩
abbrev FLX_GRP_STATUS_STATE (e : Nat) : FKey := ⟨.FLX_GRP_STATUS, e, 0⟩
abbrev FLX_GRP_STATUS_TX_PAGE (e : Nat) : FKey := ⟨.FLX_GRP_STATUS, e, 3⟩
abbrev FLX_GRP_STATUS_SWITCH (e : Nat) : FKey := ⟨.FLX_GRP_STATUS, e, 4⟩
abbrev FLX_GRP_STATUS_GROUP_NUMBER (e : Nat) : FKey := ⟨.FLX_GRP_STATUS, e, 8⟩
abbrev FLX_GRP_EVENT_EVENTS (e : Nat) : FKey := ⟨.FLX_GRP_EVENT, e, 0⟩
abbrev FLX_GRP_MASK_MASK (e : Nat) : FKey := ⟨.FLX_GRP_MASK, e, 0⟩
abbrev FLX_GRP_CMD_CANCEL (e : Nat) : FKey := ⟨.FLX_GRP_CMD, e, 0⟩
abbrev FLX_GRP_CMD_RETRY (e : Nat) : FKey := ⟨.FLX_GRP_CMD, e, 1⟩
abbrev FLX_INST_STATUS_PRESENT (e : Nat) : FKey := ⟨.FLX_INST_STATUS, e, 0⟩
abbrev FLX_INST_STATUS_FRAME (e : Nat) : FKey := ⟨.FLX_INST_STATUS, e, 1⟩
abbrev FLX_INST_STATUS_MF_LOCK (e : Nat) : FKey := ⟨.FLX_INST_STATUS, e, 3⟩
abbrev FLX_INST_STATUS_RX_PAGE (e : Nat) : FKey := ⟨.FLX_INST_STATUS, e, 4⟩
abbrev FLX_INST_STATUS_RPF_RX (e : Nat) : FKey := ⟨.FLX_INST_STATUS, e, 5⟩
abbrev FLX_INST_STATUS_INST_NUMBER (e : Nat) : FKey := ⟨.FLX_INST_STATUS, e, 8⟩
abbrev FLX_INST_STATUS_DESKEW_NS (e : Nat) : FKey := ⟨.FLX_INST_STATUS, e, 16⟩
abbrev FLX_INST_SEC_CRC_OH_CRC_ERR (e : Nat) : FKey := ⟨.FLX_INST_SEC_CRC, e, 0⟩
abbrev FLX_INST_SEC_MISS_MARKER_MISS (e : Nat) : FKey := ⟨.FLX_INST_SEC_MISS, e, 0⟩
abbrev FLX_INST_SEC_FALSE_FALSE_CANDIDATES (e : Nat) : FKey := ⟨.FLX_INST_SEC_FALSE, e, 0⟩
abbrev FLX_INST_SEC_DEFECT_DEFECTS (e : Nat) : FKey := ⟨.FLX_INST_SEC_DEFECT, e, 0⟩
abbrev FLX_CLI_SEC_RX_LO_RX_BLOCKS (e : Nat) : FKey := ⟨.FLX_CLI_SEC_RX_LO, e, 0⟩
abbrev FLX_CLI_SEC_RX_HI_RX_BLOCKS (e : Nat) : FKey := ⟨.FLX_CLI_SEC_RX_HI, e, 0⟩
abbrev FLX_CLI_SEC_ERR_RX_ERR_BLOCKS (e : Nat) : FKey := ⟨.FLX_CLI_SEC_ERR, e, 0⟩
abbrev FLX_CLI_SEC_INS_IDLE_INS (e : Nat) : FKey := ⟨.FLX_CLI_SEC_INS, e, 0⟩
abbrev FLX_CLI_SEC_DEL_IDLE_DEL (e : Nat) : FKey := ⟨.FLX_CLI_SEC_DEL, e, 0⟩
abbrev FLX_CLI_SEC_TX_LO_TX_BLOCKS (e : Nat) : FKey := ⟨.FLX_CLI_SEC_TX_LO, e, 0⟩
abbrev FLX_CLI_SEC_TX_HI_TX_BLOCKS (e : Nat) : FKey := ⟨.FLX_CLI_SEC_TX_HI, e, 0⟩
abbrev CLS_STATUS_WRITE_IGNORED : FKey := ⟨.CLS_STATUS, 0, 0⟩
abbrev CLS_CH_CFG_PROGRAM (e : Nat) : FKey := ⟨.CLS_CH_CFG, e, 0⟩
abbrev CLS_CH_CFG_LEARN_EN (e : Nat) : FKey := ⟨.CLS_CH_CFG, e, 4⟩
abbrev CLS_CH_CFG_STATIC_GUARD (e : Nat) : FKey := ⟨.CLS_CH_CFG, e, 5⟩
abbrev CLS_CH_CFG_CLEAR_OK (e : Nat) : FKey := ⟨.CLS_CH_CFG, e, 6⟩
abbrev CLS_CH_CFG_DEFAULT_CHANNEL (e : Nat) : FKey := ⟨.CLS_CH_CFG, e, 8⟩
abbrev CLS_CH_SC_DEFAULT_SC (e : Nat) : FKey := ⟨.CLS_CH_SC, e, 0⟩
abbrev CLS_CH_SC_SC_VALID (e : Nat) : FKey := ⟨.CLS_CH_SC, e, 16⟩
abbrev TBL_STATUS_WRITE_IGNORED : FKey := ⟨.TBL_STATUS, 0, 0⟩
abbrev TBL_STATUS_LEARN_DEPTH : FKey := ⟨.TBL_STATUS, 0, 1⟩
abbrev TBL_LEASE_LEASE_US : FKey := ⟨.TBL_LEASE, 0, 0⟩
abbrev TBL_BRUSH_AGE_PERIOD : FKey := ⟨.TBL_BRUSH, 0, 0⟩
abbrev TBL_EVENT_EVENTS : FKey := ⟨.TBL_EVENT, 0, 0⟩
abbrev TBL_MASK_MASK : FKey := ⟨.TBL_MASK, 0, 0⟩
abbrev TBL_LOCK_LOCKED (e : Nat) : FKey := ⟨.TBL_LOCK, e, 0⟩
abbrev TBL_LOCK_OWNER (e : Nat) : FKey := ⟨.TBL_LOCK, e, 4⟩
abbrev TBL_LOCK_PEEK_STATE (e : Nat) : FKey := ⟨.TBL_LOCK_PEEK, e, 0⟩
abbrev TBL_LOCK_CTL_RELEASE (e : Nat) : FKey := ⟨.TBL_LOCK_CTL, e, 0⟩
abbrev TBL_LOCK_CTL_RENEW (e : Nat) : FKey := ⟨.TBL_LOCK_CTL, e, 1⟩
abbrev TBL_ARG_ARG (e : Nat) : FKey := ⟨.TBL_ARG, e, 0⟩
abbrev TBL_CMD_OP (e : Nat) : FKey := ⟨.TBL_CMD, e, 0⟩
abbrev TBL_CMD_RESULT_STATUS (e : Nat) : FKey := ⟨.TBL_CMD_RESULT, e, 0⟩
abbrev TBL_CMD_RESULT_OP (e : Nat) : FKey := ⟨.TBL_CMD_RESULT, e, 4⟩
abbrev TBL_CMD_RESULT_RUNNING (e : Nat) : FKey := ⟨.TBL_CMD_RESULT, e, 8⟩
abbrev SWC_STATUS_WRITE_IGNORED : FKey := ⟨.SWC_STATUS, 0, 0⟩
abbrev SWC_STATUS_FREE_CELLS : FKey := ⟨.SWC_STATUS, 0, 1⟩
abbrev SWC_SHARED_SHARED_CELLS : FKey := ⟨.SWC_SHARED, 0, 0⟩
abbrev SWC_RECIRC_CHANNEL : FKey := ⟨.SWC_RECIRC, 0, 0⟩
abbrev SWC_HOLD_HOLD_US (e : Nat) : FKey := ⟨.SWC_HOLD, e, 0⟩
abbrev SWC_SNR_BASE_LO_ADDR : FKey := ⟨.SWC_SNR_BASE_LO, 0, 0⟩
abbrev SWC_SNR_BASE_HI_ADDR : FKey := ⟨.SWC_SNR_BASE_HI, 0, 0⟩
abbrev SWC_SNR_SIZE_LOG2 : FKey := ⟨.SWC_SNR_SIZE, 0, 0⟩
abbrev SWC_SNR_PROD_PROD : FKey := ⟨.SWC_SNR_PROD, 0, 0⟩
abbrev SWC_SNR_CONS_CONS : FKey := ⟨.SWC_SNR_CONS, 0, 0⟩
abbrev SWC_SNR_WB_LO_ADDR : FKey := ⟨.SWC_SNR_WB_LO, 0, 0⟩
abbrev SWC_SNR_WB_HI_ADDR : FKey := ⟨.SWC_SNR_WB_HI, 0, 0⟩
abbrev SWC_SNR_SEL_IN_CH (e : Nat) : FKey := ⟨.SWC_SNR_SEL, e, 0⟩
abbrev SWC_SNR_SEL_CLASS_MASK (e : Nat) : FKey := ⟨.SWC_SNR_SEL, e, 8⟩
abbrev SWC_SNR_SEL_POINT (e : Nat) : FKey := ⟨.SWC_SNR_SEL, e, 16⟩
abbrev SWC_SNR_CTL_SAMPLE_N (e : Nat) : FKey := ⟨.SWC_SNR_CTL, e, 0⟩
abbrev SWC_SNR_CTL_CAP_LEN (e : Nat) : FKey := ⟨.SWC_SNR_CTL, e, 5⟩
abbrev SWC_SNR_CTL_DEST (e : Nat) : FKey := ⟨.SWC_SNR_CTL, e, 7⟩
abbrev SWC_SNR_LOST_LOST (e : Nat) : FKey := ⟨.SWC_SNR_LOST, e, 0⟩
abbrev SWC_CH_CFG_CT_EN (e : Nat) : FKey := ⟨.SWC_CH_CFG, e, 0⟩
abbrev SWC_CH_CFG_PAUSE_TX_EN (e : Nat) : FKey := ⟨.SWC_CH_CFG, e, 8⟩
abbrev SWC_CH_CFG_PAUSE_RX_EN (e : Nat) : FKey := ⟨.SWC_CH_CFG, e, 9⟩
abbrev SWC_CH_PAUSE_XOFF_CELLS (e : Nat) : FKey := ⟨.SWC_CH_PAUSE, e, 0⟩
abbrev SWC_CH_PAUSE_XON_CELLS (e : Nat) : FKey := ⟨.SWC_CH_PAUSE, e, 16⟩
abbrev SWC_CH_STATUS_INGRESS_CELLS (e : Nat) : FKey := ⟨.SWC_CH_STATUS, e, 0⟩
abbrev SWC_CH_STATUS_XOFF_SENT (e : Nat) : FKey := ⟨.SWC_CH_STATUS, e, 19⟩
abbrev SWC_CH_STATUS_HEADROOM_CELLS (e : Nat) : FKey := ⟨.SWC_CH_STATUS, e, 20⟩
abbrev SWC_Q_CFG_MIN_CELLS (e : Nat) : FKey := ⟨.SWC_Q_CFG, e, 0⟩
abbrev SWC_Q_CFG_ALPHA (e : Nat) : FKey := ⟨.SWC_Q_CFG, e, 12⟩
abbrev SWC_Q_CFG_MAX_UNITS (e : Nat) : FKey := ⟨.SWC_Q_CFG, e, 16⟩
abbrev SWC_Q_STATUS_CELLS (e : Nat) : FKey := ⟨.SWC_Q_STATUS, e, 0⟩
abbrev SWC_Q_STATUS_STATE (e : Nat) : FKey := ⟨.SWC_Q_STATUS, e, 19⟩
abbrev DRM_STATUS_WRITE_IGNORED : FKey := ⟨.DRM_STATUS, 0, 0⟩
abbrev DRM_STATUS_IN_SERVICE : FKey := ⟨.DRM_STATUS, 0, 1⟩
abbrev DRM_STATUS_UNGATED : FKey := ⟨.DRM_STATUS, 0, 6⟩
abbrev DRM_STATUS_RESERVED : FKey := ⟨.DRM_STATUS, 0, 11⟩
abbrev DRM_POOL_CFG_DOZE_MIN : FKey := ⟨.DRM_POOL_CFG, 0, 0⟩
abbrev DRM_CMD_OP : FKey := ⟨.DRM_CMD, 0, 0⟩
abbrev DRM_CMD_ENGINE : FKey := ⟨.DRM_CMD, 0, 4⟩
abbrev DRM_CMD_RESULT_STATUS : FKey := ⟨.DRM_CMD_RESULT, 0, 0⟩
abbrev DRM_CMD_RESULT_OP : FKey := ⟨.DRM_CMD_RESULT, 0, 4⟩
abbrev DRM_CMD_RESULT_ENGINE : FKey := ⟨.DRM_CMD_RESULT, 0, 8⟩
abbrev DRM_CMD_RESULT_RUNNING : FKey := ⟨.DRM_CMD_RESULT, 0, 12⟩
abbrev DRM_EVENT_EVENTS : FKey := ⟨.DRM_EVENT, 0, 0⟩
abbrev DRM_MASK_MASK : FKey := ⟨.DRM_MASK, 0, 0⟩
abbrev DRM_ENG_STATUS_STATE (e : Nat) : FKey := ⟨.DRM_ENG_STATUS, e, 0⟩
abbrev DRM_ENG_STATUS_RESERVED (e : Nat) : FKey := ⟨.DRM_ENG_STATUS, e, 3⟩
abbrev DRM_ENG_STATUS_FRAMES (e : Nat) : FKey := ⟨.DRM_ENG_STATUS, e, 4⟩
abbrev DRM_ENG_FAULT_CAUSE (e : Nat) : FKey := ⟨.DRM_ENG_FAULT, e, 0⟩
abbrev DRM_ENG_FAULT_FENCES (e : Nat) : FKey := ⟨.DRM_ENG_FAULT, e, 16⟩
abbrev DRM_ENG_FAULT_NS_NS (e : Nat) : FKey := ⟨.DRM_ENG_FAULT_NS, e, 0⟩
abbrev DRM_ENG_ECC_CORRECTED (e : Nat) : FKey := ⟨.DRM_ENG_ECC, e, 0⟩
abbrev SEQ_STATUS_WRITE_IGNORED : FKey := ⟨.SEQ_STATUS, 0, 0⟩
abbrev SEQ_STATUS_SLOTS_USED : FKey := ⟨.SEQ_STATUS, 0, 1⟩
abbrev SEQ_CFG_INFLIGHT_NS : FKey := ⟨.SEQ_CFG, 0, 0⟩
abbrev SEQ_PORT_STATUS_DEPTH (e : Nat) : FKey := ⟨.SEQ_PORT_STATUS, e, 0⟩
abbrev SEQ_PORT_STATUS_STALLED (e : Nat) : FKey := ⟨.SEQ_PORT_STATUS, e, 9⟩
abbrev SEQ_PORT_STALL_CYCLES (e : Nat) : FKey := ⟨.SEQ_PORT_STALL, e, 0⟩
abbrev SEQ_CH_DSN_NEXT_DSN (e : Nat) : FKey := ⟨.SEQ_CH_DSN, e, 0⟩
abbrev SEQ_CH_DSN_COMMIT_DSN (e : Nat) : FKey := ⟨.SEQ_CH_DSN, e, 16⟩
abbrev SEQ_CH_INFLIGHT_BYTES (e : Nat) : FKey := ⟨.SEQ_CH_INFLIGHT, e, 0⟩
abbrev SEQ_CH_RECALL_FRAMES (e : Nat) : FKey := ⟨.SEQ_CH_RECALL, e, 0⟩
abbrev SEQ_CH_PROT_P_DECRYPT_CT (e : Nat) : FKey := ⟨.SEQ_CH_PROT, e, 0⟩
abbrev SEQ_CH_PROT_P_SYM_HOLD (e : Nat) : FKey := ⟨.SEQ_CH_PROT, e, 1⟩
abbrev SEQ_CH_PROT_TC_EN (e : Nat) : FKey := ⟨.SEQ_CH_PROT, e, 2⟩
abbrev SEQ_CH_PROT_PAD_NS (e : Nat) : FKey := ⟨.SEQ_CH_PROT, e, 4⟩
abbrev SEQ_CH_ISCI_LO_SCI (e : Nat) : FKey := ⟨.SEQ_CH_ISCI_LO, e, 0⟩
abbrev SEQ_CH_ISCI_HI_SCI (e : Nat) : FKey := ⟨.SEQ_CH_ISCI_HI, e, 0⟩
abbrev SEQ_DUP_CFG_STREAM (e : Nat) : FKey := ⟨.SEQ_DUP_CFG, e, 0⟩
abbrev SEQ_DUP_CFG_ENABLE (e : Nat) : FKey := ⟨.SEQ_DUP_CFG, e, 16⟩
abbrev SEQ_DUP_NODES_NODE_A (e : Nat) : FKey := ⟨.SEQ_DUP_NODES, e, 0⟩
abbrev SEQ_DUP_NODES_NODE_B (e : Nat) : FKey := ⟨.SEQ_DUP_NODES, e, 16⟩
abbrev SEQ_DUP_SMAX_S_MAX (e : Nat) : FKey := ⟨.SEQ_DUP_SMAX, e, 0⟩
abbrev SEQ_DUP_STATUS_SEEN (e : Nat) : FKey := ⟨.SEQ_DUP_STATUS, e, 0⟩
abbrev SAM_STATUS_WRITE_IGNORED : FKey := ⟨.SAM_STATUS, 0, 0⟩
abbrev SAM_STATUS_SA_USED : FKey := ⟨.SAM_STATUS, 0, 1⟩
abbrev SAM_STORE_ON_DIE : FKey := ⟨.SAM_STORE, 0, 0⟩
abbrev SAM_STORE_PINNED : FKey := ⟨.SAM_STORE, 0, 16⟩
abbrev SAM_COLD_PENDING : FKey := ⟨.SAM_COLD, 0, 0⟩
abbrev SAM_EVENT_EVENTS : FKey := ⟨.SAM_EVENT, 0, 0⟩
abbrev SAM_MASK_MASK : FKey := ⟨.SAM_MASK, 0, 0⟩
abbrev SAM_EVQ_HEAD_SA : FKey := ⟨.SAM_EVQ_HEAD, 0, 0⟩
abbrev SAM_EVQ_HEAD_CODE : FKey := ⟨.SAM_EVQ_HEAD, 0, 27⟩
abbrev SAM_EVQ_HEAD_VALID : FKey := ⟨.SAM_EVQ_HEAD, 0, 31⟩
abbrev SAM_EVQ_LOST_LOST : FKey := ⟨.SAM_EVQ_LOST, 0, 0⟩
abbrev SAM_ARG_ARG (e : Nat) : FKey := ⟨.SAM_ARG, e, 0⟩
abbrev SAM_CMD_OP (e : Nat) : FKey := ⟨.SAM_CMD, e, 0⟩
abbrev SAM_CMD_RESULT_STATUS (e : Nat) : FKey := ⟨.SAM_CMD_RESULT, e, 0⟩
abbrev SAM_CMD_RESULT_OP (e : Nat) : FKey := ⟨.SAM_CMD_RESULT, e, 4⟩
abbrev SAM_CMD_RESULT_RUNNING (e : Nat) : FKey := ⟨.SAM_CMD_RESULT, e, 12⟩
abbrev SAM_RES_RES (e : Nat) : FKey := ⟨.SAM_RES, e, 0⟩
abbrev KEY_STATUS_WRITE_IGNORED : FKey := ⟨.KEY_STATUS, 0, 0⟩
abbrev KEY_STATUS_TEST_ROOT : FKey := ⟨.KEY_STATUS, 0, 1⟩
abbrev KEY_STATUS_IDENTITY_READY : FKey := ⟨.KEY_STATUS, 0, 2⟩
abbrev KEY_STATUS_DOMAINS_VALID : FKey := ⟨.KEY_STATUS, 0, 3⟩
abbrev KEY_STATUS_HYB_SESSIONS : FKey := ⟨.KEY_STATUS, 0, 8⟩
abbrev KEY_STATUS_SWEEP : FKey := ⟨.KEY_STATUS, 0, 15⟩
abbrev KEY_COUNT_GROUPS_VALID : FKey := ⟨.KEY_COUNT, 0, 0⟩
abbrev KEY_COUNT_CAKS_VALID : FKey := ⟨.KEY_COUNT, 0, 13⟩
abbrev KEY_EVENT_EVENTS : FKey := ⟨.KEY_EVENT, 0, 0⟩
abbrev KEY_MASK_MASK : FKey := ⟨.KEY_MASK, 0, 0⟩
abbrev KEY_HYB_EXPIRY_SECONDS : FKey := ⟨.KEY_HYB_EXPIRY, 0, 0⟩
abbrev KEY_ARG_ARG (e : Nat) : FKey := ⟨.KEY_ARG, e, 0⟩
abbrev KEY_CMD_OP (e : Nat) : FKey := ⟨.KEY_CMD, e, 0⟩
abbrev KEY_CMD_RESULT_STATUS (e : Nat) : FKey := ⟨.KEY_CMD_RESULT, e, 0⟩
abbrev KEY_CMD_RESULT_OP (e : Nat) : FKey := ⟨.KEY_CMD_RESULT, e, 4⟩
abbrev KEY_CMD_RESULT_RUNNING (e : Nat) : FKey := ⟨.KEY_CMD_RESULT, e, 12⟩
abbrev KEY_RES_RES (e : Nat) : FKey := ⟨.KEY_RES, e, 0⟩
abbrev SCH_STATUS_WRITE_IGNORED : FKey := ⟨.SCH_STATUS, 0, 0⟩
abbrev SCH_EVENT_EVENTS : FKey := ⟨.SCH_EVENT, 0, 0⟩
abbrev SCH_MASK_MASK : FKey := ⟨.SCH_MASK, 0, 0⟩
abbrev SCH_PUNT_RATE_RATE : FKey := ⟨.SCH_PUNT_RATE, 0, 0⟩
abbrev SCH_P_RATE_RATE (e : Nat) : FKey := ⟨.SCH_P_RATE, e, 0⟩
abbrev SCH_P_RATE_RESET_TO (e : Nat) : FKey := ⟨.SCH_P_RATE, e, 31⟩
abbrev SCH_P_BURST_BURST (e : Nat) : FKey := ⟨.SCH_P_BURST, e, 0⟩
abbrev SCH_P_BIND_QUEUE (e : Nat) : FKey := ⟨.SCH_P_BIND, e, 0⟩
abbrev SCH_P_BIND_BOUND (e : Nat) : FKey := ⟨.SCH_P_BIND, e, 31⟩
abbrev SCH_P_TOKENS_BITS (e : Nat) : FKey := ⟨.SCH_P_TOKENS, e, 0⟩
abbrev SCH_CH_CFG_MODE (e : Nat) : FKey := ⟨.SCH_CH_CFG, e, 0⟩
abbrev SCH_CH_CFG_LEN_MODE (e : Nat) : FKey := ⟨.SCH_CH_CFG, e, 1⟩
abbrev SCH_CH_CFG_OVERHEAD (e : Nat) : FKey := ⟨.SCH_CH_CFG, e, 2⟩
abbrev SCH_CH_CFG_GATE_EN (e : Nat) : FKey := ⟨.SCH_CH_CFG, e, 8⟩
abbrev SCH_CH_RATE_RATE (e : Nat) : FKey := ⟨.SCH_CH_RATE, e, 0⟩
abbrev SCH_CH_BURST_BURST (e : Nat) : FKey := ⟨.SCH_CH_BURST, e, 0⟩
abbrev SCH_CH_TOKENS_BITS (e : Nat) : FKey := ⟨.SCH_CH_TOKENS, e, 0⟩
abbrev SCH_CH_GATE_STATES (e : Nat) : FKey := ⟨.SCH_CH_GATE, e, 0⟩
abbrev SCH_CH_GATE_ENTRY (e : Nat) : FKey := ⟨.SCH_CH_GATE, e, 8⟩
abbrev SCH_CH_GATE_LIST (e : Nat) : FKey := ⟨.SCH_CH_GATE, e, 18⟩
abbrev SCH_CH_GATE_PENDING (e : Nat) : FKey := ⟨.SCH_CH_GATE, e, 19⟩
abbrev SCH_CH_CYCLE_CYCLE_NS (e : Nat) : FKey := ⟨.SCH_CH_CYCLE, e, 0⟩
abbrev SCH_CH_LEAD_LEAD_NS (e : Nat) : FKey := ⟨.SCH_CH_LEAD, e, 0⟩
abbrev SCH_Q_RATE_RATE (e : Nat) : FKey := ⟨.SCH_Q_RATE, e, 0⟩
abbrev SCH_Q_BURST_BURST (e : Nat) : FKey := ⟨.SCH_Q_BURST, e, 0⟩
abbrev SCH_Q_CFG_MAX_FRAME (e : Nat) : FKey := ⟨.SCH_Q_CFG, e, 0⟩
abbrev SCH_Q_CFG_WEIGHT (e : Nat) : FKey := ⟨.SCH_Q_CFG, e, 14⟩
abbrev SCH_Q_CFG_LATE_US (e : Nat) : FKey := ⟨.SCH_Q_CFG, e, 22⟩
abbrev SCH_Q_TOKENS_BITS (e : Nat) : FKey := ⟨.SCH_Q_TOKENS, e, 0⟩
abbrev TIM_STATUS_WRITE_IGNORED : FKey := ⟨.TIM_STATUS, 0, 0⟩
abbrev TIM_STATUS_VALID : FKey := ⟨.TIM_STATUS, 0, 1⟩
abbrev TIM_STATUS_REF_LOCKED : FKey := ⟨.TIM_STATUS, 0, 2⟩
abbrev TIM_STATUS_SRC_ACTIVE : FKey := ⟨.TIM_STATUS, 0, 3⟩
abbrev TIM_CFG_SRC : FKey := ⟨.TIM_CFG, 0, 0⟩
abbrev TIM_CFG_PPS_OUT_EN : FKey := ⟨.TIM_CFG, 0, 1⟩
abbrev TIM_CFG_CLK10_OUT_EN : FKey := ⟨.TIM_CFG, 0, 2⟩
abbrev TIM_CFG_SQUELCH : FKey := ⟨.TIM_CFG, 0, 3⟩
abbrev TIM_EVENT_EVENTS : FKey := ⟨.TIM_EVENT, 0, 0⟩
abbrev TIM_MASK_MASK : FKey := ⟨.TIM_MASK, 0, 0⟩
abbrev TIM_NOW_SEC_LO_SEC : FKey := ⟨.TIM_NOW_SEC_LO, 0, 0⟩
abbrev TIM_NOW_SEC_HI_SEC : FKey := ⟨.TIM_NOW_SEC_HI, 0, 0⟩
abbrev TIM_NOW_NS_NS : FKey := ⟨.TIM_NOW_NS, 0, 0⟩
abbrev TIM_NOW_FRAC_FRAC : FKey := ⟨.TIM_NOW_FRAC, 0, 0⟩
abbrev TIM_INC_FRAC_FRAC : FKey := ⟨.TIM_INC_FRAC, 0, 0⟩
abbrev TIM_INC_NS_NS : FKey := ⟨.TIM_INC_NS, 0, 0⟩
abbrev TIM_STEP_SEC_LO_SEC : FKey := ⟨.TIM_STEP_SEC_LO, 0, 0⟩
abbrev TIM_STEP_SEC_HI_SEC : FKey := ⟨.TIM_STEP_SEC_HI, 0, 0⟩
abbrev TIM_STEP_NS_NS : FKey := ⟨.TIM_STEP_NS, 0, 0⟩
abbrev TIM_CMD_OP : FKey := ⟨.TIM_CMD, 0, 0⟩
abbrev TIM_CMD_RESULT_STATUS : FKey := ⟨.TIM_CMD_RESULT, 0, 0⟩
abbrev TIM_CMD_RESULT_OP : FKey := ⟨.TIM_CMD_RESULT, 0, 4⟩
abbrev TIM_PPS_OUT_PPS_OFFSET_NS : FKey := ⟨.TIM_PPS_OUT, 0, 0⟩
abbrev TIM_PPS_OUT_WIDTH_MS : FKey := ⟨.TIM_PPS_OUT, 0, 21⟩
abbrev TIM_TXTS_TAG_TAG : FKey := ⟨.TIM_TXTS_TAG, 0, 0⟩
abbrev TIM_TXTS_TAG_CHANNEL : FKey := ⟨.TIM_TXTS_TAG, 0, 16⟩
abbrev TIM_TXTS_TAG_DEPTH : FKey := ⟨.TIM_TXTS_TAG, 0, 24⟩
abbrev TIM_TXTS_TAG_VALID : FKey := ⟨.TIM_TXTS_TAG, 0, 31⟩
abbrev TIM_TXTS_SEC_LO_SEC : FKey := ⟨.TIM_TXTS_SEC_LO, 0, 0⟩
abbrev TIM_TXTS_SEC_HI_SEC : FKey := ⟨.TIM_TXTS_SEC_HI, 0, 0⟩
abbrev TIM_TXTS_NS_NS : FKey := ⟨.TIM_TXTS_NS, 0, 0⟩
abbrev TIM_TXTS_NS_QNS : FKey := ⟨.TIM_TXTS_NS, 0, 30⟩
abbrev TIM_TXTS_POP_POP : FKey := ⟨.TIM_TXTS_POP, 0, 0⟩
abbrev TIM_CAP_CFG_EDGE (e : Nat) : FKey := ⟨.TIM_CAP_CFG, e, 0⟩
abbrev TIM_CAP_SEC_LO_SEC (e : Nat) : FKey := ⟨.TIM_CAP_SEC_LO, e, 0⟩
abbrev TIM_CAP_SEC_HI_SEC (e : Nat) : FKey := ⟨.TIM_CAP_SEC_HI, e, 0⟩
abbrev TIM_CAP_SEC_HI_DEPTH (e : Nat) : FKey := ⟨.TIM_CAP_SEC_HI, e, 16⟩
abbrev TIM_CAP_SEC_HI_EDGE_RISE (e : Nat) : FKey := ⟨.TIM_CAP_SEC_HI, e, 21⟩
abbrev TIM_CAP_SEC_HI_VALID (e : Nat) : FKey := ⟨.TIM_CAP_SEC_HI, e, 31⟩
abbrev TIM_CAP_NS_NS (e : Nat) : FKey := ⟨.TIM_CAP_NS, e, 0⟩
abbrev TIM_CAP_NS_QNS (e : Nat) : FKey := ⟨.TIM_CAP_NS, e, 30⟩
abbrev TIM_CAP_POP_POP (e : Nat) : FKey := ⟨.TIM_CAP_POP, e, 0⟩
abbrev TIM_CAP_LOST_LOST (e : Nat) : FKey := ⟨.TIM_CAP_LOST, e, 0⟩
abbrev TIM_TRIG_SEC_LO_SEC (e : Nat) : FKey := ⟨.TIM_TRIG_SEC_LO, e, 0⟩
abbrev TIM_TRIG_SEC_HI_SEC (e : Nat) : FKey := ⟨.TIM_TRIG_SEC_HI, e, 0⟩
abbrev TIM_TRIG_NS_NS (e : Nat) : FKey := ⟨.TIM_TRIG_NS, e, 0⟩
abbrev TIM_TRIG_PERIOD_PERIOD_NS (e : Nat) : FKey := ⟨.TIM_TRIG_PERIOD, e, 0⟩
abbrev TIM_TRIG_WIDTH_WIDTH_NS (e : Nat) : FKey := ⟨.TIM_TRIG_WIDTH, e, 0⟩
abbrev TIM_TRIG_CTL_ARM (e : Nat) : FKey := ⟨.TIM_TRIG_CTL, e, 0⟩
abbrev TIM_TRIG_CTL_DISARM (e : Nat) : FKey := ⟨.TIM_TRIG_CTL, e, 1⟩
abbrev TIM_TRIG_STATUS_ARMED (e : Nat) : FKey := ⟨.TIM_TRIG_STATUS, e, 0⟩
abbrev TIM_CH_CFG_P2P (e : Nat) : FKey := ⟨.TIM_CH_CFG, e, 0⟩
abbrev TIM_CH_LINK_DLY_MEAN_LINK_DELAY (e : Nat) : FKey := ⟨.TIM_CH_LINK_DLY, e, 0⟩
abbrev TIM_CH_RX_DLY_RX_DLY (e : Nat) : FKey := ⟨.TIM_CH_RX_DLY, e, 0⟩
abbrev TIM_CH_TX_DLY_TX_DLY (e : Nat) : FKey := ⟨.TIM_CH_TX_DLY, e, 0⟩
abbrev TWN_STATUS_WRITE_IGNORED : FKey := ⟨.TWN_STATUS, 0, 0⟩
abbrev TWN_STATUS_STATE : FKey := ⟨.TWN_STATUS, 0, 1⟩
abbrev TWN_STATUS_MODE : FKey := ⟨.TWN_STATUS, 0, 4⟩
abbrev TWN_STATUS_LINK_UP : FKey := ⟨.TWN_STATUS, 0, 5⟩
abbrev TWN_STATUS_CLAP_IN : FKey := ⟨.TWN_STATUS, 0, 6⟩
abbrev TWN_STATUS_CLAP_OUT : FKey := ⟨.TWN_STATUS, 0, 8⟩
abbrev TWN_STATUS_SYNCED : FKey := ⟨.TWN_STATUS, 0, 10⟩
abbrev TWN_STATUS_SOLO : FKey := ⟨.TWN_STATUS, 0, 11⟩
abbrev TWN_STATUS_CLAPPER_FAULT : FKey := ⟨.TWN_STATUS, 0, 12⟩
abbrev TWN_STATUS_TEST : FKey := ⟨.TWN_STATUS, 0, 13⟩
abbrev TWN_STATUS_ROLE : FKey := ⟨.TWN_STATUS, 0, 14⟩
abbrev TWN_STATUS_NODE_ID : FKey := ⟨.TWN_STATUS, 0, 16⟩
abbrev TWN_LEASE_EPOCH : FKey := ⟨.TWN_LEASE, 0, 0⟩
abbrev TWN_LEASE_HOLDER : FKey := ⟨.TWN_LEASE, 0, 16⟩
abbrev TWN_CFG_LEASE_MS : FKey := ⟨.TWN_CFG, 0, 0⟩
abbrev TWN_CFG_REVERT_S : FKey := ⟨.TWN_CFG, 0, 10⟩
abbrev TWN_SKEW_SKEW_NS : FKey := ⟨.TWN_SKEW, 0, 0⟩
abbrev TWN_EVENT_EVENTS : FKey := ⟨.TWN_EVENT, 0, 0⟩
abbrev TWN_MASK_MASK : FKey := ⟨.TWN_MASK, 0, 0⟩
abbrev TWN_CMD_OP : FKey := ⟨.TWN_CMD, 0, 0⟩
abbrev TWN_CMD_RESULT_STATUS : FKey := ⟨.TWN_CMD_RESULT, 0, 0⟩
abbrev TWN_CMD_RESULT_OP : FKey := ⟨.TWN_CMD_RESULT, 0, 4⟩
abbrev TWN_CMD_RESULT_RUNNING : FKey := ⟨.TWN_CMD_RESULT, 0, 8⟩
abbrev TWN_DISCARDS_EPOCH_DISCARD : FKey := ⟨.TWN_DISCARDS, 0, 0⟩
abbrev TWN_DISCARDS_AUTH_FAIL : FKey := ⟨.TWN_DISCARDS, 0, 16⟩
abbrev TWN_TAKEOVERS_COUNT : FKey := ⟨.TWN_TAKEOVERS, 0, 0⟩
abbrev TWN_STR_CFG_STREAM_ID (e : Nat) : FKey := ⟨.TWN_STR_CFG, e, 0⟩
abbrev TWN_STR_CFG_SC (e : Nat) : FKey := ⟨.TWN_STR_CFG, e, 16⟩
abbrev TWN_STR_SEQ_NEXT_SEQ (e : Nat) : FKey := ⟨.TWN_STR_SEQ, e, 0⟩
abbrev TWN_STR_LAST_LAST_SEQ (e : Nat) : FKey := ⟨.TWN_STR_LAST, e, 0⟩
abbrev HIF_STATUS_WRITE_IGNORED : FKey := ⟨.HIF_STATUS, 0, 0⟩
abbrev HIF_STATUS_LINK_GEN : FKey := ⟨.HIF_STATUS, 0, 1⟩
abbrev HIF_STATUS_LINK_WIDTH : FKey := ⟨.HIF_STATUS, 0, 4⟩
abbrev HIF_STATUS_NUM_VFS : FKey := ⟨.HIF_STATUS, 0, 6⟩
abbrev HIF_PUNT_MAP_MAP : FKey := ⟨.HIF_PUNT_MAP, 0, 0⟩
abbrev HIF_EVENT_EVENTS : FKey := ⟨.HIF_EVENT, 0, 0⟩
abbrev HIF_MASK_MASK : FKey := ⟨.HIF_MASK, 0, 0⟩
abbrev HIF_RS_CTL_ENABLE (e : Nat) : FKey := ⟨.HIF_RS_CTL, e, 0⟩
abbrev HIF_RS_CTL_TX_LOG2 (e : Nat) : FKey := ⟨.HIF_RS_CTL, e, 1⟩
abbrev HIF_RS_CTL_RX_LOG2 (e : Nat) : FKey := ⟨.HIF_RS_CTL, e, 6⟩
abbrev HIF_RS_CTL_CQ_LOG2 (e : Nat) : FKey := ⟨.HIF_RS_CTL, e, 11⟩
abbrev HIF_RS_CTL_HOLDOFF_US (e : Nat) : FKey := ⟨.HIF_RS_CTL, e, 16⟩
abbrev HIF_RS_CTL_STOPPED (e : Nat) : FKey := ⟨.HIF_RS_CTL, e, 26⟩
abbrev HIF_TX_BASE_LO_ADDR (e : Nat) : FKey := ⟨.HIF_TX_BASE_LO, e, 0⟩
abbrev HIF_TX_BASE_HI_ADDR (e : Nat) : FKey := ⟨.HIF_TX_BASE_HI, e, 0⟩
abbrev HIF_RX_BASE_LO_ADDR (e : Nat) : FKey := ⟨.HIF_RX_BASE_LO, e, 0⟩
abbrev HIF_RX_BASE_HI_ADDR (e : Nat) : FKey := ⟨.HIF_RX_BASE_HI, e, 0⟩
abbrev HIF_CQ_BASE_LO_ADDR (e : Nat) : FKey := ⟨.HIF_CQ_BASE_LO, e, 0⟩
abbrev HIF_CQ_BASE_HI_ADDR (e : Nat) : FKey := ⟨.HIF_CQ_BASE_HI, e, 0⟩
abbrev HIF_TX_PROD_INDEX (e : Nat) : FKey := ⟨.HIF_TX_PROD, e, 0⟩
abbrev HIF_TX_CONS_INDEX (e : Nat) : FKey := ⟨.HIF_TX_CONS, e, 0⟩
abbrev HIF_RX_PROD_INDEX (e : Nat) : FKey := ⟨.HIF_RX_PROD, e, 0⟩
abbrev HIF_RX_CONS_INDEX (e : Nat) : FKey := ⟨.HIF_RX_CONS, e, 0⟩
abbrev HIF_CQ_PROD_INDEX (e : Nat) : FKey := ⟨.HIF_CQ_PROD, e, 0⟩
abbrev HIF_CQ_CONS_INDEX (e : Nat) : FKey := ⟨.HIF_CQ_CONS, e, 0⟩
abbrev CHM_STATUS_WRITE_IGNORED : FKey := ⟨.CHM_STATUS, 0, 0⟩
abbrev CHM_PAIR_CFG_OWNER (e : Nat) : FKey := ⟨.CHM_PAIR_CFG, e, 0⟩
abbrev CHM_PAIR_CFG_CORE (e : Nat) : FKey := ⟨.CHM_PAIR_CFG, e, 4⟩
abbrev CHM_OUT_DATA_DATA (e : Nat) : FKey := ⟨.CHM_OUT_DATA, e, 0⟩
abbrev CHM_IN_DATA_DATA (e : Nat) : FKey := ⟨.CHM_IN_DATA, e, 0⟩
abbrev CHM_OUT_SEND_LEN (e : Nat) : FKey := ⟨.CHM_OUT_SEND, e, 0⟩
abbrev CHM_OUT_SEND_ACK_REQ (e : Nat) : FKey := ⟨.CHM_OUT_SEND, e, 6⟩
abbrev CHM_OUT_SEND_TAG (e : Nat) : FKey := ⟨.CHM_OUT_SEND, e, 8⟩
abbrev CHM_OUT_STATUS_FULL (e : Nat) : FKey := ⟨.CHM_OUT_STATUS, e, 0⟩
abbrev CHM_OUT_CTL_WITHDRAW (e : Nat) : FKey := ⟨.CHM_OUT_CTL, e, 0⟩
abbrev CHM_IN_HDR_LEN (e : Nat) : FKey := ⟨.CHM_IN_HDR, e, 0⟩
abbrev CHM_IN_HDR_ACK_REQ (e : Nat) : FKey := ⟨.CHM_IN_HDR, e, 6⟩
abbrev CHM_IN_HDR_FULL (e : Nat) : FKey := ⟨.CHM_IN_HDR, e, 7⟩
abbrev CHM_IN_HDR_TAG (e : Nat) : FKey := ⟨.CHM_IN_HDR, e, 8⟩
abbrev CHM_IN_HDR_SENDER (e : Nat) : FKey := ⟨.CHM_IN_HDR, e, 24⟩
abbrev CHM_IN_POP_POP (e : Nat) : FKey := ⟨.CHM_IN_POP, e, 0⟩
abbrev CHM_NOTICE_TAG (e : Nat) : FKey := ⟨.CHM_NOTICE, e, 0⟩
abbrev CHM_NOTICE_KIND (e : Nat) : FKey := ⟨.CHM_NOTICE, e, 16⟩
abbrev CHM_NOTICE_VALID (e : Nat) : FKey := ⟨.CHM_NOTICE, e, 31⟩
abbrev CHM_EVENT_EVENTS (e : Nat) : FKey := ⟨.CHM_EVENT, e, 0⟩
abbrev CHM_MASK_MASK (e : Nat) : FKey := ⟨.CHM_MASK, e, 0⟩
abbrev TAB_STATUS_WRITE_IGNORED : FKey := ⟨.TAB_STATUS, 0, 0⟩
abbrev TAB_STATUS_LINK_UP : FKey := ⟨.TAB_STATUS, 0, 1⟩
abbrev TAB_STATUS_CREDIT_LANE : FKey := ⟨.TAB_STATUS, 0, 2⟩
abbrev TAB_STATUS_REF_OK : FKey := ⟨.TAB_STATUS, 0, 4⟩
abbrev TAB_STATUS_FIFO_WORDS : FKey := ⟨.TAB_STATUS, 0, 5⟩
abbrev TAB_CFG_EN : FKey := ⟨.TAB_CFG, 0, 0⟩
abbrev TAB_CFG_TX_INV : FKey := ⟨.TAB_CFG, 0, 1⟩
abbrev TAB_CFG_RX_INV : FKey := ⟨.TAB_CFG, 0, 5⟩
abbrev TAB_CFG_CREDIT_TIMEOUT_US : FKey := ⟨.TAB_CFG, 0, 9⟩
abbrev TAB_EVENT_EVENTS : FKey := ⟨.TAB_EVENT, 0, 0⟩
abbrev TAB_MASK_MASK : FKey := ⟨.TAB_MASK, 0, 0⟩
abbrev TAB_GRANTED_COUNT : FKey := ⟨.TAB_GRANTED, 0, 0⟩
abbrev TAB_CONSUMED_COUNT : FKey := ⟨.TAB_CONSUMED, 0, 0⟩
abbrev TAB_CREDIT_BAD_COUNT : FKey := ⟨.TAB_CREDIT_BAD, 0, 0⟩
abbrev TAB_BURSTS_COUNT : FKey := ⟨.TAB_BURSTS, 0, 0⟩
abbrev JNL_STATUS_WRITE_IGNORED : FKey := ⟨.JNL_STATUS, 0, 0⟩
abbrev JNL_STATUS_STATE : FKey := ⟨.JNL_STATUS, 0, 1⟩
abbrev JNL_STATUS_DIES : FKey := ⟨.JNL_STATUS, 0, 4⟩
abbrev JNL_STATUS_DENSITY : FKey := ⟨.JNL_STATUS, 0, 6⟩
abbrev JNL_STATUS_RATE : FKey := ⟨.JNL_STATUS, 0, 8⟩
abbrev JNL_STATUS_NONE_CAUSE : FKey := ⟨.JNL_STATUS, 0, 10⟩
abbrev JNL_CFG_MAX_RATE : FKey := ⟨.JNL_CFG, 0, 0⟩
abbrev JNL_CFG_FLUSH_MS : FKey := ⟨.JNL_CFG, 0, 2⟩
abbrev JNL_CFG_PATROL_DAYS : FKey := ⟨.JNL_CFG, 0, 13⟩
abbrev JNL_CFG_ROLL_EVERY_MIN : FKey := ⟨.JNL_CFG, 0, 18⟩
abbrev JNL_LIFE_LIFE_YEARS : FKey := ⟨.JNL_LIFE, 0, 0⟩
abbrev JNL_LIFE_RATED_PE : FKey := ⟨.JNL_LIFE, 0, 6⟩
abbrev JNL_EVENT_EVENTS : FKey := ⟨.JNL_EVENT, 0, 0⟩
abbrev JNL_MASK_MASK : FKey := ⟨.JNL_MASK, 0, 0⟩
abbrev JNL_DURABLE_LO_JSEQ : FKey := ⟨.JNL_DURABLE_LO, 0, 0⟩
abbrev JNL_DURABLE_HI_JSEQ : FKey := ⟨.JNL_DURABLE_HI, 0, 0⟩
abbrev JNL_OLDEST_LO_JSEQ : FKey := ⟨.JNL_OLDEST_LO, 0, 0⟩
abbrev JNL_OLDEST_HI_JSEQ : FKey := ⟨.JNL_OLDEST_HI, 0, 0⟩
abbrev JNL_FORMAT_FORMAT_COUNT : FKey := ⟨.JNL_FORMAT, 0, 0⟩
abbrev JNL_PLAN_RATE_R_SNARE : FKey := ⟨.JNL_PLAN_RATE, 0, 0⟩
abbrev JNL_PLAN_RATE_R_REC : FKey := ⟨.JNL_PLAN_RATE, 0, 16⟩
abbrev JNL_PLAN_WEAR_E_USED : FKey := ⟨.JNL_PLAN_WEAR, 0, 0⟩
abbrev JNL_PLAN_WEAR_E_EFF : FKey := ⟨.JNL_PLAN_WEAR, 0, 14⟩
abbrev JNL_PLAN_HEALTH_H : FKey := ⟨.JNL_PLAN_HEALTH, 0, 0⟩
abbrev JNL_PLAN_HEALTH_H0 : FKey := ⟨.JNL_PLAN_HEALTH, 0, 8⟩
abbrev JNL_PLAN_HEALTH_GOOD_PERMILLE : FKey := ⟨.JNL_PLAN_HEALTH, 0, 16⟩
abbrev JNL_PLAN_MISC_WA : FKey := ⟨.JNL_PLAN_MISC, 0, 0⟩
abbrev JNL_PLAN_MISC_ROLL_EVERY : FKey := ⟨.JNL_PLAN_MISC, 0, 16⟩
abbrev JNL_DISCARDED_COUNT : FKey := ⟨.JNL_DISCARDED, 0, 0⟩
abbrev JNL_ARG_ARG (e : Nat) : FKey := ⟨.JNL_ARG, e, 0⟩
abbrev JNL_CMD_OP (e : Nat) : FKey := ⟨.JNL_CMD, e, 0⟩
abbrev JNL_CMD_RESULT_STATUS (e : Nat) : FKey := ⟨.JNL_CMD_RESULT, e, 0⟩
abbrev JNL_CMD_RESULT_OP (e : Nat) : FKey := ⟨.JNL_CMD_RESULT, e, 4⟩
abbrev JNL_CMD_RESULT_RUNNING (e : Nat) : FKey := ⟨.JNL_CMD_RESULT, e, 8⟩
abbrev JNL_RES_RES (e : Nat) : FKey := ⟨.JNL_RES, e, 0⟩
abbrev TMP_STATUS_WRITE_IGNORED : FKey := ⟨.TMP_STATUS, 0, 0⟩
abbrev TMP_STATUS_POLICY : FKey := ⟨.TMP_STATUS, 0, 1⟩
abbrev TMP_STATUS_HOLD : FKey := ⟨.TMP_STATUS, 0, 2⟩
abbrev TMP_STATUS_RUNNING : FKey := ⟨.TMP_STATUS, 0, 3⟩
abbrev TMP_STATUS_DEFERRED_PENDING : FKey := ⟨.TMP_STATUS, 0, 4⟩
abbrev TMP_STATUS_RESPONDED : FKey := ⟨.TMP_STATUS, 0, 5⟩
abbrev TMP_STATUS_ASSERTED : FKey := ⟨.TMP_STATUS, 0, 16⟩
abbrev TMP_EVENT_EVENTS : FKey := ⟨.TMP_EVENT, 0, 0⟩
abbrev TMP_MASK_MASK : FKey := ⟨.TMP_MASK, 0, 0⟩
abbrev TMP_CMD_OP : FKey := ⟨.TMP_CMD, 0, 0⟩
abbrev TMP_CMD_SOFT_CODE : FKey := ⟨.TMP_CMD, 0, 8⟩
abbrev TMP_CMD_RESULT_STATUS : FKey := ⟨.TMP_CMD_RESULT, 0, 0⟩
abbrev TMP_CMD_RESULT_OP : FKey := ⟨.TMP_CMD_RESULT, 0, 4⟩
abbrev TMP_LOG_INFO_HEAD : FKey := ⟨.TMP_LOG_INFO, 0, 0⟩
abbrev TMP_LOG_INFO_WRAPPED : FKey := ⟨.TMP_LOG_INFO, 0, 8⟩
abbrev TMP_LOG_SEQ_NEXT_SEQ : FKey := ⟨.TMP_LOG_SEQ, 0, 0⟩
abbrev TMP_BAT_INFO_HEAD : FKey := ⟨.TMP_BAT_INFO, 0, 0⟩
abbrev TMP_BAT_INFO_OVERFLOW : FKey := ⟨.TMP_BAT_INFO, 0, 4⟩
abbrev TMP_BAT_INFO_DEFERRED : FKey := ⟨.TMP_BAT_INFO, 0, 12⟩
abbrev TMP_SRC_CFG_RESPONSE (e : Nat) : FKey := ⟨.TMP_SRC_CFG, e, 0⟩
abbrev TMP_SRC_CFG_DISABLED (e : Nat) : FKey := ⟨.TMP_SRC_CFG, e, 8⟩
abbrev TMP_SRC_CFG_BAT (e : Nat) : FKey := ⟨.TMP_SRC_CFG, e, 9⟩
abbrev TMP_SRC_LIMIT_THRESHOLD (e : Nat) : FKey := ⟨.TMP_SRC_LIMIT, e, 0⟩
abbrev TMP_SRC_VALUE_VALUE (e : Nat) : FKey := ⟨.TMP_SRC_VALUE, e, 0⟩
abbrev TMP_SRC_COUNT_COUNT (e : Nat) : FKey := ⟨.TMP_SRC_COUNT, e, 0⟩
abbrev PWR_STATUS_WRITE_IGNORED : FKey := ⟨.PWR_STATUS, 0, 0⟩
abbrev PWR_STATUS_STATE : FKey := ⟨.PWR_STATUS, 0, 1⟩
abbrev PWR_STATUS_SEQ_RUNNING : FKey := ⟨.PWR_STATUS, 0, 3⟩
abbrev PWR_STATUS_BOOT_SLOT : FKey := ⟨.PWR_STATUS, 0, 4⟩
abbrev PWR_STATUS_BOOT_RESULT : FKey := ⟨.PWR_STATUS, 0, 5⟩
abbrev PWR_STATUS_RESET_CAUSE : FKey := ⟨.PWR_STATUS, 0, 7⟩
abbrev PWR_STATUS_DEBUG_UNLOCKED : FKey := ⟨.PWR_STATUS, 0, 10⟩
abbrev PWR_STATUS_WAKE_CAUSE : FKey := ⟨.PWR_STATUS, 0, 11⟩
abbrev PWR_CMD_OP : FKey := ⟨.PWR_CMD, 0, 0⟩
abbrev PWR_CMD_KEY : FKey := ⟨.PWR_CMD, 0, 16⟩
abbrev PWR_CMD_RESULT_STATUS : FKey := ⟨.PWR_CMD_RESULT, 0, 0⟩
abbrev PWR_CMD_RESULT_OP : FKey := ⟨.PWR_CMD_RESULT, 0, 4⟩
abbrev PWR_CMD_RESULT_RUNNING : FKey := ⟨.PWR_CMD_RESULT, 0, 8⟩
abbrev PWR_EVENT_EVENTS : FKey := ⟨.PWR_EVENT, 0, 0⟩
abbrev PWR_MASK_MASK : FKey := ⟨.PWR_MASK, 0, 0⟩
abbrev PWR_WDOG_TIMEOUT_MS : FKey := ⟨.PWR_WDOG, 0, 0⟩
abbrev PWR_WDOG_KICK : FKey := ⟨.PWR_WDOG, 0, 31⟩
abbrev PWR_WAKE_TIMER_SECONDS : FKey := ⟨.PWR_WAKE_TIMER, 0, 0⟩
abbrev PWR_RECOVER_ADDR_LO_ADDR : FKey := ⟨.PWR_RECOVER_ADDR_LO, 0, 0⟩
abbrev PWR_RECOVER_ADDR_HI_ADDR : FKey := ⟨.PWR_RECOVER_ADDR_HI, 0, 0⟩
abbrev PWR_AVS_CFG_SLACK_TARGET : FKey := ⟨.PWR_AVS_CFG, 0, 0⟩
abbrev PWR_AVS_CFG_SLACK_MIN : FKey := ⟨.PWR_AVS_CFG, 0, 8⟩
abbrev PWR_AVS_CFG_PLAN_H : FKey := ⟨.PWR_AVS_CFG, 0, 16⟩
abbrev PWR_AVS_CFG_EYE_MIN : FKey := ⟨.PWR_AVS_CFG, 0, 24⟩
abbrev PWR_AVS_STATUS_VDD_CORE_MV : FKey := ⟨.PWR_AVS_STATUS, 0, 0⟩
abbrev PWR_AVS_STATUS_V_END_MV : FKey := ⟨.PWR_AVS_STATUS, 0, 10⟩
abbrev PWR_AVS_STATUS_MIN_SLACK : FKey := ⟨.PWR_AVS_STATUS, 0, 20⟩
abbrev PWR_LIFE_LIFE_YEARS : FKey := ⟨.PWR_LIFE, 0, 0⟩
abbrev PWR_DOMAINS_LO_ON : FKey := ⟨.PWR_DOMAINS_LO, 0, 0⟩
abbrev PWR_DOMAINS_HI_ON : FKey := ⟨.PWR_DOMAINS_HI, 0, 0⟩
abbrev CNT_STATUS_WRITE_IGNORED : FKey := ⟨.CNT_STATUS, 0, 0⟩
abbrev CNT_STATUS_ROLL_BUSY : FKey := ⟨.CNT_STATUS, 0, 1⟩
abbrev CNT_ROLL_CFG_PERIOD_MS : FKey := ⟨.CNT_ROLL_CFG, 0, 0⟩
abbrev CNT_ROLL_CFG_EN : FKey := ⟨.CNT_ROLL_CFG, 0, 11⟩
abbrev CNT_ROLL_CFG_JNL_EN : FKey := ⟨.CNT_ROLL_CFG, 0, 12⟩
abbrev CNT_ROLL_CFG_HOST_EN : FKey := ⟨.CNT_ROLL_CFG, 0, 13⟩
abbrev CNT_ROLL_MASK_HOST : FKey := ⟨.CNT_ROLL_MASK, 0, 0⟩
abbrev CNT_ROLL_MASK_JMASK : FKey := ⟨.CNT_ROLL_MASK, 0, 8⟩
abbrev CNT_ROLL_LIMIT_SC_BLOCKS : FKey := ⟨.CNT_ROLL_LIMIT, 0, 0⟩
abbrev CNT_ROLL_BASE_LO_ADDR : FKey := ⟨.CNT_ROLL_BASE_LO, 0, 0⟩
abbrev CNT_ROLL_BASE_HI_ADDR : FKey := ⟨.CNT_ROLL_BASE_HI, 0, 0⟩
abbrev CNT_ROLL_BUF_LOG2_COUNT : FKey := ⟨.CNT_ROLL_BUF, 0, 0⟩
abbrev CNT_ROLL_BUF_STRIDE_MIB : FKey := ⟨.CNT_ROLL_BUF, 0, 8⟩
abbrev CNT_ROLL_WB_LO_ADDR : FKey := ⟨.CNT_ROLL_WB_LO, 0, 0⟩
abbrev CNT_ROLL_WB_HI_ADDR : FKey := ⟨.CNT_ROLL_WB_HI, 0, 0⟩
abbrev CNT_ROLL_SEQ_LO_SEQ : FKey := ⟨.CNT_ROLL_SEQ_LO, 0, 0⟩
abbrev CNT_ROLL_SEQ_HI_SEQ : FKey := ⟨.CNT_ROLL_SEQ_HI, 0, 0⟩
abbrev CNT_EVENT_EVENTS : FKey := ⟨.CNT_EVENT, 0, 0⟩
abbrev CNT_MASK_MASK : FKey := ⟨.CNT_MASK, 0, 0⟩
abbrev CNT_SEC_STAMP_SEC : FKey := ⟨.CNT_SEC_STAMP, 0, 0⟩
abbrev CNT_VF_EN_EN : FKey := ⟨.CNT_VF_EN, 0, 0⟩
abbrev CNT_SAMPLE_CFG_CHANNEL : FKey := ⟨.CNT_SAMPLE_CFG, 0, 0⟩
abbrev CNT_SAMPLE_CFG_CLASS_MASK : FKey := ⟨.CNT_SAMPLE_CFG, 0, 8⟩
abbrev CNT_SAMPLE_CFG_SAMPLE_N : FKey := ⟨.CNT_SAMPLE_CFG, 0, 16⟩
abbrev CNT_SAMPLE_CFG_FATE : FKey := ⟨.CNT_SAMPLE_CFG, 0, 21⟩
abbrev CNT_SAMPLE_POP_POP : FKey := ⟨.CNT_SAMPLE_POP, 0, 0⟩
abbrev CNT_SAMPLE_DEPTH_DEPTH : FKey := ⟨.CNT_SAMPLE_DEPTH, 0, 0⟩
abbrev CNT_SAMPLE_HEAD_DATA (e : Nat) : FKey := ⟨.CNT_SAMPLE_HEAD, e, 0⟩
abbrev CNT_PROG_SEL_CODE (e : Nat) : FKey := ⟨.CNT_PROG_SEL, e, 0⟩
abbrev CNT_PROG_SEL_CHAIN (e : Nat) : FKey := ⟨.CNT_PROG_SEL, e, 5⟩
abbrev CNT_PROG_SEL_PER_SEC (e : Nat) : FKey := ⟨.CNT_PROG_SEL, e, 6⟩
abbrev CNT_PROG_SEL_OVF (e : Nat) : FKey := ⟨.CNT_PROG_SEL, e, 7⟩
abbrev CNT_PROG_SEL_CHANNEL (e : Nat) : FKey := ⟨.CNT_PROG_SEL, e, 8⟩
abbrev CNT_PROG_SEL_CLASS_MASK (e : Nat) : FKey := ⟨.CNT_PROG_SEL, e, 16⟩
abbrev CNT_PROG_ARG_ARG (e : Nat) : FKey := ⟨.CNT_PROG_ARG, e, 0⟩
abbrev FUS_STATUS_WRITE_IGNORED : FKey := ⟨.FUS_STATUS, 0, 0⟩
abbrev FUS_STATUS_CHECK_OK : FKey := ⟨.FUS_STATUS, 0, 1⟩
abbrev FUS_STATUS_PENDING : FKey := ⟨.FUS_STATUS, 0, 2⟩
abbrev FUS_VARIANT_VARIANT : FKey := ⟨.FUS_VARIANT, 0, 0⟩
abbrev FUS_FLOORS_PEAL_FLOOR : FKey := ⟨.FUS_FLOORS, 0, 0⟩
abbrev FUS_FLOORS_FW_FLOOR : FKey := ⟨.FUS_FLOORS, 0, 8⟩
abbrev FUS_DEBUG_DEBUG_NEVER : FKey := ⟨.FUS_DEBUG, 0, 0⟩
abbrev FUS_DEBUG_T_HIGH_REDUCE : FKey := ⟨.FUS_DEBUG, 0, 1⟩
abbrev FUS_DEBUG_T_LOW_RAISE : FKey := ⟨.FUS_DEBUG, 0, 8⟩
abbrev FUS_PROG_WORD_WORD : FKey := ⟨.FUS_PROG_WORD, 0, 0⟩
abbrev FUS_PROG_BITS_BITS : FKey := ⟨.FUS_PROG_BITS, 0, 0⟩
abbrev FUS_CMD_OP : FKey := ⟨.FUS_CMD, 0, 0⟩
abbrev FUS_CMD_KEY : FKey := ⟨.FUS_CMD, 0, 16⟩
abbrev FUS_CMD_RESULT_STATUS : FKey := ⟨.FUS_CMD_RESULT, 0, 0⟩
abbrev FUS_CMD_RESULT_OP : FKey := ⟨.FUS_CMD_RESULT, 0, 4⟩
abbrev FUS_CMD_RESULT_RUNNING : FKey := ⟨.FUS_CMD_RESULT, 0, 8⟩
abbrev FUS_SIG_ECDSA_DIGEST (e : Nat) : FKey := ⟨.FUS_SIG_ECDSA, e, 0⟩
abbrev FUS_SIG_MLDSA_DIGEST (e : Nat) : FKey := ⟨.FUS_SIG_MLDSA, e, 0⟩
abbrev FUS_SIG_REVOKE_REVOKED (e : Nat) : FKey := ⟨.FUS_SIG_REVOKE, e, 0⟩
abbrev FUS_TMP_DISABLE (e : Nat) : FKey := ⟨.FUS_TMP, e, 0⟩
abbrev FUS_TMP_MIN_RESPONSE (e : Nat) : FKey := ⟨.FUS_TMP, e, 8⟩
abbrev FUS_TMP_DEFAULT_RESPONSE (e : Nat) : FKey := ⟨.FUS_TMP, e, 16⟩
abbrev VF_STATUS_WRITE_IGNORED (e : Nat) : FKey := ⟨.VF_STATUS, e, 0⟩
abbrev VF_STATUS_REQUESTER (e : Nat) : FKey := ⟨.VF_STATUS, e, 1⟩
abbrev VF_EVENT_EVENTS (e : Nat) : FKey := ⟨.VF_EVENT, e, 0⟩
abbrev VF_MASK_MASK (e : Nat) : FKey := ⟨.VF_MASK, e, 0⟩

end Sys2Proof.Machine.F
end

