-- ==== Sys2Proof/Machine/Map.lean ====
section
/-! DEFINITION. Sparse tables as plain data: a list of (key, value) pairs in one canonical form. An
unlisted key reads as a default; no listed value equals its default, keys rise in the order of `code`,
so that equal tables are equal lists. -/

namespace Sys2Proof.Machine

/-- A sparse table. -/
abbrev Tab (κ α : Type) := List (κ × α)

/-- The value at a key, or the default of an unlisted key. -/
def Tab.get {κ α : Type} [DecidableEq κ] (t : Tab κ α) (d : α) (k : κ) : α :=
  match t with
  | [] => d
  | (k', v) :: r => if k = k' then v else Tab.get r d k

/-- The table without a key. -/
def Tab.erase {κ α : Type} [DecidableEq κ] (t : Tab κ α) (k : κ) : Tab κ α :=
  t.filter (fun p => p.1 ≠ k)

/-- A pair put before the first entry whose code is not below its own. -/
def Tab.insert {κ α : Type} (code : κ → Nat) (k : κ) (v : α) : Tab κ α → Tab κ α
  | [] => [(k, v)]
  | p :: r => if code p.1 < code k then p :: Tab.insert code k v r else (k, v) :: p :: r

/-- A write: the default removes the entry, any other value replaces it in its place. -/
def Tab.put {κ α : Type} [DecidableEq κ] [DecidableEq α] (code : κ → Nat) (t : Tab κ α) (d : α)
    (k : κ) (v : α) : Tab κ α :=
  if v = d then t.erase k else Tab.insert code k v (t.erase k)

/-- A table keyed by numbers. -/
abbrev NTab (α : Type) := Tab Nat α

/-- A write to a table keyed by numbers. -/
def NTab.set {α : Type} [DecidableEq α] (t : NTab α) (d : α) (k : Nat) (v : α) : NTab α :=
  Tab.put id t d k v

/-- Every listed value of a table changed; values that become the default leave the list. -/
def NTab.update {α : Type} [DecidableEq α] (t : NTab α) (d : α) (f : Nat → α → α) : NTab α :=
  (t.map (fun p => (p.1, f p.1 p.2))).filter (fun p => p.2 ≠ d)

/-- The codes of a list of keys rise strictly. -/
def Tab.rising {κ α : Type} (code : κ → Nat) : Tab κ α → Bool
  | [] => true
  | [_] => true
  | p :: q :: r => decide (code p.1 < code q.1) && Tab.rising code (q :: r)

/-- The canonical form: codes rise strictly and no entry equals its key's default. -/
def Tab.wf {κ α : Type} [DecidableEq α] (code : κ → Nat) (d : κ → α) (t : Tab κ α) : Bool :=
  t.rising code && t.all (fun p => p.2 ≠ d p.1)

end Sys2Proof.Machine
end

