-- ==== Sys2Proof/Machine/State.lean ====
section
/-! DEFINITION. The state of the device as plain data. Whatever a register shows is a cell of `regs`, a
sparse table of register fields whose default is the field's reset value, or is computed from the
records below (State.view); the records hold what no register shows whole: banks, tables, queues,
frames in flight, keys, logs, timers and pins. -/

namespace Sys2Proof.Machine

/-- The machine stops with a fault. -/
inductive Fault where
  /-- Raised by a register access (REGISTER_WRITE, SUBWORD_WRITE, UNMAPPED) whose operands name no access at all: a width
  that the row does not have, a requester above 12, or an offset beyond BAR0 (R125, R328, R438). Safe: the model stops
  where no such access exists. -/
  | operandRange
deriving DecidableEq, Repr

/-- The model has no meaning for the command. -/
inductive Refusal where
  /-- Raised by exec for a command whose meaning is not written. Safe: the model stops. -/
  | notModelled (mnemonic : String)
deriving DecidableEq, Repr

/-! ### Time (chapter 12) -/

/-- An entry of a capture FIFO (R302). -/
structure CapEntry where
  at' : Stamp
  rise : Bool
deriving DecidableEq, Repr

/-- An entry of the transmit stamp FIFO (R297). -/
structure TxStamp where
  tag : Nat
  channel : Nat
  at' : Stamp
deriving DecidableEq, Repr

/-- A trigger output (R303): what ARM read of its registers, and the TAI instant (ns) of its next edge
while armed; `highUntil` is the TAI instant at which a high output falls. -/
structure Trigger where
  armed : Bool := false
  start : Nat := 0
  period : Nat := 0
  width : Nat := 0
  edge : Nat := 0
  highUntil : Nat := 0
deriving DecidableEq, Repr

/-- The time unit. `now` is TAI in units of 2^-32 ns (SEC, NS and FRAC as one number, R282), `inc` is INC
in the same unit; `latch` holds the time each requester latched (R287); `ppsFrom` is the instant up to
which no pulse is due any more, `ppsDone` the latest instant that was pulsed and `ppsUntil` the instant at which a high PPS_OUT
falls (R290); `clkHold` is the level that CLK10_OUT keeps after a step, and until when (R291). -/
structure TimeUnit where
  now : Nat := 0
  inc : Nat := 0x200000000
  latch : NTab Nat := []
  ppsFrom : Nat := 0
  ppsDone : Nat := 0
  ppsUntil : Nat := 0
  clkHold : Option (Bool × Nat) := none
  trig : NTab Trigger := []
  cap : NTab (List CapEntry) := []
  capLast : NTab Nat := []
  txts : List TxStamp := []
deriving DecidableEq, Repr

/-! ### Counters (chapter 18) -/

/-- A sample record (R433), by its fields. -/
structure SampleRec where
  seq : Nat
  inCh : Nat
  outCh : Nat := 255
  cls : Nat := 0
  cutThrough : Bool := false
  cold : Bool := false
  recalled : Bool := false
  short : Bool := false
  depth : Bool := false
  program : Nat := 0
  endIndex : Nat := 0
  executed : Nat := 0
  dropCode : Nat := 0
  cell : Nat := 0x7FFFF
  dsn : Nat := 0
  engine : Nat := 255
  sc : Nat := 0xFFFF
  tIn : Nat := 0
  qns : Nat := 0
  waitNs : Nat := 0
  engineNs : Nat := 0
  transit : Nat := 0
  length : Nat := 0
deriving DecidableEq, Repr

/-- What a Roll latch holds until its dump is written (R428, R429): the header's values and every
counter as it stood. -/
structure RollLatch where
  seq : Nat
  sec : Nat
  ns : Nat
  timeValid : Bool
  skipped : Nat
  fixed : NTab Nat
  prog : NTab Nat
  perSec : NTab Nat
  seqNext : Nat := 0
deriving DecidableEq, Repr

/-- The counters. `fixed` and `prog` are keyed by the offset of the counter in the PF window (R421) and by
its number (R423); `perSec` holds the latched values of R427; `roll` is the dump being written;
`rollNext` is the TAI instant (ms) of the last latch; `sample` is the frame being followed (its handle
and its record so far). `vfSlot` gives the VF window slot of an SC (R434). -/
structure Counters where
  fixed : NTab Nat := []
  prog : NTab Nat := []
  perSec : NTab Nat := []
  rollSeq : Nat := 0
  rollMs : Nat := 0
  rollSkipped : Nat := 0
  rollsSinceJournal : Nat := 0
  roll : Option RollLatch := none
  sample : Option (Nat × SampleRec) := none
  sampleFifo : List SampleRec := []
  sampleSeq : Nat := 0
  vfSlot : List (Nat × Nat × Nat) := []
deriving DecidableEq, Repr

/-! ### Peal banks (chapter 02) -/

/-- The two banks: the image of the Active bank, of the VERIFIED or ARMED Shadow bank, and of the
released bank while it drains (R28); the TAI instant of an armed Strike (ns); the address and length
that LOAD read; and whether a Strike has completed since the last device reset (R15, R55). -/
structure Peal where
  active : Option Image := none
  shadow : Option Image := none
  old : Option Image := none
  armAt : Nat := 0
  loadAddr : Nat := 0
  loadLen : Nat := 0
  struck : Bool := false
deriving DecidableEq, Repr

/-! ### Ports (chapter 03) -/

/-- The loss conditions present at each endpoint or FlexE PHY (keyed by 32 for the line side plus its
first lane; 0 lock or alignment, 1 hi_ber, 2 local fault, 3 remote fault), the FlexE PHYs, by first lane, that have
declared LINK_UP, and the endpoints whose transmitter waits for Tw (R71). -/
structure Ports where
  loss : NTab (List Nat) := []
  phyUp : List Nat := []
  waking : List Nat := []
deriving DecidableEq, Repr

/-! ### FlexE (chapter 04) -/

/-- A marker candidate that a searching instance follows (R84, R85): its phase, the position it waits for
(1 to 7 within its frame, 8 the next frame start) and the fields of its marker. -/
structure FlexCand where
  phase : Nat
  pos : Nat
  group : Nat
  inst : Nat
  omf : Bool
deriving DecidableEq, Repr

/-- An instance (R86, R87, R99). `lock` is the frame that a LOCKED instance follows; `sinceChange` counts the
frames since the last OMF change while multiframe lock is sought, `mfPos` is the place of the next frame
in the multiframe under multiframe lock, `omfWrong` the consecutive disagreements. The last received C, with
the frame of the multiframe that brought it, CR and CA; the client IDs of calendars A and B of the present multiframe, by slot, as
far as its frames have passed the CRC (`colA`, `colB`), and of the last multiframe whose frames 0 to 19 all did (R93); the
arrival of frame 0, the mismatches present, and the running counters. -/
structure FlexInst where
  cands : List FlexCand := []
  lock : Option FlexCand := none
  miss : Nat := 0
  sinceChange : Option Nat := none
  mfPos : Nat := 0
  omfWrong : Nat := 0
  c : Option Nat := none
  cAt : Option Nat := none
  cr : Option Nat := none
  ca : Option Nat := none
  colA : Option (List Nat) := none
  colB : Option (List Nat) := none
  calA : Option (List Nat) := none
  calB : Option (List Nat) := none
  arrival : Option Nat := none
  lof : Bool := false
  lomf : Bool := false
  gidBad : Bool := false
  instBad : Bool := false
  rpfTx : Bool := true
  crcErr : Nat := 0
  missRun : Nat := 0
  falseRun : Nat := 0
  defects : Nat := 0
deriving DecidableEq, Repr

/-- A group (R88, R91 to R95): its four pages, CR and CA as transmitted, the skew fixed at alignment, the clients down for a calendar mismatch (R94), and the FLEXE
content that waits for a swap to complete (R95). -/
structure FlexGrp where
  txA : List (Option Nat) := []
  txB : List (Option Nat) := []
  rxA : List (Option Nat) := []
  rxB : List (Option Nat) := []
  cr : Nat := 0
  ca : Nat := 0
  skew : Nat := 0
  calDown : List Nat := []
  waiting : Option FlexGroup := none
deriving DecidableEq, Repr

/-- The running block counters of a FlexE client (R99), as far as commands bring blocks: those of received and sent frames, and
those received in error. -/
structure FlexCli where
  rx : Nat := 0
  err : Nat := 0
  tx : Nat := 0
deriving DecidableEq, Repr

/-- A transmitted overhead frame (R81): the place of the frame in its multiframe, OMF, C, CR, CA and RPF, the group number, the
number of the instance and the FlexE map, the client IDs of the two calendars' slots that the frame carries (0 for a slot without
a client, none from frame 20 on), SC, whether the management channel carries idle control blocks, and the CRC-16. -/
structure OhSent where
  inst : Nat
  frame : Nat
  omf : Bool
  c : Nat
  cr : Nat
  ca : Nat
  rpf : Bool
  groupNumber : Nat
  instNumber : Nat
  map : List Nat
  slotA : Option Nat
  slotB : Option Nat
  sc : Bool := false
  idle : Bool := true
  crc : Nat
deriving DecidableEq, Repr

/-- The FlexE shim. -/
structure Flex where
  inst : NTab FlexInst := []
  grp : NTab FlexGrp := []
  cli : NTab FlexCli := []
deriving DecidableEq, Repr

/-! ### Tables (chapter 05) -/

/-- A MAC entry (R112). -/
structure MacEntry where
  valid : Bool := false
  static : Bool := false
  hit : Bool := false
  stale : Bool := false
  bd : Nat := 0
  mac : Nat := 0
  channel : Nat := 0
  sc : Nat := 0
  scDefault : Bool := false
deriving DecidableEq, Repr

/-- A prefix of an LPM trie with its result: the head bits left-aligned in 32 or 128 bits (R120, R126). -/
structure Prefix where
  addr : Nat
  len : Nat
  channel : Nat
  sc : Nat
  scDefault : Bool
deriving DecidableEq, Repr

/-- A node in use: its level (1 and up), the head of 16 + 8 × (level - 1) bits it stands for and its index
in the pool. Its 256 words follow from the prefixes (R121). -/
structure LpmNode where
  level : Nat
  head : Nat
  index : Nat
deriving DecidableEq, Repr

/-- A trie: its prefixes in ascending address then length order, its nodes and the batches of replaced
nodes that wait 256 cycles (R123). -/
structure Lpm where
  prefixes : List Prefix := []
  nodes : List LpmNode := []
  returning : List (List Nat) := []
deriving DecidableEq, Repr

/-- A learn event (R116). -/
structure LearnEv where
  bd : Nat
  mac : Nat
  channel : Nat
deriving DecidableEq, Repr

/-- The forwarding tables and their manager. `owner` gives the holder of a partition's lock; `guarded`
holds the sources that contradicted a static entry (R117); `lease` gives, for a held lock, its LEASE_US and the
TAI instant (ns) of its acquisition or last renewal; `seed0` and `seed1` are the seeds in force, `drawn0` and `drawn1` the numbers
of the draws of the DRBG that stand for them where the section leaves a seed at 0 (R113). -/
structure Tables where
  mac : NTab MacEntry := []
  seed0 : Nat := 0
  seed1 : Nat := 0
  drawn0 : Nat := 0
  drawn1 : Nat := 0
  lpm4 : Lpm := {}
  lpm6 : Lpm := {}
  learn : List LearnEv := []
  guarded : List LearnEv := []
  owner : NTab (Option Nat) := []
  lease : NTab (Nat × Nat) := []
  brush : Nat := 0
deriving DecidableEq, Repr

/-! ### Frames, the shared buffer and the switch core (chapter 06) -/

/-- What stage 4 read of a received SecTAG (R166): its offset in the frame, whether it carries an SCI, its
AN and its PN field. -/
structure SecTag where
  off : Nat
  sci : Bool
  an : Nat
  pn : Nat
deriving DecidableEq, Repr

/-- A frame in the buffer. `bytes` runs to the byte before the FCS, `len` is the frame length (R14); `tIn` is
t_in in quarter nanoseconds of TAI; `inPort` is its core input (R141) and `inCh` its ingress channel, 255
for none; `queue` is its queue (R136); `ct` is the choice of R147 once made and `td` the departure instant in
quarter nanoseconds once selected. `cellsMin`, `cellsShared`, `cellsProg` and `cellsHead` say from which parts of
R137 its cells come, and `cellNos` their numbers in order (R132); `head` is the frame's first 256 bytes, its FCS included, and
`rxLen` its length as the MAC received it, where it came by one (R149, R152); `before` is H_c as it stood before the frame was
selected (R259); `cold` is the SA whose fetch it waits for (R223); `snared` lists the sessions that have captured it. `host` is the ring set and TAG of a frame
that a ring set sent; `dual` the stream, sequence and t_in of a copy on the Twin link or received from it. -/
structure Frame where
  id : Nat
  inPort : Nat
  inCh : Nat := 255
  bytes : Bytes
  len : Nat
  tag : Bool := false
  tIn : Nat := 0
  cls : Nat := 0
  action : Action := .clear
  outCh : Nat := 255
  sc : Option Nat := none
  secTag : Option SecTag := none
  sa : Option Nat := none
  launch : Option Nat := none
  due : Bool := false
  fcsOk : Bool := true
  fecOk : Bool := true
  truncated : Bool := false
  tailLate : Bool := false
  ct : Option Bool := none
  cold : Option Nat := none
  learn : Option LearnEv := none
  cellsMin : Nat := 0
  cellsShared : Nat := 0
  cellsProg : Nat := 0
  cellsHead : Nat := 0
  cellNos : List Nat := []
  head : Option Bytes := none
  rxLen : Option Nat := none
  before : Nat := 0
  ptp : Option PtpRequest := none
  host : Option (Nat × Nat) := none
  dual : Option (Nat × Nat × Nat) := none
  queue : Nat := 0
  snared : List Nat := []
  queuedAt : Nat := 0
  td : Nat := 0
deriving DecidableEq, Repr

/-- A capture copy in a Snare queue (R149, R152): `cell` is the cell that holds what it captured, the head cell of its frame or,
for a frame dropped before it was written, one of its own (R135); `inPort` the core input of that cell. -/
structure SnareCopy where
  session : Nat
  cell : Nat
  inPort : Nat
  dropped : Bool
  tag : Bool
  tIn : Nat
  inCh : Nat
  outCh : Nat
  cls : Nat
  action : Action
  len : Nat
  sc : Nat
  code : Nat
  data : Bytes
deriving DecidableEq, Repr

/-- A Snare session (R148, R154): its LFSR, its record count, the records lost since its last record and
its queue. -/
structure Snare where
  lfsr : Nat := 0
  seq : Nat := 0
  lost : Nat := 0
  queue : List SnareCopy := []
deriving DecidableEq, Repr

/-- The frame an output has in progress for a class (R143): its queue, the input that holds it and the
cells still to send. -/
structure Sending where
  queue : Nat
  input : Nat
  cells : Nat
deriving DecidableEq, Repr

/-- The shared buffer and the central scheduler. `writer` gives, by core input, the free list from which its writer takes the next
cell (R133); `ready` holds the queues whose head has been matched and waits for dispatch or delivery; `sending` is keyed by 8 × output + class, `grant` by input, `accept` by output,
`rotate` by 8 × output + class (R261); `bundleIn` is the rotation of a bundle's inputs (R142); `paused`
holds the channels whose partner has paused them (R139). -/
structure Buffer where
  nextId : Nat := 0
  writer : NTab Nat := []
  queues : NTab (List Frame) := []
  ready : List Nat := []
  sending : NTab (Option Sending) := []
  grant : NTab Nat := []
  accept : NTab Nat := []
  rotate : NTab Nat := []
  bundleIn : NTab Nat := []
  paused : List Nat := []
  snare : NTab Snare := []
deriving DecidableEq, Repr

/-! ### Scheduling (chapter 11) -/

/-- The gate unit of a channel (R270, R273, R275): the running list, the list that waits for its first
cycle start (`some none` where the running list is to be removed) with its take-up point `since`, and the instant
of a write of GATE_EN = 1 that still waits for a cycle start. Instants in TAI ns. -/
structure Gate where
  running : Option GateList := none
  pending : Option (Option GateList) := none
  since : Nat := 0
  waitEn : Option Nat := none
deriving DecidableEq, Repr

/-- A frame fully committed that is still on the wire of its channel: its class, and its end in quarter ns (R274). -/
structure WireFrame where
  ch : Nat
  cls : Nat
  fin : Nat
deriving DecidableEq, Repr

/-- The scheduler. `horizon` is H_c by channel (R258), in TAI time and in 2^20ths of a quarter nanosecond; `tokens` the shapers in millibits and `rate` the rates in force of
the ordinary shapers, keyed by shaper number; `credit`, by queue, and `turn`, by channel, the deficit round robin
of R260; `wire` the frames fully committed and not yet off the wire. -/
structure Sched where
  wire : List WireFrame := []
  horizon : NTab Nat := []
  tokens : NTab Int := []
  rate : NTab Nat := []
  credit : NTab Int := []
  turn : NTab Nat := []
  gate : NTab Gate := []
deriving DecidableEq, Repr

/-! ### The engine pool and the resequencer (chapters 07 and 08) -/

/-- What the patch unit needs of a protected frame (R165, R179): the bytes of its clear tags and whether they are
authenticated, the bytes of secure data sent in clear, the lengths of AAD and ciphertext, the CONFIDENTIALITY of its SC, and H. -/
structure SealInfo where
  tags : Nat
  tagAuth : Bool
  clear : Nat
  aad : Nat
  ct : Nat
  conf : Bool
  hash : Block
deriving DecidableEq, Repr

/-- What the engine found of a received protected frame (R166 to R170): its SC, SA and full PN, whether it passes
validation, its Twin tag (node, stream, sequence) and the offset of its SecTAG with the tag's length. -/
structure OpenInfo where
  sc : Nat
  sa : Nat
  pn : Nat
  valid : Bool
  twin : Option (Nat × Nat × Nat)
  off : Nat
  tagLen : Nat
deriving DecidableEq, Repr

/-- A tracking slot (R189): the frame, its output channel and DSN, its engine (16 the bypass lane, none for
a recalled frame that waits to be dispatched again), the SA index and the PN, the bytes that leave the engine, what
sealing or opening tells, whether it is held for verification (R172), the Twin tag sequence, the MTU of its channel at its
dispatch (R76), the chunks committed, whether its head has gone to egress once (R203), whether it was recalled, whether it was
dropped after dispatch, and its dispatch instant (quarter ns). -/
structure Slot where
  frame : Frame
  ch : Nat
  dsn : Nat
  engine : Option Nat
  sa : Option Nat := none
  pn : Nat := 0
  out : Bytes := []
  sealed : Option SealInfo := none
  opened : Option OpenInfo := none
  verified : Bool := false
  seq : Option Nat := none
  mtu : Nat := 0
  committed : Nat := 0
  headGone : Bool := false
  recalled : Bool := false
  dropped : Bool := false
  at' : Nat := 0
deriving DecidableEq, Repr

/-- The pool. `slots` are in global dispatch order; `keys` the SAs whose keys an engine's cache holds,
latest first (R187); `bitmap` the accepted sequences of a duplicate context (R170); `testing` the engine
under known-answer tests for RESTORE. -/
structure Pool where
  slots : List Slot := []
  keys : NTab (List Nat) := []
  bitmap : NTab (List Nat) := []
  testing : Option Nat := none
deriving DecidableEq, Repr

/-! ### Secure associations (chapter 09) -/

/-- States of an SA; the numbers are those of CTRL.STATE (R214). -/
inductive SaState where
  | free | staged | installed | active | retiring | orphaned
deriving DecidableEq, Repr

/-- An SC entry (R212). `owner` is a requester number. -/
structure Sc where
  created : Bool := false
  enable : Bool := false
  rx : Bool := false
  sci : Nat := 0
  conf : Bool := false
  offset : Nat := 0
  clearTags : Nat := 0
  tagAuth : Bool := false
  twinTagged : Bool := false
  dupCtx : Nat := 0
  channel : Nat := 0
  owner : Nat := 0
  egress : Nat := 0
  slots : List (Option Nat) := [none, none, none, none]
  txAn : Nat := 0
  txValid : Bool := false
  nextAn : Nat := 0
  rollMode : Nat := 0
  overlapMs : Nat := 0
  window : Nat := 0
  rollNs : Nat := 0
  rollSec : Nat := 0
deriving DecidableEq, Repr

/-- An SA entry (R214). `key` holds the SAK, a 128-bit key in its upper half; `posted` says that PN_THRESHOLD
has been posted for the threshold in force (R225), `heard` that a receive SA has accepted a frame while ACTIVE (R217). `parentLevel` 1 names a domain slot (R315). -/
structure Sa where
  state : SaState := .free
  rx : Bool := false
  suite : Nat := 0
  key : Key := 0
  salt : Nat := 0
  ssci : Nat := 0
  nextPn : Nat := 0
  threshold : Nat := 0
  blockEnd : Nat := 0
  pinned : Bool := false
  accepting : Bool := false
  an : Nat := 0
  exhausted : Bool := false
  sc : Nat := 0
  parent : Nat := 0
  parentGen : Nat := 0
  parentLevel : Nat := 0
  actSeq : Nat := 0
  retireAt : Nat := 0
  posted : Bool := false
  heard : Bool := false
deriving DecidableEq, Repr

/-- A command of a requester's window that waits until its SA is on die, with the argument words it read when it started
(R218, R234). -/
structure SamWait where
  who : Nat
  op : Nat
  sa : Nat
  args : List Nat
deriving DecidableEq, Repr

/-- The SA manager. `sciMap` holds the SC of each used entry of the SCI map with its SCI (R213); `onDie` the
SAs in the on-die store, latest used first (R221); `seed0` and `seed1` number the draws of the DRBG that are SEED_0 and SEED_1; `fetch` the pending cold fetches, oldest first (R223);
`evq` the event queue (R233) as (code, SA); `waits` the commands that wait for the fetch of an SA, oldest first, and `queue` the
(requester, OP) of those that wait behind a ROLL_NOW (R218, R220), `flr` the requesters whose results an FLR zeroizes once their
command ends (R330); `pnWait` the SAs whose wait has been posted (R224). -/
structure SaUnit where
  sc : NTab Sc := []
  sa : NTab Sa := []
  sciMap : NTab (Option (Nat × Nat)) := []
  seed0 : Nat := 0
  seed1 : Nat := 1
  onDie : List Nat := []
  fetch : List Nat := []
  evq : List (Nat × Nat) := []
  waits : List SamWait := []
  queue : List (Nat × Nat) := []
  flr : List Nat := []
  actSeq : Nat := 0
  pnWait : List Nat := []
deriving DecidableEq, Repr

/-! ### The key store (chapter 10) -/

/-- Slot states; the numbers are those of the descriptor (R238). -/
inductive KeyState where
  | empty | valid | orphaned | sealed
deriving DecidableEq, Repr

/-- A slot of the domain, group or CAK level with its descriptor (R238) and its key; `ick` and `kek` are the
derived keys of a CAK (R242). -/
structure KeySlot where
  state : KeyState := .empty
  origin : Nat := 0
  exportable : Bool := false
  testRoot : Bool := false
  gen : Nat := 0
  parentIndex : Nat := 0
  parentLevel : Nat := 0
  parentGen : Nat := 0
  id : Nat := 0
  ckn : BitVec 128 := 0
  created : Nat := 0
  key : Key := 0
  ick : Key := 0
  kek : Key := 0
deriving DecidableEq, Repr

/-- An open hybrid session of the initiator (R248 to R250); `expiry` is its TAI instant in ns, `msg1` the
message 1 it wrote. -/
structure HybSession where
  slot : Nat
  gen : Nat
  peer : Nat
  ckn : BitVec 128
  kemSeed : Nat
  ecdhPriv : Nat
  expiry : Nat
  msg1 : HybMsg
deriving DecidableEq, Repr

/-- The key store. `challenge` is the latest challenge with its TAI instant in ns while it is unused
(R244); `sweeps` the invalidated slots (level, index) whose sweep runs (R245); `tableKey` numbers the draw of the DRBG that is the
SA table key (R215); `root` is the root in use (none after ZEROIZE_ALL or a failed reconstruction); `rootBarred` that ZEROIZE_ALL has run in this reset period (R247); `batKey` the
battery store key (R241), none until the root stands or once it is zeroized, `batLost` that the last power-up found VBAT lost. -/
structure KeyUnit where
  domain : NTab KeySlot := []
  group : NTab KeySlot := []
  cak : NTab KeySlot := []
  root : Option Key := none
  rootBarred : Bool := false
  tableKey : Nat := 0
  batKey : Option Key := none
  batLost : Bool := false
  challenge : Option (BitVec 128 × Nat) := none
  sweeps : List (Nat × Nat) := []
  hyb : NTab (Option HybSession) := []
deriving DecidableEq, Repr

/-! ### The twin (chapter 13) -/

/-- A sent frame that waits for its acknowledgement (R309): when it was first and last sent (TAI ns). -/
structure TwinSent where
  hdr : TwinHdr
  msg : TwinMsg
  firstAt : Nat
  sentAt : Nat
  resends : Nat := 0
deriving DecidableEq, Repr

/-- The handover under way at the active twin (R325): the ROLE REQ was accepted or YIELD given, then GRANT
sent. -/
inductive Handover where
  | idle | draining | granted
deriving DecidableEq, Repr

/-- The twin unit. Instants are TAI ns. `session` is the session key while a session runs; `heard` that the peer has
sent a HELLO since the last session (R321); `random` this twin's HELLO random; `txSeq` the frames sent in the session,
`rxSeq` the highest MSG_SEQ taken of the acknowledged types; `leaseEnd` the end of this twin's lease, `peerLeaseEnd` of
the peer's as this twin counts it; `driveSince` when the output became DRIVE, `inDrive` when the input was last DRIVE
(R313) and `left` that the input has left DRIVE (R311); `permit` the bulk permission of R324; `resEnd` RES_END by SA,
`reserved` the SAs with a RESERVE sent and its end (R317); `synced` the records of SYNC and MIRROR that wait for SYNC_END
(R314); `holdOff` the instant at which the revert hold-off ends (R325); `rxChanged` the receive SAs whose NEXT_RX_PN has
changed since it was last mirrored, and `beats` the HEARTBEATs since (R315). -/
structure TwinUnit where
  session : Option Key := none
  heard : Bool := false
  random : Block := 0
  txSeq : Nat := 0
  rxSeq : Nat := 0
  unacked : List TwinSent := []
  peerState : TwinState := .init
  peerSynced : Bool := false
  peerNode : Nat := 0
  leaseEnd : Nat := 0
  peerLeaseEnd : Nat := 0
  driveSince : Nat := 0
  inDrive : Option Nat := none
  left : Bool := false
  permit : Bool := false
  handover : Handover := .idle
  resEnd : NTab Nat := []
  reserved : NTab Nat := []
  synced : List MirrorRec := []
  holdOff : Option Nat := none
  rxChanged : List Nat := []
  beats : Nat := 0
deriving DecidableEq, Repr

/-! ### Host interface, Chime and Tabor (chapter 14) -/

/-- A ring set (R332, R334, R336): frames fetched and not yet completed, frames delivered (SEQ), whether an
interrupt waits for the hold-off and the instant of the last one (TAI ns). -/
structure RingSet where
  open' : Nat := 0
  seq : Nat := 0
  irqWait : Bool := false
  irqAt : Option Nat := none
deriving DecidableEq, Repr

/-- A Chime mailbox (R338, R339); its words are the OUT_DATA cells of the sending view. -/
structure Mailbox where
  full : Bool := false
  len : Nat := 0
  ack : Bool := false
  tag : Nat := 0
  sender : Nat := 0
deriving DecidableEq, Repr

/-- The kinds of notice; the numbers are those of CHM_NOTICE.KIND (R351). -/
inductive NoticeKind where
  | acked | abortedOut | abortedIn
deriving DecidableEq, Repr

/-- Chime: mailbox 2p and 2p + 1 of each pair, the notice FIFO of each view (0 to 7 the host views, 8 to 15
the core views), and the pairs on which CROSSED may not be set again yet (R344). -/
structure Chime where
  box : NTab Mailbox := []
  notices : NTab (List (NoticeKind × Nat)) := []
  crossed : List Nat := []
deriving DecidableEq, Repr

/-- A record in the Tabor FIFO (R347, R349): its session, t_in in quarter ns of TAI (none for a LOSS
record) and its bytes. -/
structure TaborRec where
  session : Nat
  tIn : Option Nat
  data : Bytes
deriving DecidableEq, Repr

/-- The Tabor port: its FIFO, BURST_SEQ, the tenth of a second of TAI up to which TIME blocks have been
sent, whether a valid CREDIT arrived since the link came up or credit was lost, the last COUNT accepted, and the TAI ns at which the
latest valid CREDIT arrived (R349). -/
structure Tabor where
  fifo : List TaborRec := []
  burstSeq : Nat := 0
  timeSent : Nat := 0
  creditOk : Bool := false
  lastCount : Option Nat := none
  creditAt : Nat := 0
deriving DecidableEq, Repr

/-- The host interface: ring sets 0 to 7 of the PF, 8 + 2(v - 1) + r of VFv and 24 to 27 of the cores; the
functions' completer aborts and bus errors logged (R340); whether a PCIe link-up has been seen since
power-up (R390). -/
structure HostIf where
  ring : NTab RingSet := []
  aborts : List (Nat × Nat) := []
  linkSeen : Bool := false
deriving DecidableEq, Repr

/-! ### The journal (chapter 15) -/

/-- A journal record (R357): its class, its JSEQ, the time it was accepted (TAI ns), its FRAG and LAST flags
with FRAG_NO, its body, whether it is durable, readable and refreshed, and the segment it lies in. -/
structure JRec where
  cls : JClass
  jseq : Nat
  sec : Nat
  ns : Nat
  frag : Bool := false
  last : Bool := false
  fragNo : Nat := 0
  refreshed : Bool := false
  body : Bytes
  durable : Bool := false
  readable : Bool := true
  segment : Nat := 0
deriving DecidableEq, Repr

/-- A journal command that has been accepted (R372): its requester, its OP, and what its READ will find or its plan take for what
nothing has counted. -/
structure JnlCmd where
  who : Nat
  op : Nat
  bad : List Nat := []
  gaps : PlanGaps := ⟨0, 0, 0⟩
deriving DecidableEq, Repr

/-- A die population that the journal controller accepts (R353): the dies of all four channels, and of each the density in Gb, the KiB
of data of a page, the planes, the blocks of a plane and the pages of a TLC block. -/
structure Population where
  dies : Nat
  density : Nat
  pageKib : Nat
  planes : Nat
  blocks : Nat
  pages : Nat
deriving DecidableEq, Repr

/-- A copy of the superblock (R356): its generation, the population, FORMAT_COUNT, IN_SERVICE_SEC, LIFE_YEARS, H0 as the sum and
the number of the patrol reads of the first 7 days (R368), the JSEQ of the log head, the erases of the blocks and those of the log area
since FORMAT, the log-area blocks at FORMAT, and the bad-block table. -/
structure Superblock where
  gen : Nat
  pop : Population
  formatCount : Nat
  inServiceSec : Nat
  lifeYears : Nat
  h0 : Nat × Nat
  checkpoint : Nat
  wear : NTab Nat
  logErases : Nat
  atFormat : Nat
  bad : List Nat
deriving DecidableEq, Repr

/-- What the last 30 days of plans count (R368, R369), at a TAI instant in ns: bytes programmed, record bytes accepted, those of them of
classes that are never limited, and the bytes of a Roll dump. -/
structure JTally where
  at' : Nat
  programmed : Nat := 0
  accepted : Nat := 0
  mandatory : Nat := 0
  roll : Nat := 0
deriving DecidableEq, Repr

/-- The journal controller. `recs` holds the records staged and those that can be read, oldest first; `waiting`
the records that find staging full (R360); `staged` counts the bytes in staging; `bucket` is the Snare bucket as it
stood at `bucketAt` (TAI ns, R369); `oldestUnflushed` the TAI ns at which the oldest unflushed record was accepted;
`progTo` the JSEQ up to which a flush has asked for programming; `cmds` the accepted commands, the running one first,
and `flush` the JSEQ that a running FLUSH waits for; `erased` the records erased.
The medium (R353 to R356, R365 to R367): `pop` the population, `marks` the blocks that the factory marked, `bad` the bad-block table,
`sys` the blocks of the system area, `wear` the erases of each block, `patrol` the highest corrected bit count recorded of a page;
a block is numbered plane by plane, a page block by block. `ring` holds the segments written, oldest first, `free` those that hold
nothing; `openLog` is the segment at the log head, with the bytes programmed in it and those of the first record that is not durable
that are programmed already; `sysRing`, `openSys`, `sysAt` and `sysPart` are the same of the system area, by blocks. `super` holds the
two copies of the superblock, the newer first.
For the plan (R368 to R370): `inServiceSec` is IN_SERVICE_SEC, `logErases` and `atFormat` the log-area erases since FORMAT and its
blocks at FORMAT, `reads` the patrol reads of the last 30 days with their TAI ns, `h0` their sum and number in the first 7 days,
`tally` what counts in WA and in the rates, from `dataFrom` on (TAI ns), and `planTel` and `planAt` the t_el and the TAI ns of the
last plan. -/
structure Journal where
  recs : List JRec := []
  waiting : List JRec := []
  nextJseq : Nat := 1
  staged : Nat := 0
  bucket : Nat := 0
  bucketAt : Nat := 0
  oldestUnflushed : Option Nat := none
  progTo : Nat := 0
  cmds : List JnlCmd := []
  flush : Option Nat := none
  erased : List Nat := []
  pop : Option Population := none
  marks : List Nat := []
  bad : List Nat := []
  sys : List Nat := []
  wear : NTab Nat := []
  patrol : NTab Nat := []
  ring : List Nat := []
  free : List Nat := []
  openLog : Option Nat := none
  headAt : Nat := 0
  part : Nat := 0
  sysRing : List Nat := []
  openSys : Option Nat := none
  sysAt : Nat := 0
  sysPart : Nat := 0
  super : List Superblock := []
  inServiceSec : Nat := 0
  logErases : Nat := 0
  atFormat : Nat := 0
  reads : List (Nat × Nat) := []
  h0 : Nat × Nat := (0, 0)
  tally : List JTally := []
  dataFrom : Nat := 0
  planned : Bool := false
  planTel : Nat := 0
  planAt : Nat := 0
  rSnare : Nat := 0
deriving DecidableEq, Repr

/-! ### The tamper unit (chapter 16) -/

/-- A tamper log entry (R395), by its fields. -/
structure LogEntry where
  seq : Nat
  sec : Nat
  ns : Nat
  source : Nat
  kind : Nat
  mask : Nat
  deferred : Nat := 0
  state : Nat
  policy : Bool
  timeValid : Bool
  battery : Bool := false
  sameInstant : Bool := false
  estimated : Bool := false
  value : Nat := 0
deriving DecidableEq, Repr

/-- An entry of the battery log and whether it has been copied into the on-die log (R396). -/
structure BatEntry where
  entry : LogEntry
  copied : Bool := false
deriving DecidableEq, Repr

/-- The tamper unit. `log` is keyed by index 0 to 255, `bat` by 0 to 15; `batMask` are the battery domain's
copies of the masks of the BAT sources (R387); `omitReset` lists the sources still asserted when a RESET
response began (R385); `held` says that the device is held in reset; `journaled` is the SEQ up to which entries have been
copied to the journal (R397); `events` counts entries since the device reset (R394); `onBattery` and
`lastSec` serve R389; `pend` is the mask of a run whose steps wait for their domains (R30, R391, R392) and `pendSrc` the
source it names in a NOTICE; `loopA` and `loopB` number the draws that
seeded the sequences of loops A and B, `loopRun` counts the steps they had made at the TAI instant `loopAt` (ns, R377). -/
structure Tamper where
  log : NTab (Option LogEntry) := []
  bat : NTab (Option BatEntry) := []
  batMask : NTab Nat := []
  omitReset : List Nat := []
  held : Bool := false
  journaled : Nat := 0
  events : Nat := 0
  onBattery : Bool := false
  lastSec : Option Nat := none
  pend : Nat := 0
  pendSrc : Nat := 0
  loopA : Nat := 3
  loopB : Nat := 4
  loopRun : Nat := 0
  loopAt : Nat := 0
deriving DecidableEq, Repr

/-! ### Power, clocks, reset and fuses (chapters 17 and 19) -/

/-- Power states; the numbers of the first four are those of PWR_STATUS.STATE (R419). -/
inductive PowerState where
  | startUp | active | doze | standby | hibernate
deriving DecidableEq, Repr

/-- What the running sequence of R401 or R402 ends in: the slots of a reset, a data-plane start into a state,
the entry of STANDBY or HIBERNATE, or the POWER section of a Strike. -/
inductive SeqGoal where
  | boot | start (dest : PowerState) | stop (dest : PowerState) | powerSection
deriving DecidableEq, Repr

/-- A ledger entry (R418), by its fields. -/
structure LedgerEntry where
  vPlan : Nat
  temp : Int
  slack : Int
  monitor : Nat
  k100 : Nat
  drift10 : Int
  vEnd : Nat
  margin10 : Nat
  eyeHeight : Nat
  eyeHeightLane : Nat
  eyeWidth : Nat
  eyeWidthLane : Nat
  hours : Nat
  flags : Nat
deriving DecidableEq, Repr

/-- The power controller. `on` lists the switched domains that are on, by number, and `seq` the switchings
still to make, (close, domain), in slot order (R401, R402); `wakes` the wake causes that arrived while
HIBERNATE was being entered (R404); `saved` the time base kept in AON (R288); `wdogLast` the TAI instant
(ns) of the last watchdog expiry and `wdogFrom` of its last restart (R409); `challenge` numbers the draw that is DBG_CHALLENGE; `token` the debug token that AON keeps (R413); `raise'` the
voltage of the last raise and its instant (R417); `peals` are the Peals of the boot flash, in the order in which firmware tries
them after a recovery boot (R55); `planDue` that the plan of the first Strike is still to run and `planAt` the
instant of the last plan (R416); `running` lists the PWR commands that run; `dpReset` and `cpReset` that a plane is in reset; `wakeReset` that the last reset was a wake
reset. -/
structure Power where
  state : PowerState := .startUp
  goal : Option SeqGoal := some .boot
  on : List Nat := []
  seq : List (Bool × Nat) := []
  wakes : Nat := 0
  saved : Nat := 0
  wdogLast : Option Nat := none
  wdogFrom : Nat := 0
  bootMeas : Digest := 0
  fwMeas : Digest := 0
  fwSvn : Nat := 0
  fwRunning : Bool := false
  booted : Bool := false
  challenge : Nat := 2
  token : Option DebugToken := none
  ledger : List LedgerEntry := []
  raise' : Option (Nat × Nat) := none
  lowSince : Bool := false
  planDue : Bool := false
  planAt : Nat := 0
  peals : List PealCopy := []
  running : List Nat := []
  dpReset : Bool := false
  cpReset : Bool := false
  wakeReset : Bool := false
deriving DecidableEq, Repr

/-- The fuse array (R448 to R450): the variant and serial number, the blown rollback-floor bits, the words
0x00 to 0x75 that BLOW may target as blown, and both as loaded at the last device reset. -/
structure Fuses where
  variant : Variant := .gd1640
  serial : Nat := 0
  floor : Nat := 0
  words : NTab Nat := []
  floorLoaded : Nat := 0
  loaded : NTab Nat := []
  faults : List (Nat × Bool) := []
deriving DecidableEq, Repr

/-! ### What leaves the device -/

/-- What the device puts out, in the order of `State.out`: a frame from a transmit port (stomped or not), a
PAUSE frame, a write to the memory of a function, an MSI-X message, an event that a management core receives (R54, R382),
an overhead frame of a FlexE instance, a frame of the Twin link, a block on the Tabor link, the value a read returns to a requester, the levels of output pins, the
start of firmware on the cores (true FW, false BOOT), and the two results that boot firmware reports when no Peal of the flash
verifies (R55). -/
inductive Output where
  | frame (ch : Nat) (bytes : Bytes) (stomped : Bool) (td : Nat)
  | pause (ch quanta : Nat)
  | dma (addr : Nat) (bytes : Bytes)
  | msix (vec : Nat)
  | core (core vec : Nat)
  | overhead (f : OhSent)
  | twin (h : TwinHdr) (msg : TwinMsg) (frame : Bytes)
  | tabor (bytes : Bytes)
  | read (who : Nat) (value : Nat)
  | pps (high : Bool)
  | trig (t : Nat) (high : Bool)
  | clap (v : Clap)
  | lpi (ch : Nat) (on : Bool)
  | mainEnable (high : Bool)
  | extReset (low : Bool)
  | pcieUp (up : Bool)
  | coreLoad (fw : Bool)
  | pealFailed (one two : Nat)
  | saCopy (sa : Nat) (copy : Bytes)
deriving DecidableEq, Repr

/-! ### The state -/

/-- The state of the device. `irq` lists the MSI-X vectors whose condition is pending, `free` counts the
free values taken so far (the model's own field), `out` is what has left the device, latest first, and
`pending` the queue of commands. -/
structure State where
  regs : Tab FKey Nat := []
  fus : Fuses := {}
  irq : List Nat := []
  tim : TimeUnit := {}
  cnt : Counters := {}
  pel : Peal := {}
  prt : Ports := {}
  flx : Flex := {}
  tbl : Tables := {}
  buf : Buffer := {}
  sch : Sched := {}
  pool : Pool := {}
  sam : SaUnit := {}
  key : KeyUnit := {}
  twn : TwinUnit := {}
  hif : HostIf := {}
  chm : Chime := {}
  tab : Tabor := {}
  jnl : Journal := {}
  tmp : Tamper := {}
  pwr : Power := {}
  out : List Output := []
  free : Nat := 0
  pending : List Instr := []
deriving DecidableEq, Repr

/-- The shipped value of a fuse word that BLOW may target (R376, R378, R379, R449): the tamper source words
hold MIN_RESPONSE 0x01 and their DEFAULT_RESPONSE; every other word is unblown. -/
def Fuses.shipped (w : Nat) : Nat :=
  match [0x03, 0x03, 0x2B, 0x03, 0x2B, 0x33, 0x2B, 0x51, 0x33, 0x03, 0x03, 0x0B, 0x0B, 0x03, 0x03, 0x03][w - 0x66]? with
  | some d => if w < 0x66 then 0 else d * 65536 + 0x0100
  | none => 0

/-- The engines that the order codes carry (R1). -/
def enginesPresent : Variant → Nat
  | .gd1640 => 16
  | .gd1620 => 8
  | .gd1610 => 4

/-- The engine states after the known-answer tests of a reset have passed (R204): IN_SERVICE for every
engine present. -/
def enginesInService (v : Variant) : Tab FKey Nat :=
  (List.range (enginesPresent v)).map (fun e => (F.DRM_ENG_STATUS_STATE e, 1))

/-- The device right after a device reset of a GD1640 at power-on, with its engines tested and the start-up
sequence of R401 still to run: every register at its reset value, no Peal, nothing queued. The variant
and the fuse contents are the model's choice of part. -/
def State.reset : State :=
  { regs := Tab.put FKey.code (enginesInService .gd1640) 0 F.FUS_STATUS_CHECK_OK 1
    key := { tableKey := 5 }
    free := 6
    pwr := { seq := [55, 48, 44, 45, 46, 47, 42, 41, 49, 50, 51, 43, 52].map (fun d => (true, d)) } }

end Sys2Proof.Machine
end

