-- ==== Sys2Proof/Machine/Ops.lean ====
section
/-! DEFINITION. The operations that every family shares: register cells, events and interrupts, time,
status codes, requesters and variants. -/

namespace Sys2Proof.Machine
open Sys2Proof

/-! ### Register cells -/

/-- The value of a register field. -/
def State.get (s : State) (k : FKey) : Nat := Tab.get s.regs k.reset k

/-- A field set to a value. -/
def State.set (s : State) (k : FKey) (v : Nat) : State :=
  { s with regs := Tab.put FKey.code s.regs k.reset k v }

/-- Several fields set, in order. -/
def State.sets (s : State) (l : List (FKey × Nat)) : State := l.foldl (fun s p => s.set p.1 p.2) s

/-- A counting field of `w` bits moved up by `n`, saturating (the RC counters). -/
def State.bump (s : State) (k : FKey) (w n : Nat) : State := s.set k (min (s.get k + n) (2 ^ w - 1))

/-- The power controller put in place. -/
def State.setPwr (s : State) (p : Power) : State := { s with pwr := p }

/-- The value leaves the device. -/
def State.emit (s : State) (o : Output) : State := { s with out := o :: s.out }

/-- A free value: a number below `2 ^ w` of which nothing is known. -/
def State.draw (s : State) (w : Nat) : Nat := Config.random s.free % 2 ^ w

/-- The free values move on. -/
def State.drew (s : State) : State := { s with free := s.free + 1 }

/-! ### Status codes and requesters -/

/-- The status codes (R18). -/
inductive Status where
  | ok | stateConflict | badArgument | noResource | busy | aborted | denied | absent
deriving DecidableEq, Repr

/-- The value of a status code (R18). -/
def Status.code : Status → Nat
  | .ok => 0
  | .stateConflict => 1
  | .badArgument => 2
  | .noResource => 3
  | .busy => 4
  | .aborted => 5
  | .denied => 6
  | .absent => 7

/-- The code of a command: that of the first of its checks that holds, OK if none does. Commands list their
checks in the order ABSENT, DENIED, BAD_ARGUMENT, STATE_CONFLICT, NO_RESOURCE, BUSY (R19). -/
def firstStatus : List (Bool × Status) → Status
  | [] => .ok
  | (c, st) :: r => if c then st else firstStatus r

/-- The requester is a virtual function (R125). -/
def isVf (who : Nat) : Bool := 5 ≤ who && who ≤ 12

/-- The requester is a management core (R125). -/
def isCore (who : Nat) : Bool := who ≤ 3

/-- The PF's requester number (R125). -/
def pf : Nat := 4

/-! ### Variants (R1) -/

/-- The order code's unit limits: ports per side. -/
def portsPerSide : Variant → Nat
  | .gd1640 => 8
  | .gd1620 => 4
  | .gd1610 => 2

/-- The part has the FlexE shim. -/
def hasFlexe (v : Variant) : Bool := v = .gd1640

/-- The part has the Twin link, the asymmetric engine and the journal. -/
def hasTwin (v : Variant) : Bool := v ≠ .gd1610

/-- The channels that an order code can hold (R63). -/
def channelInVariant (v : Variant) (ch : Nat) : Bool :=
  let n := 4 * portsPerSide v
  decide (ch < n) || (decide (32 ≤ ch) && decide (ch < 32 + n)) ||
    (hasFlexe v && decide (64 ≤ ch) && decide (ch < 192))

/-- The device number that names the variant in VARIANT_MASK and FUS_VARIANT (R42, R448). -/
def variantNumber : Variant → Nat
  | .gd1640 => 0
  | .gd1620 => 1
  | .gd1610 => 2

/-- The ORDER_CODE of TOP_ID (R446). -/
def orderCode : Variant → Nat
  | .gd1640 => 0x1640
  | .gd1620 => 0x1620
  | .gd1610 => 0x1610

/-! ### Fuses (R448, R449) -/

/-- A fuse word as the device loaded it at its last reset. -/
def State.fuse (s : State) (w : Nat) : Nat := Tab.get s.fus.loaded (Fuses.shipped w) w

/-- A tamper source is disabled by fuse (R379). -/
def State.srcDisabled (s : State) (src : Nat) : Bool := field (s.fuse (0x66 + src)) 0 1 = 1

/-- MIN_RESPONSE of a source (R58). -/
def State.minResponse (s : State) (src : Nat) : Nat := field (s.fuse (0x66 + src)) 8 8

/-- DEFAULT_RESPONSE of a source (R58). -/
def State.defaultResponse (s : State) (src : Nat) : Nat := field (s.fuse (0x66 + src)) 16 8

/-- T_HIGH_MAX in 1/16 °C (R378, R448). -/
def State.tHighMax (s : State) : Int := (125 - (field (s.fuse 0x65) 1 7 : Int)) * 16

/-- T_LOW_MIN in 1/16 °C (R378, R448). -/
def State.tLowMin (s : State) : Int := (-55 + (field (s.fuse 0x65) 8 7 : Int)) * 16

/-- DEBUG_NEVER (R413). -/
def State.debugNever (s : State) : Bool := field (s.fuse 0x65) 0 1 = 1

/-- A fused SHA-384 key digest of a signer slot; `t` 0 ECDSA, 1 ML-DSA (R449). -/
def State.signerDigest (s : State) (slot t : Nat) : Digest :=
  BitVec.ofNat 384 ((List.range 12).foldl (fun n w => n * 2 ^ 32 + s.fuse (slot * 24 + t * 12 + w)) 0)

/-- The revoke bit of a signer slot (R47). -/
def State.revoked (s : State) (slot : Nat) : Bool := field (s.fuse (0x60 + slot)) 0 1 = 1

/-- Steps 3 and 4 of R47 over a signature block: slot, digests, and both signatures over a digest. -/
def State.signerOk (s : State) (slot : Nat) (b : SigBlock) : Bool :=
  decide (slot < 4) && !s.revoked slot &&
    Config.sha384 (beBytes 97 b.ecdsaKey) = s.signerDigest slot 0 &&
    Config.sha384 (beBytes 2592 b.mldsaKey) = s.signerDigest slot 1

/-- Both signatures of a block verify over a digest (R44). -/
def sigsOk (b : SigBlock) (d : Digest) : Bool :=
  Config.ecdsaVerify b.ecdsaKey d b.ecdsaSig && Config.mldsaVerify b.mldsaKey d b.mldsaSig

/-! ### Time (R282) -/

/-- One second in the unit of the time base, 2^-32 ns. -/
def second : Nat := 1000000000 * 2 ^ 32

/-- TAI in nanoseconds. -/
def State.nowNs (s : State) : Nat := s.tim.now / 2 ^ 32

/-- TAI in quarter nanoseconds (R283). -/
def State.nowQns (s : State) : Nat := s.tim.now / 2 ^ 30

/-- TAI whole seconds. -/
def State.nowSec (s : State) : Nat := s.tim.now / second

/-- The nanoseconds within the second. -/
def State.nowSubNs (s : State) : Nat := s.nowNs % 1000000000

/-- A time in quarter nanoseconds as a stamp (R283). -/
def stampOf (qns : Nat) : Stamp := ⟨qns / 4000000000, qns / 4 % 1000000000, qns % 4⟩

/-- The time base is valid (R282). -/
def State.timeValid (s : State) : Bool := s.get F.TIM_STATUS_VALID = 1

/-! ### Events and interrupts (R331) -/

/-- The MASK field that belongs to an EVENT field, and the interrupt vector that both serve. Vectors 0 to 31
are the PF's, 32 + 4 (v - 1) + k is vector k of VFv. -/
def eventMask (k : FKey) : Option (FKey × Nat) :=
  match k.reg with
  | .TOP_EVENT => some (F.TOP_MASK_MASK, 0)
  | .PEL_EVENT => some (F.PEL_MASK_MASK, 1)
  | .PRT_EP_EVENT => some (F.PRT_EP_MASK_MASK k.elem, 2)
  | .FLX_GRP_EVENT => some (F.FLX_GRP_MASK_MASK k.elem, 3)
  | .TBL_EVENT => some (F.TBL_MASK_MASK, 5)
  | .DRM_EVENT => some (F.DRM_MASK_MASK, 7)
  | .SAM_EVENT => some (F.SAM_MASK_MASK, 9)
  | .KEY_EVENT => some (F.KEY_MASK_MASK, 10)
  | .SCH_EVENT => some (F.SCH_MASK_MASK, 11)
  | .TIM_EVENT => some (F.TIM_MASK_MASK, 12)
  | .TWN_EVENT => some (F.TWN_MASK_MASK, 13)
  | .HIF_EVENT => some (F.HIF_MASK_MASK, 14)
  | .TAB_EVENT => some (F.TAB_MASK_MASK, 16)
  | .JNL_EVENT => some (F.JNL_MASK_MASK, 17)
  | .TMP_EVENT => some (F.TMP_MASK_MASK, 18)
  | .PWR_EVENT => some (F.PWR_MASK_MASK, 19)
  | .CNT_EVENT => some (F.CNT_MASK_MASK, 20)
  | .VF_EVENT => some (F.VF_MASK_MASK k.elem, 32 + 4 * k.elem + 3)
  | _ => none

/-- Some event of a vector is set whose MASK bit is 1. -/
def State.vectorPending (s : State) (vec : Nat) : Bool :=
  s.regs.any (fun p => match eventMask p.1 with
    | some (m, v) => v = vec && decide (p.2 &&& s.get m ≠ 0)
    | none => false)

/-- What leaves the device when a vector fires: the message, and for a PEL completion the event of management core 0 (R54,
R331). -/
def vectorOut (vec : Nat) : List Output := if vec = 1 then [.core 0 1, .msix 1] else [.msix vec]

/-- The vector fires when its condition becomes true, and is released when it becomes false (R331). -/
def State.refreshIrq (s : State) (vec : Nat) : State :=
  if s.vectorPending vec then
    if vec ∈ s.irq then s else { s with irq := s.irq ++ [vec], out := vectorOut vec ++ s.out }
  else { s with irq := s.irq.filter (· ≠ vec) }

/-- A vector fires once whatever is pending (ring sets, and IRQ of R382). -/
def State.fire (s : State) (vec : Nat) : State := s.emit (.msix vec)

/-- An event posted: bit `i` of an EVENT field is set, and its vector fires if the mask lets it (R331). -/
def State.post (s : State) (k : FKey) (i : Nat) : State :=
  let s := s.set k (setBit (s.get k) i)
  match eventMask k with
  | some (_, v) => s.refreshIrq v
  | none => s

/-- Event bits cleared by a W1C write, and the vector released if nothing is left pending. -/
def State.clearEvents (s : State) (k : FKey) (bits : Nat) : State :=
  let s := s.set k (clearBits (s.get k) bits)
  match eventMask k with
  | some (_, v) => s.refreshIrq v
  | none => s

/-- A write that the device ignores: WRITE_IGNORED of the block, or of the VF's own status register for a
write through its BAR0 (R440, R445). -/
def State.ignored (s : State) (who : Nat) (blockFlag : FKey) : State :=
  if isVf who then s.set (F.VF_STATUS_WRITE_IGNORED (who - 5)) 1 else s.set blockFlag 1

end Sys2Proof.Machine
end

