-- ==== Sys2Proof/Machine/Image.lean ====
section
/-! DEFINITION. The bytes of what the device verifies: the container of a Peal image (R42 to R44) and its GATES section (R269),
the domain package (R244), the debug token (R413) and the firmware images (R411). -/

namespace Sys2Proof.Machine
open Sys2Proof

/-! ### The signature block (R44) -/

/-- The signature block at an offset. -/
def sigBlockOf (bs : Bytes) (off : Nat) : SigBlock :=
  { ecdsaKey := beAt bs off 97, zero97 := beAt bs (off + 97) 7, mldsaKey := beAt bs (off + 104) 2592
    ecdsaSig := beAt bs (off + 2696) 96, mldsaSig := beAt bs (off + 2792) 4627, zero7419 := beAt bs (off + 7419) 5 }

/-- The bytes of a signature block. -/
def sigBytes (b : SigBlock) : Bytes :=
  beBytes 97 b.ecdsaKey ++ beBytes 7 b.zero97 ++ beBytes 2592 b.mldsaKey ++ beBytes 96 b.ecdsaSig ++ beBytes 4627 b.mldsaSig ++
    beBytes 5 b.zero7419

/-! ### The GATES section (R269) -/

/-- Entries of a gate list from an offset on; none where the bytes run out or a zero field is not zero. -/
def gateEntriesOf (bs : Bytes) : Nat → Nat → Option (List (Nat × Nat))
  | 0, _ => some []
  | n + 1, off =>
    if off + 8 ≤ bs.length ∧ beAt bs (off + 1) 3 = 0 then
      (gateEntriesOf bs n (off + 8)).map ((beAt bs off 1, beAt bs (off + 4) 4) :: ·)
    else none

/-- Gate lists from an offset on. -/
def gateListsOf (bs : Bytes) : Nat → Nat → Option (List GateList)
  | 0, _ => some []
  | n + 1, off =>
    let count := beAt bs (off + 2) 2
    if off + 24 ≤ bs.length ∧ beAt bs (off + 1) 1 = 0 ∧ beAt bs (off + 14) 2 = 0 ∧ beAt bs (off + 20) 4 = 0 then
      match gateEntriesOf bs count (off + 24) with
      | some es =>
        (gateListsOf bs n (off + 24 + 8 * count)).map
          (⟨beAt bs off 1, beAt bs (off + 4) 4, beAt bs (off + 8) 6, beAt bs (off + 16) 4, es⟩ :: ·)
      | none => none
    else none

/-- A GATES section; bytes that do not follow its layout are no gate lists. Bytes after its last list are not read (DESIGN
CHOICE, log entry 92). -/
def gatesSection (bs : Bytes) : SectionBody :=
  if 4 ≤ bs.length ∧ beAt bs 2 2 = 0 then
    match gateListsOf bs (beAt bs 0 2) 4 with
    | some ls => .gates ls
    | none => .other
  else .other

/-! ### The container (R42, R43) -/

/-- Entry `i` of the section table, with the section it names. Of the sections, GATES alone has a byte layout. -/
def sectionEntryOf (c : PealCopy) (i : Nat) : SectionEntry :=
  let o := 64 + 64 * i
  let bs := slice c.bytes (beAt c.bytes (o + 4) 4) (beAt c.bytes (o + 8) 4)
  { typ := beAt c.bytes o 2, zero2 := beAt c.bytes (o + 2) 2, offset := beAt c.bytes (o + 4) 4
    length := beAt c.bytes (o + 8) 4, zero12 := beAt c.bytes (o + 12) 4
    digest := BitVec.ofNat 384 (beAt c.bytes (o + 16) 48), bytes := bs
    body := if beAt c.bytes o 2 = 7 then gatesSection bs else (c.bodies[i]?).getD .other }

/-- The image that a copy holds. -/
def imageOf (c : PealCopy) : Image :=
  let at' := beAt c.bytes
  let sigOff := at' 40 4
  { magic := at' 0 4, format := at' 4 2, headerLen := at' 6 2, imageLen := at' 8 4, variantMask := at' 12 1
    signerSlot := at' 13 1, svn := at' 14 1, flags := at' 15 1, imageId := at' 16 8, buildTime := at' 24 8
    sectionCount := at' 32 2, zero34 := at' 34 2, tableOffset := at' 36 4, sigOffset := sigOff, zero44 := at' 44 20
    entries := (List.range (at' 32 2)).map (sectionEntryOf c)
    sig := sigBlockOf c.bytes sigOff
    digest := Config.sha384 (c.bytes.take sigOff) }

/-! ### Packages, tokens and firmware (R244, R411, R413) -/

/-- Bytes 0 to 1,695 of a domain package. -/
def packageHead (p : DomainPackage) : Bytes :=
  beBytes 1568 p.kemCt ++ beBytes 97 p.ecdhPub ++ beBytes 1 p.signerSlot ++ beBytes 2 p.domainId ++ beBytes 2 p.nodeId ++
    beBytes 2 p.zero1670 ++ beBytes 8 p.serial ++ beBytes 16 p.challenge.toNat

/-- Bytes 0 to 1,735, which the signatures cover. -/
def packageSigned (p : DomainPackage) : Bytes := packageHead p ++ p.wrapped.flatMap (beBytes 8)

/-- Bytes 0 to 31 of a debug token, which its signatures cover. -/
def tokenSigned (t : DebugToken) : Bytes :=
  beBytes 4 t.magic ++ beBytes 1 t.signerSlot ++ beBytes 3 t.zero ++ beBytes 8 t.serial ++ beBytes 16 t.challenge.toNat

/-- The digest that the signatures of a firmware image cover: that of every byte before its signature block (R411). -/
def fwDigest (f : FwImage) : Digest := Config.sha384 f.bytes

/-- The measurement of a firmware image: the digest of the image as loaded, its signature block included (R253). -/
def fwMeasurement (f : FwImage) : Digest := Config.sha384 (f.bytes ++ sigBytes f.sig)

end Sys2Proof.Machine
end

