-- ==== Sys2Proof/Machine/Structure.lean ====
section
/-! DEFINITION. The structure that a Peal image gives the device: its sections, ports, channels and
defaults (R41, R59 to R63). -/

namespace Sys2Proof.Machine
open Sys2Proof

/-! ### Sections of an image, with the defaults of R41 -/

/-- The ports of PORT_MAP. -/
def imgPorts (g : Image) : List PortDef :=
  g.entries.flatMap (fun e => match e.body with | .portMap p => p | _ => [])

/-- The groups of FLEXE. -/
def imgGroups (g : Image) : List FlexGroup :=
  g.entries.flatMap (fun e => match e.body with | .flexe p => p | _ => [])

/-- The engines reserved and the classes that may use them, as a mask (R191). -/
def imgReserved (g : Image) : Nat × Nat :=
  (g.entries.findSome? (fun e => match e.body with | .enginePool r c => some (r, c) | _ => none)).getD (0, 0)

/-- The TABLES section or its default. -/
def imgTables (g : Image) : TablesSection :=
  (g.entries.findSome? (fun e => match e.body with | .tables t => some t | _ => none)).getD {}

/-- The Stroke programs and their assignment to channels. -/
def imgStroke (g : Image) : List StrokeProgram × List (Nat × Nat) :=
  (g.entries.findSome? (fun e => match e.body with | .stroke p a => some (p, a) | _ => none)).getD ([], [])

/-- The QUEUES section. -/
def imgQueues (g : Image) : QueuesSection :=
  (g.entries.findSome? (fun e => match e.body with | .queues q => some q | _ => none)).getD { minCells := 32 }

/-- The gate lists. -/
def imgGates (g : Image) : List GateList :=
  g.entries.flatMap (fun e => match e.body with | .gates l => l | _ => [])

/-- The TAMPER section, if there is one. -/
def imgTamper (g : Image) : Option TamperSection :=
  g.entries.findSome? (fun e => match e.body with | .tamper t => some t | _ => none)

/-- The domains that the POWER section leaves off (R399, R402). -/
def imgPowerOff (g : Image) : List Nat :=
  g.entries.flatMap (fun e => match e.body with | .power l => l | _ => [])

/-- The TWIN section or its default, standalone. -/
def imgTwin (g : Image) : TwinSection :=
  (g.entries.findSome? (fun e => match e.body with | .twin t => some t | _ => none)).getD { role := .standalone }

/-- The REG_INIT entries. -/
def imgRegInit (g : Image) : List RegInit :=
  g.entries.flatMap (fun e => match e.body with | .regInit l => l | _ => [])

/-! ### Ports and channels (R59 to R63) -/

/-- The MAC endpoints of a port mode: how many, lanes per endpoint, and the speed code of
PRT_EP_STATUS.SPEED (R62, R76). A FlexE PHY has none. -/
def modeEndpoints : PortMode → Nat × Nat × Nat
  | .m1x400 => (1, 4, 6)
  | .m2x200 => (2, 2, 5)
  | .m4x100 => (4, 1, 4)
  | .m4x50 => (4, 1, 3)
  | .m4x25 => (4, 1, 2)
  | .m4x10 => (4, 1, 1)
  | .m800 => (1, 8, 7)
  | .flexe400 => (0, 4, 0)
  | .flexe200 => (0, 2, 0)
  | .flexe100 => (0, 1, 0)

/-- A speed code in Gb/s (R76). -/
def speedGb : Nat → Nat
  | 1 => 10
  | 2 => 25
  | 3 => 50
  | 4 => 100
  | 5 => 200
  | 6 => 400
  | 7 => 800
  | _ => 0

/-- The number of FlexE PHYs of a port, the lanes of each and the rate of each in Gb/s (R62). -/
def modePhys : PortMode → Nat × Nat × Nat
  | .flexe400 => (1, 4, 400)
  | .flexe200 => (2, 2, 200)
  | .flexe100 => (4, 1, 100)
  | _ => (0, 1, 0)

/-- The value of PRT_EP_STATUS.FEC (R76). -/
def fecCode : Fec → Nat
  | .none => 0
  | .rs528 => 1
  | .rs544 => 2

/-- The first lane of a port on the line numbering of R63: client lanes 0 to 31, line lanes 32 to 63. -/
def portLane (p : PortDef) : Nat := (if p.line then 32 else 0) + 4 * p.port

/-- The MAC channels of a port (R63). -/
def portChannels (p : PortDef) : List Nat :=
  let (n, w, _) := modeEndpoints p.mode
  (List.range n).map (fun i => portLane p + i * w)

/-- The first lanes of the FlexE PHYs of a port. -/
def portPhys (p : PortDef) : List Nat :=
  let (n, w, _) := modePhys p.mode
  (List.range n).map (fun i => portLane p + i * w)

/-- The port that carries a MAC channel. -/
def portOf (g : Image) (ch : Nat) : Option PortDef := (imgPorts g).find? (fun p => ch ∈ portChannels p)

/-- The MAC channels of an image. -/
def macChannels (g : Image) : List Nat := (imgPorts g).flatMap portChannels

/-- The group and the client entry of a FlexE channel. -/
def clientOf (g : Image) (ch : Nat) : Option (FlexGroup × FlexClient) :=
  (imgGroups g).findSome? (fun gr => (gr.clients.find? (fun c => c.channel = ch)).map (fun c => (gr, c)))

/-- The FlexE client channels of an image. -/
def flexChannels (g : Image) : List Nat := (imgGroups g).flatMap (fun gr => gr.clients.map (fun c => c.channel))

/-- The channels that an image binds, in order of the sections. -/
def imgChannels (g : Image) : List Nat := macChannels g ++ flexChannels g

/-- An image binds a channel to an endpoint or a client. -/
def imgBinds (g : Image) (ch : Nat) : Bool := decide (ch ∈ imgChannels g)

/-- A channel is on the line side: line MAC channels and FlexE clients (R63). -/
def lineSide (ch : Nat) : Bool := decide (32 ≤ ch) && decide (ch < 192)

/-- The SPEED of a channel, 0 for a FlexE client (R76). -/
def imgSpeed (g : Image) (ch : Nat) : Nat :=
  match portOf g ch with
  | some p => (modeEndpoints p.mode).2.2
  | none => 0

/-- The FEC of a channel, 0 for a FlexE client (R76). -/
def imgFec (g : Image) (ch : Nat) : Nat :=
  match portOf g ch with
  | some p => fecCode p.fec
  | none => 0

/-- LPI_ALLOWED of an endpoint (R70). -/
def imgLpi (g : Image) (ch : Nat) : Bool :=
  match portOf g ch with
  | some p => decide (ch ∈ p.lpi)
  | none => false

/-! ### Delays that the structure gives a path (R64, R65) -/

/-- The transmit FEC delay of a channel in ns (R64); a FlexE PHY carries RS(544,514). -/
def fecTx (g : Image) (ch : Nat) : Nat := if ch < 64 then (if imgFec g ch = 0 then 0 else 12) else 12

/-- The rate of the line lanes that carry a channel: its own, or that of its group's PHYs. -/
def laneGb (g : Image) (ch : Nat) : Nat :=
  if ch < 64 then speedGb (imgSpeed g ch)
  else match clientOf g ch with
    | some (gr, _) =>
      match gr.instances.head?.bind (fun i => (imgPorts g).find? (fun p => p.line && decide (p.port = i.1 / 4))) with
      | some p => (modePhys p.mode).2.2
      | none => 0
    | none => 0

/-- The receive FEC delay of a channel in ns (R64). -/
def fecRx (g : Image) (ch : Nat) : Nat :=
  let none' := decide (ch < 64) && imgFec g ch = 0
  if none' then 0
  else match laneGb g ch with
    | 25 => 250
    | 50 => 150
    | 100 => 100
    | 200 => 95
    | 400 => 85
    | 800 => 80
    | _ => 0

/-- The rate-adaptation delay of a receiving channel in ns (R65). -/
def rateAdapt (g : Image) (ch : Nat) : Nat :=
  match laneGb g ch with
  | 50 => 1
  | 25 => 42
  | 10 => 165
  | _ => 0

/-- A port of the old bank goes on unchanged under the new one. -/
def portKept (b : Image) (p : PortDef) : Bool :=
  (imgPorts b).any (fun q => q.line = p.line && q.port = p.port && q.mode = p.mode && q.fec = p.fec)

/-- A queue of R136 is present under an image. -/
def queuePresent (v : Variant) (g : Image) (q : Nat) : Bool :=
  if q < 1536 then imgBinds g (q / 8)
  else if 1544 ≤ q ∧ q < 1552 then hasTwin v
  else decide (q < 1568)

/-- The queues present under an image. -/
def presentQueues (v : Variant) (g : Image) : List Nat :=
  (imgChannels g).flatMap (fun c => (List.range 8).map (8 * c + ·)) ++
    ((List.range 32).map (1536 + ·)).filter (queuePresent v g)

/-- A part has the unit of a domain (R399). -/
def domainPresent (v : Variant) (d : Nat) : Bool :=
  if d < 16 then decide (d < enginesPresent v)
  else if d < 32 then decide (d % 8 < portsPerSide v)
  else if d = 40 then hasFlexe v
  else if d = 43 ∨ d = 52 ∨ d = 54 then hasTwin v
  else decide (d < 56)

/-! ### The Active bank -/

/-- The Active bank binds a channel (PRT_EP_STATUS.PRESENT, R76). -/
def State.bound (s : State) (ch : Nat) : Bool :=
  match s.pel.active with
  | some g => imgBinds g ch
  | none => false

/-- An event of a MAC endpoint; the element of a FlexE client has no events (R76). -/
def State.epPost (s : State) (ch k : Nat) : State := if ch < 64 then s.post (F.PRT_EP_EVENT_EVENTS ch) k else s

/-- The data plane is powered and started: in other states no port receives (R55, R403). -/
def State.planeOn (s : State) : Bool := s.pwr.state = .active || s.pwr.state = .doze

/-- The channels that the Active bank binds. -/
def State.channels (s : State) : List Nat :=
  match s.pel.active with
  | some g => imgChannels g
  | none => []

/-- Every queue of the Active bank. -/
def State.allQueues (s : State) : List Nat :=
  match s.pel.active with
  | some g => presentQueues s.fus.variant g
  | none => []

/-- The POWER section of the Active bank leaves a domain off (R399, R402). -/
def State.unitOff (s : State) (d : Nat) : Bool :=
  match s.pel.active with
  | some g => decide (d ∈ imgPowerOff g)
  | none => false

/-- The declared link state of a channel. -/
def State.linkUp (s : State) (ch : Nat) : Bool := s.get (F.PRT_EP_STATUS_LINK_UP ch) = 1

/-- The rate of a FlexE client in Gb/s: its slots in the transmit page in force of the group that sends it,
5 Gb/s each (R77). -/
def State.clientGb (s : State) (g : Image) (ch : Nat) : Nat :=
  match clientOf g ch with
  | some (_, c) =>
    let r := Tab.get s.flx.grp {} c.txGroup
    let page := if s.get (F.FLX_GRP_STATUS_TX_PAGE c.txGroup) = 1 then r.txB else r.txA
    5 * (page.filter (fun e => e = some ch)).length
  | none => 0

/-- The transmit rate of a channel in Gb/s under the Active bank. -/
def State.rateGb (s : State) (ch : Nat) : Nat :=
  match s.pel.active with
  | some g => if ch < 64 then speedGb (imgSpeed g ch) else s.clientGb g ch
  | none => 0

/-- Checks on a channel named by a command, in the order of R63: ABSENT outside the variant's range, then
STATE_CONFLICT where the Active bank does not bind it (the second stands further down a command's list,
R19). -/
def State.channelAbsent (s : State) (ch : Nat) : Bool := !channelInVariant s.fus.variant ch

/-- The policy in force is the Active bank's, not the fused one (R398). -/
def State.pealPolicy (s : State) : Bool := (s.pel.active.bind imgTamper).isSome

/-- The effective response mask of a tamper source (R58, R381). A source whose mask the section does not give takes the
fused default. -/
def State.effectiveMask (s : State) (src : Nat) : Nat :=
  match s.pel.active.bind imgTamper with
  | some t => ((t.masks.find? (fun p => p.1 = src)).map Prod.snd).getD (s.defaultResponse src) ||| s.minResponse src ||| 1
  | none => s.defaultResponse src ||| s.minResponse src ||| 1

/-- The high threshold in force, in 1/16 °C: the TAMPER section's, or the fused default clipped to
T_HIGH_MAX (R378, R450). -/
def State.tHigh (s : State) : Int :=
  ((s.pel.active.bind imgTamper).bind (fun t => t.tHigh)).getD (min (115 * 16) s.tHighMax)

/-- The low threshold in force (R378, R450). -/
def State.tLow (s : State) : Int :=
  ((s.pel.active.bind imgTamper).bind (fun t => t.tLow)).getD (max (-48 * 16) s.tLowMin)

end Sys2Proof.Machine
end

