-- ==== Sys2Proof/Machine/TimeBase.lean ====
section
/-! DEFINITION. The time unit (chapter 12), but for STEP, which reaches other units: the tick, INC, the
latches of TIM_NOW, the reference, PPS_OUT and CLK10_OUT, event capture, the transmit stamp FIFO and the
triggers. -/

namespace Sys2Proof.Machine
open Sys2Proof

/-- SEC, NS and FRAC wrap with SEC at 2^48 (R282). -/
def wrapTime (t : Nat) : Nat := t % (2 ^ 48 * second)

/-- The outputs of the time unit are held low: SQUELCH set while VALID is 0 (R290, R291). -/
def State.squelched (s : State) : Bool := s.get F.TIM_CFG_SQUELCH = 1 && !s.timeValid

/-- PPS_OUT falls once its width has run out, and at once while it is squelched (R290). -/
def State.ppsFall (s : State) : State :=
  if s.tim.ppsUntil ≠ 0 ∧ (s.tim.ppsUntil ≤ s.tim.now ∨ s.squelched) then
    { s with tim := { s.tim with ppsUntil := 0 }, out := .pps false :: s.out }
  else s

/-- The outputs whose width has run out at the present time fall (R290, R303). -/
def State.outputsFall (s : State) : State :=
  [0, 1].foldl (fun s t =>
    let g := Tab.get s.tim.trig {} t
    if g.highUntil ≠ 0 ∧ g.highUntil ≤ s.tim.now then
      { s with
        tim := { s.tim with trig := NTab.set s.tim.trig {} t { g with highUntil := 0 } }
        out := .trig t false :: s.out }
    else s) s.ppsFall

/-- One tick of the time unit (R282), which stands still in HIBERNATE (R288). -/
def State.timeTick (s : State) : State :=
  if s.pwr.state = .hibernate then s
  else State.outputsFall { s with tim := { s.tim with now := wrapTime (s.tim.now + s.tim.inc) } }

/-- A committing write of TIM_INC_NS with the staged fraction (R284). -/
def State.commitInc (s : State) (who val : Nat) : State :=
  let inc := val % 256 * 2 ^ 32 + s.get F.TIM_INC_FRAC_FRAC
  if isVf who ∨ inc < 0x1FF7CED92 ∨ 0x20083126E < inc then s.ignored who F.TIM_STATUS_WRITE_IGNORED
  else { s.set F.TIM_INC_NS_NS (val % 256) with tim := { s.tim with inc := inc } }

def execTimIncCommit (who val : Nat) (s : State) : Host.Outcome State Fault Refusal :=
  .next (s.commitInc who val)

/-- The time is latched for a requester (R287). -/
def State.latchNow (s : State) (who : Nat) : State :=
  { s with tim := { s.tim with latch := NTab.set s.tim.latch 0 who s.tim.now } }

/-- A read of TIM_NOW_SEC_LO latches the time for its requester. -/
def execTimNowLatch (who : Nat) (s : State) : Host.Outcome State Fault Refusal :=
  .next ((s.latchNow who).emit (.read who (s.nowSec % 2 ^ 32)))

/-- CLK10_IN declared lost: only the time PLL on CLK10_IN follows it (R289). -/
def execRefLost (s : State) : Host.Outcome State Fault Refusal :=
  .next (if s.get F.TIM_CFG_SRC = 1 then (s.set F.TIM_STATUS_REF_LOCKED 0).post F.TIM_EVENT_EVENTS 1 else s)

/-- The time PLL enters lock to the reference that SRC selects (R289). -/
def execRefLocked (s : State) : Host.Outcome State Fault Refusal :=
  .next (if s.get F.TIM_STATUS_REF_LOCKED = 1 then s else
    (s.sets [(F.TIM_STATUS_REF_LOCKED, 1), (F.TIM_STATUS_SRC_ACTIVE, s.get F.TIM_CFG_SRC)]).post
      F.TIM_EVENT_EVENTS 2)

/-- PPS_OFFSET_NS, signed (R304). -/
def State.ppsOffset (s : State) : Int := signed 21 (s.get F.TIM_PPS_OUT_PPS_OFFSET_NS)

/-- PPS_OFFSET_NS in the unit of the time base. -/
def State.ppsPhase (s : State) : Int := s.ppsOffset * 2 ^ 32

/-- The first instant N s + PPS_OFFSET_NS after an instant, both in the unit of the time base (R290). -/
def State.nextPps (s : State) (t : Nat) : Nat :=
  let o := s.ppsPhase
  let n := ((t : Int) - o) / second + 1
  (max 0 (n * second + o)).toNat

/-- PPS_OUT rises if an instant of R290 has been reached since the last. An instant at or before the latest that was pulsed
is one that a backward step repeats: it is not pulsed twice. -/
def execPpsOutPulse (s : State) : Host.Outcome State Fault Refusal :=
  let i := s.nextPps (max s.tim.ppsFrom s.tim.ppsDone)
  .next (if i ≤ s.tim.now ∧ s.get F.TIM_CFG_PPS_OUT_EN = 1 ∧ s.pwr.state ≠ .hibernate then
      if s.squelched then { s with tim := { s.tim with ppsFrom := i } }
      else { s with
        tim := { s.tim with ppsFrom := i, ppsDone := i, ppsUntil := i + s.get F.TIM_PPS_OUT_WIDTH_MS * 1000000 * 2 ^ 32 }
        out := .pps true :: s.out }
    else s)

/-- 25 ns and 100 ns in the unit of the time base. -/
def clkQuarter : Nat := 25 * 2 ^ 32

def clkPeriod : Nat := 4 * clkQuarter

/-- The place of the present time in the period of CLK10_OUT (R291). -/
def State.clkPhase (s : State) : Nat := (((s.tim.now : Int) - s.ppsPhase) % clkPeriod).toNat

/-- The level of CLK10_OUT (R291): high in the first half of its period, but for the level that a step made it keep. -/
def State.clk10High (s : State) : Bool :=
  s.get F.TIM_CFG_CLK10_OUT_EN = 1 && !s.squelched &&
    (match s.tim.clkHold with
    | some (high, until') => if s.tim.now < until' then high else decide (s.clkPhase < 2 * clkQuarter)
    | none => decide (s.clkPhase < 2 * clkQuarter))

/-- A step moves the phase of CLK10_OUT without a partial cycle below 25 ns (R291): the output keeps the level it had before
the step, in `was`, up to the first edge of the new phase that changes it and lies 25 ns or more after its last edge. -/
def State.clkStep (s was : State) : State :=
  let high := was.clk10High
  let since := was.clkPhase % (2 * clkQuarter)
  let base := s.tim.now + (clkQuarter - since)
  let edge := if high then 2 * clkQuarter else 0
  let wait := (((edge : Int) + s.ppsPhase - base) % clkPeriod).toNat
  { s with tim := { s.tim with clkHold := some (high, base + wait) } }

/-! ### Event capture (R302) -/

/-- The capture FIFO of a channel. -/
def State.capFifo (s : State) (k : Nat) : List CapEntry := Tab.get s.tim.cap [] k

/-- An edge at a capture ball, under EDGE, the spacing of 8 ns and the FIFO of 16. -/
def State.capture (s : State) (k : Nat) (rising : Bool) : State :=
  let e := s.get (F.TIM_CAP_CFG_EDGE k)
  if (if rising then e % 2 = 1 else e / 2 = 1) ∧ s.pwr.state ≠ .hibernate then
    let q := s.nowQns
    if (s.tim.capLast.any (fun p => p.1 = k ∧ q < p.2 + 32 ∧ p.2 ≤ q)) then s.bump (F.TIM_CAP_LOST_LOST k) 32 1
    else
      let s := { s with tim := { s.tim with capLast := Tab.insert id k q (s.tim.capLast.erase k) } }
      if (s.capFifo k).length ≥ 16 then (s.bump (F.TIM_CAP_LOST_LOST k) 32 1).post F.TIM_EVENT_EVENTS 3
      else State.post { s with tim := { s.tim with
        cap := NTab.set s.tim.cap [] k (s.capFifo k ++ [⟨stampOf q, rising⟩]) } } F.TIM_EVENT_EVENTS 6
  else s

def execCaptureEdge (input : Nat) (rising : Bool) (s : State) : Host.Outcome State Fault Refusal :=
  .next (if input < 3 then s.capture input rising else s)

/-- A pop removes the head entry; CAP_READY stays posted while an entry is left (R302, R304). -/
def execTimCapPop (who fifo : Nat) (s : State) : Host.Outcome State Fault Refusal :=
  .next (if isVf who then s.ignored who F.TIM_STATUS_WRITE_IGNORED else
    let r := (s.capFifo fifo).drop 1
    let s := { s with tim := { s.tim with cap := NTab.set s.tim.cap [] fifo r } }
    if r = [] then s else s.post F.TIM_EVENT_EVENTS 6)

/-- A transmit stamp is written to its FIFO of 64, or lost (R297). -/
def State.txStamp (s : State) (e : TxStamp) : State :=
  if s.tim.txts.length ≥ 64 then s.post F.TIM_EVENT_EVENTS 4
  else State.post { s with tim := { s.tim with txts := s.tim.txts ++ [e] } } F.TIM_EVENT_EVENTS 5

/-- A pop of the transmit stamp FIFO; ignored on an empty FIFO (R304). -/
def execTimTxtsPop (who : Nat) (s : State) : Host.Outcome State Fault Refusal :=
  .next (if isVf who ∨ s.tim.txts = [] then
      if isVf who then s.ignored who F.TIM_STATUS_WRITE_IGNORED else s.set F.TIM_STATUS_WRITE_IGNORED 1
    else
      let r := s.tim.txts.drop 1
      let s := { s with tim := { s.tim with txts := r } }
      if r = [] then s else s.post F.TIM_EVENT_EVENTS 5)

/-! ### Triggers (R303) -/

/-- A completion in TIM_CMD_RESULT (R304). -/
def State.completeTim (s : State) (op : Nat) (st : Status) : State :=
  s.sets [(F.TIM_CMD_RESULT_STATUS, st.code), (F.TIM_CMD_RESULT_OP, op)]

/-- The first instant START + n × PERIOD after an instant (R303), in ns. -/
def nextEdge (start period after : Nat) : Nat :=
  if after < start then start else start + ((after - start) / period + 1) * period

def State.setTrig (s : State) (t : Nat) (g : Trigger) : State :=
  { s with tim := { s.tim with trig := NTab.set s.tim.trig {} t g } }

/-- ARM: the limits of R303, then START, PERIOD and WIDTH are read. -/
def State.armTrigger (s : State) (t : Nat) : State :=
  let start := (s.get (F.TIM_TRIG_SEC_LO_SEC t) + s.get (F.TIM_TRIG_SEC_HI_SEC t) * 2 ^ 32) * 1000000000 +
    s.get (F.TIM_TRIG_NS_NS t)
  let p := s.get (F.TIM_TRIG_PERIOD_PERIOD_NS t)
  let w := s.get (F.TIM_TRIG_WIDTH_WIDTH_NS t)
  if (p ≠ 0 ∧ (p < 100 ∨ 1000000000 < p)) ∨ w < 8 ∨ (p ≠ 0 ∧ p ≤ w) then s.completeTim 2 .badArgument
  else
    let g := Tab.get s.tim.trig {} t
    let g' : Trigger :=
      { g with
        armed := true, start := start, period := p, width := w
        edge := if p = 0 then start else nextEdge start p s.nowNs }
    ((s.setTrig t g').set (F.TIM_TRIG_STATUS_ARMED t) 1).completeTim 2 .ok

def execArm (who t : Nat) (s : State) : Host.Outcome State Fault Refusal :=
  .next (if isVf who ∨ 2 ≤ t then s.ignored who F.TIM_STATUS_WRITE_IGNORED else s.armTrigger t)

/-- DISARM drives the output low at once (R303). -/
def execTriggerDisarm (who t : Nat) (s : State) : Host.Outcome State Fault Refusal :=
  .next (if isVf who ∨ 2 ≤ t then s.ignored who F.TIM_STATUS_WRITE_IGNORED else
    let g := Tab.get s.tim.trig {} t
    let s := (s.setTrig t { g with armed := false, highUntil := 0 }).set (F.TIM_TRIG_STATUS_ARMED t) 0
    if g.highUntil = 0 then s else s.emit (.trig t false))

/-- The edge of an armed trigger whose instant the time base has reached; a single edge disarms it (R303). -/
def State.triggerEdge (s : State) (t : Nat) : State :=
  let g := Tab.get s.tim.trig {} t
  if g.armed ∧ g.edge ≤ s.nowNs then
    let high := (s.nowNs + g.width) * 2 ^ 32
    if g.period = 0 then
      ((s.setTrig t { g with armed := false, highUntil := high }).set (F.TIM_TRIG_STATUS_ARMED t) 0).emit (.trig t true)
    else (s.setTrig t { g with edge := nextEdge g.start g.period s.nowNs, highUntil := high }).emit (.trig t true)
  else s

def execTriggerEdge (t : Nat) (s : State) : Host.Outcome State Fault Refusal := .next (s.triggerEdge t)

/-- The single edges that are due: a one-shot event fires in the cycle of a step past its instant (R26, R303). -/
def State.singleEdges (s : State) : State :=
  [0, 1].foldl (fun s t => if (Tab.get s.tim.trig {} t).period = 0 then s.triggerEdge t else s) s

/-- Triggers and PPS_OUT after an offset step (R290, R303): skipped edges are lost, repeated edges of a
periodic trigger occur again. -/
def State.timeOutputsAfterStep (s : State) : State :=
  let s := { s with tim := { s.tim with ppsFrom := s.tim.now } }
  [0, 1].foldl (fun s t =>
    let g := Tab.get s.tim.trig {} t
    if g.armed ∧ g.period ≠ 0 then s.setTrig t { g with edge := nextEdge g.start g.period s.nowNs } else s) s

/-- The offset of a STEP in the unit of the time base (R285). -/
def State.stepOffset (s : State) : Int :=
  (signed 48 (s.get F.TIM_STEP_SEC_LO_SEC + s.get F.TIM_STEP_SEC_HI_SEC * 2 ^ 32) * 1000000000 +
    signed 32 (s.get F.TIM_STEP_NS_NS)) * 2 ^ 32

/-- The rejections of a STEP (R285, R286): the offset's range, the result's range, and a first STEP still
pending. -/
def State.stepStatus (s : State) (pending : Bool) : Status :=
  let ns := signed 32 (s.get F.TIM_STEP_NS_NS)
  let r := (s.tim.now : Int) + s.stepOffset + s.tim.inc
  firstStatus [(decide (ns < -999999999 ∨ 999999999 < ns ∨ r < 0 ∨ (2 ^ 48 * second : Int) ≤ r), .badArgument),
    (pending, .busy)]

end Sys2Proof.Machine
end

