-- ==== Sys2Proof/Machine/Counters.lean ====
section
/-! DEFINITION. The counters (chapter 18): fixed and programmable counters, the per-second latches and the
sampler. -/

namespace Sys2Proof.Machine
open Sys2Proof

/-! ### Fixed counters (R420 to R422) -/

/-- A fixed counter, by its offset in the PF window, moved up; it wraps at 2^64 (R420). -/
def State.count (s : State) (off n : Nat) : State :=
  { s with cnt := { s.cnt with
    fixed := NTab.set s.cnt.fixed 0 off ((Tab.get s.cnt.fixed 0 off + n) % 2 ^ 64) } }

/-- Window offset of counter `i` of a channel (R421). -/
def chOff (ch i : Nat) : Nat := 0x010000 + ch * 0x200 + i * 8

/-- Window offset of counter `i` of a queue. -/
def qOff (q i : Nat) : Nat := 0x040000 + q * 0x80 + i * 8

/-- Window offset of counter `i` of an SA. -/
def saOff (a i : Nat) : Nat := 0x200000 + a * 0x30 + i * 8

/-- Window offset of counter `i` of an SC. -/
def scOff (k i : Nat) : Nat := 0x800000 + k * 0x80 + i * 8

/-- The fixed counters of a channel, by index (R421). -/
inductive ChCnt where
  | rxFrames | rxOctets | txFrames | txOctets | rxFcsErr | rxFecUncorr | rxUndersize | rxOversize | txOversize
  | txLinkLoss | linkFlaps | noRoute | hairpinDrop | programDrop | clearDenied | staticMoveDrop | noSc
  | stompRxFcs | stompRxFec | stompRxOversize | stompTxOversize | stompIcv | stompDup | stompEngine
  | patchApplied | patchSkip | gateStepOverrun | standbyDiscard | tamperDiscard | noSci | badSectag | sampled
  | rxLinkDown
deriving DecidableEq, Repr

/-- The fixed counters of a queue, by index (R421). -/
inductive QCnt where
  | enqFrames | enqOctets | deqFrames | deqOctets | admitFrames | admitOctets | poolFrames | poolOctets
  | flapFrames | flapOctets | strikeFrames | strikeOctets | gateOversize | launchReject | launchLate | launchStep
deriving DecidableEq, Repr

/-- The fixed counters of an SC, by index (R421). -/
inductive ScCnt where
  | badTag | duplicate | twinLate | twinTagBad | dupCtxOff | scChannel | scDisabled | rxNoSa | rxSaRetired
  | txNoSa | orphanDrop | pnExhausted | coldDrop | coldFault | rollDone | dualDrop
deriving DecidableEq, Repr

/-- A channel counter moved up; a frame without a channel counts nowhere. -/
def State.chCount (s : State) (ch : Nat) (c : ChCnt) (n : Nat := 1) : State :=
  if ch < 192 then s.count (chOff ch c.ctorIdx) n else s

def State.qCount (s : State) (q : Nat) (c : QCnt) (n : Nat := 1) : State := s.count (qOff q c.ctorIdx) n

/-- Frames and octets of one kind of discard of a queue. -/
def State.qDrop (s : State) (q : Nat) (c : QCnt) (len : Nat) : State :=
  (s.count (qOff q c.ctorIdx) 1).count (qOff q (c.ctorIdx + 1)) len

def State.saCount (s : State) (a i : Nat) (n : Nat := 1) : State := s.count (saOff a i) n

def State.scCount (s : State) (k : Nat) (c : ScCnt) (n : Nat := 1) : State := s.count (scOff k c.ctorIdx) n

/-- The six counters of an SA restart at 0 (R420). -/
def State.saCountsClear (s : State) (a : Nat) : State :=
  { s with cnt := { s.cnt with
    fixed := s.cnt.fixed.filter (fun p => !(decide (saOff a 0 ≤ p.1) && decide (p.1 < saOff a 6))) } }

/-! ### Programmable counters (R423 to R427) -/

/-- What the programmable counters count (R423), with the frame's channel and class where filters apply. -/
inductive ProgEvent where
  | rxFrame (ch cls len : Nat)
  | txFrame (ch cls len : Nat)
  | dropped (ch cls code : Nat)
  | cutThrough (ch cls : Nat)
  | storeForward (ch cls : Nat)
  | transit (ch cls ns : Nat)
  | engine (e : Nat)
  | stall (p cycles : Nat)
  | coldFetch
  | learn
deriving DecidableEq, Repr

/-- What an event adds to a counter of a code and argument, before the filters. -/
def ProgEvent.amount (e : ProgEvent) (code arg : Nat) : Nat :=
  match e, code with
  | .rxFrame _ _ _, 1 => 1
  | .rxFrame _ _ l, 2 => l
  | .txFrame _ _ _, 3 => 1
  | .txFrame _ _ l, 4 => l
  | .dropped _ _ c, 5 => if c = arg % 256 then 1 else 0
  | .cutThrough _ _, 6 => 1
  | .storeForward _ _, 7 => 1
  | .transit _ _ ns, 8 => if arg < ns then 1 else 0
  | .engine e, 9 => if e = arg % 32 then 1 else 0
  | .stall p n, 10 => if p = arg % 32 then n else 0
  | .coldFetch, 11 => 1
  | .learn, 12 => 1
  | _, _ => 0

/-- The channel and class that the filters see; codes 9 to 12 ignore them. -/
def ProgEvent.filterOn : ProgEvent → Option (Nat × Nat)
  | .rxFrame c k _ | .txFrame c k _ | .dropped c k _ | .transit c k _ => some (c, k)
  | .cutThrough c k | .storeForward c k => some (c, k)
  | _ => none

/-- Counter `n` passes its carry on (R424). -/
def State.chained (s : State) (n : Nat) : Bool := s.get (F.CNT_PROG_SEL_CHAIN n) = 1

/-- An amount added to counter `n`, its carry to the next of its chain, or OVF and PROG_OVF (R424). The
first argument bounds the chain. -/
def State.progAdd : Nat → State → Nat → Nat → State
  | 0, s, _, _ => s
  | fuel + 1, s, n, amt =>
    let v := Tab.get s.cnt.prog 0 n + amt
    let s := { s with cnt := { s.cnt with prog := NTab.set s.cnt.prog 0 n (v % 2 ^ 32) } }
    if v < 2 ^ 32 then s
    else if s.chained n then State.progAdd fuel s (n + 1) (v / 2 ^ 32)
    else (s.set (F.CNT_PROG_SEL_OVF n) 1).post F.CNT_EVENT_EVENTS 2

/-- Counter `n` counts an event of its own selection: its code and argument, its filters, and no counter
chained into it. -/
def State.progTake (s : State) (e : ProgEvent) (n : Nat) : State :=
  let amt := e.amount (s.get (F.CNT_PROG_SEL_CODE n)) (s.get (F.CNT_PROG_ARG_ARG n))
  let pass : Bool := match e.filterOn with
    | none => true
    | some (ch, cls) =>
      let fc := s.get (F.CNT_PROG_SEL_CHANNEL n)
      let fm := s.get (F.CNT_PROG_SEL_CLASS_MASK n)
      (fc = 255 || fc = ch) && (fm = 0 || fm.testBit cls)
  if amt ≠ 0 ∧ pass ∧ ¬(1 ≤ n ∧ s.chained (n - 1)) then s.progAdd 4 n amt else s

/-- An event reaches every programmable counter with a selection. -/
def State.prog (s : State) (e : ProgEvent) : State :=
  ((s.regs.filter (fun p => p.1.reg = .CNT_PROG_SEL && p.1.lo = 0)).map (fun p => p.1.elem)).foldl
    (fun s n => s.progTake e n) s

/-- A drop with its code, on the channel that counts it (R153). -/
def State.dropEvent (s : State) (ch cls code : Nat) : State := s.prog (.dropped ch cls code)

/-- The CHAIN flags set without a break after, and before, counter `n`. -/
def State.chainAfter (s : State) : Nat → Nat → Nat
  | 0, _ => 0
  | fuel + 1, n => if s.chained (n + 1) then 1 + s.chainAfter fuel (n + 1) else 0

def State.chainBefore (s : State) : Nat → Nat → Nat
  | 0, _ => 0
  | fuel + 1, n => if 1 ≤ n ∧ s.chained (n - 1) then 1 + s.chainBefore fuel (n - 1) else 0

/-- A write of CNT_PROG_SEL of counter `n` that is allowed (R423, R424). -/
def State.progSelOk (s : State) (n val : Nat) : Bool :=
  decide (n < 512) && decide (field val 0 5 ≤ 12) &&
    (field val 5 1 = 0 || (decide (n < 511) && decide (s.chainBefore 4 n + 1 + s.chainAfter 4 n ≤ 3)))

/-- The counters that a write to the selection of `n` clears: `n` and those chained after it (R425). -/
def State.progCleared (s : State) (n : Nat) : List Nat :=
  (List.range (if s.chained n then 2 + s.chainAfter 4 n else 1)).map (n + ·)

def State.progSelWrite (s : State) (who n val : Nat) : State :=
  if s.progSelOk n val then
    let s := s.sets [(F.CNT_PROG_SEL_CODE n, field val 0 5), (F.CNT_PROG_SEL_CHAIN n, field val 5 1),
      (F.CNT_PROG_SEL_PER_SEC n, field val 6 1), (F.CNT_PROG_SEL_CHANNEL n, field val 8 8),
      (F.CNT_PROG_SEL_CLASS_MASK n, field val 16 8)]
    let s := if field val 7 1 = 1 then s.set (F.CNT_PROG_SEL_OVF n) 0 else s
    { s with cnt := { s.cnt with
      prog := (s.progCleared n).foldl (fun t i => NTab.set t 0 i 0) s.cnt.prog } }
  else s.ignored who F.CNT_STATUS_WRITE_IGNORED

def execCntProgSelWrite (who n val : Nat) (s : State) : Host.Outcome State Fault Refusal :=
  .next (s.progSelWrite who n val)

/-! ### The counter window (R421, R426, R434) -/

/-- The value at a window offset of the region of programmable and latched counters (R426, R427). -/
def State.progWindow (s : State) (prog perSec : NTab Nat) (off : Nat) : Nat :=
  let n := off % 0x1000 / 8
  let t := if off < 0x1000 then prog else perSec
  Tab.get t 0 n + (if off < 0x1000 ∧ s.chained n then Tab.get prog 0 (n + 1) * 2 ^ 32 else 0)

/-- The element of a fixed counter is present: its channel is bound, or its queue is one of the Active bank (R421). -/
def State.counterPresent (s : State) (off : Nat) : Bool :=
  if off < 0x040000 then s.bound ((off - 0x010000) / 0x200)
  else if off < 0x200000 then (s.pel.active.map (fun g => queuePresent s.fus.variant g ((off - 0x040000) / 0x80))).getD false
  else true

/-- The 64-bit counter at a multiple of 8 of the PF window. -/
def State.counterWord (s : State) (off : Nat) : Nat :=
  if off < 0x2000 then s.progWindow s.cnt.prog s.cnt.perSec off
  else if s.counterPresent off then Tab.get s.cnt.fixed 0 off else 0

/-- An SC of a VF names a channel, as CHANNEL or as EGRESS. -/
def State.vfNames (s : State) (vf ch : Nat) : Bool :=
  s.sam.sc.any (fun p => p.2.created && p.2.owner = vf && (p.2.channel = ch || (p.2.rx && p.2.egress = ch)))

/-- A word of a slot of a VF window: the counters of its SC, those of the SAs in its slots, and what it is. -/
def State.vfSlotWord (s : State) (k x : Nat) : Nat :=
  if x < 0x80 then s.counterWord (scOff k (x / 8))
  else if x < 0x140 then
    match ((Tab.get s.sam.sc {} k).slots[(x - 0x80) / 0x30]?).join with
    | some a => s.counterWord (saOff a ((x - 0x80) % 0x30 / 8))
    | none => 0
  else if x = 0x1F8 then k + 2 ^ 16
  else 0

/-- The 64-bit word at a multiple of 8 of a VF's window (R434). -/
def State.vfCounterWord (s : State) (vf off : Nat) : Nat :=
  if !(s.get F.CNT_VF_EN_EN).testBit (vf - 5) then 0
  else if off < 0xE0000 then
    match s.cnt.vfSlot.find? (fun p => p.1 = vf && p.2.1 = off / 0x200) with
    | some (_, _, k) => s.vfSlotWord k (off % 0x200)
    | none => 0
  else
    let ch := (off - 0xE0000) / 0x200
    if s.vfNames vf ch then s.counterWord (chOff ch (off % 0x200 / 8)) else 0

/-! ### Roll periods and dump ranges (R428 to R430) -/

/-- The latest whole multiple of PERIOD_MS that the time base has reached, in ms. -/
def State.rollPoint (s : State) : Nat :=
  let p := max (s.get F.CNT_ROLL_CFG_PERIOD_MS) 1
  s.nowNs / 1000000 / p * p

/-- The window ranges of a dump, first offset and words of 8 bytes, by mask and SC_BLOCKS (R421, R429, R430). -/
def rollRanges (mask blocks : Nat) : List (Nat × Nat) :=
  ([(0, 0, 1024), (1, 0x010000, 192 * 64), (2, 0x040000, 1568 * 16), (3, 0x200000, 512 * blocks * 6),
    (4, 0x800000, 256 * blocks * 16)].filter (fun r => mask.testBit r.1)).map (fun r => r.2)

/-! ### The sampler (R433) -/

/-- A received frame chosen by the sampler: the filters, the probability 2^-SAMPLE_N by a free value, and
one frame at a time. -/
def State.sampleStart (s : State) (id ch cls len tIn : Nat) : State :=
  let fc := s.get F.CNT_SAMPLE_CFG_CHANNEL
  if s.get F.CNT_SAMPLE_CFG_CLASS_MASK = 0 then s
  else
    let chosen := s.draw (s.get F.CNT_SAMPLE_CFG_SAMPLE_N) = 0
    let s := s.drew
    if (fc = 255 ∨ fc = ch) ∧ (s.get F.CNT_SAMPLE_CFG_CLASS_MASK).testBit cls ∧ s.cnt.sample = none ∧ chosen then
      State.chCount { s with cnt := { s.cnt with
        sample := some (id, { seq := 0, inCh := ch, cls := cls, length := len, tIn := tIn / 4, qns := tIn % 4 }) } }
        ch .sampled
    else s

/-- What the sampler notes of the frame it follows. -/
def State.sampleNote (s : State) (id : Nat) (f : SampleRec → SampleRec) : State :=
  match s.cnt.sample with
  | some (i, r) => if i = id then { s with cnt := { s.cnt with sample := some (i, f r) } } else s
  | none => s

/-- The fate of the followed frame is known: its record is written if the fate matches FATE and the FIFO of
64 has room. -/
def State.sampleEnd (s : State) (id dropCode : Nat) : State :=
  match s.cnt.sample with
  | some (i, r) =>
    if i = id then
      let s := { s with cnt := { s.cnt with sample := none } }
      let fate := s.get F.CNT_SAMPLE_CFG_FATE
      let r := { r with dropCode := dropCode }
      if (fate = 1 ∧ r.dropCode ≠ 0) ∨ (fate = 2 ∧ r.dropCode = 0) ∨ s.cnt.sampleFifo.length ≥ 64 then s
      else
        State.post { s with cnt := { s.cnt with
          sampleFifo := s.cnt.sampleFifo ++ [{ r with seq := s.cnt.sampleSeq }]
          sampleSeq := (s.cnt.sampleSeq + 1) % 2 ^ 32 } } F.CNT_EVENT_EVENTS 3
    else s
  | none => s

/-- A pop of the sample FIFO; ignored on an empty FIFO (R435). -/
def execCntSamplePop (who : Nat) (s : State) : Host.Outcome State Fault Refusal :=
  .next (if s.cnt.sampleFifo = [] then s.ignored who F.CNT_STATUS_WRITE_IGNORED else
    let r := s.cnt.sampleFifo.drop 1
    let s := { s with cnt := { s.cnt with sampleFifo := r } }
    if r = [] then s else s.post F.CNT_EVENT_EVENTS 3)

/-- The 64 bytes of a sample record (R433). -/
def SampleRec.bytes (r : SampleRec) : Bytes :=
  leBytes 4 r.seq ++ leBytes 1 r.inCh ++ leBytes 1 r.outCh ++
  leBytes 1 (r.cls + 8 * bit r.cutThrough + 16 * bit r.cold + 32 * bit r.recalled + 64 * bit r.short +
    128 * bit r.depth) ++
  leBytes 1 r.program ++ leBytes 2 r.endIndex ++ leBytes 1 r.executed ++ leBytes 1 r.dropCode ++
  leBytes 4 r.cell ++ leBytes 2 r.dsn ++ leBytes 1 r.engine ++ leBytes 1 0 ++ leBytes 2 r.sc ++ leBytes 2 0 ++
  leBytes 4 (r.tIn % 2 ^ 32) ++ leBytes 1 r.qns ++ leBytes 3 0 ++ leBytes 4 r.waitNs ++ leBytes 4 r.engineNs ++
  leBytes 4 r.transit ++ leBytes 4 r.length ++ leBytes 16 0

end Sys2Proof.Machine
end

