-- ==== Sys2Proof/Machine/Stroke.lean ====
section
/-! DEFINITION. Stroke programs (R101 to R106): the machine that stage 3 runs over the first 256 bytes of a
frame. -/

namespace Sys2Proof.Machine
open Sys2Proof

/-- The kinds of lookup (R103). -/
inductive LookupKind where
  | macDa | macSa | lpm4 | lpm6 | sci
deriving DecidableEq, Repr

/-- The lookup kind of a KIND field. -/
def lookupKind : Nat → Option LookupKind
  | 0 => some .macDa
  | 1 => some .macSa
  | 2 => some .lpm4
  | 3 => some .lpm6
  | 4 => some .sci
  | _ => none

/-- The key length of a lookup in bytes (R103). -/
def LookupKind.keyLen : LookupKind → Nat
  | .macDa | .macSa => 6
  | .lpm4 => 4
  | .lpm6 => 16
  | .sci => 8

/-- A pending lookup: its kind, and its key if it was issued (R105), with the bridge domain or the AN and the
offset of the key. -/
structure Lookup where
  kind : LookupKind
  key : Option Nat
  aux : Nat
  off : Nat
deriving DecidableEq, Repr

/-- How END ends a program (R103): the resolution mode and the miss rule. -/
structure StrokeEnd where
  mode : Nat
  miss : Nat
deriving DecidableEq, Repr

/-- The machine state of a Stroke program (R102), with what the sampler reports of its run. -/
structure Stroke where
  g : List Nat := List.replicate 8 0
  cursor : Nat := 0
  short : Bool := false
  depth : Bool := false
  bd : Nat := 0
  cls : Nat := 0
  fixed : Option (Nat × Nat) := none
  lookups : List Lookup := []
  executed : Nat := 0
  endIndex : Nat := 0
  ended : Option StrokeEnd := none
deriving DecidableEq, Repr

/-- A general register. -/
def Stroke.reg (m : Stroke) (i : Nat) : Nat := (m.g[i]?).getD 0

/-- A general register set to 32 bits. -/
def Stroke.setReg (m : Stroke) (i v : Nat) : Stroke := { m with g := m.g.set i (v % 2 ^ 32) }

/-- The value that BEQ and BNE compare: G[15:0], or the flags for G = 7 (R105). -/
def Stroke.compared (m : Stroke) (i : Nat) : Nat :=
  if i = 7 then bit m.short + 2 * bit m.depth else m.reg i % 2 ^ 16

/-- A byte as LD reads it: zero past the frame and from offset 256 on (R105). -/
def readByte (fr : Bytes) (i : Nat) : Byte := if i < 256 then (fr[i]?).getD 0 else 0

/-- LD (R103, R105). -/
def Stroke.load (m : Stroke) (fr : Bytes) (w : Nat) : Stroke :=
  let n := 2 ^ field w 22 2
  let off := field w 13 8 + (if field w 21 1 = 1 then 0 else m.cursor)
  let is := (List.range n).map (off + ·)
  let m := m.setReg (field w 24 3) (beNat (is.map (readByte fr)))
  { m with
    short := m.short || is.any (fun i => decide (fr.length ≤ i))
    depth := m.depth || is.any (fun i => decide (256 ≤ i)) }

/-- LOOKUP (R103, R105): a key past the frame or past offset 256 is not issued, which sets DEPTH. -/
def Stroke.lookup (m : Stroke) (fr : Bytes) (w : Nat) : Stroke :=
  match lookupKind (field w 24 3) with
  | none => m
  | some k =>
    let off := field w 12 8 + (if field w 20 1 = 1 then 0 else m.cursor)
    let aux := if k = .sci then m.reg (field w 21 3) % 4 else m.bd
    if off + k.keyLen ≤ min fr.length 256 then
      { m with lookups := m.lookups ++ [⟨k, some (beAt fr off k.keyLen), aux, off⟩] }
    else { m with lookups := m.lookups ++ [⟨k, none, aux, off⟩], depth := true }

/-- The class that SETCLS gives (R103). DESIGN CHOICE (notes/assumptions/114): a map that the program does not carry gives
class 0. -/
def Stroke.classOf (m : Stroke) (maps : List (List Nat)) (w : Nat) : Nat :=
  if field w 26 1 = 0 then field w 0 3
  else (((maps[field w 20 3]?).getD [])[m.reg (field w 23 3) % 64]?).getD 0 % 8

/-- One instruction other than END: the next state and the instructions to skip. -/
def Stroke.exec (m : Stroke) (maps : List (List Nat)) (fr : Bytes) (w : Nat) : Stroke × Nat :=
  match field w 27 5 with
  | 0x01 => (m.load fr w, 0)
  | 0x02 =>
    let d := if field w 26 1 = 0 then field w 0 8 else m.reg (field w 23 3) % 256 * 2 ^ field w 21 2
    ({ m with cursor := min 256 (m.cursor + d) }, 0)
  | 0x03 => (m.setReg (field w 24 3) (m.reg (field w 24 3) &&& field w 0 16), 0)
  | 0x04 => (m.setReg (field w 24 3) (m.reg (field w 24 3) >>> field w 0 5), 0)
  | 0x05 => (m, if m.compared (field w 24 3) = field w 0 16 then field w 16 8 else 0)
  | 0x06 => (m, if m.compared (field w 24 3) ≠ field w 0 16 then field w 16 8 else 0)
  | 0x07 => (m, field w 16 8)
  | 0x08 => (m.lookup fr w, 0)
  | 0x09 => ({ m with bd := if field w 26 1 = 0 then field w 0 12 else m.reg (field w 23 3) % 4096 }, 0)
  | 0x0A => ({ m with cls := m.classOf maps w }, 0)
  | 0x0B => ({ m with fixed := some (field w 0 8, field w 8 2) }, 0)
  | _ => (m, 0)

/-- A run from instruction `pc`; the first argument bounds the instructions (48 on any path, R104). -/
def Stroke.run (p : StrokeProgram) (fr : Bytes) : Nat → Nat → Stroke → Stroke
  | 0, _, m => m
  | fuel + 1, pc, m =>
    match p.code[pc]? with
    | none => m
    | some w =>
      let w := w.toNat
      let m := { m with executed := m.executed + 1 }
      if field w 27 5 = 0x0C then { m with endIndex := pc, ended := some ⟨field w 24 3, field w 22 2⟩ }
      else
        let (m, skip) := m.exec p.maps fr w
        Stroke.run p fr fuel (pc + 1 + skip) m

/-- The run of a program on a frame from the cleared state (R102). -/
def runProgram (p : StrokeProgram) (fr : Bytes) : Stroke := Stroke.run p fr 48 0 {}

/-- The program of an ingress channel under an image (R101). -/
def programOf (g : Image) (ch : Nat) : Option (Nat × StrokeProgram) :=
  let (ps, as) := imgStroke g
  match as.find? (fun a => a.1 = ch) with
  | some a => (ps[a.2]?).map (fun p => (a.2, p))
  | none => none

/-! ### The limits of step 9 of R47 on a program (R103, R104) -/

/-- An instruction word uses a defined opcode and no reserved field value (R103). -/
def wordOk (w : Nat) : Bool :=
  match field w 27 5 with
  | 0x01 => decide (field w 22 2 < 3)
  | 0x05 | 0x06 | 0x07 => decide (field w 16 8 ≠ 0)
  | 0x08 => decide (field w 24 3 < 5)
  | 0x0C => decide (field w 24 3 < 4) && decide (field w 22 2 < 3)
  | op => decide (op < 0x0C)

/-- An absolute offset with its width stays within 256 (R104). -/
def absOk (w : Nat) : Bool :=
  match field w 27 5 with
  | 0x01 => field w 21 1 = 0 || decide (field w 13 8 + 2 ^ field w 22 2 ≤ 256)
  | 0x08 => field w 20 1 = 0 ||
      match lookupKind (field w 24 3) with
      | some k => decide (field w 12 8 + k.keyLen ≤ 256)
      | none => false
  | _ => true

/-- Every path from `pc` ends at an END within `fuel` instructions, issues at most one lookup of each kind and
at most four, and ends with the lookup that its mode needs (R104). `seen` are the kinds issued. -/
def pathsOk (code : List Word) : Nat → Nat → List Nat → Bool
  | 0, _, _ => false
  | fuel + 1, pc, seen =>
    match code[pc]? with
    | none => false
    | some w =>
      let w := w.toNat
      match field w 27 5 with
      | 0x05 | 0x06 => pathsOk code fuel (pc + 1) seen && pathsOk code fuel (pc + 1 + field w 16 8) seen
      | 0x07 => pathsOk code fuel (pc + 1 + field w 16 8) seen
      | 0x08 =>
        let k := field w 24 3
        decide (k ∉ seen) && decide (seen.length < 4) && pathsOk code fuel (pc + 1) (k :: seen)
      | 0x0C =>
        match field w 24 3 with
        | 1 => decide (0 ∈ seen)
        | 2 => decide (2 ∈ seen) || decide (3 ∈ seen)
        | 3 => decide (4 ∈ seen)
        | _ => true
      | _ => pathsOk code fuel (pc + 1) seen

/-- A branch of the instruction at `pc` lands inside its program of `n` instructions, whether or not a path reaches it (R104). -/
def branchInside (n pc w : Nat) : Bool :=
  match field w 27 5 with
  | 0x05 | 0x06 | 0x07 => decide (pc + 1 + field w 16 8 < n)
  | _ => true

/-- A program is within the limits of R103 and R104; `present` is the test of a SETCH channel. -/
def programOk (present : Nat → Bool) (p : StrokeProgram) : Bool :=
  let ws := p.code.map BitVec.toNat
  ws.all wordOk && ws.all absOk &&
    ws.all (fun w => decide (field w 27 5 ≠ 0x0B) || present (field w 0 8)) &&
    pathsOk p.code 48 0 [] && p.code.zipIdx.all (fun x => branchInside p.code.length x.2 x.1.toNat) &&
    decide (p.maps.length ≤ 8) && p.maps.all (fun m => decide (m.length = 64) && m.all (fun c => decide (c < 8)))

end Sys2Proof.Machine
end

