-- ==== Sys2Proof/Machine/Tables.lean ====
section
/-! DEFINITION. The MAC table, the LPM tries, the partition locks and the table commands (R111 to R131). -/

namespace Sys2Proof.Machine
open Sys2Proof

/-! ### Cuckoo placement (R115, also R213) -/

/-- A chain of `depth` moves from one of `starts` to a free entry, the first in candidate order; `cands`
gives the candidate entries of the key that stands in an entry. -/
def cuckooChain (cands : Nat → List Nat) (free : Nat → Bool) : Nat → List Nat → Option (List Nat)
  | 0, starts => (starts.find? free).map (fun e => [e])
  | d + 1, starts => starts.findSome? (fun e => (cuckooChain cands free d (cands e)).map (e :: ·))

/-- The entries that an insertion writes: the new key's entry first, then where each moved key goes; a free
candidate, or the shortest chain of at most 3 moves (R115). -/
def cuckooPlace (cands : Nat → List Nat) (free : Nat → Bool) (starts : List Nat) : Option (List Nat) :=
  [0, 1, 2, 3].findSome? (fun d => cuckooChain cands free d starts)

/-- The moves of a chain and the new value at its head; the last entry of the chain was free. -/
def cuckooShift {α : Type} [DecidableEq α] (t : NTab α) (d : α) (v : α) : List Nat → NTab α
  | [] => t
  | e :: r => cuckooShift (NTab.set t d e v) d (Tab.get t d e) r

/-! ### The MAC table (R112 to R117) -/

/-- Entries of the MAC partition in force. -/
def State.macSize (s : State) : Nat :=
  match s.pel.active with
  | some g => (imgTables g).mac
  | none => 0

/-- The bucket of a key in a bank (R113). -/
def macBucket (seed n bd mac : Nat) : Nat := crc32c (beBytes 4 seed ++ beBytes 8 (bd * 2 ^ 48 + mac)) % (n / 8)

/-- The eight candidate entries of a key, bank 0 first (R112, R115). -/
def State.macCands (s : State) (bd mac : Nat) : List Nat :=
  let n := s.macSize
  (List.range 4).map (fun w => macBucket s.tbl.seed0 n bd mac * 4 + w) ++
    (List.range 4).map (fun w => n / 2 + macBucket s.tbl.seed1 n bd mac * 4 + w)

def State.macEntry (s : State) (i : Nat) : MacEntry := Tab.get s.tbl.mac {} i

/-- The entry that holds a key (R114). -/
def State.macFind (s : State) (bd mac : Nat) : Option Nat :=
  (s.macCands bd mac).find? (fun i => let e := s.macEntry i; e.valid && e.bd = bd && e.mac = mac)

def State.setMac (s : State) (i : Nat) (e : MacEntry) : State :=
  { s with tbl := { s.tbl with mac := NTab.set s.tbl.mac {} i e } }

/-- The insertion of a new key (R115); none where no chain of at most 3 moves exists. -/
def State.macPlace (s : State) (e : MacEntry) : Option State :=
  (cuckooPlace (fun i => let o := s.macEntry i; s.macCands o.bd o.mac) (fun i => !(s.macEntry i).valid)
    (s.macCands e.bd e.mac)).map (fun c =>
      { s with tbl := { s.tbl with mac := cuckooShift s.tbl.mac {} e c } })

/-- A learn event queued (R117): one per key, the channel replaced in place; a full queue discards it. -/
def State.learnQueue (s : State) (ev : LearnEv) : State :=
  let same := fun (e : LearnEv) => decide (e.bd = ev.bd ∧ e.mac = ev.mac)
  let s' := if s.tbl.learn.any same then
      { s with tbl := { s.tbl with learn := s.tbl.learn.map (fun e => if same e then ev else e) } }
    else if s.tbl.learn.length ≥ 4096 then s.post F.TBL_EVENT_EVENTS 1
    else { s with tbl := { s.tbl with learn := s.tbl.learn ++ [ev] } }
  if s.tbl.learn.any same ∨ s.tbl.learn.length < 4096 then s'.prog .learn else s'

/-- A learn event applied (R117). DESIGN CHOICE (notes/assumptions/115): an event whose key is already held with the same channel
changes and counts nothing, dynamic or static. -/
def State.learnApply (s : State) (ev : LearnEv) : State :=
  match s.macFind ev.bd ev.mac with
  | none =>
    match s.macPlace { valid := true, hit := true, bd := ev.bd, mac := ev.mac, channel := ev.channel, scDefault := true } with
    | some s => s
    | none => s.post F.TBL_EVENT_EVENTS 2
  | some i =>
    let e := s.macEntry i
    if e.channel = ev.channel then s
    else if e.static then
      State.post { s with tbl := { s.tbl with
        guarded := if ev ∈ s.tbl.guarded then s.tbl.guarded else s.tbl.guarded ++ [ev] } } F.TBL_EVENT_EVENTS 4
    else (s.setMac i { e with channel := ev.channel, hit := true }).post F.TBL_EVENT_EVENTS 3

/-- The learn queue applied in arrival order, as far as the first argument reaches. -/
def State.learnDrain : Nat → State → State
  | 0, s => s
  | n + 1, s =>
    match s.tbl.learn with
    | [] => s
    | ev :: r => State.learnDrain n (State.learnApply { s with tbl := { s.tbl with learn := r } } ev)

/-- The holder of a partition's lock (R127). -/
def State.lockOwner (s : State) (p : Nat) : Option Nat := Tab.get s.tbl.owner none p

/-- The head learn event applied while partition 0 is not locked (R117, R129). -/
def execLearnEventApply (s : State) : Host.Outcome State Fault Refusal :=
  .next (if s.lockOwner 0 = none then s.learnDrain 1 else s)

/-- One visit of the Brush, in index order (R118, R129). -/
def State.brushVisit (s : State) : State :=
  if s.get F.TBL_BRUSH_AGE_PERIOD = 0 ∨ s.lockOwner 0 ≠ none ∨ s.macSize = 0 then s
  else
    let i := s.tbl.brush % s.macSize
    let e := s.macEntry i
    let s := { s with tbl := { s.tbl with brush := (i + 1) % s.macSize } }
    if e.valid ∧ ¬e.static then
      if e.hit then s.setMac i { e with hit := false, stale := false }
      else if e.stale then s.setMac i {}
      else s.setMac i { e with stale := true }
    else s

def execBrushVisit (s : State) : Host.Outcome State Fault Refusal := .next s.brushVisit

/-! ### The LPM tries (R120 to R124) -/

/-- The longest prefix of length at most `len` that covers an address of `w` bits. -/
def lpmCover (w : Nat) (ps : List Prefix) (addr len : Nat) : Option Prefix :=
  ps.foldl (fun b p =>
    if p.len ≤ len ∧ addr >>> (w - p.len) = p.addr >>> (w - p.len) ∧ (∀ o ∈ b, o.len ≤ p.len) then some p else b) none

/-- The result of an LPM lookup (R122). -/
def lpmLookup (w : Nat) (ps : List Prefix) (addr : Nat) : Option Prefix := lpmCover w ps addr w

/-- The bits of address that lead to a node of a level (1 and up, R120). -/
def lpmHeadLen (level : Nat) : Nat := 16 + 8 * (level - 1)

/-- The heads of the nodes of a level that a set of prefixes needs (R120). -/
def lpmHeads (w : Nat) (ps : List Prefix) (level : Nat) : List Nat :=
  ((ps.filter (fun p => decide (lpmHeadLen level < p.len))).map (fun p => p.addr >>> (w - lpmHeadLen level))).eraseDups

/-- The levels below level 0. -/
def lpmLevels (w : Nat) : Nat := (w - 16) / 8

/-- The result that an entry of a node or of level 0 holds when it has no child (R121). -/
def lpmResult (w : Nat) (ps : List Prefix) (a len : Nat) : Option (Nat × Nat × Bool) :=
  (lpmCover w ps (a <<< (w - len)) len).map (fun p => (p.channel, p.sc, p.scDefault))

/-- The nodes of one level that a change copies or makes (R123): new nodes, nodes of which a result word
changes, and nodes of which two child words or more change. `below` are the heads copied one level down. -/
def lpmCopies (w : Nat) (old new : List Prefix) (level : Nat) (below : List Nat) : List Nat :=
  let oldKids := lpmHeads w old (level + 1)
  let newKids := lpmHeads w new (level + 1)
  let len := lpmHeadLen level + 8
  let was := lpmHeads w old level
  (lpmHeads w new level).filter (fun h =>
    if h ∈ was then
      let es := (List.range 256).map (fun e => h * 256 + e)
      let moved := es.filter (fun a => decide (a ∈ oldKids) != decide (a ∈ newKids) || decide (a ∈ below))
      let changed := es.any (fun a =>
        decide (a ∉ oldKids ∧ a ∉ newKids ∧ lpmResult w old a len ≠ lpmResult w new a len))
      changed || decide (2 ≤ moved.length)
    else true)

/-- The copies of a change, (level, head), from the deepest level up; `below` are those of the level beneath. -/
def lpmPlan (w : Nat) (old new : List Prefix) : Nat → List Nat → List (Nat × Nat)
  | 0, _ => []
  | level + 1, below =>
    let c := lpmCopies w old new (level + 1) below
    c.map (fun h => (level + 1, h)) ++ lpmPlan w old new level c

/-- The first `n` node indices of a pool that no node and no returning batch holds. -/
def lpmFree (t : Lpm) (pool n : Nat) : List Nat :=
  ((List.range pool).filter (fun i =>
    decide (i ∉ t.nodes.map (fun d => d.index)) && t.returning.all (fun b => decide (i ∉ b)))).take n

/-- A trie moved to a new set of prefixes by copy-on-write (R123), or none where the free nodes do not
suffice. -/
def lpmMove (w pool : Nat) (t : Lpm) (new : List Prefix) : Option Lpm :=
  let plan := lpmPlan w t.prefixes new (lpmLevels w) []
  let idx := lpmFree t pool plan.length
  if idx.length < plan.length then none
  else
    let made := (plan.zip idx).map (fun p => (⟨p.1.1, p.1.2, p.2⟩ : LpmNode))
    let gone := t.nodes.filter (fun d =>
      decide ((d.level, d.head) ∈ plan) || decide (d.head ∉ lpmHeads w new d.level))
    let kept := t.nodes.filter (fun d => decide (d ∉ gone))
    some { prefixes := new
           nodes := kept ++ made
           returning := if gone = [] then t.returning else t.returning ++ [gone.map (fun d => d.index)] }

/-- The order of prefixes in a dump: ascending address, then length (R126). -/
def prefixBefore (a b : Prefix) : Bool := decide (a.addr < b.addr) || (decide (a.addr = b.addr) && decide (a.len < b.len))

def prefixInsert (p : Prefix) : List Prefix → List Prefix
  | [] => [p]
  | q :: r => if prefixBefore q p then q :: prefixInsert p r else p :: q :: r

/-- The trie of a family (0 IPv4, 1 IPv6). -/
def State.lpm (s : State) (fam : Nat) : Lpm := if fam = 0 then s.tbl.lpm4 else s.tbl.lpm6

def State.setLpm (s : State) (fam : Nat) (t : Lpm) : State :=
  if fam = 0 then { s with tbl := { s.tbl with lpm4 := t } } else { s with tbl := { s.tbl with lpm6 := t } }

/-- Address width of a family. -/
def lpmWidth (fam : Nat) : Nat := if fam = 0 then 32 else 128

/-- The node pool of a family under the Active bank (R111). -/
def State.lpmPool (s : State) (fam : Nat) : Nat :=
  match s.pel.active with
  | some g => if fam = 0 then (imgTables g).lpm4 else (imgTables g).lpm6
  | none => 0

/-- The limit of prefixes of a family (R120). -/
def lpmLimit (fam : Nat) : Nat := if fam = 0 then 131072 else 32768

/-- The oldest batch of replaced nodes returns to its pool after 256 cycles (R123). -/
def execLpmNodeReturn (s : State) : Host.Outcome State Fault Refusal :=
  .next { s with tbl := { s.tbl with
    lpm4 := { s.tbl.lpm4 with returning := s.tbl.lpm4.returning.drop 1 }
    lpm6 := if s.tbl.lpm4.returning = [] then { s.tbl.lpm6 with returning := s.tbl.lpm6.returning.drop 1 }
      else s.tbl.lpm6 } }

/-! ### The table commands (R125, R126) -/

def State.tblArg (s : State) (who i : Nat) : Nat := s.get (F.TBL_ARG_ARG (who * 6 + i))

/-- A completion in a requester's window; a VF sees TBL_DONE (R131, R445). -/
def State.completeTbl (s : State) (who op : Nat) (st : Status) : State :=
  let s := s.sets [(F.TBL_CMD_RESULT_STATUS who, st.code), (F.TBL_CMD_RESULT_OP who, op)]
  if isVf who then s.post (F.VF_EVENT_EVENTS (who - 5)) 1 else s

/-- Another requester holds the lock of a partition (R126). -/
def State.lockedOut (s : State) (who p : Nat) : Bool :=
  match s.lockOwner p with
  | some o => o ≠ who
  | none => false

/-- A table command: ignored while no Peal is Active (R125), else its checks, then its effect on OK. -/
def State.tblCommand (s : State) (who op : Nat) (checks : List (Bool × Status)) (ok : State → State) : State :=
  if s.pel.active = none then s.ignored who F.TBL_STATUS_WRITE_IGNORED
  else match firstStatus checks with
    | .ok => (ok s).completeTbl who op .ok
    | st => s.completeTbl who op st

/-- The MAC and BD of ARG0 and ARG1. -/
def State.macArg (s : State) (who : Nat) : Nat × Nat :=
  (s.tblArg who 0 + field (s.tblArg who 1) 0 16 * 2 ^ 32, field (s.tblArg who 1) 16 12)

/-- MAC_INSERT with its result in ARG2 (R126). -/
def State.macInsert (s : State) (who : Nat) : State :=
  let (mac, bd) := s.macArg who
  let r := s.tblArg who 2
  let ch := field r 0 8
  let e : MacEntry := { valid := true, static := field r 25 1 = 1, bd := bd, mac := mac, channel := ch,
                        sc := field r 8 16, scDefault := field r 24 1 = 1 }
  let at? := s.macFind bd mac
  let room := s.macPlace e
  s.tblCommand who 1 [(s.channelAbsent ch, .absent), (s.lockedOut who 0, .denied), (!s.bound ch, .stateConflict),
    (at? = none && room.isNone, .noResource)]
    (fun s => match at? with
      | some i => s.setMac i e
      | none => room.getD s)

def execMacInsert (who : Nat) (s : State) : Host.Outcome State Fault Refusal := .next (s.macInsert who)

/-- MAC_DELETE (R126). -/
def State.macDelete (s : State) (who : Nat) : State :=
  let (mac, bd) := s.macArg who
  let at? := s.macFind bd mac
  s.tblCommand who 2 [(s.lockedOut who 0, .denied), (at? = none, .stateConflict)]
    (fun s => match at? with
      | some i => s.setMac i {}
      | none => s)

def execMacDelete (who : Nat) (s : State) : Host.Outcome State Fault Refusal := .next (s.macDelete who)

/-- The 16 bytes of a MAC entry, little-endian (R112). -/
def MacEntry.bytes (e : MacEntry) : Bytes :=
  leBytes 16 (bit e.valid + 2 * bit e.static + 4 * bit e.hit + 8 * bit e.stale + e.bd * 2 ^ 16 + e.mac * 2 ^ 28 +
    e.channel * 2 ^ 76 + e.sc * 2 ^ 84 + bit e.scDefault * 2 ^ 100)

/-- A 64-bit address from two words, low word first. -/
def addr64 (lo hi : Nat) : Nat := lo + hi * 2 ^ 32

/-- MAC_DUMP: entries copied in index order (R126). -/
def State.macDump (s : State) (who : Nat) : State :=
  let first := s.tblArg who 0
  let c := field (s.tblArg who 1) 0 18
  let count := if c = 0 then 262144 else c
  s.tblCommand who 3 [(s.lockedOut who 0, .denied), (decide (s.macSize < first + count), .badArgument)]
    (fun s => s.emit (.dma (addr64 (s.tblArg who 2) (s.tblArg who 3))
      ((List.range count).flatMap (fun i => (s.macEntry (first + i)).bytes))))

def execMacDump (who : Nat) (s : State) : Host.Outcome State Fault Refusal := .next (s.macDump who)

/-- Family, length and left-aligned prefix of ARG0 to ARG4 (R126). -/
def State.lpmArg (s : State) (who : Nat) : Nat × Nat × Nat :=
  let fam := field (s.tblArg who 4) 8 1
  let len := field (s.tblArg who 4) 0 8
  (fam, len, if fam = 0 then s.tblArg who 0
    else ((s.tblArg who 0 * 2 ^ 32 + s.tblArg who 1) * 2 ^ 32 + s.tblArg who 2) * 2 ^ 32 + s.tblArg who 3)

/-- The length of a prefix is in range and no bit beyond it is set (R126). -/
def prefixArgOk (fam len addr : Nat) : Bool :=
  decide (len ≤ lpmWidth fam) && decide (addr % 2 ^ (lpmWidth fam - len) = 0)

/-- LPM_ADD (R126). -/
def State.lpmAdd (s : State) (who : Nat) : State :=
  let (fam, len, addr) := s.lpmArg who
  let r := s.tblArg who 5
  let ch := field r 0 8
  let t := s.lpm fam
  let p : Prefix := ⟨addr, len, ch, field r 8 16, field r 24 1 = 1⟩
  let new := prefixInsert p (t.prefixes.filter (fun q => !(decide (q.addr = addr) && decide (q.len = len))))
  let moved := lpmMove (lpmWidth fam) (s.lpmPool fam) t new
  s.tblCommand who 4 [(s.channelAbsent ch, .absent), (s.lockedOut who (1 + fam), .denied),
    (!prefixArgOk fam len addr, .badArgument), (!s.bound ch, .stateConflict),
    (decide (lpmLimit fam < new.length) || moved.isNone, .noResource)]
    (fun s => match moved with
      | some t => s.setLpm fam t
      | none => s)

def execLpmAdd (who : Nat) (s : State) : Host.Outcome State Fault Refusal := .next (s.lpmAdd who)

/-- LPM_DEL (R126). -/
def State.lpmDel (s : State) (who : Nat) : State :=
  let (fam, len, addr) := s.lpmArg who
  let t := s.lpm fam
  let new := t.prefixes.filter (fun q => !(decide (q.addr = addr) && decide (q.len = len)))
  let moved := lpmMove (lpmWidth fam) (s.lpmPool fam) t new
  s.tblCommand who 5 [(s.lockedOut who (1 + fam), .denied), (!prefixArgOk fam len addr, .badArgument),
    (decide (new.length = t.prefixes.length), .stateConflict), (moved.isNone, .noResource)]
    (fun s => match moved with
      | some t => s.setLpm fam t
      | none => s)

def execLpmDel (who : Nat) (s : State) : Host.Outcome State Fault Refusal := .next (s.lpmDel who)

/-- The 24 bytes of a prefix record (R126): the prefix in network order, the length, and the result as
MAC_INSERT's ARG2. DESIGN CHOICE (notes/assumptions/116): an IPv4 prefix stands in the first 4 of the 16 bytes, and the result is
little-endian. -/
def prefixRecord (fam : Nat) (p : Prefix) : Bytes :=
  beBytes 16 (if fam = 0 then p.addr * 2 ^ 96 else p.addr) ++ leBytes 1 p.len ++ leBytes 3 0 ++
    leBytes 4 (p.channel + p.sc * 2 ^ 8 + bit p.scDefault * 2 ^ 24)

/-- LPM_DUMP (R126). -/
def State.lpmDump (s : State) (who : Nat) : State :=
  let fam := field (s.tblArg who 4) 8 1
  let first := s.tblArg who 0
  let c := field (s.tblArg who 1) 0 18
  let count := if c = 0 then 131072 else c
  s.tblCommand who 6 [(s.lockedOut who (1 + fam), .denied),
    (decide ((s.lpm fam).prefixes.length < first + count), .badArgument)]
    (fun s => s.emit (.dma (addr64 (s.tblArg who 2) (s.tblArg who 3))
      ((((s.lpm fam).prefixes.drop first).take count).flatMap (prefixRecord fam))))

def execLpmDump (who : Nat) (s : State) : Host.Outcome State Fault Refusal := .next (s.lpmDump who)

/-! ### Locks (R127 to R129) -/

def State.setOwner (s : State) (p : Nat) (o : Option Nat) : State :=
  { s with tbl := { s.tbl with owner := NTab.set s.tbl.owner none p o } }

/-- The lease of a lock starts, of LEASE_US microseconds; none for a released lock. -/
def State.startLease (s : State) (p us : Nat) : State :=
  { s with tbl := { s.tbl with lease := NTab.set s.tbl.lease (0, 0) p (if us = 0 then (0, 0) else (us, s.nowNs)) } }

/-- What a read of TBL_LOCK returns: OWNER is the reader of a free lock or the holder of a held one (R127). -/
def State.lockWord (s : State) (who p : Nat) : Nat :=
  match s.lockOwner p with
  | some o => 1 + o * 16
  | none => who * 16

/-- A read of TBL_LOCK acquires a free lock. -/
def State.lockTake (s : State) (who p : Nat) : State :=
  if s.lockOwner p = none then (s.setOwner p (some who)).startLease p (s.get F.TBL_LEASE_LEASE_US) else s

/-- A read of TBL_LOCK. -/
def State.lockRead (s : State) (who p : Nat) : State := (s.lockTake who p).emit (.read who (s.lockWord who p))

def execTblLockRead (who part : Nat) (s : State) : Host.Outcome State Fault Refusal :=
  .next (if part < 3 then s.lockRead who part else s)

/-- The lock of a partition ends; the learn events that waited for partition 0 are applied (R129). -/
def State.unlock (s : State) (p : Nat) : State :=
  let s := (s.setOwner p none).startLease p 0
  if p = 0 then s.learnDrain s.tbl.learn.length else s

/-- RELEASE by the owner; from any other requester it is ignored (R128). -/
def execRelease (who part : Nat) (s : State) : Host.Outcome State Fault Refusal :=
  .next (if s.lockOwner part = some who then s.unlock part else s.ignored who F.TBL_STATUS_WRITE_IGNORED)

/-- RENEW by the owner restarts the lease (R128). -/
def execRenew (who part : Nat) (s : State) : Host.Outcome State Fault Refusal :=
  .next (if s.lockOwner part = some who then s.startLease part (Tab.get s.tbl.lease (0, 0) part).1 else s.ignored who F.TBL_STATUS_WRITE_IGNORED)

/-- LOCK_EXPIRED posted to an owner and to the PF (R128). -/
def State.postExpired (s : State) (owner : Option Nat) : State :=
  let s := s.post F.TBL_EVENT_EVENTS 0
  match owner with
  | some o => if isVf o then s.post (F.VF_EVENT_EVENTS (o - 5)) 0 else s
  | none => s

/-- The lease of a held lock has run out: LEASE_US after its acquisition or last renewal (R128). -/
def State.leaseOver (s : State) (part : Nat) : Bool :=
  let l := Tab.get s.tbl.lease (0, 0) part
  decide (l.2 + l.1 * 1000 ≤ s.nowNs)

/-- The lease of a held lock runs out (R128). -/
def execLockExpired (part : Nat) (s : State) : Host.Outcome State Fault Refusal :=
  .next (match s.lockOwner part with
    | some o => if s.leaseOver part then (s.postExpired (some o)).unlock part else s
    | none => s)

/-- A reset of a function or core releases the locks it held (R128). -/
def State.releaseLocksOf (s : State) (who : Nat) : State :=
  [0, 1, 2].foldl (fun s p => if s.lockOwner p = some who then (s.postExpired none).unlock p else s) s

end Sys2Proof.Machine
end

