-- ==== Sys2Proof/Machine/KeyBase.lean ====
section
/-! DEFINITION. Key slots, their generations and liveness, the derivations of R241 and the identity keys
(chapter 10). -/

namespace Sys2Proof.Machine
open Sys2Proof

/-- A slot of a level: 0 domain, 1 group, 2 CAK (R238). -/
def State.slot (s : State) (level i : Nat) : KeySlot :=
  match level with
  | 0 => Tab.get s.key.domain {} i
  | 1 => Tab.get s.key.group {} i
  | _ => Tab.get s.key.cak {} i

def State.setSlot (s : State) (level i : Nat) (v : KeySlot) : State :=
  match level with
  | 0 => { s with key := { s.key with domain := NTab.set s.key.domain {} i v } }
  | 1 => { s with key := { s.key with group := NTab.set s.key.group {} i v } }
  | _ => { s with key := { s.key with cak := NTab.set s.key.cak {} i v } }

/-- A slot is VALID and every slot above it is, at the generation recorded (R239). The first argument bounds
the levels. -/
def State.liveUp : Nat → State → Nat → Nat → Bool
  | 0, _, _, _ => false
  | fuel + 1, s, level, i =>
    let k := s.slot level i
    k.state = .valid && (level = 0 ||
      ((s.slot k.parentLevel k.parentIndex).gen = k.parentGen && State.liveUp fuel s k.parentLevel k.parentIndex))

/-- A slot is live (R239). -/
def State.slotLive (s : State) (level i : Nat) : Bool := State.liveUp 3 s level i

/-- A slot is live at a recorded generation (R239). -/
def State.liveAt (s : State) (level i gen : Nat) : Bool := s.slotLive level i && (s.slot level i).gen = gen

/-- A slot descends from another, itself included (R245). -/
def State.descends : Nat → State → Nat → Nat → Nat → Nat → Bool
  | 0, _, _, _, _, _ => false
  | fuel + 1, s, level, i, al, ai =>
    (decide (level = al) && decide (i = ai)) ||
      (let k := s.slot level i
       decide (level ≠ 0) && decide (k.parentLevel < 3) && State.descends fuel s k.parentLevel k.parentIndex al ai)

/-- The domain slot above a slot. -/
def State.domainOf (s : State) (level i : Nat) : Nat :=
  match level with
  | 0 => i
  | 1 => (s.slot 1 i).parentIndex
  | _ => let k := s.slot 2 i
         if k.parentLevel = 0 then k.parentIndex else (s.slot 1 k.parentIndex).parentIndex

/-- Domain ID of a domain slot (R238). -/
def State.domainId (s : State) (d : Nat) : Nat := (s.slot 0 d).id % 2 ^ 16

/-- This device's node ID in a domain (R238). -/
def State.nodeId (s : State) (d : Nat) : Nat := (s.slot 0 d).id / 2 ^ 16 % 2 ^ 16

/-- TAI seconds bits 31:0, for CREATED. -/
def State.created (s : State) : Nat := s.nowSec % 2 ^ 32

/-- The serial number as the derivations take it. -/
def State.serialBytes (s : State) : Bytes := beBytes 8 s.fus.serial

/-- Group KEK (R241). -/
def State.groupKek (s : State) (d gid : Nat) : Key :=
  toKey (kdf (s.slot 0 d).key "GRP-KEK" (beBytes 2 (s.domainId d) ++ beBytes 4 gid) 256)

/-- A pairwise or group-wide CAK (R241). -/
def State.cakOf (s : State) (g : Nat) (groupWide : Bool) (peer : Nat) (ckn : BitVec 128) : Key :=
  let k := s.slot 1 g
  let own := s.nodeId k.parentIndex
  if groupWide then toKey (kdf k.key "CAK-GROUP" (beBytes 4 k.id ++ beBytes 16 ckn.toNat) 256)
  else toKey (kdf k.key "CAK-PAIR"
    (beBytes 4 k.id ++ beBytes 2 (min own peer) ++ beBytes 2 (max own peer) ++ beBytes 16 ckn.toNat) 256)

/-- The wrap key of a slot for a child level (R241). -/
def State.wrapKey (s : State) (level i childLevel : Nat) : Key :=
  let k := s.slot level i
  toKey (kdf k.key "WRAP" (beBytes 1 childLevel ++ beBytes 4 (if level = 0 then k.id % 2 ^ 16 else k.id)) 256)

/-- The backup key of a domain (R241). -/
def State.backupKey (s : State) (d : Nat) : Key :=
  toKey (kdf (s.slot 0 d).key "BACKUP" (beBytes 2 (s.domainId d) ++ s.serialBytes) 256)

/-- The hybrid authentication key of a domain with a peer (R241). -/
def State.hybAuth (s : State) (d peer : Nat) : Key :=
  let own := s.nodeId d
  toKey (kdf (s.slot 0 d).key "HYB-AUTH"
    (beBytes 2 (s.domainId d) ++ beBytes 2 (min own peer) ++ beBytes 2 (max own peer)) 256)

/-- A CAK slot that becomes VALID, with its ICK and KEK (R242). -/
def KeySlot.withDerived (k : KeySlot) : KeySlot :=
  { k with ick := kdfDot1x k.key "IEEE8021 ICK" k.ckn, kek := kdfDot1x k.key "IEEE8021 KEK" k.ckn }

/-! ### Identity (R235, R241, R252) -/

/-- The order of the P-384 group, as FIPS 186-5 gives it. -/
def p384Order : Nat :=
  0xFFFFFFFFFFFFFFFFFFFFFFFFFFFFFFFFFFFFFFFFFFFFFFFFC7634D81F4372DDF581A0DB248B0A77AECEC196ACCC52973

/-- The root in use. -/
def State.rootKey (s : State) : Key := s.key.root.getD 0

/-- An identity scalar: 512 bits reduced to 1 … n − 1 (R241). -/
def State.idScalar (s : State) (label : String) : Nat :=
  beNat (kdf s.rootKey label s.serialBytes 512) % (p384Order - 1) + 1

def State.idMlDsaSeed (s : State) : Nat := beNat (kdf s.rootKey "ID-MLDSA" s.serialBytes 256)

def State.idKemSeed (s : State) : Nat := beNat (kdf s.rootKey "ID-MLKEM" s.serialBytes 512)

/-- The identity block of ID_GET (R252). -/
def State.idBlock (s : State) : Bytes :=
  beBytes 97 (Config.ecdhPublic (s.idScalar "ID-ECDSA")) ++ beBytes 7 0 ++
    beBytes 2592 (Config.mldsaPublic s.idMlDsaSeed) ++ beBytes 1568 (Config.kemPublic s.idKemSeed) ++
    beBytes 97 (Config.ecdhPublic (s.idScalar "ID-ECDH")) ++ beBytes 7 0

/-- The identity keys are usable (R236). -/
def State.identityReady (s : State) : Bool := s.get F.KEY_STATUS_IDENTITY_READY = 1

/-- Debug is unlocked (R413). -/
def State.debugUnlocked (s : State) : Bool := s.get F.PWR_STATUS_DEBUG_UNLOCKED = 1

/-- The test root is in use (R237). -/
def State.testRoot (s : State) : Bool := s.get F.KEY_STATUS_TEST_ROOT = 1

end Sys2Proof.Machine
end

