-- ==== Sys2Proof/Machine/SaBase.lean ====
section
/-! DEFINITION. The SC and SA tables, the SCI map, the on-die store and the event queue (R211 to R225, R233),
and what the mirroring of a twin asks of them (R315 to R317). -/

namespace Sys2Proof.Machine
open Sys2Proof

/-! ### Entries -/

def State.sc (s : State) (k : Nat) : Sc := Tab.get s.sam.sc {} k

def State.setSc (s : State) (k : Nat) (v : Sc) : State := { s with sam := { s.sam with sc := NTab.set s.sam.sc {} k v } }

def State.sa (s : State) (a : Nat) : Sa := Tab.get s.sam.sa {} a

def State.setSa (s : State) (a : Nat) (v : Sa) : State := { s with sam := { s.sam with sa := NTab.set s.sam.sa {} a v } }

/-- The SA in a slot of an SC. -/
def Sc.at (c : Sc) (an : Nat) : Option Nat := (c.slots[an]?).join

/-- The SA stands in a slot of the SC that its entry names. -/
def State.inSlot (s : State) (a : Nat) : Bool :=
  let e := s.sa a
  decide (e.state ≠ .free ∧ e.state ≠ .staged) && (s.sc e.sc).at e.an = some a

/-- The current transmit SA of an SC (R211). -/
def Sc.current (c : Sc) : Option Nat := if c.txValid then c.at c.txAn else none

/-- An SA's parent is live at the generation it recorded (R239). -/
def State.saParentLive (s : State) (e : Sa) : Bool :=
  s.liveAt (if e.parentLevel = 1 then 0 else 2) e.parent e.parentGen

/-- The state in which an SA is treated: ORPHANED from the cycle in which its parent is no longer live
(R245). -/
def State.saState (s : State) (a : Nat) : SaState :=
  let e := s.sa a
  match e.state with
  | .free => .free
  | .orphaned => .orphaned
  | st => if s.saParentLive e then st else .orphaned

/-- The number of a state in CTRL.STATE (R214). -/
def SaState.code : SaState → Nat
  | .free => 0
  | .staged => 1
  | .installed => 2
  | .active => 3
  | .retiring => 4
  | .orphaned => 5

/-- The suite uses 64-bit packet numbers (R159). -/
def xpn (suite : Nat) : Bool := decide (2 ≤ suite)

/-- Key length of a suite in bits (R214). -/
def suiteBits (suite : Nat) : Nat := if suite % 2 = 0 then 128 else 256

/-- The suite maximum PN (R214). -/
def suiteMax (suite : Nat) : Nat := if xpn suite then 2 ^ 64 - 1 else 2 ^ 32 - 1

/-- The instant of an SC's armed roll, in TAI ns. -/
def Sc.rollAt (c : Sc) : Nat := c.rollSec * 1000000000 + c.rollNs

/-! ### Events (R233) -/

/-- An SA event: its summary bit is set, and it enters the queue of 4,096 or is counted lost. -/
def State.saEvent (s : State) (code a : Nat) : State :=
  let s := s.post F.SAM_EVENT_EVENTS code
  if s.sam.evq.length ≥ 4096 then s.bump F.SAM_EVQ_LOST_LOST 32 1
  else { s with sam := { s.sam with evq := s.sam.evq ++ [(code, a)] } }

/-- What SAM_EVQ_HEAD shows: the oldest event, 0 if there is none (R233, R234). -/
def State.evqHead (s : State) : Nat :=
  match s.sam.evq with
  | [] => 0
  | (c, a) :: _ => a + c * 2 ^ 27 + 2 ^ 31

/-- The oldest event leaves the queue. -/
def State.evqPop (s : State) : State := { s with sam := { s.sam with evq := s.sam.evq.drop 1 } }

/-- A read of SAM_EVQ_HEAD pops the oldest entry; a read by a VF returns 0 and pops nothing (R234). -/
def execSamEvqPop (who : Nat) (s : State) : Host.Outcome State Fault Refusal :=
  .next (if isVf who || s.pwr.cpReset then s.emit (.read who 0) else s.evqPop.emit (.read who s.evqHead))

/-! ### The image of an entry and its copy in DDR5 (R214, R215) -/

/-- The CTRL word of an entry (R214). -/
def saCtrl (e : Sa) (st : SaState) : Nat :=
  st.code + 8 * bit e.rx + e.suite * 2 ^ 4 + bit e.pinned * 2 ^ 6 + bit e.accepting * 2 ^ 7 + e.an * 2 ^ 8 +
    bit e.exhausted * 2 ^ 10 + e.sc * 2 ^ 11

/-- The 128 bytes of an entry (R214). -/
def State.saImage (s : State) (a : Nat) : Bytes :=
  let e := s.sa a
  keyBytes e.key 32 ++ beBytes 12 e.salt ++ beBytes 4 e.ssci ++ leBytes 8 e.nextPn ++ leBytes 8 e.threshold ++
    leBytes 8 e.blockEnd ++ leBytes 4 (saCtrl e (s.saState a)) ++
    leBytes 4 (e.parent + e.parentGen * 2 ^ 14 + e.parentLevel * 2 ^ 30) ++ leBytes 4 e.actSeq ++
    leBytes 8 (e.retireAt % 1000000000 + e.retireAt / 1000000000 % 2 ^ 34 * 2 ^ 30) ++ List.replicate 36 0

/-- The table key of this reset period (R215, R228). -/
def State.tableKey (s : State) : Key := BitVec.ofNat 256 (Config.random s.key.tableKey)

/-- The copy of an entry in DDR5 is rewritten, encrypted and authenticated under the table key (R215). -/
def State.ddrWrite (s : State) (a : Nat) : State := s.emit (.saCopy a (Config.saSeal s.tableKey a (s.saImage a)))

/-! ### The on-die store (R221 to R223) -/

/-- Entries of the store in force (R111). -/
def State.storeSize (s : State) : Nat :=
  match s.pel.active with
  | some g => (imgTables g).saStore
  | none => 32768

/-- All frames that wait in queues. -/
def State.queuedFrames (s : State) : List Frame := s.buf.queues.flatMap (fun p => p.2)

/-- A frame that has passed stage 4 names the SA: in a queue, an engine or the resequencer. -/
def State.framesOf (s : State) (a : Nat) : Bool :=
  s.queuedFrames.any (fun f => f.sa = some a) || s.pool.slots.any (fun t => t.sa = some a)

/-- An entry is held on die (R221). -/
def State.held (s : State) (a : Nat) : Bool :=
  let e := s.sa a
  let c := s.sc e.sc
  s.framesOf a ||
    (decide (e.state ≠ .free ∧ e.state ≠ .staged) && !e.rx &&
      ((c.current = some a && s.queuedFrames.any (fun f => f.sc = some e.sc)) ||
        (decide (c.rollMode ≠ 0) && c.at c.nextAn = some a)))

/-- The entry is in the on-die store. -/
def State.onDie (s : State) (a : Nat) : Bool := decide (a ∈ s.sam.onDie)

/-- The store's entries without as many of the least recently used, neither pinned nor held, as it takes to leave `n`
(R221, R222). -/
def State.storeFit (s : State) (n : Nat) (l : List Nat) : List Nat :=
  let out := (l.reverse.filter (fun b => !(s.sa b).pinned && !s.held b)).take (l.length - n)
  l.filter (fun b => decide (b ∉ out))

/-- The store holds these entries from now on; the copy of each one that leaves is rewritten (R215). -/
def State.storeKeep (s : State) (l : List Nat) : State :=
  (s.sam.onDie.filter (fun b => decide (b ∉ l))).foldl State.ddrWrite { s with sam := { s.sam with onDie := l } }

/-- An entry moved into the store as the latest used. A full store evicts the least recently used entry that is
neither pinned nor held; where there is none, the entry stays off die (R221). -/
def State.toDie (s : State) (a : Nat) : State :=
  let rest := s.sam.onDie.filter (· ≠ a)
  if s.onDie a then { s with sam := { s.sam with onDie := a :: rest } }
  else
    let left := s.storeFit (s.storeSize - 1) rest
    if left.length < s.storeSize then s.storeKeep (a :: left) else s

/-- The store gives up what it holds beyond its size as soon as that is neither pinned nor held (R222). -/
def State.storeTrim (s : State) : State :=
  if s.sam.onDie.length ≤ s.storeSize then s
  else s.storeKeep (s.storeFit s.storeSize s.sam.onDie)

/-- The pinned entries. -/
def State.pinned (s : State) : Nat := (s.sam.sa.filter (fun p => p.2.pinned)).length

/-- The engine key slots that hold an SA's key are cleared (R216, R245). -/
def State.dropKeySlots (s : State) (p : Nat → Bool) : State :=
  { s with pool := { s.pool with
    keys := (s.pool.keys.map (fun e => (e.1, e.2.filter (fun a => !p a)))).filter (fun e => e.2 ≠ []) } }

/-- An SA returns to FREE: entry zeroized on die and in DDR5, its counters at 0, its slot emptied (R216,
R420). -/
def State.freeSa (s : State) (a : Nat) : State :=
  let e := s.sa a
  let c := s.sc e.sc
  let s := if e.state ≠ .free ∧ e.state ≠ .staged ∧ c.at e.an = some a then
      s.setSc e.sc { c with slots := c.slots.set e.an none, txValid := c.txValid && decide (c.txAn ≠ e.an) } else s
  let s := (s.setSa a {}).ddrWrite a
  State.dropKeySlots (State.saCountsClear { s with sam := { s.sam with
    onDie := s.sam.onDie.filter (· ≠ a), fetch := s.sam.fetch.filter (· ≠ a), pnWait := s.sam.pnWait.filter (· ≠ a) } } a)
    (fun b => b = a)

/-! ### The SCI map (R213) -/

/-- The bucket of an SCI in a bank; the bank's seed is the draw of the DRBG with the number `seed`. -/
def sciBucket (seed sci : Nat) : Nat := crc32c (beBytes 4 (Config.random seed) ++ beBytes 8 sci) % 2 ^ 14

/-- The eight candidate entries of an SCI. -/
def State.sciCands (s : State) (sci : Nat) : List Nat :=
  (List.range 4).map (fun w => sciBucket s.sam.seed0 sci * 4 + w) ++
    (List.range 4).map (fun w => 65536 + sciBucket s.sam.seed1 sci * 4 + w)

def State.sciEntry (s : State) (i : Nat) : Option (Nat × Nat) := Tab.get s.sam.sciMap none i

/-- The entry of the map that holds an SCI. -/
def State.sciFind (s : State) (sci : Nat) : Option Nat :=
  (s.sciCands sci).find? (fun i => match s.sciEntry i with
    | some (_, x) => x = sci
    | none => false)

/-- The receive SC that an SCI names. -/
def State.sciSc (s : State) (sci : Nat) : Option Nat := (s.sciFind sci).bind (fun i => (s.sciEntry i).map Prod.fst)

/-- An SC entered in the map, or none where no chain of 3 moves exists. -/
def State.sciPlace (s : State) (k sci : Nat) : Option State :=
  (cuckooPlace (fun i => match s.sciEntry i with
      | some (_, x) => s.sciCands x
      | none => []) (fun i => s.sciEntry i = none) (s.sciCands sci)).map (fun c =>
    { s with sam := { s.sam with sciMap := cuckooShift s.sam.sciMap none (some (k, sci)) c } })

/-! ### What the twin asks (R315 to R317) -/

/-- The TWIN section in force, if the role is not standalone. -/
def State.twin? (s : State) : Option TwinSection :=
  match s.pel.active with
  | some g => let t := imgTwin g; if t.role = .standalone ∨ !hasTwin s.fus.variant then none else some t
  | none => none

/-- A channel is a twin channel. -/
def State.twinChannel (s : State) (ch : Nat) : Bool :=
  match s.twin? with
  | some t => decide (ch ∈ t.channels)
  | none => false

/-- The stream whose transmit SC is `k`. -/
def State.streamOfSc (s : State) (k : Nat) : Option TwinStream :=
  s.twin?.bind (fun t => t.streams.find? (fun x => x.sc = k))

/-- An SC on a channel would be mirrored: the channel is a twin line channel and no stream names the SC (R305, R315, R318). -/
def State.mirrors (s : State) (k ch : Nat) : Bool := lineSide ch && s.twinChannel ch && (s.streamOfSc k).isNone

/-- An SC entry is mirrored. -/
def State.scMirrored (s : State) (k : Nat) : Bool := (s.sc k).created && s.mirrors k (s.sc k).channel

/-- An SA entry is mirrored: its SC is (R315). -/
def State.saMirrored (s : State) (a : Nat) : Bool :=
  decide ((s.sa a).state ≠ .free ∧ (s.sa a).state ≠ .staged ∧ ((s.sa a).state = .orphaned → s.inSlot a)) &&
    s.scMirrored (s.sa a).sc

/-- The twin's state number (R326). -/
def twinCode : TwinState → Nat
  | .init => 0
  | .seeking => 1
  | .joining => 2
  | .standby => 3
  | .active => 4
  | .handing => 5

def clapCode : Clap → Nat
  | .absent => 0
  | .ready => 1
  | .drive => 2

/-- The twin is in a state. -/
def State.twinIn (s : State) (t : TwinState) : Bool := s.get F.TWN_STATUS_STATE = twinCode t

/-- The Twin link session is up. -/
def State.twinUp (s : State) : Bool := s.get F.TWN_STATUS_LINK_UP = 1

/-- The Clapper input. -/
def State.clapIn (s : State) (c : Clap) : Bool := s.get F.TWN_STATUS_CLAP_IN = clapCode c

/-- SOLO holds (R317). -/
def State.solo (s : State) : Bool :=
  s.twinIn .active && !s.twinUp && s.clapIn .absent && s.get F.TWN_STATUS_CLAPPER_FAULT = 0

/-- This device's node ID under the TWIN section in force. -/
def State.ownNode (s : State) : Nat :=
  match s.pel.active with
  | some g => s.nodeId (imgTwin g).domainSlot
  | none => 0

/-- The domain slot that keys the Twin link (R305). -/
def State.twinSlot (s : State) : Nat :=
  match s.pel.active with
  | some g => (imgTwin g).domainSlot
  | none => 0

/-- The TYPE of a message (R308). -/
def twinType : TwinMsg → Nat
  | .hello _ => 1
  | .heartbeat _ _ _ => 2
  | .mirror _ => 3
  | .reserve _ _ => 4
  | .ack _ => 5
  | .lease _ _ _ _ _ => 6
  | .role _ => 7
  | .sync _ => 8
  | .dual _ _ _ _ => 9
  | .notice _ _ => 10

/-- Bytes 0 to 31 of a Twin link frame (R307). -/
def twinHead (node peer epoch seq : Nat) (m : TwinMsg) : Bytes :=
  beBytes 6 (0x020000000000 + peer) ++ beBytes 6 (0x020000000000 + node) ++ beBytes 2 0x88B5 ++ [1] ++ beBytes 1 (twinType m) ++
    beBytes 2 epoch ++ beBytes 2 node ++ beBytes 8 seq ++ beBytes 2 (Config.twinPayload m).length ++ [0, 0]

/-- The link key K_L with a node (R308). -/
def State.linkKey (s : State) (a b : Nat) : Key :=
  let d := s.twinSlot
  toKey (kdf (s.slot 0 d).key "TWIN-LINK" (beBytes 2 (s.domainId d) ++ beBytes 2 (min a b) ++ beBytes 2 (max a b)) 256)

/-- The domain slot of the TWIN section is VALID: without it there is no link key (R237, R308). DESIGN CHOICE
(notes/assumptions/111): no HELLO is sent or taken then. -/
def State.linkKeyed (s : State) : Bool := s.slotLive 0 s.twinSlot

/-- The ICV of a Twin link frame from `node` to `peer` (R307, R308): the CMAC of a HELLO under K_L, else the GCM tag under the
session key. -/
def State.twinIcv (s : State) (node peer epoch seq : Nat) (m : TwinMsg) : Block :=
  let a := twinHead node peer epoch seq m
  let p := Config.twinPayload m
  match m with
  | .hello _ => cmac (s.linkKey node peer) (a ++ p)
  | _ => (gcmSeal 256 (s.twn.session.getD 0) (BitVec.ofNat 96 (node * 2 ^ 80 + seq)) a p).2

/-- A Twin link frame as it leaves (R307): header, payload, encrypted but for a HELLO, ICV and FCS. -/
def State.linkFrame (s : State) (peer : Nat) (h : TwinHdr) (m : TwinMsg) : Bytes :=
  let a := twinHead h.node peer h.epoch h.seq m
  let p := Config.twinPayload m
  let body := match m with
    | .hello _ => p
    | _ => gctr 256 (s.twn.session.getD 0) (BitVec.ofNat 96 (h.node * 2 ^ 80 + h.seq)) p
  let f := a ++ body ++ blockBytes h.icv
  f ++ fcsBytes f

/-- The peer's node ID, or what the twin takes it to be before it has heard from it. -/
def State.peerNode (s : State) : Nat := if s.twn.heard then s.twn.peerNode else Config.twinPeer s.ownNode % 2 ^ 16

/-- The header of a frame to the peer. -/
def State.twinHdr (s : State) (seq : Nat) (m : TwinMsg) : TwinHdr :=
  let e := s.get F.TWN_LEASE_EPOCH
  { epoch := e, node := s.ownNode, seq := seq, icv := s.twinIcv s.ownNode s.peerNode e seq m }

/-- A frame sent in the session; an acknowledged type waits for its ACK (R307, R309). -/
def State.twinSend (s : State) (m : TwinMsg) (acked : Bool) : State :=
  let q := s.twn.txSeq + 1
  let h := s.twinHdr q m
  { s with
    out := .twin h m (s.linkFrame s.peerNode h m) :: s.out
    twn := { s.twn with
      txSeq := q
      unacked := if acked then s.twn.unacked ++ [⟨h, m, s.nowNs, s.nowNs, 0⟩] else s.twn.unacked } }

/-- The checks that the twin adds to a command that would change a mirrored SC or SA (R316): on a STANDBY,
STATE_CONFLICT; on an ACTIVE twin with the link down and the input READY or DRIVE, BUSY. -/
def State.twinBars (s : State) (mirrored : Bool) : List (Bool × Status) :=
  [(mirrored && s.twinIn .standby, .stateConflict)]

def State.twinBusy (s : State) (mirrored : Bool) : List (Bool × Status) :=
  [(mirrored && s.twinIn .active && !s.twinUp && !s.clapIn .absent, .busy)]

/-- An SC entry as a record of MIRROR and SYNC. -/
def State.scRecord (s : State) (k : Nat) : ScRecord :=
  let c := s.sc k
  { sc := k, created := c.created, enable := c.enable, dirRx := c.rx, sci := c.sci, conf := c.conf,
    offset := c.offset, clearTags := c.clearTags, tagAuth := c.tagAuth, twinTagged := c.twinTagged,
    dupCtx := c.dupCtx, channel := c.channel, owner := c.owner, egress := c.egress, window := c.window,
    overlapMs := c.overlapMs, slots := c.slots, txAn := if c.txValid then some c.txAn else none,
    rollMode := c.rollMode, nextAn := c.nextAn, rollSec := c.rollSec, rollNs := c.rollNs }

/-- An SA entry as a record: the SAK wrapped under the session key, and the first block end (R317). -/
def State.saRecord (s : State) (a firstEnd : Nat) : SaRecord :=
  let e := s.sa a
  { sa := a, state := e.state.code, dirRx := e.rx, suite := e.suite, an := e.an, sc := e.sc,
    wrapped := (kwWrap (s.twn.session.getD 0) (keyBytes e.key (suiteBits e.suite / 8))).map BitVec.toNat,
    salt := e.salt, ssci := e.ssci, threshold := e.threshold, firstEnd := firstEnd, nextRxPn := e.nextPn }

/-- A committed change of a mirrored SC goes to the peer from an ACTIVE twin with its link up (R315). -/
def State.mirrorSc (s : State) (mirrored : Bool) (k : Nat) : State :=
  if mirrored ∧ s.twinIn .active ∧ s.twinUp then s.twinSend (.mirror (.sc (s.scRecord k))) true else s

/-- A committed change of a mirrored SA goes to the peer. The record of an SA without a block asks for its
first end (R317). -/
def State.mirrorSa (s : State) (mirrored : Bool) (a : Nat) : State :=
  let e := s.sa a
  let firstEnd := if e.blockEnd < e.nextPn then min (e.nextPn - 1 + 2 ^ 20) (suiteMax e.suite) else e.blockEnd
  if mirrored ∧ s.twinIn .active ∧ s.twinUp then s.twinSend (.mirror (.sa (s.saRecord a firstEnd))) true else s

/-- A block end asked of the peer: RESERVE goes out and waits for its ACK (R317). -/
def State.reserveTo (s : State) (a newEnd : Nat) : State :=
  State.twinSend { s with twn := { s.twn with reserved := NTab.set s.twn.reserved 0 a newEnd } } (.reserve a newEnd) true

/-- The peer's latest HEARTBEAT shows a SYNCED STANDBY. -/
def State.peerStandby (s : State) : Bool := decide (s.twn.peerState = .standby) && s.twn.peerSynced

/-- The reservation of an ACTIVE twin when fewer than 2^19 PNs of a block are left (R317): by RESERVE to a
SYNCED STANDBY peer, or by the twin unit itself while SOLO. -/
def State.topUp (s : State) (a : Nat) : State :=
  let e := s.sa a
  let newEnd := min (e.blockEnd + 2 ^ 20) (suiteMax e.suite)
  if s.saMirrored a ∧ ¬e.rx ∧ s.twinIn .active ∧ e.blockEnd < e.nextPn + 2 ^ 19 ∧ e.blockEnd < suiteMax e.suite then
    if s.solo then s.setSa a { e with blockEnd := newEnd }
    else if s.twinUp ∧ s.peerStandby ∧ Tab.get s.twn.reserved 0 a < newEnd then s.reserveTo a newEnd
    else s
  else s

end Sys2Proof.Machine
end

