-- ==== Sys2Proof/Machine/SaManager.lean ====
section
/-! DEFINITION. The SC and SA commands and the key rolls (R216 to R230). -/

namespace Sys2Proof.Machine
open Sys2Proof

def State.samArg (s : State) (who i : Nat) : Nat := s.get (F.SAM_ARG_ARG (who * 24 + i))

/-- Result words written from RES0 on. -/
def State.samRes (s : State) (who : Nat) (ws : List Nat) : State :=
  s.sets ((List.range ws.length).zip ws |>.map (fun p => (F.SAM_RES_RES (who * 12 + p.1), p.2)))

/-- A command of the window runs: it waits for a fetch, or behind a ROLL_NOW (R218, R220). -/
def State.samRunning (s : State) (who : Nat) : Bool :=
  s.sam.waits.any (fun w => w.who = who) || s.sam.queue.any (fun p => p.1 = who)

/-- A completion in a requester's window: the results are zeroized on ABORTED, RUNNING stays while a command of the window
runs (R472), and a VF sees SAM_DONE (R234, R445). -/
def State.completeSam (s : State) (who op : Nat) (st : Status) : State :=
  let s := if st = .aborted ∨ who ∈ s.sam.flr then s.samRes who (List.replicate 12 0) else s
  let s := if who ∈ s.sam.flr ∧ ¬s.samRunning who then { s with sam := { s.sam with flr := s.sam.flr.filter (· ≠ who) } } else s
  let s := s.sets [(F.SAM_CMD_RESULT_STATUS who, st.code), (F.SAM_CMD_RESULT_OP who, op),
    (F.SAM_CMD_RESULT_RUNNING who, bit (s.samRunning who))]
  if isVf who then s.post (F.VF_EVENT_EVENTS (who - 5)) 2 else s

/-- An SA-manager command: its checks in R19's order, BUSY last, then its effect and its completion. -/
def State.samCommand (s : State) (who op : Nat) (checks : List (Bool × Status)) (ok : State → State) : State :=
  match firstStatus (checks ++ [(s.samRunning who, .busy)]) with
  | .ok => (ok s).completeSam who op .ok
  | st => s.completeSam who op st

/-- The first words of a window's arguments, as a command reads them when it starts. -/
def State.samWords (s : State) (who : Nat) : List Nat := (List.range 5).map (s.samArg who)

/-- A fetch is asked for the oldest waiting command whose SA is neither on die nor being fetched, while fewer than 1,024 are
pending (R218, R223). -/
def State.samFetch (s : State) : State :=
  match s.sam.waits.find? (fun w => !s.onDie w.sa && !decide (w.sa ∈ s.sam.fetch)) with
  | some w =>
    if s.sam.fetch.length < 1024 then State.prog { s with sam := { s.sam with fetch := s.sam.fetch ++ [w.sa] } } .coldFetch else s
  | none => s

/-- A command that needs its SA on die: where it is not, the command runs on until the fetch completes (R218, R220). -/
def State.samCommandOn (s : State) (who op a : Nat) (w : List Nat) (checks : List (Bool × Status)) (ok : State → State) : State :=
  if firstStatus (checks ++ [(s.samRunning who, .busy)]) = .ok ∧ ¬s.onDie a then
    State.samFetch (State.set { s with sam := { s.sam with waits := s.sam.waits ++ [⟨who, op, a, w⟩] } }
      (F.SAM_CMD_RESULT_RUNNING who) 1)
  else s.samCommand who op checks ok

/-! ### Rolls (R229, R230) -/

/-- The SA's activation takes the next value of the device-wide counter (R214). -/
def State.nextActSeq (s : State) : Nat := (s.sam.actSeq + 1) % 2 ^ 32

/-- An SA becomes ACTIVE with a new activation order. -/
def State.activated (s : State) (a : Nat) : State :=
  let s' := { s with sam := { s.sam with actSeq := s.nextActSeq } }
  s'.setSa a { s.sa a with state := .active, accepting := (s.sa a).rx, actSeq := s.nextActSeq }

/-- An SA begins to retire: a transmit SA assigns nothing more, a receive SA accepts until RETIRE_AT (R216). -/
def State.retire (s : State) (a : Nat) : State :=
  let e := s.sa a
  s.setSa a { e with
    state := .retiring
    retireAt := if e.rx then s.nowNs + (s.sc e.sc).overlapMs * 1000000 else e.retireAt }

/-- The armed SA is orphaned: the roll is disarmed and ROLL_FAILED posted (R230). -/
def State.rollFail (s : State) (k a : Nat) : State :=
  (s.setSc k { s.sc k with rollMode := 0 }).saEvent 3 a

/-- A roll fires: TX_AN moves, the new SA becomes ACTIVE and an ACTIVE old SA RETIRING, ROLL_MODE 0 (R229). -/
def State.rollFire (s : State) (k : Nat) : State :=
  let c := s.sc k
  match c.at c.nextAn with
  | none => s.setSc k { c with rollMode := 0 }
  | some a =>
    if s.saState a ≠ .installed then s.rollFail k a
    else
      let m := s.saMirrored a
      let old := (if c.txValid then c.at c.txAn else none).filter (fun b => s.saState b = .active)
      let s := match old with
        | some b => s.retire b
        | none => s
      let s := (s.activated a).setSc k { c with txAn := c.nextAn, txValid := true, rollMode := 0 }
      let s := ((s.toDie a).saEvent 2 a).scCount k .rollDone
      let s := match old with
        | some b => s.mirrorSa m b
        | none => s
      (s.mirrorSa m a).mirrorSc m k

/-- The time base has reached the instant of a roll armed by TAI (R229). -/
def State.rollDue (s : State) (k : Nat) : Bool :=
  let c := s.sc k
  c.created && decide (c.rollMode = 2 ∨ c.rollMode = 3) && decide (c.rollAt ≤ s.nowNs)

/-- A roll armed by TAI fires if its instant has come (R26, R229). -/
def State.rollIfDue (s : State) (k : Nat) : State := if s.rollDue k then s.rollFire k else s

/-- Every roll whose instant has come fires: in the cycle of a step (R26), and before a command that would see it (R229). -/
def State.rollsDue (s : State) : State := (s.sam.sc.map (fun p => p.1)).foldl State.rollIfDue s

/-- A ROLL_NOW waits for its SA: commands of every window wait behind it (R220). -/
def State.rollNowWaits (s : State) : Bool := s.sam.waits.any (fun w => w.op = 0x21)

/-- A command arrives at the SA manager. A write during a control-plane reset is discarded (R408). Rolls that are due fire
before the command, which sees them as done (R229); behind a waiting ROLL_NOW the command waits in arrival order, and a window
with a command running takes no other (R218). -/
def State.samStart (s : State) (who op : Nat) (run : State → State) : State :=
  if s.pwr.cpReset then s
  else
    let s := s.rollsDue.storeTrim
    if s.rollNowWaits ∧ ¬s.samRunning who then
      State.set { s with sam := { s.sam with queue := s.sam.queue ++ [(who, op)] } } (F.SAM_CMD_RESULT_RUNNING who) 1
    else run s

/-! ### SC commands (R219) -/

/-- The lowest free slot of a VF's counter window (R434). -/
def State.vfSlotTake (s : State) (vf k : Nat) : State :=
  let used := (s.cnt.vfSlot.filter (fun p => p.1 = vf)).map (fun p => p.2.1)
  match (List.range 1792).find? (fun j => j ∉ used) with
  | some j => { s with cnt := { s.cnt with vfSlot := s.cnt.vfSlot ++ [(vf, j, k)] } }
  | none => s

/-- The SC that SC_CREATE's arguments describe. -/
def State.scArgs (s : State) (who : Nat) : Nat × Sc :=
  let a := fun i => s.samArg who i
  let rx := field (a 0) 16 1 = 1
  (field (a 0) 0 16,
    { created := true, enable := true, rx := rx, sci := a 2 * 2 ^ 32 + a 3
      conf := field (a 4) 0 1 = 1, offset := field (a 4) 1 2, clearTags := field (a 4) 3 2
      tagAuth := field (a 4) 5 1 = 1, twinTagged := field (a 4) 6 1 = 1, dupCtx := field (a 4) 7 8
      channel := field (a 0) 17 8, owner := field (a 1) 8 4
      egress := if rx then field (a 1) 0 8 else 255
      overlapMs := field (a 6) 0 14, window := field (a 5) 0 31 })

/-- The Active bank makes a channel a transit client, which no command may name (R96). -/
def State.transit (s : State) (ch : Nat) : Bool :=
  match s.pel.active.bind (fun g => clientOf g ch) with
  | some (_, c) => c.transit
  | none => false

/-- SC_CREATE. -/
def State.scCreate (s : State) (who : Nat) : State :=
  let (k, c) := s.scArgs who
  let mirrored := s.mirrors k c.channel
  let room := if c.rx then s.sciPlace k c.sci else some s
  s.samCommand who 0x01
    ([(s.channelAbsent c.channel || (c.rx && s.channelAbsent c.egress), .absent),
      (isVf who, .denied),
      (!lineSide c.channel || (c.rx && decide (32 ≤ c.egress)) || c.offset = 3 || c.clearTags = 3 ||
        decide (c.owner < 4 ∨ 12 < c.owner) || decide (2 ^ 30 < c.window) || decide (10000 < c.overlapMs), .badArgument),
      ((s.sc k).created || !s.bound c.channel || s.transit c.channel ||
        (c.rx && (!s.bound c.egress || s.transit c.egress)) ||
        (c.rx && (s.sciFind c.sci).isSome), .stateConflict)] ++ s.twinBars mirrored ++
     [(room.isNone, .noResource)] ++ s.twinBusy mirrored)
    (fun s =>
      let s := (room.getD s).setSc k c
      let s := if 5 ≤ c.owner then s.vfSlotTake c.owner k else s
      s.mirrorSc mirrored k)

def execScCreate (who : Nat) (s : State) : Host.Outcome State Fault Refusal :=
  .next (s.samStart who 0x01 (fun s => s.scCreate who))

/-- SC_MODIFY. -/
def State.scModify (s : State) (who : Nat) : State :=
  let k := field (s.samArg who 0) 0 16
  let sel := s.samArg who 1
  let c := s.sc k
  let win := field (s.samArg who 2) 0 31
  let eg := field (s.samArg who 3) 0 8
  let ov := field (s.samArg who 3) 8 14
  let doEg := field sel 1 1 = 1 && c.rx
  let m := s.scMirrored k
  s.samCommand who 0x02
    ([(doEg && s.channelAbsent eg, .absent), (isVf who, .denied),
      ((field sel 0 1 = 1 && decide (2 ^ 30 < win)) || (doEg && decide (32 ≤ eg)) ||
        (field sel 2 1 = 1 && decide (10000 < ov)), .badArgument),
      (!c.created || (doEg && (!s.bound eg || s.transit eg)), .stateConflict)] ++ s.twinBars m ++ s.twinBusy m)
    (fun s => State.mirrorSc (s.setSc k { c with
        window := if field sel 0 1 = 1 then win else c.window
        egress := if doEg then eg else c.egress
        overlapMs := if field sel 2 1 = 1 then ov else c.overlapMs
        enable := if field sel 3 1 = 1 then field (s.samArg who 3) 22 1 = 1 else c.enable }) m k)

def execScModify (who : Nat) (s : State) : Host.Outcome State Fault Refusal :=
  .next (s.samStart who 0x02 (fun s => s.scModify who))

/-- SC_DELETE. -/
def State.scDelete (s : State) (who : Nat) : State :=
  let k := field (s.samArg who 0) 0 16
  let c := s.sc k
  let m := s.scMirrored k
  s.samCommand who 0x03
    ([(isVf who, .denied),
      (!c.created || c.slots.any Option.isSome || decide (c.rollMode ≠ 0), .stateConflict)] ++
      s.twinBars m ++ s.twinBusy m)
    (fun s =>
      let s := match (if c.rx then s.sciFind c.sci else none) with
        | some i => { s with sam := { s.sam with sciMap := NTab.set s.sam.sciMap none i none } }
        | none => s
      let s := { s.setSc k {} with cnt := { s.cnt with vfSlot := s.cnt.vfSlot.filter (fun p => p.2.2 ≠ k) } }
      s.mirrorSc m k)

def execScDelete (who : Nat) (s : State) : Host.Outcome State Fault Refusal :=
  .next (s.samStart who 0x03 (fun s => s.scDelete who))

/-- A word of an entry image: the lowest-addressed byte in bits 7:0 (R12). -/
def leWord (bs : Bytes) : Nat := leNat (bs.take 4)

/-- The SC entry's words 0x00 to 0x2C (R212). -/
def Sc.words (c : Sc) : List Nat :=
  [leWord (beBytes 4 (c.sci / 2 ^ 32)), leWord (beBytes 4 (c.sci % 2 ^ 32))] ++
  c.slots.map (fun o => match o with
    | some a => a + 2 ^ 31
    | none => 0) ++
  [ bit c.created + 2 * bit c.enable + 4 * bit c.rx + 8 * bit c.conf + c.offset * 2 ^ 4 + c.clearTags * 2 ^ 6 +
      bit c.tagAuth * 2 ^ 8 + bit c.twinTagged * 2 ^ 9 + c.dupCtx * 2 ^ 10 + c.channel * 2 ^ 18 + c.owner * 2 ^ 26
  , c.egress + c.txAn * 2 ^ 8 + bit c.txValid * 2 ^ 10 + c.nextAn * 2 ^ 11 + c.rollMode * 2 ^ 13 + c.overlapMs * 2 ^ 15
  , c.window, c.rollNs, c.rollSec % 2 ^ 32, c.rollSec / 2 ^ 32 ]

/-- SC_READ: the PF, the cores and the SC's owner may read it. -/
def State.scRead (s : State) (who : Nat) : State :=
  let k := field (s.samArg who 0) 0 16
  let c := s.sc k
  s.samCommand who 0x04 [(isVf who && decide (c.owner ≠ who), .denied)] (fun s => s.samRes who c.words)

def execScRead (who : Nat) (s : State) : Host.Outcome State Fault Refusal :=
  .next (s.samStart who 0x04 (fun s => s.scRead who))

/-! ### SA commands (R220) -/

/-- The SA index of ARG0. -/
def State.saArg (s : State) (who : Nat) : Nat := field (s.samArg who 0) 0 17

/-- A 64-bit argument of two words, low word first. -/
def State.samArg64 (s : State) (who i : Nat) : Nat := s.samArg who i + s.samArg who (i + 1) * 2 ^ 32

/-- The byte string of consecutive argument words (R12). -/
def State.samBytes (s : State) (who i len : Nat) : Bytes :=
  ((List.range (len / 4)).flatMap (fun j => beBytes 4 (s.samArg who (i + j))))

/-- SA_STAGE: the key comes from the DRBG, from an AES-KW blob under the parent's KEK, or in plain. On a twin a
transmit SA starts without a block (R317). -/
def State.saStage (s : State) (who : Nat) : State :=
  let a := s.saArg who
  let w := s.samArg who 1
  let suite := field w 0 2
  let source := field w 2 2
  let parent := field w 4 14
  let rx := field w 18 1 = 1
  let n := suiteBits suite / 8
  let pn := s.samArg64 who 6
  let th := s.samArg64 who 8
  let p := s.slot 2 parent
  let live := s.slotLive 2 parent
  let fresh := beBytes n (s.draw (8 * n))
  let key? := match source with
    | 0 => some fresh
    | 1 => kwUnwrap p.kek (s.samBytes who 10 (n + 8))
    | _ => some (s.samBytes who 10 n)
  s.samCommand who 0x10
    [(isVf who || (source = 2 && !s.debugUnlocked), .denied),
      (source = 3 || pn = 0 || decide (suiteMax suite < pn) || decide (suiteMax suite < th) ||
        (rx && decide (th ≠ 0)) || (source = 1 && live && key?.isNone), .badArgument),
      (decide ((s.sa a).state ≠ .free) || !live, .stateConflict)]
    (fun s =>
      let key := key?.getD []
      let s := if source = 0 then s.drew else s
      let s := s.saCountsClear a
      let s := s.setSa a { state := .staged, rx := rx, suite := suite, key := toKey key
                           salt := if xpn suite then beNat (s.samBytes who 3 12) else 0
                           ssci := if xpn suite then s.samArg who 2 else 0
                           nextPn := pn, threshold := th
                           blockEnd := if !rx && s.twin?.isSome then pn - 1 else suiteMax suite
                           parent := parent, parentGen := p.gen }
      let s := s.toDie a
      let s := if s.onDie a then s else s.ddrWrite a
      if source = 0 then s.samRes who (words ((n + 8) / 4) (kwWrap p.kek key)) else s)

def execSaStage (who : Nat) (s : State) : Host.Outcome State Fault Refusal :=
  .next (s.samStart who 0x10 (fun s => s.saStage who))

/-- SA_INSTALL. An SA that is not mirrored needs no block reservation. -/
def State.saInstall (s : State) (who : Nat) : State :=
  let a := s.saArg who
  let k := field (s.samArg who 1) 0 16
  let an := field (s.samArg who 1) 16 2
  let e := s.sa a
  let c := s.sc k
  let m := s.scMirrored k
  s.samCommand who 0x11
    ([(isVf who, .denied),
      (decide (s.saState a ≠ .staged) || !c.created || decide (c.rx ≠ e.rx) || (c.at an).isSome, .stateConflict)] ++
      s.twinBars m ++ s.twinBusy m)
    (fun s =>
      let s := s.setSc k { c with slots := c.slots.set an (some a) }
      let s := s.setSa a { e with state := .installed, sc := k, an := an
                                  blockEnd := if e.rx ∨ m then e.blockEnd else suiteMax e.suite }
      (s.mirrorSa m a).mirrorSc m k)

def execSaInstall (who : Nat) (s : State) : Host.Outcome State Fault Refusal :=
  .next (s.samStart who 0x11 (fun s => s.saInstall who))

/-- Some SA of the SC is the ACTIVE transmit SA. -/
def State.hasActiveTx (s : State) (c : Sc) : Bool :=
  c.slots.any (fun o => match o with
    | some a => s.saState a = .active && !(s.sa a).rx
    | none => false)

/-- The word `i` of the arguments a command started with. -/
def argAt (w : List Nat) (i : Nat) : Nat := (w[i]?).getD 0

/-- SA_ACTIVATE: a transmit SA is fetched on die first. -/
def State.saActivate (s : State) (who : Nat) (w : List Nat) : State :=
  let a := field (argAt w 0) 0 17
  let e := s.sa a
  let c := s.sc e.sc
  let m := s.saMirrored a
  let checks := [(isVf who, .denied),
      (decide (s.saState a ≠ .installed) || (!e.rx && (s.hasActiveTx c || decide (c.rollMode ≠ 0))), .stateConflict)] ++
      s.twinBars m ++ s.twinBusy m
  (if e.rx then s.samCommand who 0x12 checks else s.samCommandOn who 0x12 a w checks)
    (fun s =>
      let s := s.activated a
      let s := if e.rx then s else (s.setSc e.sc { c with txAn := e.an, txValid := true }).toDie a
      (s.mirrorSa m a).mirrorSc m e.sc)

def execSaActivate (who : Nat) (s : State) : Host.Outcome State Fault Refusal :=
  .next (s.samStart who 0x12 (fun s => s.saActivate who (s.samWords who)))

/-- SA_RETIRE. -/
def State.saRetire (s : State) (who : Nat) : State :=
  let a := s.saArg who
  let e := s.sa a
  let c := s.sc e.sc
  let m := s.saMirrored a
  s.samCommand who 0x13
    ([(isVf who, .denied), (decide (s.saState a ≠ .active) || decide (c.rollMode ≠ 0), .stateConflict)] ++
      s.twinBars m ++ s.twinBusy m)
    (fun s =>
      let s := s.retire a
      let s := if e.rx then s else s.setSc e.sc { c with txValid := false }
      (s.mirrorSa m a).mirrorSc m e.sc)

def execSaRetire (who : Nat) (s : State) : Host.Outcome State Fault Refusal :=
  .next (s.samStart who 0x13 (fun s => s.saRetire who))

/-- The SA is that of an armed roll. -/
def State.armedSa (s : State) (a : Nat) : Bool :=
  let e := s.sa a
  let c := s.sc e.sc
  decide (e.state ≠ .free ∧ e.state ≠ .staged) && decide (c.rollMode ≠ 0) && c.at c.nextAn = some a

/-- SA_DELETE. -/
def State.saDelete (s : State) (who : Nat) : State :=
  let a := s.saArg who
  let st := s.saState a
  let k := (s.sa a).sc
  let m := s.saMirrored a
  s.samCommand who 0x14
    ([(isVf who, .denied), (decide (st = .free ∨ st = .active) || s.armedSa a, .stateConflict)] ++ s.twinBars m ++
      [(decide (st = .retiring ∨ st = .orphaned) && s.framesOf a, .busy)] ++ s.twinBusy m)
    (fun s => ((s.freeSa a).mirrorSa m a).mirrorSc m k)

/-- SA_SET_PN. -/
def State.saSetPn (s : State) (who : Nat) : State :=
  let a := s.saArg who
  let e := s.sa a
  let pn := s.samArg64 who 1
  let st := s.saState a
  let m := s.saMirrored a
  s.samCommand who 0x15
    ([(isVf who, .denied), (pn = 0 || decide (suiteMax e.suite < pn), .badArgument),
      (decide (st = .free ∨ st = .orphaned), .stateConflict)] ++ s.twinBars m ++ s.twinBusy m)
    (fun s => State.mirrorSa (s.setSa a { e with nextPn := max e.nextPn pn }) m a)

def execSaSetPn (who : Nat) (s : State) : Host.Outcome State Fault Refusal :=
  .next (s.samStart who 0x15 (fun s => s.saSetPn who))

/-- SA_SET_THRESHOLD re-arms PN_THRESHOLD (R225). -/
def State.saSetThreshold (s : State) (who : Nat) : State :=
  let a := s.saArg who
  let e := s.sa a
  let th := s.samArg64 who 1
  let st := s.saState a
  let m := s.saMirrored a
  s.samCommand who 0x16
    ([(isVf who, .denied), (decide (suiteMax e.suite < th), .badArgument),
      (e.rx || decide (st = .free ∨ st = .orphaned), .stateConflict)] ++ s.twinBars m ++ s.twinBusy m)
    (fun s => State.mirrorSa (s.setSa a { e with threshold := th, posted := false }) m a)

def execSaSetThreshold (who : Nat) (s : State) : Host.Outcome State Fault Refusal :=
  .next (s.samStart who 0x16 (fun s => s.saSetThreshold who))

/-- The pin limit: the store size minus 4,096, the smaller of two while a bank is VERIFIED or ARMED (R222). -/
def State.pinLimit (s : State) : Nat :=
  let own := s.storeSize - 4096
  match s.pel.shadow with
  | some g => if s.get F.PEL_STATUS_SHADOW = 2 ∨ s.get F.PEL_STATUS_SHADOW = 3 then min own ((imgTables g).saStore - 4096)
    else own
  | none => own

/-- SA_PIN: the entry is fetched and kept on die (R222). -/
def State.saPin (s : State) (who : Nat) (w : List Nat) : State :=
  let a := field (argAt w 0) 0 17
  let e := s.sa a
  s.samCommandOn who 0x17 a w
    [(isVf who, .denied), (decide (e.state = .free), .stateConflict),
      (!e.pinned && decide (s.pinLimit ≤ s.pinned), .noResource)]
    (fun s => (s.toDie a).setSa a { e with pinned := true })

def execSaPin (who : Nat) (s : State) : Host.Outcome State Fault Refusal :=
  .next (s.samStart who 0x17 (fun s => s.saPin who (s.samWords who)))

/-- SA_UNPIN. -/
def State.saUnpin (s : State) (who : Nat) : State :=
  let a := s.saArg who
  let e := s.sa a
  s.samCommand who 0x18 [(isVf who, .denied), (!e.pinned, .stateConflict)]
    (fun s => s.setSa a { e with pinned := false })

def execSaUnpin (who : Nat) (s : State) : Host.Outcome State Fault Refusal :=
  .next (s.samStart who 0x18 (fun s => s.saUnpin who))

/-- SA_READ: OK in every state; a VF may read the SAs in the slots of its SCs. -/
def State.saRead (s : State) (who : Nat) : State :=
  let a := s.saArg who
  let e := s.sa a
  let mine := s.inSlot a && decide ((s.sc e.sc).owner = who)
  s.samCommand who 0x19 [(isVf who && !mine, .denied)]
    (fun s =>
      if e.state = .free then s.samRes who (List.replicate 9 0)
      else s.samRes who [saCtrl e (s.saState a), e.parent + e.parentGen * 2 ^ 14 + e.parentLevel * 2 ^ 30,
        e.nextPn % 2 ^ 32, e.nextPn / 2 ^ 32 % 2 ^ 32, e.threshold % 2 ^ 32, e.threshold / 2 ^ 32,
        e.blockEnd % 2 ^ 32, e.blockEnd / 2 ^ 32, bit (s.onDie a)])

def execSaRead (who : Nat) (s : State) : Host.Outcome State Fault Refusal :=
  .next (s.samStart who 0x19 (fun s => s.saRead who))

/-! ### Roll commands (R220) -/

/-- A roll cannot be armed: a receive SC or none, a roll armed already, NEXT_AN the current slot, or no
INSTALLED SA in the slot (R220). -/
def State.rollConflict (s : State) (k an : Nat) : Bool :=
  let c := s.sc k
  !c.created || c.rx || decide (c.rollMode ≠ 0) || (c.txValid && decide (c.txAn = an)) ||
    (match c.at an with
     | some a => decide (s.saState a ≠ .installed)
     | none => true)

/-- The SA that a roll to a slot would make current. -/
def State.rollSa (s : State) (k an : Nat) : Nat := ((s.sc k).at an).getD 0

/-- ROLL_ARM: the roll is armed once the next SA is on die. -/
def State.rollArm (s : State) (who : Nat) (w : List Nat) : State :=
  let k := field (argAt w 0) 0 16
  let an := field (argAt w 1) 0 2
  let mode := field (argAt w 1) 2 2
  let ns := field (argAt w 2) 0 30
  let c := s.sc k
  let m := s.scMirrored k
  s.samCommandOn who 0x20 (s.rollSa k an) w
    ([(isVf who, .denied), (mode = 0 || decide (999999999 < ns), .badArgument), (s.rollConflict k an, .stateConflict)] ++
      s.twinBars m ++ s.twinBusy m)
    (fun s =>
      let s := s.setSc k { c with nextAn := an, rollMode := mode, rollNs := ns
                                  rollSec := argAt w 3 + field (argAt w 4) 0 16 * 2 ^ 32 }
      State.mirrorSc (match c.at an with
        | some a => s.toDie a
        | none => s) m k)

def execRollArm (who : Nat) (s : State) : Host.Outcome State Fault Refusal :=
  .next (s.samStart who 0x20 (fun s => s.rollArm who (s.samWords who)))

/-- ROLL_NOW: the roll fires once the next SA is on die, with no command between. -/
def State.rollNow (s : State) (who : Nat) (w : List Nat) : State :=
  let k := field (argAt w 0) 0 16
  let an := field (argAt w 1) 0 2
  let c := s.sc k
  let m := s.scMirrored k
  s.samCommandOn who 0x21 (s.rollSa k an) w
    ([(isVf who, .denied), (s.rollConflict k an, .stateConflict)] ++ s.twinBars m ++ s.twinBusy m)
    (fun s => (s.setSc k { c with nextAn := an }).rollFire k)

def execRollNow (who : Nat) (s : State) : Host.Outcome State Fault Refusal :=
  .next (s.samStart who 0x21 (fun s => s.rollNow who (s.samWords who)))

/-- ROLL_DISARM. -/
def State.rollDisarm (s : State) (who : Nat) : State :=
  let k := field (s.samArg who 0) 0 16
  let c := s.sc k
  let m := s.scMirrored k
  s.samCommand who 0x22
    ([(isVf who, .denied), (!c.created || c.rollMode = 0, .stateConflict)] ++ s.twinBars m ++ s.twinBusy m)
    (fun s => State.mirrorSc (s.setSc k { c with rollMode := 0 }) m k)

def execRollDisarm (who : Nat) (s : State) : Host.Outcome State Fault Refusal :=
  .next (s.samStart who 0x22 (fun s => s.rollDisarm who))

/-- ROLL_TIME_REACHED. -/
def execRollTimeReached (sc : Nat) (s : State) : Host.Outcome State Fault Refusal := .next (s.rollIfDue sc)

/-- RETIRE_AT_REACHED: the overlap of a retiring receive SA ends (R216). -/
def execRetireAtReached (sa : Nat) (s : State) : Host.Outcome State Fault Refusal :=
  let e := s.sa sa
  .next (if e.state = .retiring ∧ e.rx ∧ e.accepting ∧ e.retireAt ≤ s.nowNs then
      State.mirrorSa (s.setSa sa { e with accepting := false }) (s.saMirrored sa) sa
    else s)

/-! ### Commands that waited (R218, R220, R223) -/

/-- An OP code that is not listed (R218). -/
def State.samUnlisted (s : State) (who op : Nat) : State :=
  s.samCommand who op [(isVf who, .denied), (true, .badArgument)] id

/-- The command of an OP code runs. -/
def State.samRun (s : State) (who op : Nat) : State :=
  match op with
  | 0x01 => s.scCreate who
  | 0x02 => s.scModify who
  | 0x03 => s.scDelete who
  | 0x04 => s.scRead who
  | 0x10 => s.saStage who
  | 0x11 => s.saInstall who
  | 0x12 => s.saActivate who (s.samWords who)
  | 0x13 => s.saRetire who
  | 0x14 => s.saDelete who
  | 0x15 => s.saSetPn who
  | 0x16 => s.saSetThreshold who
  | 0x17 => s.saPin who (s.samWords who)
  | 0x18 => s.saUnpin who
  | 0x19 => s.saRead who
  | 0x20 => s.rollArm who (s.samWords who)
  | 0x21 => s.rollNow who (s.samWords who)
  | 0x22 => s.rollDisarm who
  | op => s.samUnlisted who op

/-- A command that waited for its SA is judged again as things stand now, and takes effect. -/
def State.samAgain (s : State) (w : SamWait) : State :=
  match w.op with
  | 0x12 => s.saActivate w.who w.args
  | 0x17 => s.saPin w.who w.args
  | 0x20 => s.rollArm w.who w.args
  | _ => s.rollNow w.who w.args

/-- The commands behind a ROLL_NOW that has ended run in arrival order, until another ROLL_NOW waits. -/
def State.samDrain (s : State) : State :=
  if s.rollNowWaits then s
  else
    s.sam.queue.foldl (fun s p => s.samStart p.1 p.2 (fun s => s.samRun p.1 p.2)) { s with sam := { s.sam with queue := [] } }

/-- The commands whose SA has come on die, or is FREE again, go on in arrival order. -/
def State.samResume (s : State) : State :=
  let go := fun (w : SamWait) => s.onDie w.sa || decide ((s.sa w.sa).state = .free)
  if s.sam.waits.any go then
    ((s.sam.waits.filter go).foldl State.samAgain { s with sam := { s.sam with waits := s.sam.waits.filter (fun w => !go w) } }).samDrain
  else s

def execSaDelete (who : Nat) (s : State) : Host.Outcome State Fault Refusal :=
  .next (s.samStart who 0x14 (fun s => s.saDelete who)).samResume

/-- Commands that wait end with ABORTED (R220, R230, R408). -/
def State.samAbort (s : State) (p : SamWait → Bool) : State :=
  if s.sam.waits.any p then
    ((s.sam.waits.filter p).foldl (fun (s : State) w => s.completeSam w.who w.op .aborted)
      { s with sam := { s.sam with waits := s.sam.waits.filter (fun w => !p w) } }).samDrain
  else s

/-- A control-plane reset and a zeroization end every command in progress or waiting (R247, R408). -/
def State.samAbortAll (s : State) : State :=
  let all := s.sam.waits.map (fun w => (w.who, w.op)) ++ s.sam.queue
  all.foldl (fun (s : State) p => s.completeSam p.1 p.2 .aborted) { s with sam := { s.sam with waits := [], queue := [] } }

/-- A ROLL_NOW whose SA is orphaned before its roll fires, which counts as armed: ROLL_FAILED, and ABORTED (R220, R230). -/
def State.rollNowFails (s : State) : State :=
  let p := fun (w : SamWait) => decide (w.op = 0x21) && decide (s.saState w.sa = .orphaned)
  ((s.sam.waits.filter p).foldl (fun s w => s.saEvent 3 w.sa) s).samAbort p

/-- SCs whose armed SA is no longer live lose their roll, and a waiting ROLL_NOW ends (R230). -/
def State.rollsOrphaned (s : State) : State :=
  State.rollNowFails ((s.sam.sc.filter (fun p => decide (p.2.rollMode ≠ 0))).foldl (fun s p =>
    match p.2.at p.2.nextAn with
    | some a => if s.saState a = .orphaned then s.rollFail p.1 a else s
    | none => s) s)

end Sys2Proof.Machine
end

