-- ==== Sys2Proof/Machine/KeyStore.lean ====
section
/-! DEFINITION. The key commands (R243 to R256): challenge and domain import, derivation, import, export,
invalidation and its sweep, the hybrid exchange, identity and attestation. -/

namespace Sys2Proof.Machine
open Sys2Proof

def State.keyArg (s : State) (who i : Nat) : Nat := s.get (F.KEY_ARG_ARG (who * 24 + i))

def State.keyArgBytes (s : State) (who i len : Nat) : Bytes :=
  (List.range (len / 4)).flatMap (fun j => beBytes 4 (s.keyArg who (i + j)))

/-- The address of two argument words, low word first. -/
def State.keyAddr (s : State) (who i : Nat) : Nat := addr64 (s.keyArg who i) (s.keyArg who (i + 1))

/-- The CKN of four argument words. -/
def State.keyCkn (s : State) (who i : Nat) : BitVec 128 := BitVec.ofNat 128 (beNat (s.keyArgBytes who i 16))

/-- A completion with its result words; the others read zero, since a command that runs zeroizes them (R256). A command refused
with BUSY leaves them unchanged (R472). -/
def State.completeKey (s : State) (who op : Nat) (st : Status) (res : List Nat := []) : State :=
  s.sets ((if st = .busy then [] else (List.range 12).map (fun i => (F.KEY_RES_RES (who * 12 + i), (res[i]?).getD 0))) ++
    [(F.KEY_CMD_RESULT_STATUS who, st.code), (F.KEY_CMD_RESULT_OP who, op)])

/-- A key command: a write by a VF finds no KEY block and is ignored, and one during a control-plane reset is discarded
(R408); otherwise its checks (R19), then its effect with its result words. -/
def State.keyCommand (s : State) (who op : Nat) (checks : List (Bool × Status)) (ok : State → State)
    (res : List Nat := []) : State :=
  if isVf who then s.ignored who F.KEY_STATUS_WRITE_IGNORED
  else if s.pwr.cpReset then s
  else match firstStatus checks with
    | .ok => (ok s).completeKey who op .ok res
    | st => s.completeKey who op st

/-! ### CHALLENGE and DOMAIN_IMPORT (R244) -/

/-- CHALLENGE draws a new challenge, which replaces any earlier one. -/
def State.challengeCmd (s : State) (who : Nat) : State :=
  let c := s.draw 128
  s.keyCommand who 0x01 []
    (fun s => { s.drew with key := { s.key with challenge := some (BitVec.ofNat 128 c, s.nowNs) } })
    (words 4 (beBytes 16 c))

def execChallenge (who : Nat) (s : State) : Host.Outcome State Fault Refusal := .next (s.challengeCmd who)

/-- The domain key of a package under this device's identity keys, if it unwraps (R244). -/
def State.packageKey (s : State) (p : DomainPackage) : Option Bytes :=
  let ss := beBytes 32 (Config.kemDecap s.idKemSeed p.kemCt)
  let x := beBytes 48 (Config.ecdh (s.idScalar "ID-ECDH") p.ecdhPub)
  let t := Config.sha384 (ascii "GRL-DOM" ++ ss ++ x ++ beBytes 48 (Config.sha384 (packageHead p)).toNat)
  if Config.ecdhOk p.ecdhPub && Config.kemCtOk p.kemCt then
    kwUnwrap (toKey (beBytes 48 t.toNat)) (p.wrapped.flatMap (beBytes 4))
  else none

/-- The package carries the latest challenge, unused and at most 600 s old. -/
def State.challengeOk (s : State) (p : DomainPackage) : Bool :=
  match s.key.challenge with
  | some (c, t) => decide (p.challenge = c ∧ s.nowNs ≤ t + 600 * 1000000000 ∧ t ≤ s.nowNs)
  | none => false

/-- Another domain slot that is not EMPTY holds the domain ID. -/
def State.domainTaken (s : State) (d id : Nat) : Bool :=
  (List.range 16).any (fun i => decide (i ≠ d) && decide ((s.slot 0 i).state ≠ .empty) && s.domainId i = id)

/-- DOMAIN_IMPORT; without identity keys the wrapped key cannot be judged (R236). -/
def State.domainImport (s : State) (who : Nat) (p : DomainPackage) : State :=
  let d := field (s.keyArg who 0) 0 4
  let k := s.slot 0 d
  let key? := s.packageKey p
  s.keyCommand who 0x02
    [(!(s.signerOk p.signerSlot p.sig && sigsOk p.sig (Config.sha384 (packageSigned p))), .denied),
      (decide (s.keyArg who 3 < 9160) || decide (p.serial ≠ s.fus.serial) || (s.identityReady && key?.isNone), .badArgument),
      (!s.identityReady || decide (k.state ≠ .empty) || !s.challengeOk p || s.domainTaken d p.domainId, .stateConflict)]
    (fun s => State.setSlot { s with key := { s.key with challenge := none } } 0 d
      { state := .valid, origin := 1, testRoot := s.testRoot, gen := k.gen, parentLevel := 3
        id := p.domainId % 2 ^ 16 + p.nodeId % 2 ^ 16 * 2 ^ 16, created := s.created, key := toKey (key?.getD []) })

def execDomainImport (who : Nat) (pkg : DomainPackage) (s : State) : Host.Outcome State Fault Refusal :=
  .next (s.domainImport who pkg)

/-! ### Derivation (R241) -/

/-- GROUP_DERIVE. -/
def State.groupDerive (s : State) (who : Nat) : State :=
  let w := s.keyArg who 0
  let g := field w 0 12
  let d := field w 12 4
  let gid := s.keyArg who 1
  s.keyCommand who 0x03 [(decide ((s.slot 1 g).state ≠ .empty) || !s.slotLive 0 d, .stateConflict)]
    (fun s => s.setSlot 1 g
      { state := .valid, origin := 0, testRoot := s.testRoot, gen := (s.slot 1 g).gen, parentIndex := d, parentLevel := 0
        parentGen := (s.slot 0 d).gen, id := gid, created := s.created, key := s.groupKek d gid })

def execGroupDerive (who : Nat) (s : State) : Host.Outcome State Fault Refusal := .next (s.groupDerive who)

/-- CAK_DERIVE. -/
def State.cakDerive (s : State) (who : Nat) : State :=
  let w := s.keyArg who 0
  let c := field w 0 14
  let g := field w 14 12
  let wide := field w 26 1 = 1
  let peer := field (s.keyArg who 1) 0 16
  let ckn := s.keyCkn who 2
  let live := s.slotLive 1 g
  s.keyCommand who 0x04
    [(!wide && live && decide (peer = s.nodeId (s.slot 1 g).parentIndex), .badArgument),
      (decide ((s.slot 2 c).state ≠ .empty) || !live, .stateConflict)]
    (fun s => s.setSlot 2 c (KeySlot.withDerived
      { state := .valid, origin := 0, testRoot := s.testRoot, gen := (s.slot 2 c).gen, parentIndex := g, parentLevel := 1
        parentGen := (s.slot 1 g).gen, id := peer + 2 ^ 16 * bit wide, ckn := ckn, created := s.created
        key := s.cakOf g wide peer ckn }))

def execCakDerive (who : Nat) (s : State) : Host.Outcome State Fault Refusal := .next (s.cakDerive who)

/-! ### Import and export (R243) -/

/-- KEY_IMPORT. -/
def State.keyImport (s : State) (who : Nat) : State :=
  let w := s.keyArg who 0
  let level := field w 0 2
  let i := field w 2 14
  let parent := field w 16 14
  let source := field (s.keyArg who 1) 0 2
  let live := s.slotLive (level - 1) parent
  let kek := if source = 0 then s.wrapKey (level - 1) parent level else s.backupKey (s.domainOf (level - 1) parent)
  let key? := if source = 2 then some (s.keyArgBytes who 7 32) else kwUnwrap kek (s.keyArgBytes who 7 40)
  let shape := decide (level = 1 ∧ i < 4096 ∧ parent < 16) || decide (level = 2 ∧ parent < 4096)
  s.keyCommand who 0x05
    [(source = 2 && !s.testRoot, .denied),
      (!shape || source = 3 || (live && key?.isNone), .badArgument),
      (decide ((s.slot level i).state ≠ .empty) || !live, .stateConflict)]
    (fun s =>
      let k : KeySlot :=
        { state := .valid, origin := if source = 2 then 3 else 1, exportable := field (s.keyArg who 1) 2 1 = 1
          testRoot := s.testRoot, gen := (s.slot level i).gen, parentIndex := parent, parentLevel := level - 1
          parentGen := (s.slot (level - 1) parent).gen, id := if level = 2 then s.keyArg who 2 % 2 ^ 17 else s.keyArg who 2
          ckn := if level = 2 then s.keyCkn who 3 else 0, created := s.created, key := toKey (key?.getD []) }
      s.setSlot level i (if level = 2 then k.withDerived else k))

def execKeyImport (who : Nat) (s : State) : Host.Outcome State Fault Refusal := .next (s.keyImport who)

/-- A slot field names no slot: level 3, or a group index of 4,096 or more (R255). -/
def badSlot (level i : Nat) : Bool := decide (level = 3) || decide (level = 1 ∧ 4096 ≤ i)

/-- KEY_EXPORT. -/
def State.keyExport (s : State) (who : Nat) : State :=
  let level := field (s.keyArg who 0) 0 2
  let i := field (s.keyArg who 0) 2 14
  let k := s.slot level i
  let kek := if field (s.keyArg who 1) 0 1 = 0 then s.wrapKey k.parentLevel k.parentIndex level
    else s.backupKey (s.domainOf level i)
  s.keyCommand who 0x06
    [(decide (level ≠ 3) && (level = 0 || (!badSlot level i && !k.exportable)), .denied), (badSlot level i, .badArgument),
      (!s.slotLive level i, .stateConflict)]
    id (words 10 (kwWrap kek (keyBytes k.key 32)))

def execKeyExport (who : Nat) (s : State) : Host.Outcome State Fault Refusal := .next (s.keyExport who)

/-! ### Invalidation (R245, R246) -/

/-- A slot zeroized, EMPTY, with its generation moved on. -/
def State.emptySlot (s : State) (level i : Nat) : State :=
  s.setSlot level i { gen := ((s.slot level i).gen + 1) % 2 ^ 16 }

/-- The slot of KEY_INVALIDATE and KEY_READ: level 0 takes a domain slot in bits 5:2 (R255). -/
def slotArg (w : Nat) : Nat × Nat := (field w 0 2, if field w 0 2 = 0 then field w 2 4 else field w 2 14)

/-- KEY_INVALIDATE: rolls to orphaned SAs are lost at once, engine keys under the slot are cleared, the
sweep starts. -/
def State.keyInvalidate (s : State) (who : Nat) : State :=
  let (level, i) := slotArg (s.keyArg who 0)
  let st := (s.slot level i).state
  s.keyCommand who 0x07
    [(badSlot level i, .badArgument), (decide (st = .empty ∨ st = .sealed) && decide ((level, i) ∉ s.key.sweeps), .stateConflict),
      (decide ((level, i) ∈ s.key.sweeps), .busy)]
    (fun s =>
      let s := s.emptySlot level i
      let s := { s with key := { s.key with sweeps := s.key.sweeps ++ [(level, i)] } }
      (s.dropKeySlots (fun a => s.saState a = .orphaned)).rollsOrphaned)

def execKeyInvalidate (who : Nat) (s : State) : Host.Outcome State Fault Refusal := .next (s.keyInvalidate who)

/-- Slots of a level that are VALID and no longer live become ORPHANED. -/
def orphanSlots (s : State) (level : Nat) (t : NTab KeySlot) : NTab KeySlot :=
  NTab.update t {} (fun i k => if k.state = .valid ∧ ¬s.slotLive level i then { k with state := .orphaned } else k)

/-- One SA whose parent is no longer live is written ORPHANED, with its event, and mirrored as ORPHANED. -/
def State.orphanSa (s : State) (a : Nat) : State :=
  let e := s.sa a
  if e.state ≠ .free ∧ e.state ≠ .orphaned ∧ ¬s.saParentLive e then
    let m := s.saMirrored a
    State.mirrorSa ((s.setSa a { e with state := .orphaned }).saEvent 5 a) m a
  else s

/-- The sweep of an invalidated slot ends: its descendants have been written ORPHANED (R245). -/
def State.sweepDone (s : State) : State :=
  match s.key.sweeps with
  | [] => s
  | _ :: r =>
    let k := s.key
    let s' := { s with key := { k with group := orphanSlots s 1 k.group, cak := orphanSlots s 2 k.cak, sweeps := r } }
    State.post ((s.sam.sa.map Prod.fst).foldl (fun s a => s.orphanSa a) s') F.KEY_EVENT_EVENTS 0

def execSweepDone (s : State) : Host.Outcome State Fault Refusal := .next s.sweepDone

/-! ### KEY_READ and MKA_ICV -/

/-- The state number of a slot (R238). -/
def KeyState.code : KeyState → Nat
  | .empty => 0
  | .valid => 1
  | .orphaned => 2
  | .sealed => 3

/-- The state a slot shows: ORPHANED from the invalidation of a slot above it (R245). -/
def State.slotState (s : State) (level i : Nat) : KeyState :=
  let st := (s.slot level i).state
  if st = .valid ∧ ¬s.slotLive level i then .orphaned else st

/-- The descriptor of a slot, RES0 to RES7 (R238). -/
def State.descriptor (s : State) (level i : Nat) : List Nat :=
  let k := s.slot level i
  [level + (s.slotState level i).code * 4 + k.origin * 2 ^ 4 + bit k.exportable * 2 ^ 6 + bit k.testRoot * 2 ^ 7 + k.gen * 2 ^ 16,
    k.parentIndex + k.parentLevel * 2 ^ 14 + k.parentGen * 2 ^ 16, k.id] ++ words 4 (beBytes 16 k.ckn.toNat) ++ [k.created]

/-- KEY_READ: OK in every state. -/
def State.keyRead (s : State) (who : Nat) : State :=
  let (level, i) := slotArg (s.keyArg who 0)
  s.keyCommand who 0x08 [(badSlot level i, .badArgument)] id (s.descriptor level i)

def execKeyRead (who : Nat) (s : State) : Host.Outcome State Fault Refusal := .next (s.keyRead who)

/-- MKA_ICV over the bytes of the buffer (R242, R255). -/
def State.mkaIcv (s : State) (who : Nat) (data : Bytes) : State :=
  let c := field (s.keyArg who 0) 0 14
  let len := s.keyArg who 3
  s.keyCommand who 0x09 [(decide (len = 0 ∨ 16000 < len), .badArgument), (!s.slotLive 2 c, .stateConflict)] id
    (words 4 (blockBytes (cmac (s.slot 2 c).ick (data.take len))))

def execMkaIcv (who : Nat) (data : Bytes) (s : State) : Host.Outcome State Fault Refusal := .next (s.mkaIcv who data)

/-! ### The hybrid exchange (R248 to R250) -/

/-- Bytes 0 to 1,703 of a hybrid message, whose KEM part has 1,568 bytes in both. -/
def hybHead (m : HybMsg) : Bytes :=
  beBytes 4 m.magic ++ beBytes 2 m.initiator ++ beBytes 2 m.responder ++ beBytes 2 m.domainId ++ beBytes 2 m.zero10 ++
    beBytes 16 m.ckn.toNat ++ beBytes 4 m.session ++ beBytes 1568 m.kem ++ beBytes 97 m.ecdh ++ beBytes 7 m.zero1697

/-- Message 1 as a byte string. -/
def hybBytes1 (m : HybMsg) : Bytes := hybHead m ++ blockBytes m.tag

/-- Message 2 as a byte string. -/
def hybBytes2 (m : HybMsg) : Bytes := hybHead m ++ blockBytes m.confirm ++ blockBytes m.tag

/-- The variant has no asymmetric engine (R250). -/
def State.noAsym (s : State) : Bool := !hasTwin s.fus.variant

/-- K_comb (R249). -/
def kComb (ss x : Nat) (msg1 msg2Head : Bytes) : Key :=
  let th := Config.sha384 (msg1 ++ msg2Head)
  toKey (beBytes 48 (Config.sha384 (ascii "GRL-HYB" ++ beBytes 32 ss ++ beBytes 48 x ++ beBytes 48 th.toNat)).toNat)

/-- The hybrid CAK and the confirmation key of K_comb (R241). -/
def hybKey (k : Key) (label : String) (m : HybMsg) : Key :=
  toKey (kdf k label (beBytes 16 m.ckn.toNat ++ beBytes 2 m.initiator ++ beBytes 2 m.responder) 256)

/-- The slot that a completed exchange writes. -/
def State.hybSlot (s : State) (c d peer : Nat) (ckn : BitVec 128) (key : Key) : State :=
  s.setSlot 2 c (KeySlot.withDerived
    { state := .valid, origin := 2, testRoot := s.testRoot, gen := (s.slot 2 c).gen, parentIndex := d, parentLevel := 0
      parentGen := (s.slot 0 d).gen, id := peer, ckn := ckn, created := s.created, key := key })

def State.hyb (s : State) (n : Nat) : Option HybSession := Tab.get s.key.hyb none n

/-- A session that is open and has not reached its expiry (R250). -/
def State.hybOpen (s : State) (n : Nat) : Option HybSession := (s.hyb n).filter (fun h => decide (s.nowNs < h.expiry))

def State.setHyb (s : State) (n : Nat) (h : Option HybSession) : State :=
  { s with key := { s.key with hyb := NTab.set s.key.hyb none n h } }

/-- HYB_START: the lowest session free of the 64. -/
def State.hybStart (s : State) (who : Nat) : State :=
  let d := field (s.keyArg who 0) 0 4
  let peer := field (s.keyArg who 1) 0 16
  let ckn := s.keyCkn who 2
  let n? := (List.range 64).find? (fun n => s.hyb n = none)
  let n := n?.getD 0
  let seed := s.draw 512
  let priv := s.drew.draw 384 % (p384Order - 1) + 1
  let m : HybMsg := { magic := 0x47485931, initiator := s.nodeId d, responder := peer, domainId := s.domainId d, ckn := ckn
                      session := n, kem := Config.kemPublic seed, ecdh := Config.ecdhPublic priv, tag := 0 }
  let m := { m with tag := cmac (s.hybAuth d peer) (hybHead m) }
  s.keyCommand who 0x10
    [(s.noAsym, .absent), (decide (s.keyArg who 8 < 1720), .badArgument),
      (!s.identityReady || !s.slotLive 0 d, .stateConflict), (n?.isNone, .noResource)]
    (fun s => (s.drew.drew.setHyb n (some
      { slot := d, gen := (s.slot 0 d).gen, peer := peer, ckn := ckn, kemSeed := seed, ecdhPriv := priv
        expiry := s.nowNs + s.get F.KEY_HYB_EXPIRY_SECONDS * 1000000000, msg1 := m })).emit
          (.dma (s.keyAddr who 6) (hybBytes1 m)))
    [n]

def execHybStart (who : Nat) (s : State) : Host.Outcome State Fault Refusal := .next (s.hybStart who)

/-- HYB_RESPOND. -/
def State.hybRespond (s : State) (who : Nat) (m1 : HybMsg) : State :=
  let w := s.keyArg who 0
  let c := field w 0 14
  let d := field w 14 4
  let live := s.slotLive 0 d
  let own := s.nodeId d
  let auth := s.hybAuth d m1.initiator
  let good := decide (m1.magic = 0x47485931 ∧ m1.domainId = s.domainId d ∧ m1.responder = own ∧ m1.initiator ≠ own) &&
    m1.tag = cmac auth (hybHead m1) && Config.kemKeyOk m1.kem && Config.ecdhOk m1.ecdh
  let (ct, ss) := Config.kemEncap m1.kem (s.draw 256)
  let priv := s.drew.draw 384 % (p384Order - 1) + 1
  let m2 : HybMsg := { m1 with magic := 0x47485932, kem := ct, ecdh := Config.ecdhPublic priv, zero10 := 0, zero1697 := 0 }
  let kc := kComb ss (Config.ecdh priv m1.ecdh) (hybBytes1 m1) (hybHead m2)
  let m2 := { m2 with confirm := cmac (hybKey kc "CONFIRM" m1) (hybHead m2) }
  let m2 := { m2 with tag := cmac auth ((hybHead m2) ++ blockBytes m2.confirm) }
  s.keyCommand who 0x11
    [(s.noAsym, .absent), (decide (s.keyArg who 5 < 1736) || (live && !good), .badArgument),
      (!s.identityReady || !live || decide ((s.slot 2 c).state ≠ .empty), .stateConflict)]
    (fun s => (s.drew.drew.hybSlot c d m1.initiator m1.ckn (hybKey kc "CAK-HYB" m1)).emit
      (.dma (s.keyAddr who 3) (hybBytes2 m2)))

def execHybRespond (who : Nat) (msg : HybMsg) (s : State) : Host.Outcome State Fault Refusal :=
  .next (s.hybRespond who msg)

/-- HYB_FINISH. -/
def State.hybFinish (s : State) (who : Nat) (m2 : HybMsg) : State :=
  let c := field (s.keyArg who 0) 0 14
  let n := s.keyArg who 1
  match s.hybOpen n with
  | none => s.keyCommand who 0x12 [(s.noAsym, .absent), (true, .stateConflict)] id
  | some h =>
    let m1 := h.msg1
    let kc := kComb (Config.kemDecap h.kemSeed m2.kem) (Config.ecdh h.ecdhPriv m2.ecdh) (hybBytes1 m1) (hybHead m2)
    let live := s.liveAt 0 h.slot h.gen
    let good := decide (m2.magic = 0x47485932 ∧ m2.initiator = m1.initiator ∧ m2.responder = m1.responder ∧
        m2.domainId = m1.domainId ∧ m2.ckn = m1.ckn ∧ m2.session = m1.session) &&
      m2.tag = cmac (s.hybAuth h.slot h.peer) ((hybHead m2) ++ blockBytes m2.confirm) && Config.kemCtOk m2.kem &&
      Config.ecdhOk m2.ecdh && m2.confirm = cmac (hybKey kc "CONFIRM" m1) (hybHead m2)
    s.keyCommand who 0x12
      [(s.noAsym, .absent), (live && !good, .badArgument),
        (!s.identityReady || !live || decide ((s.slot 2 c).state ≠ .empty), .stateConflict)]
      (fun s => (s.hybSlot c h.slot h.peer h.ckn (hybKey kc "CAK-HYB" m1)).setHyb n none)

def execHybFinish (who : Nat) (msg : HybMsg) (s : State) : Host.Outcome State Fault Refusal :=
  .next (s.hybFinish who msg)

/-- HYB_CANCEL frees the session. -/
def State.hybCancel (s : State) (who : Nat) : State :=
  let n := s.keyArg who 1
  s.keyCommand who 0x13 [(s.noAsym, .absent), ((s.hybOpen n).isNone, .stateConflict)] (fun s => s.setHyb n none)

def execHybCancel (who : Nat) (s : State) : Host.Outcome State Fault Refusal := .next (s.hybCancel who)

/-- A session whose time has come expires: its ephemeral keys are zeroized (R250). -/
def execHybExpired (session : Nat) (s : State) : Host.Outcome State Fault Refusal :=
  .next (if s.hyb session = none ∨ (s.hybOpen session).isSome then s else (s.setHyb session none).post F.KEY_EVENT_EVENTS 1)

/-! ### Identity and attestation (R252, R253) -/

/-- ID_GET. -/
def State.idGet (s : State) (who : Nat) : State :=
  s.keyCommand who 0x18
    [(decide (s.keyArg who 2 < 4368), .badArgument), (!s.identityReady, .stateConflict)]
    (fun s => s.emit (.dma (s.keyAddr who 0) s.idBlock))

def execIdGet (who : Nat) (s : State) : Host.Outcome State Fault Refusal := .next (s.idGet who)

/-- TOP_CAP_UNITS (R7). -/
def capUnits (v : Variant) : Nat :=
  portsPerSide v + portsPerSide v * 2 ^ 4 + enginesPresent v * 2 ^ 8 + bit (hasFlexe v) * 2 ^ 13 + bit (hasTwin v) * 2 ^ 14 +
    bit (hasTwin v) * 2 ^ 15 + bit (hasTwin v) * 2 ^ 16

/-- The rollback floor in force: the thermometer bits loaded at the last device reset (R45, R448). -/
def State.floorNow (s : State) : Nat := s.fus.floorLoaded

/-- The fuse words under FUSE_DIGEST: signer digests, revoke bits, tamper fuses and the variant (R253). -/
def State.fuseBytes (s : State) : Bytes :=
  ((List.range 0x64).flatMap (fun w => beBytes 4 (s.fuse w))) ++
    ((List.range 16).flatMap (fun t => beBytes 4 (s.fuse (0x66 + t)))) ++ beBytes 4 (variantNumber s.fus.variant)

/-- The FLAGS byte of a statement (R253). -/
def State.attestFlags (s : State) : Nat :=
  bit s.testRoot + 2 * bit s.debugUnlocked + 4 * s.get F.TMP_STATUS_RESPONDED + 8 * s.get F.TMP_STATUS_DEFERRED_PENDING +
    16 * bit s.key.batLost

/-- Domain ID and generation of a domain slot as the statement lists them. -/
def State.attestDomain (s : State) (i : Nat) : Bytes :=
  let k := s.slot 0 i
  beBytes 2 (if k.state = .empty ∨ k.state = .sealed then 0xFFFF else s.domainId i) ++ beBytes 2 k.gen

/-- Bytes 0 to 423 of a statement (R253). -/
def State.attestBody (s : State) (nonce user : Bytes) : Bytes :=
  let g := s.pel.active
  beBytes 4 0x47415431 ++ beBytes 2 1 ++ beBytes 2 424 ++ s.serialBytes ++ beBytes 4 (capUnits s.fus.variant) ++ beBytes 1 0xB0 ++
    beBytes 1 s.attestFlags ++ beBytes 2 0 ++ beBytes 6 s.nowSec ++ beBytes 4 s.nowSubNs ++ beBytes 2 0 ++ nonce ++
    beBytes 48 s.pwr.bootMeas.toNat ++ beBytes 48 s.pwr.fwMeas.toNat ++ beBytes 48 ((g.map (fun i => i.digest.toNat)).getD 0) ++
    beBytes 8 ((g.map (fun i => i.imageId)).getD 0) ++ beBytes 1 ((g.map (fun i => i.svn)).getD 0) ++ beBytes 1 s.floorNow ++
    beBytes 1 ((g.map (fun i => i.signerSlot)).getD 0) ++ beBytes 1 0 ++ beBytes 48 (Config.sha384 s.fuseBytes).toNat ++
    beBytes 48 (Config.sha384 s.idBlock).toNat ++ beBytes 4 (s.get F.PEL_STRIKE_COUNT_COUNT) ++ beBytes 4 s.tmp.events ++
    (List.range 16).flatMap s.attestDomain ++ user

/-- ATTEST. -/
def State.attest (s : State) (who : Nat) : State :=
  let body := s.attestBody (s.keyArgBytes who 0 32) (s.keyArgBytes who 8 32)
  let d := Config.sha384 body
  s.keyCommand who 0x19
    [(decide (s.keyArg who 18 < 5152), .badArgument), (!s.identityReady, .stateConflict)]
    (fun s => s.emit (.dma (s.keyAddr who 16) (body ++ beBytes 96 (Config.ecdsaSign (s.idScalar "ID-ECDSA") d) ++
      beBytes 4627 (Config.mldsaSign s.idMlDsaSeed d) ++ beBytes 5 0)))

def execAttest (who : Nat) (s : State) : Host.Outcome State Fault Refusal := .next (s.attest who)

/-! ### Zeroization (R247) -/

/-- Every SA to FREE and every SC to not created, with the SAKs, the engine key slots and the table key
replaced, and the commands that wait for an SA ended (R228, R247). -/
def State.clearSas (s : State) : State :=
  let s := s.samAbortAll
  { s with
    free := s.free + 1
    sam := { s.sam with sc := [], sa := [], sciMap := [], onDie := [], fetch := [], pnWait := [] }
    key := { s.key with tableKey := s.free, hyb := [] }
    pool := { s.pool with keys := [] }
    cnt := { s.cnt with vfSlot := [], fixed := s.cnt.fixed.filter (fun p => !(decide (saOff 0 0 ≤ p.1) && decide (p.1 < scOff 0 0))) } }

/-- ZEROIZE_SESSION. -/
def State.zeroizeSession (s : State) : State := s.clearSas.post F.KEY_EVENT_EVENTS 2

/-- Every listed slot of a level EMPTY with its generation moved on. -/
def emptyAll (t : NTab KeySlot) : NTab KeySlot :=
  NTab.update t {} (fun _ k => if k.state = .empty then k else { gen := (k.gen + 1) % 2 ^ 16 })

/-- ZEROIZE_ALL. -/
def State.zeroizeAll (s : State) : State :=
  let s := s.clearSas
  let s := { s with key := { s.key with
    domain := emptyAll s.key.domain, group := emptyAll s.key.group, cak := emptyAll s.key.cak
    root := none, rootBarred := true, challenge := none, batKey := none } }
  ((s.set F.KEY_STATUS_IDENTITY_READY 0).post F.KEY_EVENT_EVENTS 2).post F.KEY_EVENT_EVENTS 3

/-- What the battery domain zeroizes alone: every domain slot and the battery store key, generations kept
(R247, R389). -/
def State.zeroizeBattery (s : State) : State :=
  { s with key := { s.key with
    domain := NTab.update s.key.domain {} (fun _ k => { gen := k.gen }), batKey := none } }

end Sys2Proof.Machine
end

