-- ==== Sys2Proof/Machine/FlexBase.lean ====
section
/-! DEFINITION. The FlexE groups as other units see them (chapter 04): groups, PHYs, instances and pages (R77, R78, R91), what the
slots of a page carry (R80), and the delays and counters of a client (R90, R96, R99). -/

namespace Sys2Proof.Machine
open Sys2Proof

/-! ### Groups, PHYs and instances (R77, R78) -/

/-- The group of the Active bank at an index. -/
def State.flexGroup (s : State) (g : Nat) : Option FlexGroup :=
  s.pel.active.bind (fun img => (imgGroups img).find? (fun gr => gr.index = g))

/-- The group that an instance belongs to, and the instance's number. -/
def State.instGroup (s : State) (i : Nat) : Option (FlexGroup × Nat) :=
  s.pel.active.bind (fun img => (imgGroups img).findSome? (fun gr =>
    (gr.instances.find? (fun p => p.1 = i)).map (fun p => (gr, p.2))))

/-- The first lane of the PHY that carries an instance. -/
def instPhy (img : Image) (i : Nat) : Option Nat :=
  (imgPorts img).findSome? (fun p => (portPhys p).find? (fun l => decide (l ≤ 32 + i ∧ 32 + i < l + (modePhys p.mode).2.1)))

/-- The PHYs of a group, by first lane. -/
def groupPhys (img : Image) (gr : FlexGroup) : List Nat := (gr.instances.filterMap (fun p => instPhy img p.1)).eraseDups

def State.physOf (s : State) (gr : FlexGroup) : List Nat := (s.pel.active.map (fun img => groupPhys img gr)).getD []

def State.grp (s : State) (g : Nat) : FlexGrp := Tab.get s.flx.grp {} g

def State.setGrp (s : State) (g : Nat) (v : FlexGrp) : State := { s with flx := { s.flx with grp := NTab.set s.flx.grp {} g v } }

def State.inst (s : State) (i : Nat) : FlexInst := Tab.get s.flx.inst {} i

def State.setInst (s : State) (i : Nat) (v : FlexInst) : State :=
  { s with flx := { s.flx with inst := NTab.set s.flx.inst {} i v } }

/-- A group is in a state: 1 DOWN, 2 ALIGNING, 3 DESKEW, 4 UP (R100). -/
def State.grpIn (s : State) (g n : Nat) : Bool := s.get (F.FLX_GRP_STATUS_STATE g) = n

/-- A defect raised for a group, recorded for the instances given (R98). -/
def State.flexPost (s : State) (g k : Nat) (is : List Nat) : State :=
  (is.foldl (fun s i => s.setInst i { s.inst i with defects := setBit (s.inst i).defects k }) s).post (F.FLX_GRP_EVENT_EVENTS g) k

def groupInsts (gr : FlexGroup) : List Nat := gr.instances.map Prod.fst

/-- A condition that takes a group down stands. -/
def State.groupBad (s : State) (gr : FlexGroup) : Bool :=
  (groupInsts gr).any (fun i => let x := s.inst i; x.lof || x.lomf || x.gidBad || x.instBad) ||
    (s.physOf gr).any (fun l => decide (l ∉ s.prt.phyUp))

/-! ### Pages and slots (R78, R80, R91) -/

/-- The 20 slots of the instance at a place in its group. -/
def pageSlice (page : List (Option Nat)) (p : Nat) : List (Option Nat) := (page.drop (20 * p)).take 20

/-- The instances of a group with their places. -/
def places (gr : FlexGroup) : List (Nat × Nat) := (List.range gr.instances.length).zip (groupInsts gr)

/-- The receive page of a group by its number, and the transmit page. -/
def FlexGrp.rx (r : FlexGrp) (page : Nat) : List (Option Nat) := if page = 1 then r.rxB else r.rxA

def FlexGrp.tx (r : FlexGrp) (page : Nat) : List (Option Nat) := if page = 1 then r.txB else r.txA

/-- What a slot carries: the blocks of a client's channel, or error control blocks (R80). -/
inductive SlotContent where
  | client (ch : Nat)
  | errorBlocks
deriving DecidableEq, Repr

/-- The content of a slot of a page: the shim fills a slot without a client with error control blocks (R80). -/
def slotContent (page : List (Option Nat)) (n : Nat) : SlotContent :=
  match page[n]?.join with
  | some ch => .client ch
  | none => .errorBlocks

/-- What a group sends in its slots: the content of the transmit page in use. -/
def State.slotsSent (s : State) (gr : FlexGroup) : List SlotContent :=
  (List.range (20 * gr.instances.length)).map (slotContent ((s.grp gr.index).tx (s.get (F.FLX_GRP_STATUS_TX_PAGE gr.index))))

/-- What the shim takes from the slots that it receives: each instance follows its own receive page (R94), and the content of a
slot without a client is discarded (R80). -/
def State.slotsTaken (s : State) (gr : FlexGroup) : List SlotContent :=
  (places gr).flatMap (fun p => (List.range 20).map (slotContent
    (pageSlice ((s.grp gr.index).rx (s.get (F.FLX_INST_STATUS_RX_PAGE p.2))) p.1)))

/-- The group sends a channel's blocks, or takes them. -/
def State.sendsClient (s : State) (gr : FlexGroup) (ch : Nat) : Bool := decide (.client ch ∈ s.slotsSent gr)

def State.takesClient (s : State) (gr : FlexGroup) (ch : Nat) : Bool := decide (.client ch ∈ s.slotsTaken gr)

/-- The instance that brings the first slot of a client. -/
def State.clientInst (s : State) (gr : FlexGroup) (ch : Nat) : Option Nat :=
  ((places gr).find? (fun p => decide (some ch ∈
    pageSlice ((s.grp gr.index).rx (s.get (F.FLX_INST_STATUS_RX_PAGE p.2))) p.1))).map Prod.snd

/-- The deskew delay of a received client in ns: DESKEW_NS of the instance that brings its first slot (R90). DEDUCED (assumption
97): the manual names "the instance", and a client may lie in several. -/
def State.clientDeskew (s : State) (g : Image) (ch : Nat) : Nat :=
  match clientOf g ch with
  | some (gr, _) => ((s.clientInst gr ch).map (fun i => s.get (F.FLX_INST_STATUS_DESKEW_NS i))).getD 0
  | none => 0

/-! ### Blocks of a client (R99) -/

/-- The 66-bit blocks of a frame with its FCS: a start block, the data and the block that ends it (IEEE 802.3). -/
def frameBlocks (len : Nat) : Nat := len / 8 + 2

def State.cli (s : State) (ch : Nat) : FlexCli := Tab.get s.flx.cli {} ch

def State.setCli (s : State) (ch : Nat) (v : FlexCli) : State := { s with flx := { s.flx with cli := NTab.set s.flx.cli {} ch v } }

/-- The blocks of a received frame, good or in error, and those of a sent one. -/
def State.cliRx (s : State) (ch len : Nat) : State :=
  if 64 ≤ ch ∧ ch < 192 then s.setCli ch { s.cli ch with rx := (s.cli ch).rx + frameBlocks len } else s

def State.cliErr (s : State) (ch len : Nat) : State :=
  if 64 ≤ ch ∧ ch < 192 then s.setCli ch { s.cli ch with err := (s.cli ch).err + frameBlocks len } else s

def State.cliTx (s : State) (ch len : Nat) : State :=
  if 64 ≤ ch ∧ ch < 192 then s.setCli ch { s.cli ch with tx := (s.cli ch).tx + frameBlocks len } else s

end Sys2Proof.Machine
end

