-- ==== Sys2Proof/Machine/Flash.lean ====
section
/-! DEFINITION. The NAND flash of the journal (R353 to R356, R361, R362, R365 to R367): its population and geometry, the system area
and the segments of the log area, wear, bad blocks, and what a program and an erase do to them. -/

namespace Sys2Proof.Machine
open Sys2Proof

/-! ### Records -/

/-- The classes of the system area (R356). -/
def jclassSystem : JClass → Bool
  | .tamper | .keyBackup => true
  | _ => false

/-- A record's length in bytes: header and body, a multiple of 8 (R357). -/
def JRec.size (r : JRec) : Nat := 32 + 8 * ceilDiv r.body.length 8

/-! ### The population (R353, R354) -/

/-- What a die is, its rate apart. -/
def NandDie.kind (d : NandDie) : List Nat := [d.density, d.pageKib, d.planes, d.blocks, d.pages]

/-- A die lies outside R353. -/
def NandDie.outside (d : NandDie) : Bool :=
  !([512, 1024, 2048].contains d.density && [4, 8, 16].contains d.pageKib && [1, 2, 4].contains d.planes)

/-- The cause of NONE that the dies give, in the numbers of JNL_STATUS: 1 a die is silent, 2 one lies outside R353, 3 the dies
differ, 0 none. -/
def popCause (ds : List NandDie) : Nat :=
  if ds = [] ∨ ds.any (fun d => !d.answers) then 1
  else if !([4, 8, 16].contains ds.length) || ds.any NandDie.outside then 2
  else if (ds.map NandDie.kind).any (fun k => decide (some k ≠ (ds.head?.map NandDie.kind))) then 3
  else 0

/-- The population of dies that do not differ. -/
def populationOf (ds : List NandDie) : Option Population :=
  ds.head?.map (fun d => ⟨ds.length, d.density, d.pageKib, d.planes, d.blocks, d.pages⟩)

/-- The codes of DIES and DENSITY in JNL_STATUS (R375). -/
def Population.diesCode (p : Population) : Nat := if p.dies = 4 then 0 else if p.dies = 8 then 1 else 2

def Population.densityCode (p : Population) : Nat := if p.density = 512 then 0 else if p.density = 1024 then 1 else 2

/-- The highest rate that every die supports and MAX_RATE allows (R354). -/
def rateOf (ds : List NandDie) (most : Nat) : Nat := ds.foldl (fun r d => min r d.rate) most

/-! ### Geometry (R355) -/

/-- The planes of all dies. -/
def Journal.planes (j : Journal) : Nat := match j.pop with
  | some p => p.dies * p.planes
  | none => 0

/-- The block positions of a plane; the segments are numbered by them. -/
def Journal.positions (j : Journal) : Nat := match j.pop with
  | some p => p.blocks
  | none => 0

/-- The bytes of a page. -/
def Journal.pageBytes (j : Journal) : Nat := match j.pop with
  | some p => p.pageKib * 1024
  | none => 0

/-- The wordlines of a block, of three TLC pages each. -/
def Journal.wordlines (j : Journal) : Nat := match j.pop with
  | some p => p.pages / 3
  | none => 0

/-- The segment of a block, by its position, and its plane. -/
def Journal.segOf (j : Journal) (b : Nat) : Nat := b % max j.positions 1

def Journal.planeOf (j : Journal) (b : Nat) : Nat := b / max j.positions 1

/-- The blocks at a position, plane by plane. -/
def Journal.blocksAt (j : Journal) (g : Nat) : List Nat := (List.range j.planes).map (fun p => p * j.positions + g)

/-- A good block of the log area. -/
def Journal.isLog (j : Journal) (b : Nat) : Bool := decide (b ∉ j.bad) && decide (b ∉ j.sys)

/-- The good log-area blocks of a segment. -/
def Journal.segBlocks (j : Journal) (g : Nat) : List Nat := (j.blocksAt g).filter j.isLog

/-- A segment with fewer than half its blocks good is never used. -/
def Journal.usable (j : Journal) (g : Nat) : Bool := decide (0 < j.planes) && decide (j.planes ≤ 2 * (j.segBlocks g).length)

/-- The usable segments. -/
def Journal.usableSegs (j : Journal) : List Nat := (List.range j.positions).filter j.usable

/-- The good blocks of the log area. -/
def Journal.goodBlocks (j : Journal) : Nat := ((List.range j.positions).map (fun g => (j.segBlocks g).length)).sum

/-- The good log capacity C_good, in bytes. -/
def Journal.goodBytes (j : Journal) : Nat := match j.pop with
  | some p => j.goodBlocks * (p.pages * p.pageKib * 1024)
  | none => 0

/-- C_good against the capacity at FORMAT, in 1/1000. -/
def Journal.goodPermille (j : Journal) : Nat := j.goodBlocks * 1000 / max j.atFormat 1

/-- The bytes of a wordline of a segment: three pages of each of its good blocks (R361). -/
def Journal.wordBytes (j : Journal) (g : Nat) : Nat := 3 * j.pageBytes * (j.segBlocks g).length

/-- The bytes that a segment, and an SLC block of the system area, holds. -/
def Journal.segBytes (j : Journal) (g : Nat) : Nat := j.wordlines * j.wordBytes g

def Journal.sysBytes (j : Journal) : Nat := j.wordlines * j.pageBytes

/-- Every plane has the 8 blocks of its system area. -/
def Journal.systemOk (j : Journal) : Bool :=
  (List.range j.planes).all (fun p => decide (8 ≤ (j.sys.filter (fun b => decide (j.planeOf b = p))).length))

/-! ### Wear (R367) -/

/-- The erases of some blocks together. -/
def Journal.wornBy (j : Journal) (bs : List Nat) : Nat := (bs.map (Tab.get j.wear 0)).sum

/-- One P/E cycle more of some blocks. -/
def Journal.worn (j : Journal) (bs : List Nat) : Journal :=
  { j with wear := bs.foldl (fun t b => NTab.set t 0 b (Tab.get t 0 b + 1)) j.wear }

/-- A segment's mean erase count is at most another's. -/
def Journal.lessWorn (j : Journal) (g h : Nat) : Bool :=
  decide (j.wornBy (j.segBlocks g) * max (j.segBlocks h).length 1 ≤ j.wornBy (j.segBlocks h) * max (j.segBlocks g).length 1)

/-- A segment put before the first that is more worn; of equals the one met first stands first: DESIGN CHOICE
(notes/assumptions/113). -/
def Journal.wearInsert (j : Journal) (g : Nat) : List Nat → List Nat
  | [] => [g]
  | h :: r => if j.lessWorn g h then g :: h :: r else h :: j.wearInsert g r

/-- The segments in the order in which the head takes them: the free ones by their mean erase count, then the ring. -/
def Journal.upcoming (j : Journal) : List Nat :=
  ((j.free.filter j.usable).foldr j.wearInsert []) ++ j.ring.filter (fun g => j.usable g && decide (j.openLog ≠ some g))

/-- The mean erase count of the log area. -/
def Journal.logMean (j : Journal) : Nat :=
  ((List.range j.positions).map (fun g => j.wornBy (j.segBlocks g))).sum / max j.goodBlocks 1

/-- The least worn of some blocks. -/
def Journal.leastWorn (j : Journal) : List Nat → Option Nat
  | [] => none
  | x :: xs => match j.leastWorn xs with
    | some y => some (if Tab.get j.wear 0 x ≤ Tab.get j.wear 0 y then x else y)
    | none => some x

/-- A system block whose erase count exceeds the log area's mean by 200 is exchanged with a log-area block of its plane, one of a free
segment and the least worn of these: DESIGN CHOICE (notes/assumptions/113). -/
def Journal.exchange (j : Journal) (b : Nat) : Journal :=
  let own := fun (c : Nat) => decide (j.planeOf c = j.planeOf b)
  if j.logMean + 200 < Tab.get j.wear 0 b then
    match j.leastWorn ((j.free.flatMap j.segBlocks).filter own) with
    | some c => { j with
        recs := j.recs.map (fun r => if r.durable ∧ jclassSystem r.cls ∧ r.segment = b then { r with segment := c } else r)
        sys := j.sys.map (fun x => if x = b then c else x), sysRing := j.sysRing.map (fun x => if x = b then c else x)
        openSys := if j.openSys = some b then some c else j.openSys }
    | none => j
  else j

/-! ### Bad blocks (R365) -/

/-- The log-area block of a plane that comes next: the first good one. -/
def Journal.spare (j : Journal) (plane : Nat) : Option Nat :=
  ((List.range j.positions).map (fun g => plane * j.positions + g)).find? j.isLog

/-- A block becomes bad. A system block is replaced by the next good log-area block of its plane, if there is one. -/
def Journal.retire (j : Journal) (b : Nat) : Journal :=
  let j' := { j with bad := if b ∈ j.bad then j.bad else b :: j.bad }
  if b ∈ j.sys then
    { j' with
      sys := (match j'.spare (j.planeOf b) with
        | some c => c :: j.sys.filter (· ≠ b)
        | none => j.sys.filter (· ≠ b))
      sysRing := j.sysRing.filter (· ≠ b)
      openSys := if j.openSys = some b then none else j.openSys }
  else j'

/-! ### Programming (R361, R362) -/

/-- A record is still to be programmed in an area. -/
def JRec.toProgram (r : JRec) (system : Bool) : Bool := !r.durable && decide (jclassSystem r.cls = system)

/-- The records of an area after `n` bytes of them have been programmed at a place, in the order of acceptance: those that lie in them
whole are durable. Beside them the bytes of the next record that have been programmed. -/
def fillRecs (system : Bool) (place : Nat) : Nat → List JRec → List JRec × Nat
  | _, [] => ([], 0)
  | n, r :: rest =>
    if !r.toProgram system then
      let p := fillRecs system place n rest
      (r :: p.1, p.2)
    else if r.size ≤ n then
      let p := fillRecs system place (n - r.size) rest
      ({ r with durable := true, segment := place } :: p.1, p.2)
    else (r :: rest, n)

/-- The bytes of an area that wait to be programmed. -/
def Journal.unprogrammed (j : Journal) (system : Bool) : Nat :=
  ((j.recs.filter (fun r => r.toProgram system)).map JRec.size).sum - (if system then j.sysPart else j.part)

/-- A flush asks for programming in an area; a record of the system area always does (R361). -/
def Journal.flushing (j : Journal) (system : Bool) : Bool :=
  j.recs.any (fun r => r.toProgram system && (system || decide (r.jseq ≤ j.progTo)))

/-- The place that an area's head writes to now, the bytes that it programs at a time there, and those it has left. -/
def Journal.head (j : Journal) (system : Bool) : Option (Nat × Nat × Nat) :=
  if system then j.openSys.map (fun b => (b, j.pageBytes, j.sysBytes - j.sysAt))
  else j.openLog.map (fun g => (g, j.wordBytes g, j.segBytes g - j.headAt))

/-- A wordline or a page can be programmed: there is room at the head, and the records fill it or a flush is asked for. -/
def Journal.canProgram (j : Journal) (system : Bool) : Bool :=
  match j.head system with
  | some (_, unit, left) => decide (0 < unit) && decide (unit ≤ left) && (decide (unit ≤ j.unprogrammed system) || j.flushing system)
  | none => false

/-- The place of an area's head and the wordline or page that it programs next. -/
def Journal.nextPage (j : Journal) (system : Bool) : Option (Nat × Nat) :=
  (j.head system).map (fun h => (h.1, (if system then j.sysAt else j.headAt) / max h.2.1 1))

/-- The head has moved on by some bytes. -/
def Journal.advance (j : Journal) (system : Bool) (n : Nat) : Journal :=
  if system then { j with sysAt := j.sysAt + n } else { j with headAt := j.headAt + n }

/-! ### Erasing (R355, R356) -/

/-- The records of a place of an area. -/
def JRec.inPlace (r : JRec) (system : Bool) (place : Nat) : Bool :=
  r.durable && decide (jclassSystem r.cls = system) && decide (r.segment = place)

/-- The records of a segment are gone. -/
def Journal.without (j : Journal) (gone : JRec → Bool) : Journal :=
  { j with recs := j.recs.filter (fun r => !gone r), erased := j.erased ++ (j.recs.filter gone).map (fun r => r.jseq) }

/-- The segment of a name erased and opened at the log head. -/
def Journal.openSegment (j : Journal) (g : Nat) : Journal :=
  let bs := j.segBlocks g
  let j := (j.worn bs).without (fun r => r.inPlace false g)
  { j with
    logErases := j.logErases + bs.length, ring := j.ring.filter (· ≠ g) ++ [g], free := j.free.filter (· ≠ g)
    openLog := some g, headAt := 0
    patrol := j.patrol.filter (fun p => decide (p.1 / max (3 * j.wordlines) 1 ∉ bs)) }

/-- A system record is live: no newer record of its slot, or a tamper copy with fewer than 4,096 newer (R356). -/
def JRec.live (r : JRec) (all : List JRec) : Bool :=
  let newer := all.filter (fun q => q.cls = r.cls && decide (r.jseq < q.jseq))
  match r.cls with
  | .keyBackup => !(newer.any (fun q => q.body[0]? = r.body[0]? && slice q.body 2 2 = slice r.body 2 2))
  | _ => decide (newer.length < 4096)

/-- The block that the system head takes next: one that it has not used, else the oldest. -/
def Journal.nextSys (j : Journal) : Option Nat :=
  match j.sys.find? (fun b => decide (b ∉ j.sysRing) && decide (b ∉ j.bad)) with
  | some b => some b
  | none => j.sysRing.find? (fun b => decide (j.openSys ≠ some b))

/-- A system block erased and opened at the system head, its live records copied there. -/
def Journal.openSystem (j : Journal) (b : Nat) : Journal :=
  let here := fun (r : JRec) => r.inPlace true b
  let all := j.recs
  let kept := (all.filter (fun r => here r && r.live all)).map JRec.size
  let j := (j.worn [b]).without (fun r => here r && !r.live all)
  let j := { j with
    recs := j.recs.map (fun r => if here r then { r with refreshed := true } else r)
    sysRing := j.sysRing.filter (· ≠ b) ++ [b], openSys := some b
    sysAt := ceilDiv kept.sum (max j.pageBytes 1) * j.pageBytes }
  j.exchange b

/-- What FORMAT leaves of the medium (R365, R371): every good block erased, the factory's marks recorded, the first 8 good blocks of
each plane in the system area, every usable segment free; the wear and the superblock's copies stand. -/
def Journal.formatted (j : Journal) : Journal :=
  let bad := j.bad ++ j.marks.filter (fun b => decide (b ∉ j.bad))
  let sys := (List.range j.planes).flatMap (fun p =>
    (((List.range j.positions).map (fun g => p * j.positions + g)).filter (fun b => decide (b ∉ bad))).take 8)
  let good := (List.range (j.planes * j.positions)).filter (fun b => decide (b ∉ bad))
  let j' : Journal := { pop := j.pop, marks := j.marks, bad := bad, sys := sys, wear := j.wear, super := j.super }
  let j' := j'.worn good
  { j' with free := j'.usableSegs, atFormat := j'.goodBlocks }

end Sys2Proof.Machine
end

