-- ==== Sys2Proof/Machine/JournalBase.lean ====
section
/-! DEFINITION. The journal controller's own operations (chapter 15): records and their bytes, staging, durability,
the Snare bucket, and the life plan. -/

namespace Sys2Proof.Machine
open Sys2Proof

/-! ### Records (R357 to R359) -/

/-- The class numbers (R358). -/
def jclassCode : JClass → Nat
  | .snare => 1
  | .event => 2
  | .roll => 3
  | .ledger => 4
  | .tamper => 5
  | .keyBackup => 6

/-- A record's bytes with a value in CRC (R357). -/
def JRec.raw (r : JRec) (crc : Nat) : Bytes :=
  leBytes 2 r.size ++ leBytes 1 (jclassCode r.cls) ++ leBytes 1 (bit r.frag + 2 * bit r.last + 4 * bit r.refreshed) ++
  leBytes 4 crc ++ leBytes 8 r.jseq ++ leBytes 6 r.sec ++ leBytes 2 r.fragNo ++ leBytes 4 r.ns ++ leBytes 4 0 ++
  r.body ++ List.replicate (r.size - 32 - r.body.length) 0

/-- A record's bytes (R357). -/
def JRec.bytes (r : JRec) : Bytes := r.raw (crc32c (r.raw 0))

/-- The body of an EVENT record: block, event bit and argument words (R358). -/
def eventBody (block bitNo : Nat) (args : List Nat) : Bytes :=
  leBytes 1 block ++ leBytes 1 bitNo ++ leBytes 2 0 ++
    (List.range 4).flatMap (fun i => leBytes 4 ((args[i]?).getD 0)) ++ leBytes 4 0

/-- A record of a class and body, before acceptance. -/
def newRec (cls : JClass) (body : Bytes) : JRec := { cls := cls, jseq := 0, sec := 0, ns := 0, body := body }

/-! ### State and staging (R360, R371) -/

/-- The journal's state (R375). -/
def State.jnlState (s : State) : Nat := s.get F.JNL_STATUS_STATE

def State.setJnl (s : State) (j : Journal) : State := { s with jnl := j }

/-- The journal takes records: MOUNTING, READY or DEGRADED (R371). -/
def State.jnlTakes (s : State) : Bool :=
  hasTwin s.fus.variant && decide (s.jnlState = 1 ∨ s.jnlState = 3 ∨ s.jnlState = 4)

/-- A Snare record lost for its session: LOST counts it, and the next LOSS record tells of it (R154). -/
def State.snareLost (s : State) (sid : Nat) : State :=
  let n := Tab.get s.buf.snare {} sid
  State.bump { s with buf := { s.buf with snare := NTab.set s.buf.snare {} sid { n with lost := min (n.lost + 1) 0xFFFFFFFF } } }
    (F.SWC_SNR_LOST_LOST sid) 32 1

/-- Bytes in the Snare bucket of 8 MiB at the present time (R369). -/
def State.bucketNow (s : State) : Nat :=
  min 8388608 (s.jnl.bucket + s.jnl.rSnare * (s.nowNs - s.jnl.bucketAt) / 1000000000)

/-- Staging takes a record now (R360). -/
def State.stagingTakes (s : State) (r : JRec) : Bool :=
  match r.cls with
  | .snare => decide (s.jnl.staged < 58720256) && decide (r.size ≤ s.bucketNow)
  | _ => decide (s.jnl.staged < 67108864)

/-- The classes that no budget limits (R369). -/
def JRec.mandatory (r : JRec) : Bool := match r.cls with
  | .snare | .roll => false
  | _ => true

/-- What a plan counts, noted. -/
def State.noteTally (s : State) (t : JTally) : State := s.setJnl { s.jnl with tally := s.jnl.tally ++ [t] }

/-- A record accepted into staging: its JSEQ and its time (R357, R359). -/
def State.stage (s : State) (r : JRec) : State :=
  let j := s.jnl
  let r' := { r with jseq := j.nextJseq, sec := s.nowSec, ns := s.nowSubNs }
  s.setJnl { j with
    recs := j.recs ++ [r']
    nextJseq := j.nextJseq + 1
    staged := j.staged + r.size
    tally := j.tally ++ [{ at' := s.nowNs, accepted := r.size, mandatory := if r.mandatory then r.size else 0 }]
    bucket := if r.cls = .snare then s.bucketNow - r.size else j.bucket
    bucketAt := if r.cls = .snare then s.nowNs else j.bucketAt
    oldestUnflushed := if jclassSystem r.cls ∨ j.oldestUnflushed.isSome then j.oldestUnflushed else some s.nowNs }

/-- The session of a Snare record, from its bytes (R152). -/
def snareSession (body : Bytes) : Nat := (((body[3]?).getD 0).toNat) % 8

/-- A record offered to the journal (R360, R371). -/
def State.jnlOffer (s : State) (r : JRec) : State :=
  if !s.jnlTakes then
    if !hasTwin s.fus.variant then s
    else if r.cls = .snare then s.snareLost (snareSession r.body)
    else s.bump F.JNL_DISCARDED_COUNT 32 1
  else if r.cls ≠ .snare ∧ s.jnl.waiting ≠ [] then s.setJnl { s.jnl with waiting := s.jnl.waiting ++ [r] }
  else if s.stagingTakes r then s.stage r
  else if r.cls = .snare then s.snareLost (snareSession r.body)
  else s.setJnl { s.jnl with waiting := s.jnl.waiting ++ [r] }

/-- The records that waited for room enter staging in order. The first argument bounds them. -/
def State.jnlUnwait : Nat → State → State
  | 0, s => s
  | fuel + 1, s =>
    match s.jnl.waiting with
    | [] => s
    | r :: rest => if s.stagingTakes r then State.jnlUnwait fuel (State.stage (s.setJnl { s.jnl with waiting := rest }) r) else s

/-! ### Durability (R361) -/

/-- JNL_DURABLE: the highest JSEQ up to which every record is durable. -/
def State.durableSeq (s : State) : Nat :=
  match (s.jnl.recs.filter (fun r => !r.durable)).map (fun r => r.jseq) with
  | [] => s.jnl.nextJseq - 1
  | j :: rest => rest.foldl min j - 1

/-- JNL_DURABLE and JNL_OLDEST as they stand. -/
def State.jnlMarks (s : State) : State :=
  let d := s.durableSeq
  let o := match (s.jnl.recs.filter (fun r => r.durable && r.readable)).map (fun r => r.jseq) with
    | [] => s.jnl.nextJseq
    | j :: rest => rest.foldl min j
  s.sets [(F.JNL_DURABLE_LO_JSEQ, d % 2 ^ 32), (F.JNL_DURABLE_HI_JSEQ, d / 2 ^ 32),
    (F.JNL_OLDEST_LO_JSEQ, o % 2 ^ 32), (F.JNL_OLDEST_HI_JSEQ, o / 2 ^ 32)]

/-- `k` wordlines, or SLC pages, have been programmed at the head of an area: the records that they complete are durable, and those
that waited for room are taken (R361, R362). -/
def State.jnlProgrammed (s : State) (system : Bool) (k : Nat) : State :=
  let j := s.jnl
  match j.head system with
  | none => s
  | some (place, unit, _) =>
    let n := k * unit
    let p := fillRecs system place (n + if system then j.sysPart else j.part) j.recs
    let bytes := fun (l : List JRec) => ((l.filter (fun r => r.toProgram system)).map JRec.size).sum
    let left := p.1.any (fun r => r.toProgram false)
    let j' := { j.advance system n with
      recs := p.1, staged := j.staged - (bytes j.recs - bytes p.1)
      part := if system then j.part else p.2, sysPart := if system then p.2 else j.sysPart
      oldestUnflushed := if left then j.oldestUnflushed else none }
    State.jnlMarks (State.jnlUnwait j.waiting.length ((s.setJnl j').noteTally { at' := s.nowNs, programmed := n }))

/-- What staging holds is lost: power loss, a device reset, a RESET response (R363). -/
def State.jnlStagingLost (s : State) : State :=
  let j := s.jnl
  s.setJnl { j with
    recs := j.recs.filter (fun r => r.durable), waiting := [], staged := 0, oldestUnflushed := none, cmds := [],
    flush := none, progTo := 0, part := 0, sysPart := 0 }

/-! ### The plan (R368 to R370) -/

/-- t_el in seconds: by TAI while it is valid, else the last plan's and the time since. -/
def State.elapsed (s : State) : Nat :=
  if s.timeValid then s.nowSec - s.jnl.inServiceSec else s.jnl.planTel + (s.nowNs - s.jnl.planAt) / 1000000000

/-- The inputs of a journal plan (R368, R369). Rates are in bytes per second, H and H0 in units of 1/256, GOOD and WA in 1/1000. -/
structure PlanInputs where
  h : Nat
  h0 : Nat
  eUsed : Nat
  goodBytes : Nat
  goodPermille : Nat
  wa : Nat
  rMand : Nat
  rRoll1 : Nat
deriving DecidableEq, Repr

/-- 24 hours, 30 days and 7 days, the first two in ns and the last in s. -/
def dayNs : Nat := 86400000000000

def monthNs : Nat := 30 * dayNs

def weekSec : Nat := 604800

/-- The mean of counts of corrected bits against 120, in 1/256. -/
def meanHealth (sum n : Nat) : Nat := 256 * sum / (120 * n)

/-- The sum of what the tally shows in a time up to now. -/
def State.tallied (s : State) (span : Nat) (f : JTally → Nat) : Nat :=
  ((s.jnl.tally.filter (fun t => decide (s.nowNs < t.at' + span))).map f).sum

/-- The patrol reads of the last 30 days. -/
def State.patrolReads (s : State) : List (Nat × Nat) := s.jnl.reads.filter (fun p => decide (s.nowNs < p.1 + monthNs))

/-- The inputs of a plan now. Of H and H0 without a patrol read, and of WA without a byte accepted, the manual gives none: they are the
free values of `gaps`. E_used and the rates are cut to whole numbers. -/
def State.planInputs (s : State) (gaps : PlanGaps) : PlanInputs :=
  let j := s.jnl
  let reads := s.patrolReads
  let bytes := s.tallied monthNs (fun t => t.accepted)
  { h := if reads = [] then gaps.h else meanHealth (reads.map Prod.snd).sum reads.length
    h0 := if j.h0.2 = 0 then gaps.h0 else meanHealth j.h0.1 j.h0.2
    eUsed := j.logErases / max j.atFormat 1
    goodBytes := j.goodBytes
    goodPermille := j.goodPermille
    wa := if s.nowNs < j.dataFrom + dayNs then 1000
      else if bytes = 0 then gaps.wa else s.tallied monthNs (fun t => t.programmed) * 1000 / bytes
    rMand := s.tallied dayNs (fun t => t.mandatory) / 86400
    rRoll1 := s.tallied dayNs (fun t => t.roll) / 86400 }

/-- The superblock written anew over its older copy (R356). -/
def State.superWrite (s : State) : State :=
  let j := s.jnl
  match j.pop with
  | some p =>
    let sb : Superblock :=
      { gen := ((j.super.head?).map (fun b => b.gen + 1)).getD 1, pop := p, formatCount := s.get F.JNL_FORMAT_FORMAT_COUNT
        inServiceSec := j.inServiceSec, lifeYears := s.get F.JNL_LIFE_LIFE_YEARS, h0 := j.h0, checkpoint := s.durableSeq
        wear := j.wear, logErases := j.logErases, atFormat := j.atFormat, bad := j.bad }
    s.setJnl { j with super := (sb :: j.super).take 2 }
  | none => s

/-- E_eff (R368), its quotient cut to whole cycles. -/
def effCycles (rated eUsed h h0 : Nat) : Nat :=
  max (if eUsed * 10 < rated ∨ h ≤ h0 then rated else min rated (eUsed * (192 - h0) / (h - h0))) eUsed

/-- ROLL_EVERY (R369): the smallest n from the minimum on, at most 255. -/
def rollEvery (least rRoll1 rFree : Nat) : Nat :=
  ((List.range 256).find? (fun n => decide (least ≤ n ∧ 1 ≤ n ∧ 2 * rRoll1 ≤ rFree * n))).getD 255

/-- A rate in kB/s of 16 bits, saturating (R375). -/
def kbs (r : Nat) : Nat := min (r / 1000) 0xFFFF

/-- The results of a plan. -/
structure PlanResult where
  eEff : Nat
  rRec : Nat
  rSnare : Nat
  rollEvery : Nat
  lifeEnd : Bool
deriving DecidableEq, Repr

/-- The computation of a plan (R368 to R370): `prev` is the R_SNARE of the plan before, if there was one. -/
def planOf (rated years least tEl : Nat) (prev : Option Nat) (i : PlanInputs) : PlanResult :=
  let eEff := effCycles rated i.eUsed i.h i.h0
  let life := years * 31557600
  let bRem := i.goodBytes * (eEff - i.eUsed)
  let rRec := bRem / max (life - tEl) 86400 * 1000 / max i.wa 1
  let rFree := rRec - i.rMand
  let n := rollEvery least i.rRoll1 rFree
  let snare := rFree - i.rRoll1 / n
  let ended := decide (bRem = 0 ∨ life ≤ tEl)
  { eEff := eEff, rRec := rRec
    rSnare := if ended then 0 else match prev with
      | some p => min snare (p * 5 / 4)
      | none => snare
    rollEvery := if ended then 255 else n
    lifeEnd := ended }

/-- The body of a LEDGER record of source 0 (R358). -/
def planBody (i : PlanInputs) (p : PlanResult) : Bytes :=
  leBytes 8 0 ++ [i.eUsed, p.eEff, i.h, i.h0, i.goodPermille, i.wa, kbs p.rRec, kbs p.rSnare, p.rollEvery].flatMap (leBytes 4) ++
    leBytes 4 0

/-- What is left of the flash moves the state (R365, R371). -/
def State.jnlHealth (s : State) : State :=
  let j := s.jnl
  if s.jnlState = 3 ∨ s.jnlState = 4 then
    let s := if j.goodPermille < 800 ∧ s.jnlState = 3 then (s.set F.JNL_STATUS_STATE 4).post F.JNL_EVENT_EVENTS 1 else s
    if j.usableSegs.length < 4 ∨ !j.systemOk then (s.set F.JNL_STATUS_STATE 5).post F.JNL_EVENT_EVENTS 2 else s
  else s

/-- A plan runs: its registers, its LEDGER record, PLAN_DONE and LIFE_END, and the superblock. What is older than 30 days is
forgotten. -/
def State.jnlPlan (s : State) (gaps : PlanGaps) : State :=
  let i := s.planInputs gaps
  let t := s.elapsed
  let p := planOf (s.get F.JNL_LIFE_RATED_PE) (s.get F.JNL_LIFE_LIFE_YEARS) (s.get F.JNL_CFG_ROLL_EVERY_MIN) t
    (if s.jnl.planned then some s.jnl.rSnare else none) i
  let s := s.setJnl { s.jnl with
    bucket := s.bucketNow, bucketAt := s.nowNs, rSnare := p.rSnare, planned := true, planTel := t, planAt := s.nowNs
    reads := s.patrolReads, tally := s.jnl.tally.filter (fun t => decide (s.nowNs < t.at' + monthNs)) }
  let s := s.sets [(F.JNL_PLAN_RATE_R_SNARE, kbs p.rSnare), (F.JNL_PLAN_RATE_R_REC, kbs p.rRec),
    (F.JNL_PLAN_WEAR_E_USED, min i.eUsed 0x3FFF), (F.JNL_PLAN_WEAR_E_EFF, min p.eEff 0x3FFF),
    (F.JNL_PLAN_HEALTH_H, min i.h 255), (F.JNL_PLAN_HEALTH_H0, min i.h0 255),
    (F.JNL_PLAN_HEALTH_GOOD_PERMILLE, min i.goodPermille 1023),
    (F.JNL_PLAN_MISC_WA, min i.wa 0xFFFF), (F.JNL_PLAN_MISC_ROLL_EVERY, p.rollEvery)]
  let s := (s.jnlOffer (newRec .ledger (planBody i p))).post F.JNL_EVENT_EVENTS 0
  (if p.lifeEnd then s.post F.JNL_EVENT_EVENTS 3 else s).superWrite

/-- A block is retired: the bad-block table, BLOCK_RETIRED, the state by what is left, and a plan (R365, R370). -/
def State.blockRetired (s : State) (b : Nat) (gaps : PlanGaps) : State :=
  (((s.setJnl (s.jnl.retire b)).post F.JNL_EVENT_EVENTS 5).jnlHealth).jnlPlan gaps

end Sys2Proof.Machine
end

