-- ==== Sys2Proof/Machine/TamperLog.lean ====
section
/-! DEFINITION. The tamper logs (R393 to R397): entries, the on-die and the battery log, their copies in the
journal, and FAULT entries. -/

namespace Sys2Proof.Machine
open Sys2Proof

/-- STATE of an entry (R395). -/
def powerCode : PowerState → Nat
  | .active => 0
  | .doze => 1
  | .standby => 2
  | .hibernate => 3
  | .startUp => 5

/-- The 28 bytes of an entry that its CRC covers (R395). -/
def LogEntry.head (e : LogEntry) : Bytes :=
  leBytes 4 e.seq ++ leBytes 6 e.sec ++ leBytes 2 0 ++ leBytes 4 e.ns ++ leBytes 1 e.source ++ leBytes 1 e.kind ++
  leBytes 1 e.mask ++ leBytes 1 e.deferred ++ leBytes 1 e.state ++
  leBytes 1 (bit e.policy + 2 * bit e.timeValid + 4 * bit e.battery + 8 * bit e.sameInstant + 16 * bit e.estimated) ++
  leBytes 2 0 ++ leBytes 4 e.value

/-- The 32 bytes of an entry. -/
def LogEntry.bytes (e : LogEntry) : Bytes := e.head ++ leBytes 4 (crc32c e.head)

/-- An entry stamped now, with the next SEQ. -/
def State.newEntry (s : State) (source kind mask value : Nat) : LogEntry :=
  { seq := s.get F.TMP_LOG_SEQ_NEXT_SEQ, sec := s.nowSec, ns := s.nowSubNs, source := source, kind := kind,
    mask := mask, state := powerCode s.pwr.state, policy := s.pealPolicy,
    timeValid := s.timeValid, value := value }

/-- SEQ rises for every entry in either log (R393). -/
def State.seqUsed (s : State) : State :=
  s.set F.TMP_LOG_SEQ_NEXT_SEQ ((s.get F.TMP_LOG_SEQ_NEXT_SEQ + 1) % 2 ^ 32)

/-- An entry put before the first of a list whose SEQ is higher. -/
def seqInsert (e : LogEntry) : List LogEntry → List LogEntry
  | [] => [e]
  | f :: r => if e.seq ≤ f.seq then e :: f :: r else f :: seqInsert e r

/-- The on-die entries that the journal has no copy of, in SEQ order (R397). -/
def State.uncopied (s : State) : List LogEntry :=
  (s.tmp.log.filterMap (fun p => p.2)).foldl (fun l e => if s.tmp.journaled ≤ e.seq then seqInsert e l else l) []

/-- On-die entries copied into a journal that takes them (R397). -/
def State.tamperToJournal (s : State) : State :=
  if s.jnlTakes then
    s.uncopied.foldl (fun s e =>
      State.jnlOffer { s with tmp := { s.tmp with journaled := e.seq + 1 } } (newRec .tamper e.bytes)) s
  else s

/-- An entry written to the on-die log of 256; a full log overwrites its oldest and posts LOG_WRAP (R393). -/
def State.logPut (s : State) (e : LogEntry) : State :=
  let i := s.get F.TMP_LOG_INFO_HEAD
  let full := (Tab.get s.tmp.log none i).isSome
  let s := { s with tmp := { s.tmp with log := NTab.set s.tmp.log none i (some e), events := s.tmp.events + 1 } }
  let s := s.set F.TMP_LOG_INFO_HEAD ((i + 1) % 256)
  let s := if full then (s.set F.TMP_LOG_INFO_WRAPPED 1).post F.TMP_EVENT_EVENTS 17 else s
  s.tamperToJournal

/-- The place in the battery log of 16 that a new entry takes: the first from HEAD on that holds no entry, or one with a copy on die
(R396). -/
def State.batSlot (s : State) : Option Nat :=
  ((List.range 16).map (fun i => (s.get F.TMP_BAT_INFO_HEAD + i) % 16)).find? (fun i => match Tab.get s.tmp.bat none i with
    | some b => b.copied
    | none => true)

/-- An entry written to the battery log: where all 16 entries have no copy on die, it is not written and OVERFLOW counts it
(R396). -/
def State.batPut (s : State) (e : LogEntry) (copied : Bool) : State :=
  match s.batSlot with
  | none => (s.bump F.TMP_BAT_INFO_OVERFLOW 8 1).post F.TMP_EVENT_EVENTS 18
  | some i => State.set { s with tmp := { s.tmp with bat := NTab.set s.tmp.bat none i (some ⟨e, copied⟩) } }
      F.TMP_BAT_INFO_HEAD ((i + 1) % 16)

/-- A new on-die entry. -/
def State.log (s : State) (source kind mask value : Nat) : State := s.seqUsed.logPut (s.newEntry source kind mask value)

/-- A FAULT entry: a fault that reaches the alarm bus without being a tamper source (R393). -/
def State.logFault (s : State) (number value : Nat) : State := s.log number 3 0 value

end Sys2Proof.Machine
end

