-- ==== Sys2Proof/Machine/Journal.lean ====
section
/-! DEFINITION. The journal's commands and events (R354 to R374). -/

namespace Sys2Proof.Machine
open Sys2Proof

/-! ### Commands (R372, R373) -/

def State.jnlArg (s : State) (who i : Nat) : Nat := s.get (F.JNL_ARG_ARG (who * 8 + i))

/-- A completion in a requester's window. -/
def State.completeJnl (s : State) (who op : Nat) (st : Status) : State :=
  s.sets [(F.JNL_CMD_RESULT_STATUS who, st.code), (F.JNL_CMD_RESULT_OP who, op), (F.JNL_CMD_RESULT_RUNNING who, 0)]

/-- The journal is READY or DEGRADED. -/
def State.jnlReady (s : State) : Bool := decide (s.jnlState = 3 ∨ s.jnlState = 4)

/-- The checks of a journal command, in R19's order. -/
def State.jnlChecks (s : State) (who op : Nat) : List (Bool × Status) :=
  match op with
  | 1 => [(decide (s.jnlArg who 0 ≠ 0x4A4E4C46 ∨ 40 < s.jnlArg who 1), .badArgument), (decide (s.jnlState ≤ 1), .stateConflict)]
  | 2 => [(decide (s.jnlArg who 5 < 16384), .badArgument), (decide (s.jnlState ≤ 2), .stateConflict)]
  | 4 => [(decide (s.jnlArg who 0 = 0 ∨ 40 < s.jnlArg who 0), .badArgument), (!s.jnlReady, .stateConflict)]
  | 3 | 5 => [(!s.jnlReady, .stateConflict)]
  | _ => [(true, .badArgument)]

/-- FORMAT: every good block erased, JSEQ from 1 again. -/
def State.jnlFormat (s : State) (who : Nat) : State :=
  let years := s.jnlArg who 1
  match firstStatus (s.jnlChecks who 1) with
  | .ok =>
    let s := s.setJnl { s.jnl.formatted with
      cmds := s.jnl.cmds, bucketAt := s.nowNs, inServiceSec := s.nowSec, planAt := s.nowNs, dataFrom := s.nowNs }
    let s := s.sets [(F.JNL_FORMAT_FORMAT_COUNT, (s.get F.JNL_FORMAT_FORMAT_COUNT + 1) % 2 ^ 16),
      (F.JNL_LIFE_LIFE_YEARS, if years = 0 then 20 else years), (F.JNL_STATUS_STATE, 3)]
    (s.superWrite.jnlMarks.completeJnl who 1 .ok).tamperToJournal
  | st => s.completeJnl who 1 st

/-- The records that READ copies: in JSEQ order, whole, up to the buffer's length. -/
def readTake : Nat → List JRec → List JRec
  | _, [] => []
  | room, r :: rest => if r.size ≤ room then r :: readTake (room - r.size) rest else []

/-- A record put in its place by JSEQ. -/
def jseqInsert (r : JRec) : List JRec → List JRec
  | [] => [r]
  | q :: rest => if r.jseq ≤ q.jseq then r :: q :: rest else q :: jseqInsert r rest

/-- READ (R373, R374): durable records of the mask from the first JSEQ asked for. Records that no retry level
corrects are skipped with UNREADABLE and UNCORRECTABLE. RES0 and RES1 of a READ that returns no record are free. -/
def State.jnlRead (s : State) (who : Nat) (bad : List Nat) : State :=
  let first := s.jnlArg who 0 + s.jnlArg who 1 * 2 ^ 32
  let mask := s.jnlArg who 2 % 128
  match firstStatus (s.jnlChecks who 2) with
  | .ok =>
    let j := s.jnl
    let want := (j.recs.filter (fun r => r.durable && decide (first ≤ r.jseq) && mask.testBit (jclassCode r.cls))).foldl
      (fun l r => jseqInsert r l) []
    let good := want.filter (fun r => r.readable && decide (r.jseq ∉ bad))
    let got := readTake (s.jnlArg who 5) good
    let next := match got.getLast? with
      | some r => r.jseq + 1
      | none => first
    let upTo := match good.drop got.length with
      | r :: _ => r.jseq
      | [] => j.nextJseq
    let skipped := want.filter (fun r => (!r.readable || decide (r.jseq ∈ bad)) && decide (r.jseq < upTo))
    let newly := skipped.any (fun r => r.readable)
    let start := match got.head? with
      | some r => r.jseq
      | none => s.draw 64
    let overrun := j.erased.any (fun q => decide (first ≤ q) &&
      (match got.head? with | some r => decide (q < r.jseq) | none => true))
    let data := got.flatMap JRec.bytes
    let s := if got = [] then s.drew else s
    let s := s.setJnl { j with recs := j.recs.map (fun r => if r.jseq ∈ bad ∧ r ∈ skipped then { r with readable := false } else r) }
    let s := if newly then s.jnlMarks.post F.JNL_EVENT_EVENTS 4 else s
    let s := if data = [] then s else s.emit (.dma (s.jnlArg who 3 + s.jnlArg who 4 * 2 ^ 32) data)
    let s := s.sets ([start % 2 ^ 32, start / 2 ^ 32, next % 2 ^ 32, next / 2 ^ 32, data.length,
        bit overrun + 2 * bit (skipped ≠ [])].zipIdx.map (fun p => (F.JNL_RES_RES (who * 6 + p.2), p.1)))
    s.completeJnl who 2 .ok
  | st => s.completeJnl who 2 st

/-- The command at the front is run; none where it is a FLUSH that still waits. -/
def State.jnlRunOne (s : State) (c : JnlCmd) : Option State :=
  match c.op with
  | 1 => some (s.jnlFormat c.who)
  | 2 => some (s.jnlRead c.who c.bad)
  | 3 =>
    if firstStatus (s.jnlChecks c.who 3) ≠ .ok then some (s.completeJnl c.who 3 .stateConflict)
    else if s.jnl.flush.getD (s.jnl.nextJseq - 1) ≤ s.durableSeq then
      some (State.completeJnl (s.setJnl { s.jnl with flush := none }) c.who 3 .ok)
    else none
  | 4 =>
    let y := s.jnlArg c.who 0
    some (match firstStatus (s.jnlChecks c.who 4) with
      | .ok => ((s.set F.JNL_LIFE_LIFE_YEARS y).jnlPlan c.gaps).completeJnl c.who 4 .ok
      | st => s.completeJnl c.who 4 st)
  | 5 => some (if s.jnlReady then (s.jnlPlan c.gaps).completeJnl c.who 5 .ok else s.completeJnl c.who 5 .stateConflict)
  | op => some (s.completeJnl c.who op .badArgument)

/-- The accepted commands run one at a time in order. A FLUSH that waits remembers its JSEQ and asks for
programming. -/
def State.jnlRun : Nat → State → State
  | 0, s => s
  | fuel + 1, s =>
    match s.jnl.cmds with
    | [] => s
    | c :: rest =>
      match s.jnlRunOne c with
      | some s' => State.jnlRun fuel (s'.setJnl { s'.jnl with cmds := rest })
      | none => s.setJnl { s.jnl with
          flush := some (s.jnl.flush.getD (s.jnl.nextJseq - 1)), progTo := s.jnl.nextJseq - 1, oldestUnflushed := none }

/-- A journal command written by a requester: refused over its own running command, with BUSY where no other code comes first
(R19, R372), else it waits its turn. The unit is absent without a journal controller (R8). -/
def State.jnlCommand (s : State) (c : JnlCmd) : State :=
  if !hasTwin s.fus.variant then s
  else if 4 < c.who then s.ignored c.who F.JNL_STATUS_WRITE_IGNORED
  else if s.get (F.JNL_CMD_RESULT_RUNNING c.who) = 1 then
    s.sets [(F.JNL_CMD_RESULT_STATUS c.who, (firstStatus (s.jnlChecks c.who c.op ++ [(true, .busy)])).code), (F.JNL_CMD_RESULT_OP c.who, c.op)]
  else
    let s := (s.set (F.JNL_CMD_RESULT_RUNNING c.who) 1).setJnl { s.jnl with cmds := s.jnl.cmds ++ [c] }
    s.jnlRun s.jnl.cmds.length

def execFormat (who : Nat) (s : State) : Host.Outcome State Fault Refusal :=
  .next (s.jnlCommand { who := who, op := 1 })

def execRead (who : Nat) (bad : List Nat) (s : State) : Host.Outcome State Fault Refusal :=
  .next (s.jnlCommand { who := who, op := 2, bad := bad })

def execFlush (who : Nat) (s : State) : Host.Outcome State Fault Refusal :=
  .next (s.jnlCommand { who := who, op := 3 })

def execSetLife (who : Nat) (gaps : PlanGaps) (s : State) : Host.Outcome State Fault Refusal :=
  .next (s.jnlCommand { who := who, op := 4, gaps := gaps })

def execPlanNow (who : Nat) (gaps : PlanGaps) (s : State) : Host.Outcome State Fault Refusal :=
  .next (s.jnlCommand { who := who, op := 5, gaps := gaps })

/-! ### Mounting (R354, R356, R363, R371) -/

/-- The superblock that governs: the newer copy, if it checks, else the older (R356). -/
def State.governing (s : State) (m : MountScan) : Option Superblock :=
  match s.jnl.super with
  | a :: rest => if m.newerOk then some a else if m.olderOk then rest.head? else none
  | [] => none

/-- The records that the scan finds, those that do not check discarded. Records staged since the reset keep the JSEQs that no record
has had (R359). -/
def State.scanned (s : State) (m : MountScan) (b : Superblock) : State :=
  let s := s.sets [(F.JNL_FORMAT_FORMAT_COUNT, b.formatCount), (F.JNL_LIFE_LIFE_YEARS, b.lifeYears), (F.JNL_STATUS_STATE, 3)]
  let j := s.jnl
  s.setJnl { j with
    recs := j.recs.filter (fun r => !r.durable || decide (r.jseq ∉ m.crcBad))
    super := b :: j.super.filter (fun x => decide (x.gen < b.gen)), bad := b.bad, wear := b.wear, logErases := b.logErases
    atFormat := b.atFormat, inServiceSec := b.inServiceSec, h0 := b.h0, dataFrom := s.nowNs }

/-- The EVENT record of a power loss found at the mount (R363). -/
def State.lossFound (s : State) (lost : Option (Nat × Nat)) : State :=
  match lost with
  | some (a, b) => (s.post F.JNL_EVENT_EVENTS 6).jnlOffer
      (newRec .event (eventBody 17 6 [a % 2 ^ 32, a / 2 ^ 32, b % 2 ^ 32, b / 2 ^ 32]))
  | none => s

/-- The dies have been identified (R354) and the mount scan has ended. -/
def State.jnlMount (s : State) (m : MountScan) (gaps : PlanGaps) : State :=
  let cause := popCause m.dies
  let s := s.set F.JNL_STATUS_NONE_CAUSE cause
  match cause, populationOf m.dies with
  | 0, some p =>
    let s := s.sets [(F.JNL_STATUS_DIES, p.diesCode), (F.JNL_STATUS_DENSITY, p.densityCode),
      (F.JNL_STATUS_RATE, rateOf m.dies (s.get F.JNL_CFG_MAX_RATE))]
    let s := s.setJnl { s.jnl with pop := some p, marks := m.marks }
    match s.governing m with
    | none => s.set F.JNL_STATUS_STATE 2
    | some b =>
      if b.pop ≠ p then (s.set F.JNL_STATUS_STATE 2).post F.JNL_EVENT_EVENTS 7
      else ((((s.scanned m b).lossFound m.lost).jnlHealth).jnlPlan gaps).jnlMarks.tamperToJournal
  | _, _ => s.set F.JNL_STATUS_STATE 0

/-- The mount ends; only a journal that is mounting takes it. -/
def execJournalMount (scan : MountScan) (gaps : PlanGaps) (s : State) : Host.Outcome State Fault Refusal :=
  .next (if hasTwin s.fus.variant ∧ s.jnlState ≤ 1 then s.jnlMount scan gaps else s)

/-! ### Records, programs, erases and the patrol -/

/-- A record is offered to staging (R360). -/
def execJournalRecordAccept (cls : JClass) (payload : Bytes) (s : State) : Host.Outcome State Fault Refusal :=
  .next (if payload.length ≤ 16352 then s.jnlOffer (newRec cls payload) else s)

/-- FLUSH_MS after the oldest unflushed record was accepted, the part-filled wordline is programmed (R361). -/
def execJournalFlushTimer (s : State) : Host.Outcome State Fault Refusal :=
  .next (match s.jnl.oldestUnflushed with
    | some t => if t + s.get F.JNL_CFG_FLUSH_MS * 1000000 ≤ s.nowNs ∧ s.jnlReady then
        s.setJnl { s.jnl with progTo := s.jnl.nextJseq - 1, oldestUnflushed := none }
      else s
    | none => s)

/-- A program ends: the records that it completes are durable, or its block is retired and they are programmed again at the head
(R361, R362). A FLUSH that waited may end. -/
def State.jnlProgram (s : State) (system : Bool) (bad : Option Nat) (gaps : PlanGaps) : State :=
  let j := s.jnl
  match bad, j.head system with
  | none, _ =>
    let s := s.jnlProgrammed system 1
    s.jnlRun s.jnl.cmds.length
  | some b, some (place, unit, _) =>
    if (if system then b = place else b ∈ j.segBlocks place) then
      ((s.setJnl (j.advance system unit)).noteTally { at' := s.nowNs, programmed := unit }).blockRetired b gaps
    else s
  | _, _ => s

def execProgramDone (system : Bool) (place page : Nat) (bad : Option Nat) (gaps : PlanGaps) (s : State) :
    Host.Outcome State Fault Refusal :=
  .next (if s.jnlReady ∧ s.jnl.canProgram system ∧ s.jnl.nextPage system = some (place, page) then s.jnlProgram system bad gaps
    else s)

/-- The place that the head of an area takes next. -/
def Journal.nextPlace (j : Journal) (system : Bool) : Option Nat := if system then j.nextSys else j.upcoming.head?

/-- The place erased and opened at the head (R355, R356). -/
def State.jnlOpen (s : State) (system : Bool) (place : Nat) : State :=
  let j := s.jnl
  let copied := if system then ((j.recs.filter (fun r => r.inPlace true place && r.live j.recs)).map JRec.size).sum else 0
  State.jnlMarks ((s.setJnl (if system then j.openSystem place else j.openSegment place)).noteTally
    { at' := s.nowNs, programmed := copied }).superWrite

/-- An erase ends: its place is opened at the head, its records gone but for the live ones of the system area; a block that fails it
is retired (R355, R356, R365). -/
def State.jnlErase (s : State) (system : Bool) (g : Nat) (bad : Option Nat) (gaps : PlanGaps) : State :=
  match bad with
  | none => s.jnlOpen system g
  | some b => if (if system then b = g else b ∈ s.jnl.segBlocks g) then s.blockRetired b gaps else s

/-- The head of an area needs a new place: it has none, or no wordline or page is left there. A segment is erased just before it is
written. -/
def Journal.headFull (j : Journal) (system : Bool) : Bool :=
  match j.head system with
  | some (_, unit, left) => decide (left < max unit 1)
  | none => true

def execEraseDone (system : Bool) (place : Nat) (bad : Option Nat) (gaps : PlanGaps) (s : State) : Host.Outcome State Fault Refusal :=
  .next (if s.jnlReady ∧ s.jnl.headFull system ∧ s.jnl.nextPlace system = some place then s.jnlErase system place bad gaps else s)

/-- The highest corrected count of a page, recorded with its instant; in the first 7 days after FORMAT it counts in H0 too. -/
def State.patrolNote (s : State) (blk page corrected : Nat) : State :=
  let j := s.jnl
  s.setJnl { j with
    patrol := NTab.set j.patrol 0 (blk * (3 * j.wordlines) + page) corrected
    reads := j.reads ++ [(s.nowNs, corrected)]
    h0 := if s.elapsed ≤ weekSec then (j.h0.1 + corrected, j.h0.2 + 1) else j.h0 }

/-- A segment refreshed: its records are copied to the head, and it is released for erasure (R366). -/
def State.refresh (s : State) (g : Nat) : State :=
  let j := s.jnl
  match j.openLog with
  | some o =>
    let here := fun (r : JRec) => r.inPlace false g
    let n := ((j.recs.filter here).map JRec.size).sum
    (s.setJnl { j with
      recs := j.recs.map (fun r => if here r then { r with refreshed := true, segment := o } else r)
      headAt := j.headAt + ceilDiv n (max (j.wordBytes o) 1) * j.wordBytes o
      ring := j.ring.filter (· ≠ g), free := j.free.filter (· ≠ g) ++ [g] }).noteTally { at' := s.nowNs, programmed := n }
  | none => s

/-- A segment of the log area is worn enough to be refreshed, and not due to be erased within the next two (R366). -/
def Journal.refreshDue (j : Journal) (g corrected level : Nat) : Bool :=
  (decide (90 < corrected) || decide (4 ≤ level)) && decide (j.openLog ≠ some g) && decide (g ∉ j.upcoming.take 2) && decide (g ∈ j.ring)

/-- A patrol read (R364 to R366). An uncorrectable page loses its records and its block is tested. -/
def State.patrolled (s : State) (blk page corrected level : Nat) (recovered : Bool) (recs : List Nat) (testOk : Bool)
    (gaps : PlanGaps) : State :=
  if recovered then
    let s := s.patrolNote blk page corrected
    if blk ∉ s.jnl.sys ∧ s.jnl.refreshDue (s.jnl.segOf blk) corrected level then s.refresh (s.jnl.segOf blk) else s
  else
    let s := State.jnlMarks (s.setJnl { s.jnl with
      recs := s.jnl.recs.map (fun r => if r.jseq ∈ recs then { r with readable := false } else r) })
    let s := s.post F.JNL_EVENT_EVENTS 4
    if testOk then s else s.blockRetired blk gaps

def execPatrolRead (blk page corrected level : Nat) (recovered : Bool) (recs : List Nat) (testOk : Bool) (gaps : PlanGaps)
    (s : State) : Host.Outcome State Fault Refusal :=
  .next (if s.jnlReady then s.patrolled blk page corrected level recovered recs testOk gaps else s)

/-- The daily plan (R370). -/
def execJournalPlan (gaps : PlanGaps) (s : State) : Host.Outcome State Fault Refusal :=
  .next (if s.jnlReady ∧ s.jnl.planAt + dayNs ≤ s.nowNs then s.jnlHealth.jnlPlan gaps else s)

/-- Everything staged for an area is programmed, as the entry of HIBERNATE waits for (R363). -/
def State.jnlFlushArea (s : State) (system : Bool) : State :=
  if s.jnl.unprogrammed system = 0 then s
  else
    let s := if s.jnl.headFull system then (match s.jnl.nextPlace system with
      | some g => s.jnlOpen system g
      | none => s) else s
    match s.jnl.head system with
    | some (_, unit, _) => s.jnlProgrammed system (ceilDiv (s.jnl.unprogrammed system) (max unit 1))
    | none => s

end Sys2Proof.Machine
end

