-- ==== Sys2Proof/Machine/HostBase.lean ====
section
/-! DEFINITION. The host interface without its frames: ring sets, completions and their interrupts (R331 to R336,
R350). A ring set is named by its element: 0 to 7 the PF's, 8 + 2 (v - 1) + r those of VFv, 24 to 27 the cores'. -/

namespace Sys2Proof.Machine
open Sys2Proof

/-- The ring sets of a requester, by element. -/
def ringSetsOf (who : Nat) : List Nat :=
  if who ≤ 3 then [24, 25, 26, 27]
  else if who = pf then [0, 1, 2, 3, 4, 5, 6, 7]
  else if isVf who then [8 + 2 * (who - 5), 9 + 2 * (who - 5)]
  else []

/-- The requester that a ring set belongs to. -/
def ringOwner (r : Nat) : Nat := if r < 8 then pf else if r < 24 then 5 + (r - 8) / 2 else 0

/-- The interrupt vector of a ring set; the cores' have none (R331). -/
def ringVector (r : Nat) : Option Nat :=
  if r < 8 then some (22 + r) else if r < 24 then some (32 + 4 * ((r - 8) / 2) + 1 + (r - 8) % 2) else none

def State.ring (s : State) (r : Nat) : RingSet := Tab.get s.hif.ring {} r

def State.setRing (s : State) (r : Nat) (v : RingSet) : State :=
  { s with hif := { s.hif with ring := NTab.set s.hif.ring {} r v } }

/-- An interrupt of a ring set now. -/
def State.ringFire (s : State) (r : Nat) : State :=
  let s := s.setRing r { s.ring r with irqWait := false, irqAt := some s.nowNs }
  match ringVector r with
  | some v => s.fire v
  | none => s

/-- HOLDOFF_US have passed since the ring set's previous interrupt (R331). -/
def State.holdoffOver (s : State) (r : Nat) : Bool :=
  (s.ring r).irqAt.all (fun t => decide (t + s.get (F.HIF_RS_CTL_HOLDOFF_US r) * 1000 ≤ s.nowNs))

/-- A completion or a receive write-back was written: the vector fires, or waits for HOLDOFF_US after the ring
set's previous interrupt (R331). -/
def State.ringIrq (s : State) (r : Nat) : State :=
  if s.holdoffOver r then s.ringFire r else s.setRing r { s.ring r with irqWait := true }

/-- The hold-off of a waiting interrupt ends. -/
def execRingIrqHoldoff (rs : Nat) (s : State) : Host.Outcome State Fault Refusal :=
  .next (if (s.ring rs).irqWait && s.holdoffOver rs then s.ringFire rs else s)

/-- The address of an entry of a ring. -/
def ringSlot (base size index stride : Nat) : Nat := base + index % size * stride

/-- The bases and sizes of a ring set's rings. -/
def State.cqBase (s : State) (r : Nat) : Nat := s.get (F.HIF_CQ_BASE_LO_ADDR r) + s.get (F.HIF_CQ_BASE_HI_ADDR r) * 2 ^ 32

def State.cqSize (s : State) (r : Nat) : Nat := 2 ^ s.get (F.HIF_RS_CTL_CQ_LOG2 r)

def State.rxBase (s : State) (r : Nat) : Nat := s.get (F.HIF_RX_BASE_LO_ADDR r) + s.get (F.HIF_RX_BASE_HI_ADDR r) * 2 ^ 32

def State.rxSize (s : State) (r : Nat) : Nat := 2 ^ s.get (F.HIF_RS_CTL_RX_LOG2 r)

/-- A completion written (R335). -/
def State.completion (s : State) (r tag : Nat) (st : Status) (reason tdQns : Nat) : State :=
  let i := s.get (F.HIF_CQ_PROD_INDEX r)
  let ok := st = .ok
  let body := leBytes 4 tag ++ leBytes 1 st.code ++ leBytes 1 reason ++ leBytes 2 0 ++
    leBytes 4 (if ok then tdQns / 4 % 2 ^ 32 else 0) ++ leBytes 1 (if ok then tdQns % 4 else 0) ++ leBytes 3 0
  let s := s.emit (.dma (ringSlot (s.cqBase r) (s.cqSize r) i 16) body)
  let s := s.set (F.HIF_CQ_PROD_INDEX r) ((i + 1) % 2 ^ 32)
  s.ringIrq r

/-- The fate of a frame that a ring set sent: its completion (R335). -/
def State.fate (s : State) (host : Option (Nat × Nat)) (st : Status) (reason tdQns : Nat) : State :=
  match host with
  | some (r, tag) =>
    let g := s.ring r
    (s.setRing r { g with open' := g.open' - 1 }).completion r tag st reason tdQns
  | none => s

/-- The completion ring has room for every frame fetched and not completed (R334). -/
def State.cqRoom (s : State) (r : Nat) : Bool :=
  decide ((s.get (F.HIF_CQ_PROD_INDEX r) + 2 ^ 32 - s.get (F.HIF_CQ_CONS_INDEX r)) % 2 ^ 32 + (s.ring r).open' < s.cqSize r)

/-- A ring set runs: ENABLE is 1 and no DMA error has stopped it. -/
def State.ringOn (s : State) (r : Nat) : Bool :=
  s.get (F.HIF_RS_CTL_ENABLE r) = 1 && s.get (F.HIF_RS_CTL_STOPPED r) = 0

/-- The indices of a ring set at 0 (R350). -/
def State.ringZero (s : State) (r : Nat) : State :=
  s.sets [(F.HIF_TX_PROD_INDEX r, 0), (F.HIF_TX_CONS_INDEX r, 0), (F.HIF_RX_PROD_INDEX r, 0), (F.HIF_RX_CONS_INDEX r, 0),
    (F.HIF_CQ_PROD_INDEX r, 0), (F.HIF_CQ_CONS_INDEX r, 0)]

/-- A write of HIF_RS_CTL (R350): a LOG2 outside 6 to 16, or another LOG2 while ENABLE is 1, is ignored. -/
def State.ringCtl (s : State) (who r val : Nat) : State :=
  let t := field val 1 5
  let x := field val 6 5
  let c := field val 11 5
  let on := s.get (F.HIF_RS_CTL_ENABLE r) = 1
  let same := t = s.get (F.HIF_RS_CTL_TX_LOG2 r) ∧ x = s.get (F.HIF_RS_CTL_RX_LOG2 r) ∧ c = s.get (F.HIF_RS_CTL_CQ_LOG2 r)
  if [t, x, c].any (fun l => decide (l < 6 ∨ 16 < l)) ∨ (on ∧ ¬same) then s.ignored who F.HIF_STATUS_WRITE_IGNORED
  else
    let s := if field val 0 1 = 1 ∧ ¬on then s.ringZero r else s
    let s := if field val 0 1 = 0 then s.set (F.HIF_RS_CTL_STOPPED r) 0 else s
    s.sets [(F.HIF_RS_CTL_ENABLE r, field val 0 1), (F.HIF_RS_CTL_TX_LOG2 r, t), (F.HIF_RS_CTL_RX_LOG2 r, x),
      (F.HIF_RS_CTL_CQ_LOG2 r, c), (F.HIF_RS_CTL_HOLDOFF_US r, field val 16 10)]

/-- A requester writes HIF_RS_CTL of its ring set `rs`; outside its ring sets the write is ignored, and during a
control-plane reset it is discarded (R408). -/
def execRingSetEnable (who rs val : Nat) (s : State) : Host.Outcome State Fault Refusal :=
  .next (if s.pwr.cpReset then s else match (ringSetsOf who)[rs]? with
    | some r => s.ringCtl who r val
    | none => s.ignored who F.HIF_STATUS_WRITE_IGNORED)

/-- A ring set met a PCIe error and stops (R350). -/
def execDmaError (rs : Nat) (s : State) : Host.Outcome State Fault Refusal :=
  .next (if s.ringOn rs then (s.set (F.HIF_RS_CTL_STOPPED rs) 1).post F.HIF_EVENT_EVENTS 0 else s)

/-- The registers of a ring set. -/
def isRingReg : Reg → Bool
  | .HIF_RS_CTL | .HIF_TX_BASE_LO | .HIF_TX_BASE_HI | .HIF_RX_BASE_LO | .HIF_RX_BASE_HI | .HIF_CQ_BASE_LO
  | .HIF_CQ_BASE_HI | .HIF_TX_PROD | .HIF_TX_CONS | .HIF_RX_PROD | .HIF_RX_CONS | .HIF_CQ_PROD | .HIF_CQ_CONS => true
  | _ => false

/-- Frames on their way whose ring set is reset keep their fate, and their completions are discarded (R330). -/
def Frame.orphan (f : Frame) (rs : List Nat) : Frame :=
  match f.host with
  | some (r, _) => if r ∈ rs then { f with host := none } else f
  | none => f

/-- Ring sets reset: registers at their reset values, nothing outstanding. -/
def State.ringReset (s : State) (rs : List Nat) : State :=
  { s with
    regs := s.regs.filter (fun p => !(isRingReg p.1.reg && decide (p.1.elem ∈ rs)))
    hif := { s.hif with ring := s.hif.ring.filter (fun p => p.1 ∉ rs) }
    buf := { s.buf with queues := s.buf.queues.map (fun p => (p.1, p.2.map (fun f => f.orphan rs))) }
    pool := { s.pool with slots := s.pool.slots.map (fun t => { t with frame := t.frame.orphan rs }) } }

end Sys2Proof.Machine
end

