-- ==== Sys2Proof/Machine/Chime.lean ====
section
/-! DEFINITION. The Chime mailboxes (R338 to R344) and the resets of PCIe functions (R330). Views 0 to 7 are the host
views of pairs 0 to 7, views 8 to 15 the core views; mailbox 2p carries from host to device, 2p + 1 back. -/

namespace Sys2Proof.Machine
open Sys2Proof

/-! ### Views, mailboxes and events -/

/-- The view of a pair that a requester has: the cores all, another requester only of the pairs it owns; none during a
control-plane reset (R408). -/
def State.viewOf (s : State) (who pair : Nat) : Option Nat :=
  if 8 ≤ pair ∨ s.pwr.cpReset then none
  else if who ≤ 3 then some (8 + pair)
  else if s.get (F.CHM_PAIR_CFG_OWNER pair) = who then some pair
  else none

/-- The other view of the pair. -/
def otherView (v : Nat) : Nat := (v + 8) % 16

/-- The mailbox that a view sends in, and the one it receives in (R351). -/
def outBox (v : Nat) : Nat := if v < 8 then 2 * v else 2 * (v - 8) + 1

def inBox (v : Nat) : Nat := outBox (otherView v)

def State.box (s : State) (b : Nat) : Mailbox := Tab.get s.chm.box {} b

def State.setBox (s : State) (b : Nat) (m : Mailbox) : State :=
  { s with chm := { s.chm with box := NTab.set s.chm.box {} b m } }

/-- The interrupt vector that serves a host view; the core views have none (R331). -/
def State.chmVector (s : State) (v : Nat) : Option Nat :=
  if 8 ≤ v then none
  else
    let o := s.get (F.CHM_PAIR_CFG_OWNER v)
    if o = pf then some 30 else if isVf o then some (32 + 4 * (o - 5)) else none

/-- Some event that its MASK lets through waits in a host view that a vector serves. -/
def State.chmPending (s : State) (vec : Nat) : Bool :=
  (List.range 8).any (fun v => s.chmVector v = some vec &&
    decide (s.get (F.CHM_EVENT_EVENTS v) &&& s.get (F.CHM_MASK_MASK v) ≠ 0))

/-- A Chime vector fires when its condition becomes true, and is released when it becomes false. -/
def State.chmRefresh (s : State) (vec : Nat) : State :=
  if s.chmPending vec then
    if vec ∈ s.irq then s else { s with irq := s.irq ++ [vec], out := .msix vec :: s.out }
  else { s with irq := s.irq.filter (· ≠ vec) }

/-- All Chime vectors brought up to date. -/
def State.chmRefreshAll (s : State) : State :=
  [30, 32, 36, 40, 44, 48, 52, 56, 60].foldl State.chmRefresh s

/-- An event of a view: bit 0 MSG, 1 NOTICE, 2 CROSSED, 3 FULL_WRITE, 4 NOTICE_LOST. -/
def State.chmPost (s : State) (v i : Nat) : State :=
  let s := s.set (F.CHM_EVENT_EVENTS v) (setBit (s.get (F.CHM_EVENT_EVENTS v)) i)
  match s.chmVector v with
  | some vec => s.chmRefresh vec
  | none => s

/-- A W1C write of a view's CHM_EVENT. -/
def State.chmClear (s : State) (v bits : Nat) : State :=
  let s := s.set (F.CHM_EVENT_EVENTS v) (clearBits (s.get (F.CHM_EVENT_EVENTS v)) bits)
  match s.chmVector v with
  | some vec => s.chmRefresh vec
  | none => s

/-- The number of a kind of notice (R351). -/
def noticeCode : NoticeKind → Nat
  | .acked => 1
  | .abortedOut => 2
  | .abortedIn => 3

def State.notices (s : State) (v : Nat) : List (NoticeKind × Nat) := Tab.get s.chm.notices [] v

/-- A notice for a view: its FIFO of 16 and the NOTICE doorbell, or NOTICE_LOST (R341). -/
def State.notice (s : State) (v : Nat) (k : NoticeKind) (tag : Nat) : State :=
  if (s.notices v).length ≥ 16 then s.chmPost v 4
  else State.chmPost { s with chm := { s.chm with notices := NTab.set s.chm.notices [] v (s.notices v ++ [(k, tag)]) } } v 1

/-- The view that sends in a mailbox. -/
def senderView (b : Nat) : Nat := if b % 2 = 0 then b / 2 else 8 + b / 2

/-- A mailbox zeroized and empty: its words too. CROSSED may be set again for its pair (R344). -/
def State.emptyBox (s : State) (b : Nat) : State :=
  let v := senderView b
  State.setBox { s with
    regs := s.regs.filter (fun p => !(decide (p.1.reg = .CHM_OUT_DATA) && decide (p.1.elem / 64 = v)))
    chm := { s.chm with crossed := s.chm.crossed.filter (· ≠ b / 2) } } b {}

/-! ### Operations -/

/-- A write to OUT_DATA or SEND of a FULL mailbox: discarded, logged for the writer, FULL_WRITE set (R340). -/
def State.fullWrite (s : State) (who v : Nat) : State :=
  State.chmPost { s with hif := { s.hif with aborts := s.hif.aborts ++ [(who, v)] } } v 3

def execFullWrite (who pair : Nat) (s : State) : Host.Outcome State Fault Refusal :=
  .next (match s.viewOf who pair with
    | some v => if (s.box (outBox v)).full then s.fullWrite who v else s
    | none => s)

/-- SEND (R339). -/
def State.chmSend (s : State) (who v len : Nat) (ackReq : Bool) (tag : Nat) : State :=
  if (s.box (outBox v)).full then s.fullWrite who v
  else (s.setBox (outBox v) { full := true, len := len % 64, ack := ackReq, tag := tag % 2 ^ 16, sender := who }).chmPost
    (otherView v) 0

def execSend (who pair len : Nat) (ackReq : Bool) (tag : Nat) (s : State) : Host.Outcome State Fault Refusal :=
  .next (match s.viewOf who pair with
    | some v => s.chmSend who v len ackReq tag
    | none => s)

/-- POP (R341). -/
def State.chmPop (s : State) (who v : Nat) : State :=
  let m := s.box (inBox v)
  if m.full then
    let s := s.emptyBox (inBox v)
    if m.ack then s.notice (otherView v) .acked m.tag else s
  else s.ignored who F.CHM_STATUS_WRITE_IGNORED

def execPop (who pair : Nat) (s : State) : Host.Outcome State Fault Refusal :=
  .next (match s.viewOf who pair with
    | some v => s.chmPop who v
    | none => s)

/-- WITHDRAW (R342): the sender gets no notice, the receiver ABORTED_IN. -/
def execWithdraw (who pair : Nat) (s : State) : Host.Outcome State Fault Refusal :=
  .next (match s.viewOf who pair with
    | some v =>
      let m := s.box (outBox v)
      if m.full then (s.emptyBox (outBox v)).notice (otherView v) .abortedIn m.tag
      else s.ignored who F.CHM_STATUS_WRITE_IGNORED
    | none => s)

/-- What CHM_NOTICE of a view shows: the oldest notice, 0 if there is none (R351). -/
def State.noticeHead (s : State) (v : Nat) : Nat :=
  match s.notices v with
  | [] => 0
  | (k, tag) :: _ => tag + noticeCode k * 2 ^ 16 + 2 ^ 31

/-- The oldest notice of a view leaves its FIFO. -/
def State.noticePop (s : State) (v : Nat) : State :=
  { s with chm := { s.chm with notices := NTab.set s.chm.notices [] v ((s.notices v).drop 1) } }

/-- A read of CHM_NOTICE pops the oldest notice (R351). -/
def execChmNoticeRead (who pair : Nat) (s : State) : Host.Outcome State Fault Refusal :=
  .next (match s.viewOf who pair with
    | some v => (s.noticePop v).emit (.read who (s.noticeHead v))
    | none => s.emit (.read who 0))

/-- Both mailboxes of a pair have held an ACK_REQ message for 100 µs (R344). -/
def execCrossed (pair : Nat) (s : State) : Host.Outcome State Fault Refusal :=
  let a := s.box (2 * pair)
  let b := s.box (2 * pair + 1)
  .next (if pair < 8 ∧ a.full ∧ a.ack ∧ b.full ∧ b.ack ∧ pair ∉ s.chm.crossed then
      (State.chmPost { s with chm := { s.chm with crossed := s.chm.crossed ++ [pair] } } pair 2).chmPost (8 + pair) 2
    else s)

/-! ### Resets (R330, R343) -/

/-- A mailbox emptied without a POP (R342): ABORTED_OUT unless its sender is being reset, ABORTED_IN unless its
receiver is. -/
def State.abortBox (s : State) (b : Nat) (senderReset receiverReset : Bool) : State :=
  let m := s.box b
  if m.full then
    let v := senderView b
    let s := s.emptyBox b
    let s := if senderReset then s else s.notice v .abortedOut m.tag
    if receiverReset then s else s.notice (otherView v) .abortedIn m.tag
  else s

/-- The reset of a view: its notices, events, mask and unsent words. -/
def State.viewReset (s : State) (v : Nat) : State :=
  State.chmRefreshAll { s with
    regs := s.regs.filter (fun p => !((decide (p.1.reg = .CHM_EVENT ∨ p.1.reg = .CHM_MASK) && decide (p.1.elem = v)) ||
      (decide (p.1.reg = .CHM_OUT_DATA) && decide (p.1.elem / 64 = v))))
    chm := { s.chm with notices := NTab.set s.chm.notices [] v [] } }

/-- The pairs of a function lose their messages at its reset (R343). -/
def State.chimeFunctionReset (s : State) (who : Nat) : State :=
  ((List.range 8).filter (fun p => s.get (F.CHM_PAIR_CFG_OWNER p) = who)).foldl (fun s p =>
    (((s.abortBox (2 * p) true false).abortBox (2 * p + 1) false true).viewReset p)) s

/-- A control-plane reset empties every mailbox and the cores' notice FIFOs (R343). -/
def State.chimeCoresReset (s : State) : State :=
  (List.range 8).foldl (fun s p =>
    let s := (s.abortBox (2 * p) false true).abortBox (2 * p + 1) true false
    { s with chm := { s.chm with notices := NTab.set s.chm.notices [] (8 + p) [] } }) s

/-- A command that runs in the function's SA window runs to completion, and its results are then zeroized (R330). -/
def State.windowReset (s : State) (who : Nat) : State :=
  if s.sam.waits.any (fun w => w.who = who) || s.sam.queue.any (fun p => p.1 = who) then
    { s with sam := { s.sam with flr := who :: s.sam.flr.filter (· ≠ who) } }
  else s

/-- The reset of one function: ring sets, host views, table locks, windows (R330). -/
def State.functionReset (s : State) (who : Nat) : State :=
  (State.releaseLocksOf ((s.ringReset (ringSetsOf who)).chimeFunctionReset who) who).windowReset who

/-- FLR of a VF (R330). -/
def execVfFlr (vf : Nat) (s : State) : Host.Outcome State Fault Refusal :=
  .next (if 1 ≤ vf ∧ vf ≤ 8 then (s.functionReset (vf + 4)).post F.HIF_EVENT_EVENTS 1 else s)

/-- FLR of the PF: the PF, and every VF as VF Enable clears, with VF_RESET where one was enabled (R330, R350). -/
def State.pfReset (s : State) : State :=
  let some' := s.get F.HIF_STATUS_NUM_VFS ≠ 0
  let s := ((List.range 9).foldl (fun s i => s.functionReset (4 + i)) s).set F.HIF_STATUS_NUM_VFS 0
  if some' then s.post F.HIF_EVENT_EVENTS 1 else s

def execPfFlr (s : State) : Host.Outcome State Fault Refusal := .next s.pfReset

/-- A hot reset or link down resets every function as an FLR of the PF does (R330). -/
def execPcieHotReset (s : State) : Host.Outcome State Fault Refusal := .next s.pfReset

end Sys2Proof.Machine
end

