-- ==== Sys2Proof/Machine/Tabor.lean ====
section
/-! DEFINITION. The Tabor port (R346 to R349). -/

namespace Sys2Proof.Machine
open Sys2Proof

def State.setTab (s : State) (t : Tabor) : State := { s with tab := t }

def State.tabUp (s : State) : Bool := s.get F.TAB_STATUS_LINK_UP = 1

/-- The 8-byte words of a record. -/
def TaborRec.words (r : TaborRec) : Nat := ceilDiv r.data.length 8

/-- The words queued. -/
def fifoWords (l : List TaborRec) : Nat := (l.map TaborRec.words).sum

/-- A FIFO put in place, with its count in TAB_STATUS. -/
def State.setFifo (s : State) (l : List TaborRec) : State :=
  State.set (s.setTab { s.tab with fifo := l }) F.TAB_STATUS_FIFO_WORDS (fifoWords l)

/-- The FIFO of 256 KiB takes records of `w` words now (R349). -/
def State.tabRoom (s : State) (w : Nat) : Bool := s.tabUp && decide (fifoWords s.tab.fifo + w ≤ 32768)

/-- A control block: its type byte and bytes 1 to 7 (R347). -/
def tabBlock (t : Nat) (body : Bytes) : Bytes := leBytes 1 t ++ body ++ List.replicate (7 - body.length) 0

/-- Multiples of 100 ms of TAI passed. -/
def State.tenths (s : State) : Nat := s.nowNs / 100000000

/-- The TIME block that is due at a burst boundary (R347). -/
def State.tabTime (s : State) : State :=
  if s.tabUp ∧ s.tab.timeSent < s.tenths then
    State.emit (s.setTab { s.tab with timeSent := s.tenths })
      (.tabor (tabBlock 0x2D (beBytes 6 (s.tenths / 10) ++ beBytes 1 (s.tenths % 10))))
  else s

def execTaborTime (s : State) : Host.Outcome State Fault Refusal := .next s.tabTime

/-- Records whose ingress stamp lies 400 ms or more before the time base are lost (R347). -/
def State.tabAged (s : State) : State :=
  let old := fun (r : TaborRec) => match r.tIn with
    | some t => decide (t + 1600000000 ≤ s.nowQns)
    | none => false
  (s.tab.fifo.filter old).foldl (fun s r => s.snareLost r.session) (s.setFifo (s.tab.fifo.filter (fun r => !old r)))

/-- The records of the next burst: whole records up to 512 words (R347). -/
def burstTake : Nat → List TaborRec → List TaborRec
  | _, [] => []
  | room, r :: rest => if r.words ≤ room then r :: burstTake (room - r.words) rest else []

/-- A burst starts at its boundary: the TIME block due first, aged records gone, and only with credit (R347, R348). -/
def State.tabBurst (s : State) : State :=
  let s := s.tabTime.tabAged
  let l := burstTake 512 s.tab.fifo
  let w := fifoWords l
  let avail := (s.get F.TAB_GRANTED_COUNT + 2 ^ 32 - s.get F.TAB_CONSUMED_COUNT) % 2 ^ 32
  if l = [] ∨ !s.tab.creditOk ∨ avail < ceilDiv w 8 then s
  else
    let data := l.flatMap (fun r => r.data)
    let s := s.emit (.tabor (tabBlock 0x33 (beBytes 2 s.tab.burstSeq ++ beBytes 2 w) ++ data ++ tabBlock 0x66 (beBytes 4 (crc32 data))))
    let s := s.setTab { s.tab with burstSeq := (s.tab.burstSeq + 1) % 2 ^ 16 }
    let s := s.setFifo (s.tab.fifo.drop l.length)
    (s.set F.TAB_CONSUMED_COUNT ((s.get F.TAB_CONSUMED_COUNT + ceilDiv w 8) % 2 ^ 32)).bump F.TAB_BURSTS_COUNT 32 1

def execTaborBurst (s : State) : Host.Outcome State Fault Refusal := .next (if s.tabUp then s.tabBurst else s)

/-- One bit of the CRC-8 of a CREDIT block, of polynomial 0x07. -/
def crc8Bit (r : Nat) : Nat := if r < 128 then 2 * r else (2 * r - 256) ^^^ 7

/-- The CRC-8 of a CREDIT block (R347). -/
def crc8 (bs : Bytes) : Nat := bs.foldl (fun r b => (List.range 8).foldl (fun r _ => crc8Bit r) (r ^^^ b.toNat)) 0

/-- COUNT of a CREDIT block, and whether its CRC-8 is right. -/
def creditCount (block : Bytes) : Nat := beAt block 1 4

def creditCrcOk (block : Bytes) : Bool := decide (beAt block 5 1 = crc8 (slice block 1 4))

/-- A CREDIT block is discarded (R348). Before LINK_UP, COUNT is held against a CONSUMED of 0. -/
def State.creditBad (s : State) (block : Bytes) : Bool :=
  let c := creditCount block
  let consumed := if s.tabUp then s.get F.TAB_CONSUMED_COUNT else 0
  !creditCrcOk block || decide ((c + 2 ^ 32 - consumed) % 2 ^ 32 > 2 ^ 24) || (match s.tab.lastCount with
    | some l => decide ((c + 2 ^ 32 - l) % 2 ^ 32 > 2 ^ 31)
    | none => false)

/-- A control block is received (R347, R348); every one but CREDIT is ignored. -/
def execCredit (typ : Byte) (rest : Bytes) (s : State) : Host.Outcome State Fault Refusal :=
  let block := typ :: rest
  let c := creditCount block
  .next (if s.get F.TAB_CFG_EN = 0 ∨ rest.length ≠ 7 ∨ typ ≠ 0x55 then s
    else if s.creditBad block then s.bump F.TAB_CREDIT_BAD_COUNT 32 1
    else State.set (s.setTab { s.tab with creditOk := true, lastCount := some c, creditAt := s.nowNs }) F.TAB_GRANTED_COUNT c)

/-- LINK_UP (R349). -/
def execTaborLinkUp (lane : Nat) (s : State) : Host.Outcome State Fault Refusal :=
  .next (if s.get F.TAB_CFG_EN = 1 ∧ !s.unitOff 53 ∧ !s.tabUp ∧ s.tab.creditOk ∧ lane < 4 ∧
      (s.pwr.state = .active ∨ s.pwr.state = .doze) then
      let s := s.setTab { s.tab with burstSeq := 0, timeSent := s.tenths }
      (s.sets [(F.TAB_STATUS_LINK_UP, 1), (F.TAB_STATUS_CREDIT_LANE, lane), (F.TAB_STATUS_REF_OK, 1),
        (F.TAB_CONSUMED_COUNT, 0)]).post F.TAB_EVENT_EVENTS 0
    else s)

/-- LINK_DOWN (R349): a new LINK_UP waits for a new CREDIT. -/
def State.tabDown (s : State) : State :=
  if s.tabUp then
    State.post (State.set (s.setTab { s.tab with creditOk := false, lastCount := none }) F.TAB_STATUS_LINK_UP 0)
      F.TAB_EVENT_EVENTS 1
  else s

/-- A control-plane reset empties the port: the records in it are lost to their sessions (R22). -/
def State.tabReset (s : State) : State :=
  s.tab.fifo.foldl (fun s r => s.snareLost r.session) (s.tabDown.setFifo [])

def execTaborLinkDown (s : State) : Host.Outcome State Fault Refusal := .next s.tabDown

/-- CREDIT_LOST: no valid CREDIT for CREDIT_TIMEOUT_US (R349). -/
def execCreditLost (s : State) : Host.Outcome State Fault Refusal :=
  .next (if s.tabUp ∧ s.tab.creditOk ∧ s.tab.creditAt + s.get F.TAB_CFG_CREDIT_TIMEOUT_US * 1000 ≤ s.nowNs then
      State.post (s.setTab { s.tab with creditOk := false }) F.TAB_EVENT_EVENTS 2
    else s)

/-- REF_LOST takes the port down (R346). -/
def execTaborRefLost (s : State) : Host.Outcome State Fault Refusal :=
  .next (if s.get F.TAB_CFG_EN = 1 then ((s.set F.TAB_STATUS_REF_OK 0).post F.TAB_EVENT_EVENTS 3).tabDown else s)

end Sys2Proof.Machine
end

