-- ==== Sys2Proof/Machine/Buffer.lean ====
section
/-! DEFINITION. The shared buffer (R132 to R140), the capture of frames for Snare (R148 to R154), the end of discarded
frames and the states of queues (R155 to R157). -/

namespace Sys2Proof.Machine
open Sys2Proof

/-! ### Cells and parts (R132, R137) -/

/-- The cells that a frame of a length occupies (R132). -/
def cellsOf (len : Nat) : Nat := ceilDiv len 256

/-- The bank of word `w` of cell `c` (R132). -/
def cellBank (c w : Nat) : Nat := 8 * (c % 8) + w

/-- The 32-byte words that a frame of a length occupies in its cells, each as a cell and a word (R132). -/
def wordsOf (len : Nat) (cells : List Nat) : List (Nat × Nat) :=
  (cells.flatMap (fun c => (List.range 8).map (fun w => (c, w)))).take (ceilDiv len 32)

/-- The uses of a bank in a datapath cycle, in the order in which a bank serves them (R133). The model has no cycle in which two
meet (assumption 103): the order is the manual's, and it moves no frame. -/
inductive BankUse where
  | ingressWrite | dispatch67 | otherRead | puntOrSnare
deriving DecidableEq, Repr

/-- The use that a bank serves of those that contend for it: the first in R133's order. -/
def bankServes (l : List BankUse) : Option BankUse :=
  ([.ingressWrite, .dispatch67, .otherRead, .puntOrSnare] : List BankUse).find? (fun u => decide (u ∈ l))

/-- The cells a frame holds. -/
def Frame.cells (f : Frame) : Nat := f.cellsMin + f.cellsShared + f.cellsProg + f.cellsHead

/-- The frames that hold cells: those queued, and those dispatched and not yet committed whole (R135). -/
def State.held' (s : State) : List Frame :=
  s.queuedFrames ++ (s.pool.slots.filter (fun t => !t.dropped)).map (fun t => t.frame)

def State.queue (s : State) (q : Nat) : List Frame := Tab.get s.buf.queues [] q

def State.setBuf (s : State) (b : Buffer) : State := { s with buf := b }

/-- The frames of a queue replaced; a queue that becomes empty loses its credit (R260). -/
def State.setQueue (s : State) (q : Nat) (l : List Frame) : State :=
  { s with
    buf := { s.buf with queues := NTab.set s.buf.queues [] q l }
    sch := if l.isEmpty then { s.sch with credit := NTab.set s.sch.credit 0 q 0 } else s.sch }

/-- The frames that meet a condition leave every queue. -/
def State.queuesWithout (s : State) (bad : Frame → Bool) : State :=
  s.buf.queues.foldl (fun s p => if p.2.any bad then s.setQueue p.1 (p.2.filter (fun f => !bad f)) else s) s

/-- The class of a queue (R136); the Snare queues have none. -/
def queueClass (q : Nat) : Nat := q % 8

/-- The egress channel of a queue; 255 for the internal queues. -/
def queueChannel (q : Nat) : Nat := if q < 1536 then q / 8 else 255

/-- MIN_CELLS of a queue under an image (R137). -/
def minCells (g : Image) (q : Nat) : Nat :=
  ((imgQueues g).queueMin.find? (fun p => p.1 = q)).elim (imgQueues g).minCells Prod.snd

/-- HEADROOM_CELLS of a channel under an image. -/
def headroomCells (g : Image) (ch : Nat) : Nat := ((imgQueues g).headroom.find? (fun p => p.1 = ch)).elim 0 Prod.snd

/-- The queues that an order code holds, of its channels and internal ones: 1,568 on the GD1640 (R136). -/
def variantQueues : Variant → Nat
  | .gd1640 => 1568
  | .gd1620 => 288
  | .gd1610 => 152

/-- The shared pool that an image leaves (R137). Every queue of the order code keeps its reserve, whether or not its
channel is bound, as the example after R138 counts. -/
def sharedPool (v : Variant) (g : Image) : Int :=
  let q := imgQueues g
  393216 - 12288 - (variantQueues v * q.minCells : Int) -
    ((q.queueMin.map (fun p => (p.2 : Int) - q.minCells)).sum) - ((q.headroom.map Prod.snd).sum : Int)

/-- MIN_CELLS in force. -/
def State.minCells (s : State) (q : Nat) : Nat :=
  match s.pel.active with
  | some g => if queuePresent s.fus.variant g q then Sys2Proof.Machine.minCells g q else 0
  | none => 0

/-- The size of the shared pool in force. -/
def State.sharedCells (s : State) : Nat :=
  match s.pel.active with
  | some g => (sharedPool s.fus.variant g).toNat
  | none => 0

def State.snare (s : State) (sid : Nat) : Snare := Tab.get s.buf.snare {} sid

def State.setSnare (s : State) (sid : Nat) (n : Snare) : State :=
  s.setBuf { s.buf with snare := NTab.set s.buf.snare {} sid n }

/-- The capture copies in a queue; each counts one cell against its Snare queue. -/
def State.copies (s : State) (q : Nat) : Nat := if 1560 ≤ q then (s.snare (q - 1560)).queue.length else 0

/-! ### Cell numbers (R132, R133, R135) -/

/-- The cells of the frames that the buffer holds. A copy on the Twin link refers to those of its frame (R319). -/
def State.frameCells (s : State) : List Nat := s.held'.flatMap (fun f => f.cellNos)

/-- The sessions' copies, each with its session. -/
def State.allCopies (s : State) : List (Nat × SnareCopy) :=
  (List.range 8).flatMap (fun i => (s.snare i).queue.map (fun c => (i, c)))

/-- The cells in use. A head cell that a copy refers to is in use until both uses have ended (R135). -/
def State.cellsUsed (s : State) : List Nat := (s.frameCells ++ s.allCopies.map (fun p => p.2.cell)).eraseDups

/-- The copies of a session that hold a cell of their own: no frame holds it any more, and no lower session refers to it. -/
def State.ownCopies (s : State) (sid : Nat) : Nat :=
  ((s.snare sid).queue.filter (fun c => decide (c.cell ∉ s.frameCells) &&
    s.allCopies.all (fun p => decide (sid ≤ p.1) || decide (p.2.cell ≠ c.cell)))).length

/-- The lowest free cell of free list `k`, the cells c with c mod 8 = k; DESIGN CHOICE (assumption 104): a list gives its lowest
cell first. -/
def lowestFree (used : List Nat) (k : Nat) : Option Nat :=
  ((List.range (used.length + 1)).map (8 * · + k)).find? (fun c => decide (c < 393216) && decide (c ∉ used))

/-- The next cell of a writer whose turn is at list `k`: the first list in rotation that has one. -/
def nextCell (used : List Nat) (k : Nat) : Option Nat := (List.range 8).findSome? (fun j => lowestFree used ((k + j) % 8))

/-- `n` cells taken in rotation from list `k` on. -/
def takeNos : Nat → List Nat → Nat → List Nat
  | 0, _, _ => []
  | n + 1, used, k =>
    match nextCell used k with
    | some c => c :: takeNos n (c :: used) (c % 8 + 1)
    | none => []

/-- The writer of a core input takes the cells of one frame or copy; its rotation moves on (R133). -/
def State.writeCells (s : State) (port n : Nat) : List Nat × State :=
  let l := takeNos n s.cellsUsed (Tab.get s.buf.writer 0 port)
  (l, match l.getLast? with
    | some c => s.setBuf { s.buf with writer := NTab.set s.buf.writer 0 port ((c + 1) % 8) }
    | none => s)

/-- The cells of copies that count against a queue's parts. -/
def State.ownIn (s : State) (q : Nat) : Nat := if 1560 ≤ q then s.ownCopies (q - 1560) else 0

/-- Cells in a queue: those of its frames until they are released, and one for each copy. -/
def State.qCells (s : State) (q : Nat) : Nat :=
  ((s.held'.filter (fun f => f.queue = q)).map Frame.cells).sum + s.copies q

/-- Shared cells of a queue. -/
def State.qShared (s : State) (q : Nat) : Nat :=
  ((s.held'.filter (fun f => f.queue = q)).map (fun f => f.cellsShared)).sum + (s.ownIn q - s.minCells q)

/-- Reserved cells of a queue in use. -/
def State.qReserved (s : State) (q : Nat) : Nat :=
  ((s.held'.filter (fun f => f.queue = q)).map (fun f => f.cellsMin)).sum + min (s.ownIn q) (s.minCells q)

/-- Free cells of the shared pool. -/
def State.sharedFree (s : State) : Nat :=
  s.sharedCells - ((s.held'.map (fun f => f.cellsShared)).sum +
    ((List.range 8).map (fun i => s.ownCopies i - s.minCells (1560 + i))).sum)

/-- FREE_CELLS: free cells in all parts (R158). -/
def State.freeCells (s : State) : Nat := 393216 - s.cellsUsed.length

/-- INGRESS_CELLS of a channel (R139). -/
def State.ingressCells (s : State) (ch : Nat) : Nat :=
  ((s.held'.filter (fun f => f.inCh = ch)).map Frame.cells).sum

/-- Headroom cells of a channel not in use. -/
def State.headFree (s : State) (ch : Nat) : Nat :=
  match s.pel.active with
  | some g => headroomCells g ch - ((s.held'.filter (fun f => f.inCh = ch)).map (fun f => f.cellsHead)).sum
  | none => 0

/-- The image that a bank tag names: the Active bank's, or the released bank's while it drains (R28). -/
def State.image (s : State) (tag : Bool) : Option Image :=
  if bit tag = s.get F.PEL_STATUS_BANK then s.pel.active else if s.pel.old.isSome then s.pel.old else s.pel.active

/-! ### PAUSE (R139) -/

/-- PAUSE frames as INGRESS_CELLS of a channel crosses its thresholds. -/
def State.pauseSync (s : State) (ch : Nat) : State :=
  if 64 ≤ ch then s
  else
    let n := s.ingressCells ch
    if s.get (F.SWC_CH_STATUS_XOFF_SENT ch) = 0 then
      if s.get (F.SWC_CH_CFG_PAUSE_TX_EN ch) = 1 ∧ s.get (F.SWC_CH_PAUSE_XOFF_CELLS ch) < n then
        (s.set (F.SWC_CH_STATUS_XOFF_SENT ch) 1).emit (.pause ch 0xFFFF)
      else s
    else if n ≤ s.get (F.SWC_CH_PAUSE_XON_CELLS ch) then
      let s := s.set (F.SWC_CH_STATUS_XOFF_SENT ch) 0
      if s.get (F.SWC_CH_CFG_PAUSE_TX_EN ch) = 1 then s.emit (.pause ch 0) else s
    else s

/-- The PAUSE frame repeated while the count stays above XON_CELLS. -/
def execPauseRepeat (ch : Nat) (s : State) : Host.Outcome State Fault Refusal :=
  .next (if s.get (F.SWC_CH_STATUS_XOFF_SENT ch) = 1 ∧ s.get (F.SWC_CH_CFG_PAUSE_TX_EN ch) = 1 then s.emit (.pause ch 0xFFFF)
    else s)

/-- A received PAUSE: a pause time of 0 ends a pause (IEEE 802.3). -/
def execPauseReceived (ch quanta : Nat) (s : State) : Host.Outcome State Fault Refusal :=
  .next (if s.bound ch ∧ ch < 64 ∧ s.get (F.SWC_CH_CFG_PAUSE_RX_EN ch) = 1 then
      let rest := s.buf.paused.filter (· ≠ ch)
      s.setBuf { s.buf with paused := if quanta = 0 then rest else rest ++ [ch] }
    else s)

/-- The received pause time ends. -/
def execPauseExpiry (ch : Nat) (s : State) : Host.Outcome State Fault Refusal :=
  .next (s.setBuf { s.buf with paused := s.buf.paused.filter (· ≠ ch) })

/-! ### Admission (R138) -/

/-- The outcome of admission: the frame with its cells, or a drop code of R153. -/
inductive Admission where
  | taken (f : Frame)
  | refused (code : Nat)
deriving DecidableEq, Repr

/-- The state of a queue (R158): 0 not present, 1 NORMAL, 2 HELD, 3 DOWN. -/
def State.qState (s : State) (q : Nat) : Nat := s.get (F.SWC_Q_STATUS_STATE q)

/-- The cells of an admitted frame: from the queue's reserve while it lasts, then the shared pool, then the in-progress
reserve; before them, for a frame that R139 admits, from its channel's headroom while it lasts. -/
def State.takeCells (s : State) (f : Frame) (head : Bool) : Frame :=
  let n := cellsOf f.len
  let h := if head then min n (s.headFree f.inCh) else 0
  let m := min (n - h) (s.minCells f.queue - s.qReserved f.queue)
  let sh := min (n - h - m) s.sharedFree
  { f with cellsHead := h, cellsMin := m, cellsShared := sh, cellsProg := n - h - m - sh }

/-- Tests 2 and 3 of R138 on a queue. -/
def State.withinMax (s : State) (q : Nat) : Bool :=
  let m := s.get (F.SWC_Q_CFG_MAX_UNITS q)
  m = 0 || decide (s.qCells q < 8 * m)

def State.belowMin (s : State) (q : Nat) : Bool := decide (s.qCells q < s.minCells q)

def State.belowAlpha (s : State) (q : Nat) : Bool :=
  decide (s.qShared q * 64 < 2 ^ s.get (F.SWC_Q_CFG_ALPHA q) * s.sharedFree)

/-- Admission of a frame to its queue (R138, R139). A queue that a Strike removed gives STRIKE_DISCARD (R155). -/
def State.admitFrame (s : State) (f : Frame) : Admission :=
  let q := f.queue
  let head := decide (f.inCh < 64) && s.get (F.SWC_CH_STATUS_XOFF_SENT f.inCh) = 1 && decide (0 < s.headFree f.inCh)
  if s.qState q = 0 then .refused 10
  else if s.qState q = 3 then .refused 9
  else if !s.withinMax q then .refused 7
  else if s.belowMin q then
    if s.qReserved q < s.minCells q then .taken (s.takeCells f false)
    else if head then .taken (s.takeCells f true) else .refused 8
  else if s.belowAlpha q then
    if 0 < s.sharedFree then .taken (s.takeCells f false)
    else if head then .taken (s.takeCells f true) else .refused 8
  else if head then .taken (s.takeCells f true) else .refused 7

/-- A Snare queue takes one more copy. -/
def State.admitCopy (s : State) (q : Nat) : Bool :=
  decide (s.qState q = 1 ∨ s.qState q = 2) && s.withinMax q &&
    (s.belowMin q || (s.belowAlpha q && decide (0 < s.sharedFree)))

/-! ### Snare capture (R148 to R150) -/

/-- The bytes that a session captures of a frame (R149). -/
def State.captureBytes (s : State) (sid : Nat) (f : Frame) : Bytes :=
  let full := match s.image f.tag with
    | some g => (imgQueues g).snareClearFull
    | none => false
  let n := 64 * 2 ^ s.get (F.SWC_SNR_CTL_CAP_LEN sid)
  (f.head.getD ((f.bytes ++ fcsBytes f.bytes).take f.len)).take (if lineSide f.inCh || full then n else min n 64)

/-- A session selects a frame by channel, class and point. -/
def State.snareSelects (s : State) (sid : Nat) (f : Frame) (dropped : Bool) : Bool :=
  let p := s.get (F.SWC_SNR_SEL_POINT sid)
  let c := s.get (F.SWC_SNR_SEL_IN_CH sid)
  (s.get (F.SWC_SNR_SEL_CLASS_MASK sid)).testBit f.cls && (c = 255 || c = f.inCh) &&
    (p = 2 || p = bit dropped) && decide (sid ∉ f.snared)

/-- The cell of a copy: the frame's head cell, to which it adds a reference, or one that it takes for what it captured of the parse
window (R135, R149). -/
def State.copyCell (s : State) (f : Frame) : Nat × State :=
  match f.cellNos with
  | c :: _ => (c, s)
  | [] =>
    let (l, s) := s.writeCells f.inPort 1
    (l.head?.getD 0x7FFFF, s)

/-- One session's look at a frame: the draw of its LFSR, whose next value is free (R148 gives no polynomial), and a
copy into its queue, or a record lost (R150). DESIGN CHOICE (assumption 101): a session with POINT 2 draws for each of a frame's
two points until it has captured it. -/
def State.snareOne (s : State) (sid : Nat) (p : Frame × Option Nat) : State × Frame :=
  let (f, code) := p
  if s.snareSelects sid f code.isSome then
    let n := s.snare sid
    let chosen := n.lfsr % 2 ^ s.get (F.SWC_SNR_CTL_SAMPLE_N sid) = 0
    let s := (s.setSnare sid { n with lfsr := s.draw 32 }).drew
    if chosen then
      let f := { f with snared := f.snared ++ [sid] }
      if s.admitCopy (1560 + sid) then
        let (cell, s) := s.copyCell f
        let copy : SnareCopy :=
          { session := sid, cell := cell, inPort := f.inPort, dropped := code.isSome, tag := f.tag, tIn := f.tIn, inCh := f.inCh,
            outCh := f.outCh, cls := f.cls, action := f.action, len := f.rxLen.getD f.len, sc := f.sc.getD 0xFFFF,
            code := code.getD 0, data := s.captureBytes sid f }
        let n := s.snare sid
        (s.setSnare sid { n with queue := n.queue ++ [copy] }, f)
      else (s.snareLost sid, f)
    else (s, f)
  else (s, f)

/-- Every session looks at a frame that is accepted (no code) or dropped. -/
def State.snareAll (s : State) (f : Frame) (code : Option Nat) : State × Frame :=
  (List.range 8).foldl (fun (r : State × Frame) sid => r.1.snareOne sid (r.2, code)) (s, f)

/-! ### Discards -/

/-- The end of a discarded frame: the programmable counters, Snare, the sampler, and the completion of a frame that
the host sent. `ch` is the channel that counts it, `code` its drop code; `reason` stands in its completion. -/
def State.discarded (s : State) (f : Frame) (ch code reason : Nat) : State :=
  let s := s.dropEvent ch f.cls code
  let (s, f) := s.snareAll f (some code)
  (s.sampleEnd f.id code).fate f.host .aborted reason 0

/-- The end of a frame discarded for its launch time or its length at a gate: no drop code, and Snare does not capture
it (R281); its completion carries the reason of R335, and so does the sampler's record. -/
def State.quietDrop (s : State) (f : Frame) (reason : Nat) : State :=
  (s.sampleEnd f.id reason).fate f.host .aborted reason 0

/-- A drop with a code on a queue: its frame and octet counters, and the end of the frame. -/
def State.queueDrop (s : State) (f : Frame) (c : QCnt) (code : Nat) : State :=
  (s.qDrop f.queue c f.len).discarded f (queueChannel f.queue) code code

/-- The counter of an admission failure. -/
def admitCounter (code : Nat) : QCnt :=
  if code = 10 then .strikeFrames else if code = 9 then .flapFrames else if code = 8 then .poolFrames else .admitFrames

/-- A frame counts into its queue; a channel's ingress cells may now send PAUSE. -/
def State.enqueue (s : State) (f : Frame) : State :=
  let (s, f) := s.snareAll f none
  let s := s.setQueue f.queue (s.queue f.queue ++ [{ f with queuedAt := s.nowQns }])
  ((s.qCount f.queue .enqFrames).qCount f.queue .enqOctets f.len).pauseSync f.inCh

/-- A frame offered to its queue (R138). -/
def State.offer (s : State) (f : Frame) : State :=
  match s.admitFrame f with
  | .taken f =>
    let (l, s) := s.writeCells f.inPort f.cells
    (s.sampleNote f.id (fun r => { r with cell := l.head?.getD 0x7FFFF })).enqueue { f with cellNos := l }
  | .refused c => s.queueDrop f (admitCounter c) c

/-- The frames of a queue that meet a test are discarded under a code; what was selected of the queue is withdrawn
with them. -/
def State.flush (s : State) (q : Nat) (p : Frame → Bool) (c : QCnt) (code : Nat) : State :=
  let out := (s.queue q).filter p
  let s := s.setQueue q ((s.queue q).filter (fun f => !p f))
  let headGone := out.any (fun f => f.td ≠ 0)
  let s := if headGone then s.setBuf { s.buf with
      ready := s.buf.ready.filter (· ≠ q)
      sending := s.buf.sending.filter (fun e => e.2.elim true (fun x => decide (x.queue ≠ q))) } else s
  out.foldl (fun s f => (s.queueDrop f c code).pauseSync f.inCh) s

/-- A hold timer expires: every queued frame is discarded and the queue is DOWN (R155). -/
def execHoldTimerExpiry (q : Nat) (s : State) : Host.Outcome State Fault Refusal :=
  .next (if s.qState q = 2 then State.set (s.flush q (fun _ => true) .flapFrames 9) (F.SWC_Q_STATUS_STATE q) 3 else s)

/-- What LINK_DOWN does to the queues of a channel (R155). -/
def State.queuesDown (s : State) (ch : Nat) : State :=
  (List.range 8).foldl (fun s k =>
    let q := 8 * ch + k
    if s.qState q = 1 then
      if 0 < s.get (F.SWC_HOLD_HOLD_US k) then s.set (F.SWC_Q_STATUS_STATE q) 2
      else State.set (s.flush q (fun _ => true) .flapFrames 9) (F.SWC_Q_STATUS_STATE q) 3
    else s) s

/-- What LINK_UP does to the queues of a channel (R155). -/
def State.queuesUp (s : State) (ch : Nat) : State :=
  (List.range 8).foldl (fun s k =>
    if s.qState (8 * ch + k) = 2 ∨ s.qState (8 * ch + k) = 3 then s.set (F.SWC_Q_STATUS_STATE (8 * ch + k)) 1 else s) s

/-! ### The Snare output (R151 to R154) -/

/-- The bytes of a CAPTURE record (R152). DESIGN CHOICE (assumption 102): the ACTION of a frame dropped before it was resolved is
CLEAR, the value with which a frame begins. -/
def SnareCopy.record (c : SnareCopy) (sampled : Bool) (seq : Nat) : Bytes :=
  let pad := List.replicate (8 * ceilDiv c.data.length 8 - c.data.length) 0
  let t := stampOf c.tIn
  leBytes 2 (24 + 8 * ceilDiv c.data.length 8) ++ leBytes 1 1 ++
  leBytes 1 (c.session + 8 * bit sampled + 16 * bit c.dropped + 32 * bit (decide (c.data.length < c.len)) + 64 * bit c.tag) ++
  leBytes 4 t.ns ++ leBytes 1 t.qns ++ leBytes 1 c.inCh ++ leBytes 1 c.outCh ++
  leBytes 1 (c.cls + 8 * (match c.action with
    | .protect => 0
    | .clear => 1
    | .punt => 2
    | .drop => 3)) ++
  leBytes 2 c.len ++ leBytes 2 c.data.length ++ leBytes 2 c.sc ++ leBytes 1 c.code ++ leBytes 1 0 ++ leBytes 4 seq ++
  c.data ++ pad

/-- The bytes of a LOSS record (R152); the bank tag is that of the record it precedes (DEDUCED, assumption 102). -/
def lossRecord (sid lost : Nat) (sampled tag : Bool) : Bytes :=
  leBytes 2 24 ++ leBytes 1 2 ++ leBytes 1 (sid + 8 * bit sampled + 64 * bit tag) ++ leBytes 4 lost ++ List.replicate 16 0

/-- The ring: size, base, and the free space, which never lets PROD reach CONS from behind (R154). -/
def State.snrSize (s : State) : Nat := 2 ^ s.get F.SWC_SNR_SIZE_LOG2

def State.snrBase (s : State) : Nat := s.get F.SWC_SNR_BASE_LO_ADDR + s.get F.SWC_SNR_BASE_HI_ADDR * 2 ^ 32

def State.snrFree (s : State) : Nat :=
  (s.get F.SWC_SNR_CONS_CONS + s.snrSize - s.get F.SWC_SNR_PROD_PROD - 1) % s.snrSize

/-- The space a record needs in the ring, with the PAD record before it. -/
def State.snrNeeds (s : State) (len : Nat) : Nat :=
  let toEnd := s.snrSize - s.get F.SWC_SNR_PROD_PROD
  if len ≤ toEnd then len else toEnd + len

/-- PROD moves on. -/
def State.snrAdvance (s : State) (len : Nat) : State :=
  s.set F.SWC_SNR_PROD_PROD ((s.get F.SWC_SNR_PROD_PROD + len) % s.snrSize)

/-- Byte 3 of a PAD record: the session, SAMPLED and bank tag of the record that follows it (DEDUCED, assumption 102). -/
def padFlags (r : Bytes) : Nat := ((r[3]?).getD 0).toNat &&& 0x4F

/-- A record written to the host ring, after a PAD record where it does not fit before the ring end; PROD is written
back (R154). -/
def State.snrWrite (s : State) (r : Bytes) : State :=
  let toEnd := s.snrSize - s.get F.SWC_SNR_PROD_PROD
  let s := if r.length ≤ toEnd then s
    else (s.emit (.dma (s.snrBase + s.get F.SWC_SNR_PROD_PROD)
      (leBytes 2 toEnd ++ leBytes 1 0 ++ leBytes 1 (padFlags r) ++ List.replicate (toEnd - 4) 0))).snrAdvance toEnd
  let s := (s.emit (.dma (s.snrBase + s.get F.SWC_SNR_PROD_PROD) r)).snrAdvance r.length
  s.emit (.dma (s.get F.SWC_SNR_WB_LO_ADDR + s.get F.SWC_SNR_WB_HI_ADDR * 2 ^ 32) (leBytes 8 (s.get F.SWC_SNR_PROD_PROD)))

/-- A record to the destinations of its session; a full ring or Tabor FIFO loses it there (R151, R154, R347). One bound for the
Tabor port passes core input 17 (R141), which nothing of the device shows. -/
def State.snrDeliver (s : State) (sid : Nat) (tIn : Option Nat) (r : Bytes) : State :=
  let d := s.get (F.SWC_SNR_CTL_DEST sid)
  let s := if d.testBit 0 then (if s.snrNeeds r.length ≤ s.snrFree then s.snrWrite r else s.snareLost sid) else s
  let s := if d.testBit 1 then
      (if s.tabRoom (ceilDiv r.length 8) then s.setFifo (s.tab.fifo ++ [⟨sid, tIn, r⟩]) else s.snareLost sid) else s
  if d.testBit 2 ∧ hasTwin s.fus.variant then s.jnlOffer (newRec .snare r) else s

/-- The sessions with copies that wait, the highest first. -/
def State.snareNext (s : State) : Option Nat :=
  ([7, 6, 5, 4, 3, 2, 1, 0] : List Nat).find? (fun i => !(s.snare i).queue.isEmpty)

/-- SNARE_RECORD_WRITE: the Snare output takes one copy. The session's LOSS record goes first where records were
lost and the ring has room for it. -/
def State.snareRecordWrite (s : State) : State :=
  match s.snareNext with
  | none => s
  | some sid =>
    match (s.snare sid).queue with
    | [] => s
    | c :: rest =>
      let s := s.setSnare sid { s.snare sid with queue := rest }
      let s := s.setBuf { s.buf with ready := s.buf.ready.filter (· ≠ 1560 + sid) }
      let sampled := decide (s.get (F.SWC_SNR_CTL_SAMPLE_N sid) ≠ 0)
      let n := s.snare sid
      let room := !(s.get (F.SWC_SNR_CTL_DEST sid)).testBit 0 || decide (s.snrNeeds 24 ≤ s.snrFree)
      let s := if n.lost ≠ 0 ∧ room then
          (s.setSnare sid { n with lost := 0 }).snrDeliver sid none (lossRecord sid n.lost sampled c.tag)
        else s
      let n := s.snare sid
      let s := s.setSnare sid { n with seq := (n.seq + 1) % 2 ^ 32 }
      s.snrDeliver sid (some c.tIn) (c.record sampled n.seq)

def execSnareRecordWrite (s : State) : Host.Outcome State Fault Refusal := .next s.snareRecordWrite

/-- A write of SWC_SNR_SIZE (R158). -/
def execSnareRingResize (who log2 : Nat) (s : State) : Host.Outcome State Fault Refusal :=
  .next (if 16 ≤ log2 ∧ log2 ≤ 30 ∧ !isVf who then
      s.sets [(F.SWC_SNR_SIZE_LOG2, log2), (F.SWC_SNR_PROD_PROD, 0), (F.SWC_SNR_CONS_CONS, 0)]
    else s.ignored who F.SWC_STATUS_WRITE_IGNORED)

end Sys2Proof.Machine
end

