-- ==== Sys2Proof/Machine/TwinBase.lean ====
section
/-! DEFINITION. What the datapath asks of the twin unit: exclusion modes, bulk and its permission (R312, R313, R316,
R319, R321). -/

namespace Sys2Proof.Machine
open Sys2Proof

def State.setTwn (s : State) (t : TwinUnit) : State := { s with twn := t }

/-- This twin is SYNCED. -/
def State.synced (s : State) : Bool := s.get F.TWN_STATUS_SYNCED = 1

/-- The twin is in LEASE mode (R312); a unit in INIT reports LEASE, the reset value of MODE. -/
def State.leaseMode (s : State) : Bool :=
  s.twinIn .init || ((s.twinIn .seeking || s.twinIn .joining || s.twinIn .standby) && !s.synced) ||
    ((s.twinIn .active || s.twinIn .handing) && !s.peerStandby) ||
    s.get F.TWN_STATUS_TEST = 1 || s.get F.TWN_STATUS_CLAPPER_FAULT = 1

/-- This twin holds the lease. -/
def State.holder (s : State) : Bool := s.get F.TWN_LEASE_HOLDER = 1

/-- Its lease has not expired (R321). -/
def State.leaseValid (s : State) : Bool := s.holder && decide (s.nowNs < s.twn.leaseEnd)

/-- A frame of a twin channel: its ingress or its egress channel is one. -/
def State.twinFrame (s : State) (f : Frame) : Bool := s.twinChannel f.inCh || s.twinChannel f.outCh

/-- The stream of a frame: class 7, classified to the transmit SC of a dual stream (R318). -/
def State.frameStream (s : State) (f : Frame) : Option TwinStream :=
  if f.cls = 7 then f.sc.bind s.streamOfSc else none

/-- A frame is bulk. -/
def State.bulk (s : State) (f : Frame) : Bool := s.twinFrame f && (s.frameStream f).isNone

/-- A RESERVE waits for its acknowledgement. -/
def State.reservesOpen (s : State) : Bool := s.twn.unacked.any (fun u => twinType u.msg = 4)

/-- A HANDING twin has stopped bulk: every RESERVE is acknowledged (R325). -/
def State.handStopped (s : State) : Bool := s.twinIn .handing && !s.reservesOpen

/-- Bulk may be dispatched (R313): in CLAPPER mode the output has been DRIVE for 100 ns and the input has not been
DRIVE in that time, with the permission of R324; in LEASE mode the lease is valid. -/
def State.bulkPermitted (s : State) : Bool :=
  (s.twinIn .active || (s.twinIn .handing && !s.handStopped)) &&
    s.twn.permit && (if s.leaseMode then s.leaseValid
     else decide (s.twn.driveSince + 100 ≤ s.nowNs) && !s.clapIn .drive &&
      (match s.twn.inDrive with
       | some t => decide (t + 100 ≤ s.nowNs)
       | none => true))

/-- Admission refuses a frame as STANDBY_DISCARD (R316, R319, R325): on a STANDBY every frame of a twin channel that
is no copy received from the peer; on a HANDING twin that has stopped, bulk. -/
def State.standbyRefuses (s : State) (f : Frame) : Bool :=
  s.twin?.isSome && ((s.twinIn .standby && s.twinFrame f && f.dual.isNone) || (s.handStopped && s.bulk f))

/-- A discard whose reason has no drop code in the manual: the code is a free value. -/
def State.discardUncoded (s : State) (f : Frame) (ch : Nat) : State :=
  let c := s.draw 8
  s.drew.discarded f ch c c

/-- NOW32 of R276. -/
def State.now32 (s : State) : Nat := s.nowNs % 2 ^ 32

/-- The signed difference d = LT - NOW32 of R276. -/
def State.launchDiff (s : State) (lt : Nat) : Int := signed 32 (lt + 2 ^ 32 - s.now32)

/-- A launch time is too far ahead (R277). -/
def State.launchFar (s : State) (lt : Nat) : Bool := decide (2000000000 < s.launchDiff lt)

/-- Stage 5: STANDBY_DISCARD, the check of the launch time (R277), and admission. -/
def State.stage5 (s : State) (f : Frame) : State :=
  let ch := if s.twinChannel f.outCh then f.outCh else f.inCh
  if s.standbyRefuses f then (s.chCount ch .standbyDiscard).discardUncoded f ch
  else if f.launch.any s.launchFar then
    (State.sampleEnd ((s.qCount f.queue .launchReject).post F.SCH_EVENT_EVENTS 0) f.id 0x40).fate f.host .badArgument 0x40 0
  else s.offer f

end Sys2Proof.Machine
end

