-- ==== Sys2Proof/Machine/Classify.lean ====
section
/-! DEFINITION. Stages 1 to 5 of a received frame (R31): the MAC's size and error checks (R66 to R68, R73), the Stroke
program and its lookups (R101 to R117), the secure channel of a received frame (R166, R213, R217, R223) and the
resolution (R106 to R110). -/

namespace Sys2Proof.Machine
open Sys2Proof

/-! ### Resolution (R106 to R108) -/

/-- What stages 3 and 4 make of a frame: a drop with its code and its counter (an SC's in addition to a channel's),
or its action, channel, SC and SA. -/
inductive Resolution where
  | drop (code : Nat) (cnt : Option ChCnt) (sc : Option (Nat × ScCnt))
  | go (action : Action) (ch : Nat) (sc sa : Option Nat) (tag : Option SecTag)
deriving DecidableEq, Repr

/-- A drop counted on the ingress channel. -/
def Resolution.chDrop (code : Nat) (c : ChCnt) : Resolution := .drop code (some c) none

/-- A drop counted on an SC. -/
def Resolution.scDrop (code k : Nat) (c : ScCnt) : Resolution := .drop code none (some (k, c))

/-- A result names a channel of the ingress side, or one that is not present (R108). -/
def hairpin (g : Image) (inCh ch : Nat) : Bool := lineSide inCh = lineSide ch || !imgBinds g ch

/-- The default SC of a channel (CLS_CH_SC). -/
def State.defaultSc (s : State) (ch : Nat) : Option Nat :=
  if s.get (F.CLS_CH_SC_SC_VALID ch) = 1 then some (s.get (F.CLS_CH_SC_DEFAULT_SC ch)) else none

/-- A line channel accepts CLEAR (R107); the line channel of the frame's path decides. -/
def State.clearOk (s : State) (inCh ch : Nat) : Bool :=
  s.get (F.CLS_CH_CFG_CLEAR_OK (if lineSide ch then ch else inCh)) = 1

/-- The transmit SC of a frame bound for a line channel: it is created for transmit and bound to the channel. -/
def State.txScOk (s : State) (k ch : Nat) : Bool :=
  let c := s.sc k
  c.created && !c.rx && c.channel = ch

/-- A result with an action, a channel and an SC (R107, R108). An SC that is no transmit SC of the channel is no SC. -/
def State.resolveTo (s : State) (g : Image) (inCh : Nat) (action : Action) (ch : Nat) (sc : Option Nat) : Resolution :=
  if hairpin g inCh ch then .chDrop 2 .hairpinDrop
  else match action with
    | .clear => if s.clearOk inCh ch then .go .clear ch none none none else .chDrop 4 .clearDenied
    | _ =>
      if lineSide inCh then .chDrop 6 .noSc
      else match sc with
        | none => .chDrop 6 .noSc
        | some k =>
          if !s.txScOk k ch then .chDrop 6 .noSc
          else if !(s.sc k).enable then .scDrop 0x32 k .scDisabled
          else .go .protect ch (some k) none none

/-- A frame queued to the host punt port (R107). -/
def Resolution.punt : Resolution := .go .punt 255 none none none

/-- The miss rule of END (R106). -/
def State.onMiss (s : State) (g : Image) (inCh miss : Nat) : Resolution :=
  match miss with
  | 0 =>
    let d := s.get (F.CLS_CH_CFG_DEFAULT_CHANNEL inCh)
    if d = 255 then .chDrop 1 .noRoute else s.resolveTo g inCh .protect d (s.defaultSc d)
  | 1 => .chDrop 1 .noRoute
  | _ => .punt

/-- The SC that a table result names: its own, or the default of its channel. -/
def State.resultSc (s : State) (ch sc : Nat) (dflt : Bool) : Option Nat := if dflt then s.defaultSc ch else some sc

/-! ### The secure channel of a received frame (R166, R213, R217) -/

/-- A SecTAG that passes the checks of R166: its fields, E and the key of the lookup. -/
structure TagRead where
  tag : SecTag
  conf : Bool
  sci : Nat
deriving DecidableEq, Repr

/-- SEQ_CH_ISCI of a channel. -/
def State.implicitSci (s : State) (ch : Nat) : Nat :=
  s.get (F.SEQ_CH_ISCI_HI_SCI ch) * 2 ^ 32 + s.get (F.SEQ_CH_ISCI_LO_SCI ch)

/-- The SCI of a SecTAG around a key at `off` (R166): the bytes there where SC is 1; else the source address and port 1 where ES
is 1, and the channel's implicit SCI where it is not. -/
def State.tagSci (s : State) (ch : Nat) (fr : Bytes) (off : Nat) : Nat :=
  let tci := beAt fr (off - 6) 1
  if tci.testBit 5 then beAt fr off 8 else if tci.testBit 6 then beAt fr 6 6 * 2 ^ 16 + 1 else s.implicitSci ch

/-- The lookup unit's reading of the SecTAG around an SCI key at `off` (R166); none where a check fails. -/
def State.readTag (s : State) (ch : Nat) (fr : Bytes) (off an : Nat) : Option TagRead :=
  let tci := beAt fr (off - 6) 1
  let es := tci.testBit 6
  let sc := tci.testBit 5
  let scb := tci.testBit 4
  let pn := beAt fr (off - 4) 4
  if off < 8 ∨ tci.testBit 7 ∨ (es ∧ sc) ∨ (sc ∧ scb) ∨ tci.testBit 3 ≠ tci.testBit 2 ∨ pn = 0 then none
  else some
    { tag := { off := off - 8, sci := sc, an := an, pn := pn }
      conf := tci.testBit 3
      sci := s.tagSci ch fr off }

/-- A fetch of a cold SA can be requested: it is pending already, or fewer than 1,024 are (R223). -/
def State.fetchable (s : State) (a : Nat) : Bool := decide (a ∈ s.sam.fetch) || decide (s.sam.fetch.length < 1024)

/-- A SecTAG that drops its frame with BAD_SECTAG (R166): a check of the tag fails, or its E differs from the CONFIDENTIALITY of the
SC that its SCI finds. -/
def State.badSecTag (s : State) (inCh : Nat) (fr : Bytes) (l : Option Lookup) : Bool :=
  match l with
  | some ⟨_, some _, an, off⟩ =>
    match s.readTag inCh fr off an with
    | none => true
    | some t => (s.sciSc t.sci).any (fun k => t.conf != (s.sc k).conf)
  | _ => false

/-- END MODE SC (R106): the secure channel that the SCI lookup finds and the egress its entry names. DESIGN CHOICE (assumption
105): where several checks fail, the SecTAG's come first, then SC_CHANNEL, SC_DISABLED, the egress and the SA's. -/
def State.resolveSc (s : State) (g : Image) (inCh : Nat) (fr : Bytes) (l : Option Lookup) : Resolution :=
  match l with
  | some ⟨_, some _, an, off⟩ =>
    match s.readTag inCh fr off an with
    | none =>
      match s.sciSc (s.tagSci inCh fr off) with
      | some k => .scDrop 0x20 k .badTag
      | none => .chDrop 0x20 .badSectag
    | some t =>
      match s.sciSc t.sci with
      | none => .chDrop 0x30 .noSci
      | some k =>
        let c := s.sc k
        if t.conf ≠ c.conf then .scDrop 0x20 k .badTag
        else if c.channel ≠ inCh then .scDrop 0x31 k .scChannel
        else if !c.enable then .scDrop 0x32 k .scDisabled
        else if hairpin g inCh c.egress then .chDrop 2 .hairpinDrop
        else match c.at an with
          | none => .scDrop 0x33 k .rxNoSa
          | some a =>
            match s.saState a with
            | .orphaned => .scDrop 0x36 k .orphanDrop
            | .active => .go .protect c.egress (some k) (some a) (some t.tag)
            | .retiring =>
              if (s.sa a).accepting then .go .protect c.egress (some k) (some a) (some t.tag)
              else .scDrop 0x34 k .rxSaRetired
            | _ => .scDrop 0x33 k .rxNoSa
  | _ => .chDrop 0x30 .noSci

/-- The lookup of a kind that a program queued. -/
def Stroke.found (m : Stroke) (k : LookupKind) : Option Lookup := m.lookups.find? (fun l => l.kind = k)

/-- A lookup in the MAC table (R114). -/
def State.macLookup (s : State) (l : Option Lookup) : Option MacEntry :=
  match l with
  | some ⟨_, some key, bd, _⟩ => (s.macFind bd key).map s.macEntry
  | _ => none

/-- A lookup in the tries: LPM6 where both were issued (R106); a lookup that R105 did not issue gives no result. -/
def State.lpmResult (s : State) (m : Stroke) : Option Prefix :=
  match m.found .lpm6, m.found .lpm4 with
  | some ⟨_, some key, _, _⟩, _ => lpmLookup 128 s.tbl.lpm6.prefixes key
  | _, some ⟨_, some key, _, _⟩ => lpmLookup 32 s.tbl.lpm4.prefixes key
  | _, _ => none

/-- END resolves the frame (R106). A SecTAG that fails R166 drops it in every mode, for the lookup unit checks it when
the lookup is issued. -/
def State.resolve (s : State) (g : Image) (inCh : Nat) (fr : Bytes) (m : Stroke) : Resolution :=
  let sci := m.found .sci
  let badTag := s.badSecTag inCh fr sci
  match m.ended with
  | none => .chDrop 3 .programDrop
  | some e =>
    if badTag ∨ e.mode = 3 then s.resolveSc g inCh fr sci
    else match e.mode with
      | 0 =>
        match m.fixed with
        | some (ch, 0) => s.resolveTo g inCh .protect ch (s.defaultSc ch)
        | some (ch, 1) => s.resolveTo g inCh .clear ch none
        | some (_, 2) => .punt
        | _ => .chDrop 3 .programDrop
      | 1 =>
        match s.macLookup (m.found .macDa) with
        | some e' => s.resolveTo g inCh .protect e'.channel (s.resultSc e'.channel e'.sc e'.scDefault)
        | none => s.onMiss g inCh e.miss
      | _ =>
        match s.lpmResult m with
        | some p => s.resolveTo g inCh .protect p.channel (s.resultSc p.channel p.sc p.scDefault)
        | none => s.onMiss g inCh e.miss

/-! ### The source lookup (R116, R117) -/

/-- What the source lookup of a frame does: HIT, a learn event for later, or a drop under STATIC_GUARD. -/
structure SourceLook where
  state : State
  learn : Option LearnEv := none
  guarded : Bool := false

def State.sourceLookup (s : State) (ch : Nat) (l : Option Lookup) : SourceLook :=
  match l with
  | some ⟨_, some key, bd, _⟩ =>
    let ev : LearnEv := ⟨bd, key, ch⟩
    match s.macFind bd key with
    | none => ⟨s, if s.get (F.CLS_CH_CFG_LEARN_EN ch) = 1 then some ev else none, false⟩
    | some i =>
      let e := s.macEntry i
      if e.channel = ch then
        ⟨if s.get (F.CLS_CH_CFG_LEARN_EN ch) = 1 then s.setMac i { e with hit := true } else s, none, false⟩
      else
        ⟨s, if s.get (F.CLS_CH_CFG_LEARN_EN ch) = 1 then some ev else none,
          e.static && s.get (F.CLS_CH_CFG_STATIC_GUARD ch) = 1 && decide (ev ∈ s.tbl.guarded)⟩
  | _ => ⟨s, none, false⟩

/-! ### The path of a frame to the buffer -/

/-- The core input of a frame of a channel (R141, R142): the channel's port. A bundle takes its inputs in
rotation. -/
def clientPort (ch : Nat) : Nat := ch / 4

/-- The core ports of the bundle that a MAC channel or FlexE client belongs to (R142). -/
def bundleOf (g : Image) (ch : Nat) : List Nat :=
  if ch < 64 then
    match portOf g ch with
    | some p => if p.mode = .m800 then [ch / 4, ch / 4 + 1] else [ch / 4]
    | none => [ch / 4]
  else
    match clientOf g ch with
    | some (gr, _) => ((gr.instances.map (fun i => 8 + i.1 / 4)).eraseDups)
    | none => []

/-- The bundle's next input; the rotation moves on. -/
def State.inputOf (s : State) (g : Image) (ch : Nat) : Nat × State :=
  let b := bundleOf g ch
  let i := Tab.get s.buf.bundleIn 0 (b.head?.getD 0)
  ((b[i % max b.length 1]?).getD 0,
    if b.length ≤ 1 then s
    else s.setBuf { s.buf with bundleIn := NTab.set s.buf.bundleIn 0 (b.head?.getD 0) ((i + 1) % b.length) })

/-- A resolution's drop at stage 4, counted on the ingress channel or the SC (R107, R422). -/
def State.stage4Drop (s : State) (f : Frame) (code : Nat) (cnt : Option ChCnt) (sc : Option (Nat × ScCnt)) : State :=
  let s := match cnt with
    | some c => s.chCount f.inCh c
    | none => s
  let s := match sc with
    | some (k, c) => s.scCount k c
    | none => s
  s.discarded { f with outCh := 255, sc := sc.map Prod.fst } f.inCh code code

/-- The queue of a resolved frame (R136). -/
def queueOf (action : Action) (ch cls : Nat) : Nat := if action = .punt then 1536 + cls else 8 * ch + cls

/-- The SA whose entry stage 4 fetches: that of a received frame, or the current transmit SA. -/
def State.fetchSa (s : State) (sc sa : Option Nat) : Option Nat :=
  match sa with
  | some a => some a
  | none => sc.bind (fun k => (s.sc k).current)

/-- The SA store at stage 4 (R221, R223): a hit is the latest used; a miss joins or starts a fetch and marks the frame
COLD, store-and-forward, or drops it as COLD_DROP. -/
def State.storeLook (s : State) (f : Frame) : State :=
  let s := s.storeTrim
  match s.fetchSa f.sc f.sa with
  | none => s.stage5 f
  | some a =>
    if s.onDie a then (s.toDie a).stage5 f
    else if !s.fetchable a then s.stage4Drop f 0x38 none (f.sc.map (fun k => (k, .coldDrop)))
    else
      let s := if a ∈ s.sam.fetch then s
        else State.prog { s with sam := { s.sam with fetch := s.sam.fetch ++ [a] } } .coldFetch
      (s.sampleNote f.id (fun r => { r with cold := true })).stage5 { f with cold := some a, ct := some false }

/-- Stages 3 to 5: the program runs, the source is looked up, and the frame is resolved and offered to its queue.
`f` comes from the MAC or from a PARSE descriptor (R333). -/
def State.parse (s : State) (g : Image) (ch : Nat) (f : Frame) : State :=
  match programOf g ch with
  | none => s
  | some (n, p) =>
    let m := runProgram p f.bytes
    let f := { f with cls := m.cls }
    let s := s.sampleStart f.id ch f.cls f.len f.tIn
    let s := s.sampleNote f.id (fun r => { r with
      short := m.short, depth := m.depth, program := n, endIndex := m.endIndex, executed := m.executed })
    let sound := f.fcsOk && f.fecOk && !f.truncated
    let l := s.sourceLookup ch (m.found .macSa)
    let s := l.state
    let s := match l.learn with
      | some ev => if sound && !lineSide ch then s.learnQueue ev else s
      | none => s
    let f := { f with learn := if lineSide ch then l.learn else none }
    if l.guarded then s.stage4Drop f 5 (some .staticMoveDrop) none
    else match s.resolve g ch f.bytes m with
      | .drop code cnt sc => s.stage4Drop f code cnt sc
      | .go action out sc sa tag =>
        let f := { f with action := action, outCh := out, sc := sc, sa := sa, secTag := tag, queue := queueOf action out f.cls }
        (s.sampleNote f.id (fun r => { r with outCh := out, sc := sc.getD 0xFFFF })).storeLook f

/-- A fresh frame handle. -/
def State.newId (s : State) : Nat × State := (s.buf.nextId, s.setBuf { s.buf with nextId := s.buf.nextId + 1 })

/-! ### The receiving MAC (R66 to R68, R73) -/

/-- The MTU of a channel (R67). -/
def State.mtu (s : State) (ch : Nat) : Nat := s.get (F.PRT_EP_CFG_MTU ch)

/-- An uncorrectable FEC codeword raises FEC_UNCORR; the frame is counted where it is discarded (R66, R134). -/
def State.macErrors (s : State) (ch : Nat) (f : RxFrame) : State := if f.fecOk then s else s.epPost ch 4

/-- A frame received with errors while a loss condition stands (R73). -/
def State.rxError (s : State) (ch : Nat) : State := (s.chCount ch .rxFcsErr).dropEvent ch 0 13

/-- The MAC of a bound channel takes a frame. -/
def State.macReceive (s : State) (g : Image) (ch : Nat) (f : RxFrame) : State :=
  let len := f.bytes.length + 4
  let s := s.macErrors ch f
  if !s.linkUp ch then (if f.fcsOk && f.fecOk then s.chCount ch .rxLinkDown else s.rxError ch)
  else if Tab.get s.prt.loss [] ch ≠ [] then s.rxError ch
  else
    let s := ((s.chCount ch .rxFrames).chCount ch .rxOctets len).prog (.rxFrame ch ((programOf g ch).elim 0 (fun p => (runProgram p.2 f.bytes).cls)) len)
    if len < 64 then s.chCount ch .rxUndersize
    else
      let long := decide (s.mtu ch < len)
      let s := if long then s.chCount ch .rxOversize else s
      if long ∧ s.get (F.SWC_CH_CFG_CT_EN ch) = 0 then s.dropEvent ch 0 11
      else
        let (id, s) := s.newId
        let (port, s) := s.inputOf g ch
        let n := if long then s.mtu ch else len
        let fcs := if f.fcsOk then fcsBytes f.bytes else leBytes 4 (s.draw 32)
        let s := if f.fcsOk then s else s.drew
        s.parse g ch
          { id := id, inPort := port, inCh := ch, bytes := f.bytes.take (n - 4), len := n
            head := some ((f.bytes ++ fcs).take 256), rxLen := some len
            tag := s.get F.PEL_STATUS_BANK = 1, tIn := s.nowNs * 4 + f.qns % 4
            fcsOk := f.fcsOk, fecOk := f.fecOk, truncated := long, tailLate := f.tailLate }

/-- A frame of a transit client (R96): its blocks pass from its receive slots to its transmit slots, past parser, buffer and
engines, 180 ns and the FEC and deskew delays of R64 and R90 after their arrival. -/
def State.transitFrame (s : State) (g : Image) (ch : Nat) (c : FlexClient) (f : RxFrame) : State :=
  let len := f.bytes.length + 4
  if !s.linkUp ch then s
  else
    let s := s.cliRx ch len
    match s.flexGroup c.txGroup with
    | some to' =>
      if s.sendsClient to' ch then
        (s.cliTx ch len).emit (.frame ch f.bytes (!(f.fcsOk && f.fecOk))
          (s.nowNs * 4 + f.qns % 4 + 4 * (fecRx g ch + s.clientDeskew g ch + 180 + fecTx g ch)))
      else s
    | none => s

/-- A frame of a FlexE client: discarded uncounted where the receive pages in use give its client no slot (R80), and as an error
while a condition of R88 stands. -/
def State.clientReceive (s : State) (g : Image) (gr : FlexGroup) (c : FlexClient) (f : RxFrame) : State :=
  let ch := c.channel
  let len := f.bytes.length + 4
  if !s.takesClient gr ch then s
  else if s.grpIn gr.index 4 && s.groupBad gr then
    (if c.transit then s.cliErr ch len else if s.linkUp ch then (s.cliErr ch len).rxError ch else (s.cliErr ch len).macReceive g ch f)
  else if c.transit then s.transitFrame g ch c f
  else (s.cliRx ch len).macReceive g ch f

/-- FRAME_RECEIVED. -/
def State.frameReceived (s : State) (ch : Nat) (f : RxFrame) : State :=
  match s.pel.active with
  | none => s
  | some g =>
    if !imgBinds g ch then s
    else match clientOf g ch with
      | some (gr, c) => s.clientReceive g gr c f
      | none => s.macReceive g ch f

def execFrameReceived (ch : Nat) (f : RxFrame) (s : State) : Host.Outcome State Fault Refusal :=
  .next (if s.planeOn then s.frameReceived ch f else s)

end Sys2Proof.Machine
end

