-- ==== Sys2Proof/Machine/Gates.lean ====
section
/-! DEFINITION. Gate control lists (R268 to R275): which gates are open at an instant and when they close next. All
instants are nanoseconds of TAI; the lists are functions of the time. -/

namespace Sys2Proof.Machine
open Sys2Proof

/-- BASE of a list. -/
def glBase (l : GateList) : Nat := l.baseSec * 1000000000 + l.baseNs

/-- The first cycle start of a list at or after an instant (R270). -/
def glFrom (l : GateList) (t : Nat) : Nat :=
  if t ≤ glBase l then glBase l else glBase l + ceilDiv (t - glBase l) (max l.cycleNs 1) * l.cycleNs

/-- The entry that governs at an offset within a cycle, and its index: the last one holds to the end. -/
def entryAt : List (Nat × Nat) → Nat → Nat → Nat × Nat
  | [], _, i => (0xFF, i)
  | [e], _, i => (e.1, i)
  | e :: r, off, i => if off < e.2 then (e.1, i) else entryAt r (off - e.2) (i + 1)

/-- The states of a running list at an instant, with the entry's index; entry 0 holds before BASE (R274). -/
def glAt (l : GateList) (t : Nat) : Nat × Nat :=
  if t < glBase l then entryAt l.entries 0 0 else entryAt l.entries ((t - glBase l) % max l.cycleNs 1) 0

/-- The starts of the entries within a cycle. -/
def entryStarts : List (Nat × Nat) → Nat → List Nat
  | [], _ => []
  | e :: r, t => t :: entryStarts r (t + e.2)

/-- The instants at which the states of a list may change, from the cycle of `t` to the end of the next. -/
def glBounds (l : GateList) (t : Nat) : List Nat :=
  let c0 := if t < glBase l then glBase l else glBase l + (t - glBase l) / max l.cycleNs 1 * l.cycleNs
  entryStarts l.entries c0 ++ entryStarts l.entries (c0 + l.cycleNs)

def State.gate (s : State) (ch : Nat) : Gate := Tab.get s.sch.gate {} ch

def State.setSch (s : State) (x : Sched) : State := { s with sch := x }

def State.setGate (s : State) (ch : Nat) (g : Gate) : State :=
  s.setSch { s.sch with gate := NTab.set s.sch.gate {} ch g }

/-- The instant of the swap that waits, if one does: the first cycle start of the new list, or the end of the running
list's current cycle where the list is removed (R273). -/
def Gate.swapAt (g : Gate) : Option Nat :=
  match g.pending with
  | some (some l) => some (glFrom l g.since)
  | some none => some ((g.running.map (fun l => glFrom l g.since)).getD g.since)
  | none => none

/-- The list in force at an instant. -/
def Gate.listAt (g : Gate) (t : Nat) : Option GateList :=
  match g.swapAt with
  | some x => if x ≤ t then g.pending.join else g.running
  | none => g.running

/-- The instant from which a write of GATE_EN = 1 lets the list govern (R275): the next cycle start of the list, or of the one that a
swap before it brings in. -/
def Gate.enabledFrom (g : Gate) : Nat :=
  match g.waitEn with
  | some w =>
    let e := ((g.listAt w).map (fun l => glFrom l w)).getD w
    match g.swapAt with
    | some x => if w ≤ x then min e x else e
    | none => e
  | none => 0

/-- The states and the entry of a gate unit at an instant; every gate is open without a list. -/
def Gate.stateAt (g : Gate) (t : Nat) : Nat × Nat :=
  if t < g.enabledFrom then (0xFF, 0)
  else match g.listAt t with
    | some l => glAt l t
    | none => (0xFF, 0)

/-- A channel is gated: it has a list and GATE_EN is 1 (R268). -/
def State.gated (s : State) (ch : Nat) : Bool :=
  ((s.gate ch).running.isSome || (s.gate ch).pending.isSome) && s.get (F.SCH_CH_CFG_GATE_EN ch) = 1

/-- The gate of a class is open at an instant. -/
def State.gateOpen (s : State) (ch cls t : Nat) : Bool := !s.gated ch || ((s.gate ch).stateAt t).1.testBit cls

/-- The least of a list of numbers. -/
def minOf (l : List Nat) : Option Nat :=
  match l with
  | [] => none
  | x :: r => some (r.foldl min x)

/-- The next instant after `t` at which the gate of a class closes (R270, R271, R273, R275). -/
def State.gateClose (s : State) (ch cls t : Nat) : Option Nat :=
  let g := s.gate ch
  let swap := g.swapAt.toList
  let late := swap.flatMap (fun x => (g.pending.join.map (fun l => glBounds l (max x t))).getD [])
  let now := (g.running.map (fun l => glBounds l t)).getD []
  minOf ((swap ++ late ++ now ++ [g.enabledFrom]).filter (fun b => decide (t < b) && !(g.stateAt b).1.testBit cls))

/-- The guard band of a queue in nanoseconds (R271). -/
def State.guardBand (s : State) (q : Nat) : Nat :=
  ceilDiv ((s.get (F.SCH_Q_CFG_MAX_FRAME q) + 20) * 8) (max (s.rateGb (q / 8)) 1)

/-- The class gate allows a frame of queue `q` to depart at `td` (quarter nanoseconds, R271). -/
def State.gateAllows (s : State) (q td : Nat) : Bool :=
  let ch := q / 8
  let cls := q % 8
  !s.gated ch ||
    (s.gateOpen ch cls (td / 4) &&
      (match s.gateClose ch cls (td / 4) with
       | some c => decide (td + 4 * s.guardBand q ≤ 4 * c)
       | none => true))

/-- GATE_EVENT: a pending list whose instant has come takes over and GATE_SWITCHED is posted, a removed list whose cycle has
ended is gone (R273); a write of GATE_EN = 1 whose cycle start has come governs. Entries need no change of state. -/
def execGateEvent (ch : Nat) (s : State) : Host.Outcome State Fault Refusal :=
  .next (
    let g := s.gate ch
    let t := s.nowNs
    let s := match g.swapAt with
      | some x =>
        if x ≤ t then
          let t := s.setGate ch { g with running := g.pending.join, pending := none, since := 0 }
          if g.pending.join.isSome then t.post F.SCH_EVENT_EVENTS 4 else t
        else s
      | none => s
    let g := s.gate ch
    if g.waitEn.isSome ∧ g.enabledFrom ≤ t then s.setGate ch { g with waitEn := none } else s)

/-- A write of GATE_EN (R275). It reads 0 on a channel without a list. -/
def State.gateEn (s : State) (ch : Nat) (en : Bool) : State :=
  let g := s.gate ch
  let was := s.get (F.SCH_CH_CFG_GATE_EN ch) = 1
  let s := s.set (F.SCH_CH_CFG_GATE_EN ch) (bit en)
  s.setGate ch { g with waitEn := if en then (if was then g.waitEn else some s.nowNs) else none }

/-- A write of GATE_EN: discarded on a channel that the part does not have (R9), ignored on one that is not present (R281). -/
def execGateEnWrite (who ch : Nat) (en : Bool) (s : State) : Host.Outcome State Fault Refusal :=
  .next (if ch < 192 ∧ s.channelAbsent ch then s
    else if s.bound ch ∧ !isVf who then s.gateEn ch en
    else s.ignored who F.SCH_STATUS_WRITE_IGNORED)

end Sys2Proof.Machine
end

