-- ==== Sys2Proof/Machine/Shapers.lean ====
section
/-! DEFINITION. Shapers (R262 to R267) and the lengths and instants that scheduling goes by (R34, R69, R171, R173,
R257, R258, R263). -/

namespace Sys2Proof.Machine
open Sys2Proof

/-! ### Lengths (R34, R163, R171, R263) -/

/-- A frame that an engine opens: received with a SecTAG. -/
def Frame.decrypts (f : Frame) : Bool := f.action = .protect && f.secTag.isSome

/-- A frame that an engine seals. -/
def Frame.encrypts (f : Frame) : Bool := f.action = .protect && f.secTag.isNone

/-- A frame's length at egress: its protected length, or its length after decryption, or its own (R34). -/
def State.egressLen (s : State) (f : Frame) : Nat :=
  match f.action, f.sc with
  | .protect, some k =>
    let twin := 8 * bit (s.sc k).twinTagged
    match f.secTag with
    | some t => f.len - (if t.sci then 32 else 24) - twin
    | none => f.len + 32 + twin
  | _, _ => f.len

/-- The accounted length of a frame (R263). -/
def State.acctLen (s : State) (f : Frame) : Nat :=
  s.egressLen f + (if s.get (F.SCH_CH_CFG_LEN_MODE f.outCh) = 1 then s.get (F.SCH_CH_CFG_OVERHEAD f.outCh) else 0)

/-! ### Instants (R173, R257, R258) -/

/-- The lead E_c in ns (R257). -/
def State.lead (s : State) (ch : Nat) : Nat :=
  200 + (match s.pel.active with
    | some g => fecTx g ch
    | none => 0) + (if 64 ≤ ch then 32 else 0) + s.get (F.SEQ_CH_PROT_PAD_NS ch)

/-- The wire time of a frame of egress length `len`, in quarter nanoseconds (R258). -/
def State.wireQns (s : State) (ch len : Nat) : Nat := ceilDiv (32 * (len + 20)) (max (s.rateGb ch) 1)

/-- The horizons are kept in parts of a quarter nanosecond, so that a run of frames keeps the pace of R258. -/
def fine : Nat := 2 ^ 20

/-- The wire time in those parts (R258). -/
def State.wireFine (s : State) (ch len : Nat) : Nat := ceilDiv (32 * (len + 20) * fine) (max (s.rateGb ch) 1)

/-- D(L) of R173 in quarter nanoseconds, for a line endpoint of `r` Gb/s. -/
def symDelay (len r : Nat) : Nat := ceilDiv (32 * len * 1000 + 3636 * ceilDiv len 128 * max r 1) (1000 * max r 1)

/-- A received class 7 frame is subject to verified store-and-forward (R172). -/
def State.verifiedSf (s : State) (f : Frame) : Bool :=
  f.cls = 7 && f.decrypts && (match s.image f.tag with
    | some g => decide (f.inCh ∉ (imgQueues g).pDecryptCt)
    | none => true)

/-- A frame is held at stage 10 (R173), with the line length and the line channel that give D(L). -/
def State.symHold (s : State) (f : Frame) : Option (Nat × Nat) :=
  if s.verifiedSf f then some (f.len, f.inCh)
  else if f.cls = 7 ∧ f.encrypts ∧ s.get (F.SEQ_CH_PROT_P_SYM_HOLD f.outCh) = 1 then
    some (s.egressLen f, f.outCh)
  else none

/-- The departure instant before which R173 holds a frame, in quarter nanoseconds. -/
def State.holdUntil (s : State) (f : Frame) : Nat :=
  match s.symHold f, s.pel.active with
  | some (len, ch), some g =>
    f.tIn + 4 * (fecRx g f.inCh + rateAdapt g f.inCh + (if 64 ≤ f.inCh ∧ f.inCh < 192 then 48 + s.clientDeskew g f.inCh else 0) + 410 + s.lead f.outCh - 200) +
      symDelay len (s.rateGb ch)
  | _, _ => 0

/-- H_c of a channel, in fine parts. -/
def State.horizon (s : State) (ch : Nat) : Nat := Tab.get s.sch.horizon 0 ch

def State.setHorizon (s : State) (ch h : Nat) : State := s.setSch { s.sch with horizon := NTab.set s.sch.horizon 0 ch h }

/-- The instant at which a frame selected now departs, in fine parts (R258, R173). -/
def State.departFine (s : State) (f : Frame) : Nat :=
  max (max ((s.nowQns + 4 * s.lead f.outCh) * fine) (s.horizon f.outCh)) (s.holdUntil f * fine)

/-- The departure instant of a frame selected now, in quarter nanoseconds. -/
def State.departAt (s : State) (f : Frame) : Nat := ceilDiv (s.departFine f) fine

/-- A channel offers a new frame: H_c is at most t + E_c + 29.1 ns (R258). -/
def State.transmitterFree (s : State) (ch : Nat) : Bool :=
  decide (10 * s.horizon ch ≤ (10 * (s.nowQns + 4 * s.lead ch) + 1164) * fine)

/-! ### Shapers (R262 to R266) -/

/-- Shaper numbers: a queue's is its number, a channel's 2048 + c, a protection shaper's 4096 + p, the punt shaper's
5000. -/
def chShaper (ch : Nat) : Nat := 2048 + ch

def pShaper (p : Nat) : Nat := 4096 + p

def puntShaper : Nat := 5000

def State.tokens (s : State) (k : Nat) : Int := Tab.get s.sch.tokens 0 k

/-- Tokens set, within the signed 48-bit range (R262). -/
def State.setTokens (s : State) (k : Nat) (v : Int) : State :=
  s.setSch { s.sch with tokens := NTab.set s.sch.tokens 0 k (max (-(2 ^ 47)) (min v (2 ^ 47 - 1))) }

/-- RATE and BURST of a shaper as its registers hold them. -/
def State.shaperRegs (s : State) (k : Nat) : Nat × Nat :=
  if k < 1536 then (s.get (F.SCH_Q_RATE_RATE k), s.get (F.SCH_Q_BURST_BURST k))
  else if k < 4096 then (s.get (F.SCH_CH_RATE_RATE (k - 2048)), s.get (F.SCH_CH_BURST_BURST (k - 2048)))
  else if k < 5000 then (s.get (F.SCH_P_RATE_RATE (k - 4096)), s.get (F.SCH_P_BURST_BURST (k - 4096)))
  else (s.get F.SCH_PUNT_RATE_RATE, 16384)

/-- The rate in force: a protection shaper's register, an ordinary shaper's as its last refill took it (R265,
R266). -/
def State.shaperRate (s : State) (k : Nat) : Nat :=
  if 4096 ≤ k ∧ k < 5000 then (s.shaperRegs k).1 else Tab.get s.sch.rate 0 k

/-- A shaper allows a frame (R262). -/
def State.shaperOpen (s : State) (k : Nat) : Bool := s.shaperRate k = 0 || decide (0 < s.tokens k)

/-- The protection shaper bound to a class 7 queue (R264). -/
def State.boundShaper (s : State) (q : Nat) : Option Nat :=
  (s.pel.active.bind (fun g => (imgQueues g).pShapers.find? (fun p => p.queue = some q))).map (fun p => p.index)

/-- The shapers that a frame of a queue debits: the queue's or the bound protection shaper's, and the channel's
(R264). -/
def State.debited (s : State) (q : Nat) : List Nat :=
  (if q % 8 = 7 then ((s.boundShaper q).map pShaper).toList else [q]) ++ [chShaper (q / 8)]

/-- The shapers of a queue allow its head frame; those of classes 6 and 7 are never held by the channel's (R264). -/
def State.shapersAllow (s : State) (q : Nat) : Bool :=
  (s.debited q).all (fun k => s.shaperOpen k || (decide (6 ≤ q % 8) && k = chShaper (q / 8)))

/-- The debit of a dispatched frame (R262); a disabled shaper keeps its tokens. -/
def State.debit (s : State) (q len : Nat) : State :=
  (s.debited q).foldl (fun s k => if s.shaperRate k = 0 then s else s.setTokens k (s.tokens k - len * 8000)) s

/-- One refill of a shaper: the RATE of its registers comes into force, and the tokens rise and are clipped (R262,
R265). -/
def State.refill (s : State) (k : Nat) : State :=
  let (rate, burst) := s.shaperRegs k
  let s := if 4096 ≤ k ∧ k < 5000 then s else s.setSch { s.sch with rate := NTab.set s.sch.rate 0 k rate }
  s.setTokens k (min (s.tokens k + rate) (burst * 8000))

/-- The shapers present: those of present queues of classes 0 to 6, of channels, the protection shapers and the punt
shaper. -/
def State.shapers (s : State) : List Nat :=
  s.channels.flatMap (fun c => (List.range 7).map (8 * c + ·)) ++ s.channels.map chShaper ++
    (List.range 64).map pShaper ++ [puntShaper]

def execShaperRefill (s : State) : Host.Outcome State Fault Refusal := .next (s.shapers.foldl State.refill s)

/-- The tokens of a protection shaper after a change: full or empty by RESET_TO (R266). -/
def State.pShaperReset (s : State) (p : Nat) : State :=
  s.setTokens (pShaper p) (if s.get (F.SCH_P_RATE_RESET_TO p) = 1 then s.get (F.SCH_P_BURST_BURST p) * 8000 else 0)

/-- The rate of the channel of a queue in kb/s, the limit of a shaper bound to it (R281). -/
def State.rateLimit (s : State) (q : Nat) : Nat := s.rateGb (q / 8) * 1000000

/-- The limit of a protection shaper's rate (R281). -/
def State.pRateLimit (s : State) (p : Nat) : Nat :=
  match s.pel.active.bind (fun g => (imgQueues g).pShapers.find? (fun x => x.index = p)) with
  | some ⟨_, some q, _, _, _⟩ => s.rateLimit q
  | _ => 800000000

/-! ### Limits of the new bank (R56) -/

/-- A field above a limit is clipped to it, and TUNE_CLIPPED is set. -/
def State.clip (s : State) (k : FKey) (limit : Nat) : State :=
  if limit < s.get k then (s.set k limit).set F.PEL_STATUS_TUNE_CLIPPED 1 else s

/-- The rates of a channel's shapers within its new rate, and LPI_EN where it is allowed no more. -/
def State.clipChannel (s : State) (g : Image) (ch : Nat) : State :=
  let r := s.rateGb ch * 1000000
  let s := if r = 0 then s
    else
      let s := s.clip (F.SCH_CH_RATE_RATE ch) r
      let s := (List.range 7).foldl (fun s k => s.clip (F.SCH_Q_RATE_RATE (8 * ch + k)) r) s
      match s.boundShaper (8 * ch + 7) with
      | some p => s.clip (F.SCH_P_RATE_RATE p) r
      | none => s
  if imgLpi g ch then s else s.clip (F.PRT_EP_CFG_LPI_EN ch) 0

/-- A write to SCH_P_RATE or SCH_P_BURST (R266, R281). -/
def execProtShaperWrite (who shaper : Nat) (burst : Bool) (val : Nat) (s : State) : Host.Outcome State Fault Refusal :=
  .next (
    let n := field val 0 (if burst then 20 else 30)
    if isVf who ∨ 64 ≤ shaper ∨ (burst ∧ n < 64) ∨ (!burst ∧ s.pRateLimit shaper < n) then
      s.ignored who F.SCH_STATUS_WRITE_IGNORED
    else if burst then (s.set (F.SCH_P_BURST_BURST shaper) n).pShaperReset shaper
    else (s.sets [(F.SCH_P_RATE_RATE shaper, n), (F.SCH_P_RATE_RESET_TO shaper, field val 31 1)]).pShaperReset shaper)

end Sys2Proof.Machine
end

