-- ==== Sys2Proof/Machine/Sched.lean ====
section
/-! DEFINITION. The central scheduler: which head frame of a channel is eligible (R134, R147, R259, R272, R277, R278),
selection within a channel (R260), and the match of a cell time (R143 to R146, R261). -/

namespace Sys2Proof.Machine
open Sys2Proof

/-! ### The head of a queue -/

/-- The rate at which a frame came in, in Gb/s; frames of inputs 16 and 17 meet every rate (R147, R473), those of
input 18 came over the 200G Twin link (R307). -/
def State.ingressGb (s : State) (f : Frame) : Option Nat :=
  if f.inPort = 16 ∨ f.inPort = 17 then none else if f.inPort = 18 then some 200 else some (s.rateGb f.inCh)

/-- The conditions of R147, but for Egress: only queues of channels come here. -/
def State.cutThrough (s : State) (f : Frame) : Bool :=
  (s.get (F.SWC_CH_CFG_CT_EN f.outCh)).testBit f.cls && !s.verifiedSf f &&
    (match s.ingressGb f with
     | some r => decide (s.rateGb f.outCh ≤ r)
     | none => true) &&
    (match s.fetchSa f.sc f.sa with
     | some a => s.onDie a
     | none => true)

/-- The choice of R147: kept once made. -/
def State.ctOf (s : State) (f : Frame) : Bool := f.ct.getD (s.cutThrough f)

/-- A frame is VOID: found bad while no cell of it has been dispatched, unless its tail comes only after its head went
in cut-through (R134). -/
def State.void (s : State) (f : Frame) : Bool := (!f.fcsOk || !f.fecOk || f.truncated) && !(f.tailLate && s.ctOf f)

/-- The launch time of a frame lets it go (R277): none, found due before, or due by t_d. -/
def State.launchDue (s : State) (f : Frame) : Bool :=
  match f.launch with
  | some lt => f.due || decide (4 * s.launchDiff lt ≤ (s.nowQns : Int) - 4 * s.nowNs + 4 * s.lead f.outCh)
  | none => true

/-- The lateness of a frame with a launch time that would depart at `td`, in quarter nanoseconds (R278). -/
def State.lateness (s : State) (lt td : Nat) : Int := (td : Int) - 4 * s.nowNs - 4 * s.launchDiff lt

/-- A frame is late beyond its queue's limit (R278). -/
def State.tooLate (s : State) (f : Frame) : Bool :=
  let lim := s.get (F.SCH_Q_CFG_LATE_US f.queue)
  match f.launch with
  | some lt => lim ≠ 0 && decide ((lim * 4000 : Int) < s.lateness lt (s.departAt f))
  | none => false

/-- The channel can take a frame now: link up, not paused, awake (R71, R139), its transmitter free. -/
def State.channelOffers (s : State) (ch : Nat) : Bool :=
  s.linkUp ch && decide (ch ∉ s.buf.paused) && s.get (F.PRT_EP_STATUS_LPI_TX ch) = 0 && decide (ch ∉ s.prt.waking) &&
    s.transmitterFree ch

/-- A head frame is eligible but for its lateness (R259). -/
def State.eligible (s : State) (f : Frame) : Bool :=
  s.qState f.queue = 1 && !f.cold.any (· ∈ s.sam.fetch) && s.channelOffers f.outCh && s.shapersAllow f.queue &&
    s.gateAllows f.queue (s.departAt f) && s.launchDue f

/-- What becomes of a head frame: it stays, or is discarded. -/
inductive HeadFate where
  | keep | void | oversize | gateOversize | late
deriving DecidableEq, Repr

def State.headFate (s : State) (f : Frame) : HeadFate :=
  if s.void f then .void
  else if s.gated f.outCh && decide (s.get (F.SCH_Q_CFG_MAX_FRAME f.queue) < s.egressLen f) then .gateOversize
  else if !s.ctOf f && decide (s.mtu f.outCh < s.egressLen f) then .oversize
  else if s.eligible f && s.tooLate f then .late
  else .keep

/-- The code of a VOID frame's cause (R66, R68, R153). -/
def Frame.voidCode (f : Frame) : Nat := if f.truncated then 11 else 13

/-- The discard of a VOID frame, counted by the MAC of the channel it came in by (R66, R134). A truncated frame was counted
in RX_OVERSIZE where it was cut (R68). -/
def State.voidDrop (s : State) (f : Frame) (dest : Nat) : State :=
  (if f.truncated then s else s.chCount f.inCh (if f.fecOk then .rxFcsErr else .rxFecUncorr)).discarded f dest
    f.voidCode f.voidCode

/-- The discard of a head frame (R69, R134, R272, R278). -/
def State.headDrop (s : State) (f : Frame) (h : HeadFate) : State :=
  match h with
  | .keep => s
  | .void => s.voidDrop f f.outCh
  | .oversize => (s.chCount f.outCh .txOversize).discarded f f.outCh 12 12
  | .gateOversize => ((s.qCount f.queue .gateOversize).post F.SCH_EVENT_EVENTS 2).quietDrop f 0x43
  | .late => ((s.qCount f.queue .launchLate).post F.SCH_EVENT_EVENTS 1).quietDrop f 0x41

/-- A queue without its head. -/
def State.popQueue (s : State) (q : Nat) : State := s.setQueue q ((s.queue q).drop 1)

/-- The head frames of a queue that are discarded where they stand are discarded, and a head found due is marked DUE.
The first argument bounds them. -/
def State.settle : Nat → State → Nat → State
  | 0, s, _ => s
  | fuel + 1, s, q =>
    match s.queue q with
    | [] => s
    | f :: rest =>
      if q ∈ s.buf.ready ∨ s.qState q ≠ 1 then s
      else match s.headFate f with
        | .keep => if f.launch.isSome ∧ !f.due ∧ s.launchDue f then s.setQueue q ({ f with due := true } :: rest) else s
        | h => State.settle fuel (((s.popQueue q).headDrop f h).pauseSync f.inCh) q

/-- The queues of channels that hold frames. -/
def State.busyQueues (s : State) : List Nat := (s.buf.queues.map Prod.fst).filter (fun q => decide (q < 1536))

/-- Every head settled. -/
def State.settleAll (s : State) : State :=
  s.busyQueues.foldl (fun s q => State.settle (s.queue q).length s q) s

/-! ### Selection within a channel (R260) -/

/-- A selection: the class, and the credits and the turn as they stand if it is matched. -/
structure Pick where
  cls : Nat
  credit : NTab Int
  turn : Nat
deriving DecidableEq, Repr

/-- The head frame of a queue if it is eligible. -/
def State.candidate (s : State) (q : Nat) : Option Frame :=
  match s.queue q with
  | f :: _ => if q ∉ s.buf.ready ∧ s.headFate f = .keep ∧ s.eligible f then some f else none
  | [] => none

/-- The next class of the rotation 5, 4, 3, 2, 1, 0. -/
def nextTurn (k : Nat) : Nat := if k = 0 then 5 else k - 1

/-- The deficit round robin (R260): the rotation reaches class `k`, whose queue gains credit. The first argument
bounds the visits. -/
def drrFrom (open' : Nat → Bool) (weight : Nat → Nat) (base : Nat) : Nat → Nat → NTab Int → Option Pick
  | 0, _, _ => none
  | fuel + 1, k, c =>
    if open' k then
      let v := Tab.get c 0 (base + k) + weight k * 256
      let c := NTab.set c 0 (base + k) v
      if 0 < v then some ⟨k, c, k + 1⟩ else drrFrom open' weight base fuel (nextTurn k) c
    else drrFrom open' weight base fuel (nextTurn k) c

/-- The selection of a channel (R260). `turn` holds the class that has the turn, plus 1; 0 stands for none. The
rotation visits each class at most 127 times, which a credit of one frame and weight 1 needs. -/
def State.pick (s : State) (ch : Nat) : Option Pick :=
  let base := 8 * ch
  let ok := fun k => (s.candidate (base + k)).isSome
  let turn := Tab.get s.sch.turn 0 ch
  if s.buf.ready.any (fun q => decide (q / 8 = ch ∧ q < 1536)) then none
  else if ok 7 then some ⟨7, s.sch.credit, turn⟩
  else if ok 6 then some ⟨6, s.sch.credit, turn⟩
  else if s.get (F.SCH_CH_CFG_MODE ch) = 0 then
    (([5, 4, 3, 2, 1, 0] : List Nat).find? ok).map (fun k => ⟨k, s.sch.credit, turn⟩)
  else if ([5, 4, 3, 2, 1, 0] : List Nat).all (fun k => !ok k) then none
  else if 0 < turn ∧ ok (turn - 1) ∧ 0 < Tab.get s.sch.credit 0 (base + (turn - 1)) then
    some ⟨turn - 1, s.sch.credit, turn⟩
  else drrFrom ok (fun k => s.get (F.SCH_Q_CFG_WEIGHT (base + k))) base 762 (if turn = 0 then 5 else nextTurn (turn - 1)) s.sch.credit

/-! ### The match (R141 to R146, R261) -/

/-- A request of an output for a class: the input that holds the cell, and the queue whose head it begins where it is a first
cell. -/
structure Request where
  output : Nat
  cls : Nat
  input : Nat
  first : Option Nat
deriving DecidableEq, Repr

/-! ### The internal outputs: host punt 16, Snare 17, Twin link 18, recirculation 19 (R136, R141, R261) -/

/-- The ring set that takes a punt class: HIF_PUNT_MAP gives the destination, the class the ring set. -/
def State.puntRing (s : State) (cls : Nat) : Option Nat :=
  let d := field (s.get F.HIF_PUNT_MAP_MAP) (4 * cls) 4
  let l := ringSetsOf (if d = 0 then 0 else d + 3)
  l[cls % max l.length 1]?

/-- The free descriptors of a receive ring. -/
def State.rxFree (s : State) (r : Nat) : Nat :=
  (s.get (F.HIF_RX_PROD_INDEX r) + 2 ^ 32 - s.get (F.HIF_RX_CONS_INDEX r)) % 2 ^ 32

/-- The receive ring of a punt class is enabled and has a free descriptor. -/
def State.puntReady (s : State) (cls : Nat) : Bool :=
  !(s.queue (1536 + cls)).isEmpty && (match s.puntRing cls with
    | some r => s.ringOn r && decide (0 < s.rxFree r)
    | none => false)

/-- The first queue of an internal output. -/
def internalBase : Nat → Nat
  | 16 => 1536
  | 17 => 1560
  | 18 => 1544
  | _ => 1552

/-- The frames in the bypass lane: those with a slot, and punted frames that have been matched (R188). -/
def State.bypassFrames (s : State) : Nat :=
  (s.pool.slots.filter (fun t => t.engine = some 16)).length +
    (s.buf.ready.filter (fun q => decide (1536 ≤ q) && decide (q < 1544))).length

/-- An internal output takes a frame: a punted one with a buffer, room in the bypass lane and the punt shaper's leave, a copy on
the Twin link while it is up, and neither under a traffic hold (R188, R261, R318, R337, R383). -/
def State.internalOpen (s : State) (o k : Nat) : Bool :=
  match o with
  | 16 => s.get F.TMP_STATUS_HOLD = 0 && s.puntReady k && s.shaperOpen puntShaper && decide (s.bypassFrames < 256)
  | 18 => s.get F.TMP_STATUS_HOLD = 0 && s.twinUp
  | _ => true

/-- The core input of the head of an internal queue that its output can take: these frames go in store-and-forward (R147), and one
found bad is not offered (R134). -/
def State.internalHead (s : State) (o k : Nat) : Option Nat :=
  let q := internalBase o + k
  if q ∈ s.buf.ready ∨ !s.internalOpen o k then none
  else if o = 17 then (s.snare k).queue.head?.map (fun c => c.inPort)
  else match s.queue q with
    | f :: _ => if f.fcsOk && f.fecOk && !f.truncated then some f.inPort else none
    | [] => none

/-- The channels whose frames an output can take, in ascending order. -/
def State.outputChannels (s : State) (o : Nat) : List Nat :=
  match s.pel.active with
  | some g => ((List.range 192).filter (fun c => imgBinds g c)).filter (fun c => decide (o ∈ bundleOf g c))
  | none => []

/-- The selected frames of a cell time, by channel: class and input. -/
def State.selections (s : State) : List (Nat × Pick × Nat) :=
  s.channels.filterMap (fun c => (s.pick c).bind (fun p =>
    (s.candidate (8 * c + p.cls)).map (fun f => (c, p, f.inPort))))

/-- The first of a list at or after a pointer, in rotation. -/
def rotateFrom (l : List Nat) (p : Nat) : Option Nat :=
  match l.find? (fun x => decide (p ≤ x)) with
  | some x => some x
  | none => l.head?

/-- The requests of an output: for each class the next cell of the frame in progress, or the first cell of a selected
frame, in rotation among the output's channels (R143, R261). -/
def State.requestsOf (s : State) (sel : List (Nat × Pick × Nat)) (o : Nat) : List Request :=
  (List.range 8).filterMap (fun k =>
    match Tab.get s.buf.sending none (8 * o + k) with
    | some x => some ⟨o, k, x.input, none⟩
    | none =>
      if 16 ≤ o then (s.internalHead o k).map (fun i => ⟨o, k, i, some (internalBase o + k)⟩)
      else
      let cs := ((s.outputChannels o).filter (fun c => sel.any (fun x => x.1 = c && x.2.1.cls = k)))
      (rotateFrom cs (Tab.get s.buf.rotate 0 (8 * o + k))).bind (fun c =>
        (sel.find? (fun x => x.1 = c)).map (fun x => ⟨o, k, x.2.2, some (8 * c + k)⟩)))

/-- The order of classes at a grant and an accept: 7, then 6, then 5 to 0. -/
def bestClass (l : List Request) : Nat := l.foldl (fun k r => max k r.cls) 0

/-- An input grants one request: class 7 before all others, then the first output at or after its pointer; of the
classes that this output offers, the highest (R143). -/
def grantOf (ptr : Nat) (rs : List Request) : Option Request :=
  let pool := if rs.any (fun r => r.cls = 7) then rs.filter (fun r => r.cls = 7) else rs
  let outs := ((List.range 20).filter (fun o => pool.any (fun r => r.output = o)))
  (rotateFrom outs ptr).bind (fun o =>
    let mine := pool.filter (fun r => r.output = o)
    mine.find? (fun r => r.cls = bestClass mine))

/-- An output accepts one grant: the highest class, and among equals the first input at or after its pointer. -/
def acceptOf (ptr : Nat) (gs : List Request) : Option Request :=
  let pool := gs.filter (fun r => r.cls = bestClass gs)
  let ins := (List.range 20).filter (fun i => pool.any (fun r => r.input = i))
  (rotateFrom ins ptr).bind (fun i => pool.find? (fun r => r.input = i))

/-- One iteration: the matches it adds, each unmatched input and output taking part. -/
def State.iteration (s : State) (sel : List (Nat × Pick × Nat)) (done : List Request) : List Request :=
  let outs := (List.range 20).filter (fun o => done.all (fun r => decide (r.output ≠ o)))
  let taken := done.filterMap (fun r => r.first.map (· / 8))
  let reqs := (outs.flatMap (s.requestsOf (sel.filter (fun x => x.1 ∉ taken)))).filter
    (fun r => done.all (fun d => decide (d.input ≠ r.input)))
  let grants := (List.range 20).filterMap (fun i => grantOf (Tab.get s.buf.grant 0 i) (reqs.filter (fun r => r.input = i)))
  outs.filterMap (fun o => acceptOf (Tab.get s.buf.accept 0 o) (grants.filter (fun r => r.output = o)))

/-- The pointers after the matches of the first iteration (R144). -/
def State.movePointers (s : State) (ms : List Request) : State :=
  ms.foldl (fun s r => s.setBuf { s.buf with
    grant := NTab.set s.buf.grant 0 r.input ((r.output + 1) % 20)
    accept := NTab.set s.buf.accept 0 r.output ((r.input + 1) % 20) }) s

/-- A first cell is matched: the choice of R147, t_d and the horizon are fixed, and the frame goes to dispatch. -/
def State.takeFirst (s : State) (o : Nat) (ch : Nat) (p : Pick) : State :=
  let q := 8 * ch + p.cls
  match s.queue q with
  | [] => s
  | f :: rest =>
    let ct := s.ctOf f
    let td := s.departAt f
    let len := if ct then min (s.egressLen f) (s.mtu ch) else s.egressLen f
    let n := cellsOf f.len
    let s := s.setQueue q ({ f with ct := some ct, td := td, before := s.horizon ch } :: rest)
    let s := s.setHorizon ch (s.departFine f + s.wireFine ch len)
    let credit := (List.range 6).foldl (fun t k => NTab.set t 0 (8 * ch + k) (Tab.get p.credit 0 (8 * ch + k))) s.sch.credit
    let s := s.setSch { s.sch with credit := credit, turn := NTab.set s.sch.turn 0 ch p.turn }
    s.setBuf { s.buf with
      ready := s.buf.ready ++ [q]
      rotate := NTab.set s.buf.rotate 0 (8 * o + p.cls) (ch + 1)
      sending := if n ≤ 1 then s.buf.sending
        else NTab.set s.buf.sending none (8 * o + p.cls) (some ⟨q, f.inPort, n - 1⟩) }

/-- A frame of the recirculation output re-enters at input 19 and is parsed under the channel that SWC_RECIRC names, or is
discarded where it names none (R141, R158). -/
def State.recirculate (s : State) (f : Frame) : State :=
  let ch := s.get F.SWC_RECIRC_CHANNEL
  match s.pel.active with
  | some g =>
    if ch = 255 ∨ !imgBinds g ch then s.quietDrop f 0
    else s.parse g ch { f with inPort := 19, cellsMin := 0, cellsShared := 0, cellsProg := 0, cellsHead := 0, cellNos := [] }
  | none => s.quietDrop f 0

/-- The first cell of an internal output's frame is matched. A punted frame goes on to the bypass lane and a Snare copy to the
Snare output, which deliver them (PUNT_DELIVERY, SNARE_RECORD_WRITE); a copy on the Twin link is sent, and a recirculated frame
re-enters. -/
def State.takeInternal (s : State) (o k : Nat) (input : Nat) : State :=
  let q := internalBase o + k
  if o = 17 then s.setBuf { s.buf with ready := s.buf.ready ++ [q] }
  else match s.queue q with
    | [] => s
    | f :: rest =>
      let n := cellsOf f.len
      let s := if n ≤ 1 then s
        else s.setBuf { s.buf with sending := NTab.set s.buf.sending none (8 * o + k) (some ⟨q, input, n - 1⟩) }
      if o = 16 then s.setBuf { s.buf with ready := s.buf.ready ++ [q] }
      else
        let s := s.setQueue q rest
        if o = 19 then (((s.qCount q .deqFrames).qCount q .deqOctets f.len).recirculate f).pauseSync f.inCh
        else match f.dual with
          | some (st, seq, tIn) => s.twinSend (.dual st seq tIn f.bytes) false
          | none => s

/-- A matched cell goes out. -/
def State.takeCell (s : State) (sel : List (Nat × Pick × Nat)) (r : Request) : State :=
  match r.first with
  | some q =>
    if 16 ≤ r.output then s.takeInternal r.output r.cls r.input
    else match sel.find? (fun x => x.1 = q / 8) with
      | some x => s.takeFirst r.output (q / 8) x.2.1
      | none => s
  | none =>
    match Tab.get s.buf.sending none (8 * r.output + r.cls) with
    | some x =>
      let left := if x.cells ≤ 1 then none else some { x with cells := x.cells - 1 }
      s.setBuf { s.buf with sending := NTab.set s.buf.sending none (8 * r.output + r.cls) left }
    | none => s

/-- An ascending insertion by output (R146). -/
def byOutput (r : Request) : List Request → List Request
  | [] => [r]
  | x :: l => if r.output ≤ x.output then r :: x :: l else x :: byOutput r l

/-- One cell time: heads settled, three iterations, pointers moved by the first, and the matched cells taken in
ascending output order. -/
def State.match' (s : State) : State :=
  let s := s.settleAll
  let sel := s.selections
  let m1 := s.iteration sel []
  let m2 := s.iteration sel m1
  let m3 := s.iteration sel (m1 ++ m2)
  let s := s.movePointers m1
  ((m1 ++ m2 ++ m3).foldr byOutput []).foldl (fun s r => s.takeCell sel r) s

def execSchedulerMatch (s : State) : Host.Outcome State Fault Refusal := .next s.match'

end Sys2Proof.Machine
end

