-- ==== Sys2Proof/Machine/Protect.lean ====
section
/-! DEFINITION. Frame protection (chapter 07): sealing and opening a frame under an SA, the replay and duplicate checks,
and the egress patches with their correction of the ICV. -/

namespace Sys2Proof.Machine
open Sys2Proof

/-! ### IVs and PNs (R159, R168) -/

/-- The IV of a frame (R159). -/
def frameIv (e : Sa) (sci pn : Nat) : BitVec 96 :=
  if xpn e.suite then BitVec.ofNat 96 (e.ssci * 2 ^ 64 + pn) ^^^ BitVec.ofNat 96 e.salt
  else BitVec.ofNat 96 (sci * 2 ^ 32 + pn % 2 ^ 32)

/-- The confidentiality offset of an SC in bytes (R212). -/
def Sc.offsetBytes (c : Sc) : Nat := if c.offset = 1 then 30 else if c.offset = 2 then 50 else 0

/-- The lowest acceptable PN of a receive SA (R168). -/
def lowestPn (nextPn window : Nat) : Nat := max (nextPn - window) 1

/-- The PN of a received frame: on the XPN suites recovered from its 32 bits by the lowest acceptable PN (IEEE
802.1AE-2018 10.6.2). -/
def recoverPn (suite lowest pn32 : Nat) : Nat :=
  if xpn suite then
    let hi := lowest / 2 ^ 32
    (if 2 ^ 31 ≤ lowest % 2 ^ 32 ∧ pn32 < 2 ^ 31 then hi + 1 else hi) % 2 ^ 32 * 2 ^ 32 + pn32
  else pn32

/-! ### Sealing (R162 to R165) -/

/-- TPIDs of a clear tag (R162). -/
def isTpid (n : Nat) : Bool := n = 0x8100 || n = 0x88A8 || n = 0x9100

/-- The clear tags that the engine takes: at most `n` units from offset `off` (R162). -/
def clearTags (bs : Bytes) : Nat → Nat → Nat
  | 0, _ => 0
  | n + 1, off => if isTpid (beAt bs off 2) then 1 + clearTags bs n (off + 4) else 0

/-- The 16 bytes of a transmitted SecTAG (R163). -/
def secTagBytes (c : Sc) (an pn len : Nat) : Bytes :=
  beBytes 2 0x88E5 ++ beBytes 1 (0x20 + 0x0C * bit c.conf + an) ++ beBytes 1 (if len < 48 then len else 0) ++
    beBytes 4 (pn % 2 ^ 32) ++ beBytes 8 c.sci

/-- The AAD of R165: addresses, authenticated tags, SecTAG and the secure data sent in clear. -/
def aadOf (head : Bytes) (tagAuth : Bool) (tag clear : Bytes) : Bytes :=
  head.take 12 ++ (if tagAuth then head.drop 12 else []) ++ tag ++ clear

/-- A frame sealed under an SA, without its FCS, and what the patch unit needs (R163, R165, R179). `twin` is the Twin
tag of R164. -/
def sealFrame (c : Sc) (e : Sa) (pn : Nat) (twin : Bytes) (bs : Bytes) : Bytes × SealInfo :=
  let tags := 4 * clearTags bs c.clearTags 12
  let head := bs.take (12 + tags)
  let secure := bs.drop (12 + tags) ++ twin
  let tag := secTagBytes c e.an pn secure.length
  let clear := if c.conf then secure.take c.offsetBytes else secure
  let aad := aadOf head c.tagAuth tag clear
  let (ct, icv) := gcmSeal (suiteBits e.suite) e.key (frameIv e c.sci pn) aad (secure.drop clear.length)
  (head ++ tag ++ clear ++ ct ++ blockBytes icv,
    { tags := tags, tagAuth := c.tagAuth, clear := clear.length, aad := aad.length, ct := ct.length, conf := c.conf
      hash := hashKey (suiteBits e.suite) e.key })

/-- The 8 bytes of a Twin tag (R164). -/
def twinTagBytes (node stream seq : Nat) : Bytes := beBytes 2 node ++ beBytes 2 stream ++ beBytes 4 seq

/-! ### Opening (R166, R167, R171) -/

/-- A received frame as the engine opens it: the bytes it delivers, without its FCS, and what it found. -/
def openFrame (c : Sc) (k a : Nat) (e : Sa) (t : SecTag) (bs : Bytes) : Bytes × OpenInfo :=
  let hdr := if t.sci then 16 else 8
  let pn := recoverPn e.suite (lowestPn e.nextPn c.window) t.pn
  let head := bs.take t.off
  let tag := slice bs t.off hdr
  let body := bs.drop (t.off + hdr)
  let secure := body.take (body.length - 16)
  let icv := body.drop (body.length - 16)
  let clear := if c.conf then secure.take c.offsetBytes else secure
  let ct := secure.drop clear.length
  let bits := suiteBits e.suite
  let iv := frameIv e c.sci pn
  let want := gcmTag bits e.key iv (aadOf head c.tagAuth tag clear) ct
  let sl := beAt bs (t.off + 3) 1
  let slOk := if sl = 0 then decide (48 ≤ secure.length) else decide (sl = secure.length ∧ sl < 48)
  let plain := clear ++ gctr bits e.key iv ct
  let keep := plain.length - 8 * bit c.twinTagged
  let tt := plain.drop keep
  (head ++ plain.take keep,
    { sc := k, sa := a, pn := pn, valid := decide (16 ≤ body.length) && slOk && icv = blockBytes want
      twin := if c.twinTagged then some (beAt tt 0 2, beAt tt 2 2, beAt tt 4 4) else none
      off := t.off, tagLen := hdr })

/-! ### The replay and duplicate checks (R168, R170) -/

/-- A PN is below the lowest acceptable PN (R168). -/
def State.replayLate (s : State) (o : OpenInfo) : Bool := decide (o.pn < lowestPn (s.sa o.sa).nextPn (s.sc o.sc).window)

/-- The outcome of the duplicate check: accepted, or a drop code of R183. -/
def State.dupCheck (s : State) (ctx : Nat) (t : Nat × Nat × Nat) : State × Option Nat :=
  let (node, stream, seq) := t
  let smax := s.get (F.SEQ_DUP_SMAX_S_MAX ctx)
  let seen := Tab.get s.pool.bitmap [] ctx
  let keep := fun (s : State) (m : Nat) (l : List Nat) =>
    State.set { s with pool := { s.pool with bitmap := NTab.set s.pool.bitmap [] ctx l } } (F.SEQ_DUP_SMAX_S_MAX ctx) m
  let d := signed 32 (seq + 2 ^ 32 - smax)
  if s.get (F.SEQ_DUP_CFG_ENABLE ctx) = 0 then (s, some 0x26)
  else if stream ≠ s.get (F.SEQ_DUP_CFG_STREAM ctx) ∨
      (node ≠ s.get (F.SEQ_DUP_NODES_NODE_A ctx) ∧ node ≠ s.get (F.SEQ_DUP_NODES_NODE_B ctx)) then (s, some 0x23)
  else if s.get (F.SEQ_DUP_STATUS_SEEN ctx) = 0 then
    ((keep s seq [seq]).set (F.SEQ_DUP_STATUS_SEEN ctx) 1, none)
  else if 1 ≤ d then
    (keep s seq (seq :: seen.filter (fun x => decide (-65536 < signed 32 (x + 2 ^ 32 - seq)))), none)
  else if d ≤ -65536 then (s, some 0x25)
  else if seq ∈ seen then (s, some 0x24)
  else (keep s smax (seq :: seen), none)

/-- The SC counter of a code of R183. -/
def dupCounter (code : Nat) : ScCnt :=
  if code = 0x26 then .dupCtxOff else if code = 0x23 then .twinTagBad else if code = 0x24 then .duplicate else .twinLate

/-! ### Patches (R178 to R181) -/

/-- A patch: its offset in the plaintext frame, and its new bytes. -/
structure Patch where
  off : Nat
  new : Bytes
deriving DecidableEq, Repr

/-- The ones-complement sum of 16-bit words, 0 only for a sum of nothing. -/
def fold16 (t : Nat) : Nat := if t = 0 then 0 else (t - 1) % 65535 + 1

/-- The UDP checksum at `off` of a frame, updated for patches (RFC 1624, R178). -/
def csumPatch (pt : Bytes) (off : Nat) (ps : List Patch) : Patch :=
  let hc := beAt pt off 2
  let weigh := fun (p : Nat) (b : Nat) => if (p + off) % 2 = 0 then b * 256 else b
  let change := (ps.flatMap (fun p => (List.range p.new.length).map (fun i =>
    (65535 - weigh (p.off + i) (beAt pt (p.off + i) 1)) + weigh (p.off + i) (((p.new[i]?).getD 0).toNat)))).sum
  let n := 65535 - fold16 (65535 - hc + change)
  ⟨off, if hc = 0 then beBytes 2 0 else beBytes 2 (if n = 0 then 0xFFFF else n)⟩

/-- correctionField at `off` with X added, X in quarter nanoseconds (R178). -/
def corrPatch (pt : Bytes) (off : Nat) (x : Int) : Patch :=
  ⟨off, beBytes 8 (((beAt pt off 8 : Int) + x * 16384) % 2 ^ 64).toNat⟩

/-- The patches of a generated message (R178, R296); none where one of them would lie beyond byte 256. -/
def ptpPatches (r : PtpRequest) (pt : Bytes) (td : Nat) : Option (List Patch) :=
  let ref := (r.ref.sec * 1000000000 + r.ref.ns) * 4 + r.ref.qns
  let ends := (if r.tsOrigin then [r.tsOff + 10] else []) ++ (if r.corrAdd then [r.corrOff + 8] else []) ++
    (if r.udpCsum then [r.csumOff + 2] else [])
  if ends.any (fun e => decide (256 < e)) then none
  else
    let t := stampOf td
    let a := (if r.tsOrigin then [⟨r.tsOff, beBytes 6 t.sec ++ beBytes 4 t.ns⟩] else []) ++
      (if r.corrAdd then [corrPatch pt r.corrOff (if r.corrRef then (td : Int) - ref else (td % 4 : Nat))] else [])
    some (if r.udpCsum then a ++ [csumPatch pt r.csumOff a] else a)

/-- A PTP event message in a plaintext frame (R178): its message type, the offset of its header, and the offset of
its UDP checksum. -/
def ptpFind (pt : Bytes) : Option (Nat × Nat × Option Nat) :=
  let o := 12 + 4 * clearTags pt 2 12
  let et := beAt pt o 2
  let hit := fun (p : Nat) (c : Option Nat) =>
    let ty := beAt pt p 1 % 16
    if ty < 4 ∧ p < pt.length then some (ty, p, c) else none
  if et = 0x88F7 then hit (o + 2) none
  else if et = 0x0800 ∧ beAt pt (o + 2) 1 = 0x45 ∧ beAt pt (o + 11) 1 = 17 ∧ beAt pt (o + 24) 2 = 319 then
    hit (o + 30) (some (o + 28))
  else if et = 0x86DD ∧ beAt pt (o + 8) 1 = 17 ∧ beAt pt (o + 44) 2 = 319 then hit (o + 50) (some (o + 48))
  else none

/-- The transparent-clock patches of a forwarded frame (R178, R299): `shift` is the length of the SecTAG in the
frame at the engine input; `none` where a field would end beyond byte 256. -/
def State.tcPatches (s : State) (f : Frame) (pt : Bytes) (shift td : Nat) : Option (List Patch) :=
  match ptpFind pt with
  | none => some []
  | some (ty, p, c) =>
    let link := if ty = 0 ∧ s.get (F.TIM_CH_CFG_P2P f.inCh) = 1 then s.get (F.TIM_CH_LINK_DLY_MEAN_LINK_DELAY f.inCh) else 0
    if 256 < p + 16 + shift then none
    else
      let a := [corrPatch pt (p + 8) ((td : Int) - f.tIn + link)]
      some (match c with
        | some o => if beAt pt o 2 = 0 then a else a ++ [csumPatch pt o a]
        | none => a)

/-- The byte differences of patches (R179): plaintext offset and Δ. -/
def deltas (pt : Bytes) (ps : List Patch) : List (Nat × Byte) :=
  ps.flatMap (fun p => (List.range p.new.length).map (fun i =>
    (p.off + i, ((pt[p.off + i]?).getD 0) ^^^ ((p.new[i]?).getD 0))))

/-- Where a plaintext byte of a sealed frame stands: its offset in the sealed frame, and its GHASH block from 1 with
its place there, if it is authenticated (R180). -/
def sealedPlace (i : SealInfo) (p : Nat) : Nat × Option (Nat × Nat) :=
  let h := 12 + i.tags
  let u := ceilDiv i.aad 16
  if p < 12 then (p, some (p / 16 + 1, p % 16))
  else if p < h then (p, if i.tagAuth then some (p / 16 + 1, p % 16) else none)
  else
    let q := p - h
    if q < i.clear then
      let a := i.aad - i.clear + q
      (p + 16, some (a / 16 + 1, a % 16))
    else (p + 16, some (u + (q - i.clear) / 16 + 1, (q - i.clear) % 16))

/-- The block of differences D_j (R180). -/
def dBlock (i : SealInfo) (ds : List (Nat × Byte)) (j : Nat) : Block :=
  ds.foldl (fun b d => match (sealedPlace i d.1).2 with
    | some (k, pos) => if k = j then b ^^^ (BitVec.ofNat 128 d.2.toNat <<< (8 * (15 - pos))) else b
    | none => b) 0

/-- The change of the tag (R181). -/
def tagDelta (i : SealInfo) (ds : List (Nat × Byte)) : Block :=
  let n := ceilDiv i.aad 16 + ceilDiv i.ct 16
  gfMul ((List.range n).foldl (fun a j => gfMul (a ^^^ dBlock i ds (j + 1)) i.hash) 0) i.hash

/-- A byte of a string changed by a difference. -/
def xorAt (bs : Bytes) (p : Nat) (d : Byte) : Bytes := bs.modify p (· ^^^ d)

/-- Patches applied to a sealed frame without its FCS (R179, R181). -/
def patchSealed (i : SealInfo) (out : Bytes) (ds : List (Nat × Byte)) : Bytes :=
  let o := ds.foldl (fun b d => xorAt b (sealedPlace i d.1).1 d.2) out
  o.take (o.length - 16) ++ xorBytes (o.drop (o.length - 16)) (blockBytes (tagDelta i ds))

/-- Patches applied to a frame that leaves as plaintext. -/
def patchPlain (out : Bytes) (ps : List Patch) : Bytes := ps.foldl (fun b p => splice b p.off p.new) out

end Sys2Proof.Machine
end

