-- ==== Sys2Proof/Machine/Pool.lean ====
section
/-! DEFINITION. The Drum engine pool: engine choice, dispatch, fencing, recall and gating (R186 to R192, R199 to R209,
R224 to R229). -/

namespace Sys2Proof.Machine
open Sys2Proof

def State.setPool (s : State) (p : Pool) : State := { s with pool := p }

/-! ### Engines (R190, R191, R204) -/

/-- The state of an engine (R209): 1 IN_SERVICE, 2 GATED, 3 FENCED, 4 TESTING, 5 FAILED. -/
def State.engState (s : State) (e : Nat) : Nat := s.get (F.DRM_ENG_STATUS_STATE e)

/-- Engines that count as in service: IN_SERVICE or GATED, and powered (R209, R402). -/
def State.inService (s : State) : List Nat :=
  (List.range 16).filter (fun e => decide (s.engState e = 1 ∨ s.engState e = 2) && !s.unitOff e)

/-- Engines that run. -/
def State.ungated (s : State) : List Nat := (List.range 16).filter (fun e => s.engState e = 1 && !s.unitOff e)

/-- RESERVED_ENGINES and RESERVED_CLASSES in force. -/
def State.reservePlan (s : State) : Nat × Nat :=
  match s.pel.active with
  | some g => imgReserved g
  | none => (0, 0)

/-- The engines reserved now: the highest-numbered in service, leaving one unreserved (R191). -/
def State.reserved (s : State) : List Nat :=
  let l := s.inService
  l.drop (l.length - min s.reservePlan.1 (l.length - 1))

/-! ### The engine pipeline, the delay line and the completion FIFO (R186, R193, R197) -/

/-- The chunks of a frame (R193). -/
def Slot.chunks (t : Slot) : Nat := max 1 (ceilDiv t.out.length 128)

/-- The datapath cycles of 10/11 ns (R35) up to an instant in quarter ns. -/
def cyclesAt (qns : Nat) : Nat := qns * 11 / 40

/-- The cycles at which the uncommitted chunks of an engine's frames enter its pipeline: a chunk a cycle, frame after frame in
dispatch order (R195); each with whether it is its frame's last. `free` is the first cycle at which the engine can start. -/
def chunkEntries (free : Nat) : List Slot → List (Nat × Bool)
  | [] => []
  | t :: l =>
    let start := max free (cyclesAt t.at')
    ((List.range t.chunks).drop t.committed).map (fun i => (start + i, decide (i + 1 = t.chunks))) ++
      chunkEntries (start + t.chunks) l

/-- The uncommitted chunks of an engine. -/
def State.engChunks (s : State) (e : Nat) : List (Nat × Bool) :=
  chunkEntries 0 (s.pool.slots.filter (fun t => t.engine = some e))

/-- The chunks in an engine's completion FIFO: those 110 cycles or more after their entry, up to 64 (R186, R193). -/
def State.fifoDepth (s : State) (e : Nat) : Nat :=
  min 64 ((s.engChunks e).filter (fun c => decide (c.1 + 110 ≤ cyclesAt s.nowQns))).length

/-- A full FIFO stops the engine's delay line and the engine (R197). -/
def State.stalled (s : State) (e : Nat) : Bool := s.fifoDepth e = 64

/-- The chunks that have left an engine's pipeline: those 40 cycles or more after their entry, as far as FIFO and delay line have
room for them (R186). DESIGN CHOICE (assumption 46): a stall holds chunks where they stand, and its cycles are not added to
the times of those behind. -/
def State.engLeft (s : State) (e : Nat) : Nat :=
  min 134 ((s.engChunks e).filter (fun c => decide (c.1 + 40 ≤ cyclesAt s.nowQns))).length

/-- The frames that an engine holds: those whose last chunk is still in its pipeline. The bypass lane (16) holds its frames until
they leave it. -/
def State.engFrames (s : State) (e : Nat) : Nat :=
  if e = 16 then s.bypassFrames else (((s.engChunks e).drop (s.engLeft e)).filter (fun c => c.2)).length

/-- Cycles pass: those of each stalled engine are counted (R197, R423). -/
def State.stallCycles (s : State) (n : Nat) : State :=
  ((List.range 16).filter s.stalled).foldl (fun s e =>
    State.prog (s.bump (F.SEQ_PORT_STALL_CYCLES e) 32 n) (.stall e n)) s

/-- One tick of the 500 MHz time clock (R282): the time unit's, with the cycles of stalled engines. -/
def State.tick (s : State) : State :=
  if s.pool.slots.isEmpty then s.timeTick
  else
    let t := s.timeTick
    t.stallCycles (cyclesAt t.nowQns - cyclesAt s.nowQns)

/-- The least loaded of a list of engines, the lowest number on a tie. -/
def State.leastLoaded (s : State) (l : List Nat) : Option Nat :=
  l.foldl (fun b e => match b with
    | some x => if s.engFrames e < s.engFrames x then some e else b
    | none => some e) none

/-- The engine that takes a frame of a class (R190). -/
def State.chooseEngine (s : State) (cls : Nat) : Option Nat :=
  let ok := s.ungated.filter (fun e => decide (s.engFrames e < 48) && !s.stalled e)
  let res := ok.filter (fun e => decide (e ∈ s.reserved))
  let free := ok.filter (fun e => decide (e ∉ s.reserved))
  if s.reservePlan.2.testBit cls then
    match s.leastLoaded res with
    | some e => some e
    | none => s.leastLoaded free
  else s.leastLoaded free

/-- A frame enters an engine's key cache: its SA becomes the latest used of 64 (R187). -/
def State.cacheKey (s : State) (e a : Nat) : State :=
  s.setPool { s.pool with keys := NTab.set s.pool.keys [] e ((a :: (Tab.get s.pool.keys [] e).filter (· ≠ a)).take 64) }

/-- What changes when the engines in service change: RESERVE_SHORT and POOL_EMPTY (R191, R204). -/
def State.serviceChanged (s : State) : State :=
  let s := if s.inService.length < s.reservePlan.1 + 1 ∧ s.reservePlan.1 ≠ 0 then s.post F.DRM_EVENT_EVENTS 4 else s
  if s.inService.isEmpty then s.post F.DRM_EVENT_EVENTS 3 else s

/-- What a Strike that changes the engines in service or the reservation brings: `was` is the state before it (R191). -/
def State.poolStrike (s was : State) : State :=
  if s.inService = was.inService ∧ s.reservePlan = was.reservePlan then s else s.serviceChanged

/-! ### Slots and DSNs (R189, R192, R193) -/

/-- The bytes of a channel dispatched and not committed (R192). -/
def State.inflight (s : State) (ch : Nat) : Nat :=
  ((s.pool.slots.filter (fun t => t.ch = ch && t.engine.isSome)).map (fun t => t.out.length + 4 - 128 * t.committed)).sum

/-- The in-flight limit of a channel lets another frame go (R192). -/
def State.inflightOpen (s : State) (ch : Nat) : Bool :=
  decide (s.inflight ch < s.rateGb ch * s.get F.SEQ_CFG_INFLIGHT_NS / 8)

/-- A slot replaced, found by its channel and DSN. -/
def State.setSlot' (s : State) (t : Slot) : State :=
  s.setPool { s.pool with slots := s.pool.slots.map (fun x => if x.ch = t.ch ∧ x.dsn = t.dsn then t else x) }

/-- A slot freed. -/
def State.freeSlot (s : State) (t : Slot) : State :=
  s.setPool { s.pool with slots := s.pool.slots.filter (fun x => !(x.ch = t.ch && x.dsn = t.dsn)) }

/-- The commit pointer of a channel (R193). -/
def State.commitDsn (s : State) (ch : Nat) : Nat := s.get (F.SEQ_CH_DSN_COMMIT_DSN ch)

/-- The commit pointer moves past frames dropped after a recall. The first argument bounds them. -/
def State.skipDropped : Nat → State → Nat → State
  | 0, s, _ => s
  | fuel + 1, s, ch =>
    match s.pool.slots.find? (fun t => t.ch = ch && t.dropped && t.dsn = s.commitDsn ch) with
    | some t => State.skipDropped fuel ((s.freeSlot t).set (F.SEQ_CH_DSN_COMMIT_DSN ch) ((s.commitDsn ch + 1) % 65536)) ch
    | none => s

/-- A frame leaves the resequencer, sent or dropped: its slot and cells are free and the commit pointer advances. -/
def State.slotDone (s : State) (t : Slot) : State :=
  let s := (s.freeSlot t).set (F.SEQ_CH_DSN_COMMIT_DSN t.ch) ((s.commitDsn t.ch + 1) % 65536)
  (State.skipDropped s.pool.slots.length s t.ch).pauseSync t.frame.inCh

/-! ### Dispatch (R189, R224 to R229) -/

/-- What dispatch makes of a frame before an engine is chosen: it waits, is dropped with a code and its SC's counter,
or goes. -/
inductive DispatchFate where
  | wait (s : State)
  | drop (s : State) (code : Nat) (cnt : ScCnt)
  | go (s : State)

/-- An SA waits for its block (R224): each attempt counts, and the wait is posted once. -/
def State.blockWait (s : State) (a : Nat) : State :=
  let s := s.saCount a 5
  if a ∈ s.sam.pnWait then s
  else State.saEvent { s with sam := { s.sam with pnWait := s.sam.pnWait ++ [a] } } 6 a

/-- The transmit SA of a frame at dispatch: rolls that are due, the SC's checks, exhaustion and the block (R224, R226,
R229, R232). -/
def State.txGate (s : State) (k : Nat) : DispatchFate :=
  let s := if s.rollDue k then s.rollFire k else s
  let c := s.sc k
  if !c.created || !c.enable then .drop s 0x32 .scDisabled
  else match c.current with
    | none => .drop s 0x35 .txNoSa
    | some a =>
      let s := s.topUp a
      let e := s.sa a
      if s.saState a = .orphaned then .drop s 0x36 .orphanDrop
      else if e.exhausted || decide (suiteMax e.suite < e.nextPn) then
        (if c.rollMode ≠ 0 then .wait (s.rollFire k) else .drop s 0x37 .pnExhausted)
      else if e.blockEnd < e.nextPn then .wait (s.blockWait a)
      else .go s

/-- The frame's twin side lets it go (R313, R319): bulk with its permission; stream frames from an ACTIVE or HANDING
twin, and copies received from the peer. -/
def State.twinLets (s : State) (f : Frame) : Bool :=
  s.twin?.isNone || !s.twinFrame f ||
    (if s.bulk f then s.bulkPermitted else s.twinIn .active || s.twinIn .handing || f.dual.isSome)

/-- The SA assigns its next PN (R224 to R226): the threshold, a roll by PN, exhaustion, and the next block. -/
def State.takePn (s : State) (k a : Nat) : Nat × State :=
  let e := s.sa a
  let pn := e.nextPn
  let excess := decide (e.threshold ≠ 0) && decide (e.threshold ≤ pn)
  let full := decide (pn = suiteMax e.suite)
  let s := s.setSa a { e with nextPn := pn + 1, posted := e.posted || excess, exhausted := full }
  let s := { s with sam := { s.sam with pnWait := s.sam.pnWait.filter (· ≠ a) } }
  let s := if excess && !e.posted then s.saEvent 0 a else s
  let s := if full then s.saEvent 1 a else s
  let mode := (s.sc k).rollMode
  let s := if excess && decide (mode = 1 ∨ mode = 3) then s.rollFire k else s
  (pn, s.topUp a)

/-- The place of a stream in the TWIN section, the index of its registers (R326). -/
def State.streamIndex (s : State) (id : Nat) : Nat :=
  match s.twin? with
  | some t => (t.streams.findIdx? (fun x => x.id = id)).getD 0
  | none => 0

/-- A DUAL copy queued on the Twin link (R319); it takes no cells of its own, but refers to those of the frame. -/
def State.dualCopy (s : State) (k : Nat) (st : TwinStream) (seq : Nat) (f : Frame) : State :=
  if (s.queue 1551).length < 256 then
    s.setQueue 1551 (s.queue 1551 ++ [{ f with
      queue := 1551, cellsMin := 0, cellsShared := 0, cellsProg := 0, cellsHead := 0, host := none
      dual := some (st.id, seq, f.tIn) }])
  else (s.scCount k .dualDrop).post F.TWN_EVENT_EVENTS 11

/-- The Twin tag of a frame of a TWIN_TAGGED SC (R189 step 3, R318, R319): its sequence, its bytes, and a DUAL copy from
an ACTIVE twin. A recalled frame keeps its sequence. An SC that no stream names takes stream 0 and a free sequence. -/
def State.twinTag (s : State) (k : Nat) (f : Frame) (kept : Option Nat) : State × Option Nat × Bytes :=
  if !(s.sc k).twinTagged then (s, none, [])
  else match s.streamOfSc k with
    | some st =>
      let i := s.streamIndex st.id
      match kept, f.dual with
      | some q, _ => (s, some q, twinTagBytes s.ownNode st.id q)
      | none, some (_, q, _) => (s.set (F.TWN_STR_LAST_LAST_SEQ i) q, some q, twinTagBytes s.ownNode st.id q)
      | none, none =>
        let q := s.get (F.TWN_STR_SEQ_NEXT_SEQ i)
        let s := s.set (F.TWN_STR_SEQ_NEXT_SEQ i) ((q + 1) % 2 ^ 32)
        let s := if f.cls = 7 ∧ s.twinIn .active then s.dualCopy k st q f else s
        (s, some q, twinTagBytes s.ownNode st.id q)
    | none =>
      match kept with
      | some q => (s, some q, twinTagBytes s.ownNode 0 q)
      | none =>
        let q := s.draw 32
        (s.drew, some q, twinTagBytes s.ownNode 0 q)

/-- The engine's work on a frame at dispatch: sealed, opened, or as it is. `t` holds the slot's DSN and what it keeps
of an earlier dispatch. -/
def State.process (s : State) (t : Slot) (e : Nat) : State × Slot :=
  let f := t.frame
  let t := { t with engine := some e, at' := s.nowQns, mtu := s.mtu t.ch, committed := 0, verified := s.verifiedSf f }
  match f.secTag, f.sc, f.action with
  | some tag, some k, .protect =>
    let a := f.sa.getD 0
    let (out, o) := openFrame (s.sc k) k a (s.sa a) tag f.bytes
    (s.cacheKey e a, { t with sa := some a, pn := o.pn, out := out, opened := some o })
  | none, some k, .protect =>
    let a := (s.sc k).current.getD 0
    let c := s.sc k
    let sa := s.sa a
    let (s, seq, tag) := s.twinTag k f t.seq
    let (pn, s) := s.takePn k a
    let (out, i) := sealFrame c sa pn tag f.bytes
    ((s.toDie a).cacheKey e a, { t with sa := some a, pn := pn, out := out, sealed := some i, seq := seq })
  | _, _, _ => (s, { t with out := f.bytes })

/-- A frame cannot go yet: it returns to the head of its queue, and its part of H_c is withdrawn: H_c is what it was before the
frame was selected (R259). -/
def State.holdBack (s : State) (q : Nat) (f : Frame) : State :=
  let s := s.setBuf { s.buf with
    ready := s.buf.ready.filter (· ≠ q)
    sending := s.buf.sending.filter (fun e => e.2.elim true (fun x => decide (x.queue ≠ q))) }
  match s.queue q with
  | _ :: rest => (s.setQueue q ({ f with td := 0, before := 0 } :: rest)).setHorizon f.outCh f.before
  | [] => s

/-- The checks of a frame before its engine, by its action. -/
def State.frameGate (s : State) (f : Frame) : DispatchFate :=
  if !s.twinLets f then .wait s
  else match f.action, f.sc, f.secTag with
    | .protect, some _, some _ =>
      if s.saState (f.sa.getD 0) = .orphaned then .drop s 0x36 .orphanDrop else .go s
    | .protect, some k, none => s.txGate k
    | _, _, _ => .go s

/-- The engine or bypass lane that takes a frame now. -/
def State.laneFor (s : State) (f : Frame) : Option Nat :=
  if f.action = .protect then s.chooseEngine f.cls else if s.engFrames 16 < 256 then some 16 else none

/-- The counts of a first dispatch: the queue's, the shapers' debits and the credit (R260, R262, R422). -/
def State.dispatched (s : State) (f : Frame) : State :=
  let q := f.queue
  let n := s.acctLen f
  let s := ((s.qCount q .deqFrames).qCount q .deqOctets f.len).debit q n
  let s := if q % 8 < 6 ∧ s.get (F.SCH_CH_CFG_MODE f.outCh) = 1 then
      s.setSch { s.sch with credit := NTab.set s.sch.credit 0 q (Tab.get s.sch.credit 0 q - n) } else s
  s.sampleNote f.id (fun r => { r with waitNs := (s.nowQns - f.queuedAt) / 4 })

/-- What the sampler notes of a dispatch. -/
def State.noteDispatch (s : State) (t : Slot) : State :=
  let s := s.prog (.engine (t.engine.getD 255))
  s.sampleNote t.frame.id (fun r => { r with
    cutThrough := t.frame.ct.getD false, dsn := t.dsn
    engine := t.engine.getD 255, recalled := t.recalled })

/-- The head of a matched queue dispatched. -/
def State.dispatchHead (s : State) (q : Nat) (f : Frame) : State :=
  match s.frameGate f with
  | .wait s => s.holdBack q f
  | .drop s code cnt =>
    let s := (s.holdBack q f).popQueue q
    ((s.scCount (f.sc.getD 0) cnt).discarded f f.outCh code code).pauseSync f.inCh
  | .go s =>
    if !s.inflightOpen f.outCh then s.holdBack q f
    else match s.laneFor f with
      | none => (if s.inService.isEmpty then s.post F.DRM_EVENT_EVENTS 3 else s).holdBack q f
      | some e =>
        let s := (s.dispatched f).popQueue q
        let s := s.setBuf { s.buf with ready := s.buf.ready.filter (· ≠ q) }
        let dsn := s.get (F.SEQ_CH_DSN_NEXT_DSN f.outCh)
        let s := s.set (F.SEQ_CH_DSN_NEXT_DSN f.outCh) ((dsn + 1) % 65536)
        let (s, t) := s.process { frame := f, ch := f.outCh, dsn := dsn, engine := none } e
        (s.setPool { s.pool with slots := s.pool.slots ++ [t] }).noteDispatch t

/-- The recalled frame of a channel that goes next: that of the lowest DSN (R202). -/
def State.recalledOf (s : State) (ch : Nat) : Option Slot :=
  let d := fun (t : Slot) => (t.dsn + 65536 - s.commitDsn ch) % 65536
  (s.pool.slots.filter (fun t => t.ch = ch && t.engine.isNone && !t.dropped)).foldl (fun b t => match b with
    | some x => if d t < d x then some t else b
    | none => some t) none

/-- A recalled frame dispatched again with its DSN, its cells and its Twin tag sequence and a fresh PN (R202). -/
def State.redispatch (s : State) (t : Slot) : State :=
  let f := t.frame
  match s.frameGate f with
  | .wait s => s
  | .drop s code cnt =>
    let s := (s.setSlot' { t with dropped := true }).scCount (f.sc.getD 0) cnt
    State.skipDropped s.pool.slots.length ((s.discarded f f.outCh code code).pauseSync f.inCh) f.outCh
  | .go s =>
    match s.laneFor f with
    | none => if s.inService.isEmpty then s.post F.DRM_EVENT_EVENTS 3 else s
    | some e =>
      let (s, t') := s.process t e
      ((s.freeSlot t).setPool { (s.freeSlot t).pool with slots := (s.freeSlot t).pool.slots ++ [t'] }).noteDispatch t'

/-- DISPATCH of queue `q`: nothing under a traffic hold (R383); a recalled frame of its channel first, else the
matched head of the queue. -/
def State.dispatch (s : State) (q : Nat) : State :=
  if s.get F.TMP_STATUS_HOLD = 1 ∨ 1536 ≤ q then s
  else match s.recalledOf (q / 8) with
    | some t => s.redispatch t
    | none =>
      match s.queue q with
      | f :: _ => if q ∈ s.buf.ready then s.dispatchHead q f else s
      | [] => s

def execDispatch (q : Nat) (s : State) : Host.Outcome State Fault Refusal := .next (s.dispatch q)

/-! ### Gating (R207, R208) -/

/-- U of R207 in Gb/s: the rates of the channels that are up, each direction not in LPI. -/
def State.loadGb (s : State) : Nat :=
  (s.channels.map (fun c => if s.linkUp c then
    s.rateGb c * ((if s.get (F.PRT_EP_STATUS_LPI_TX c) = 1 then 0 else 1) +
      (if s.get (F.PRT_EP_STATUS_LPI_RX c) = 1 then 0 else 1)) else 0)).sum

/-- N of R207. -/
def State.ungatedTarget (s : State) : Nat :=
  min s.inService.length
    (if s.pwr.state = .doze then max (s.get F.DRM_POOL_CFG_DOZE_MIN) (s.reservePlan.1 + ceilDiv s.loadGb 640)
     else s.inService.length)

/-- Engines ungated at once, in ascending number, until N run (R207). -/
def State.ungate (s : State) : State :=
  (((List.range 16).filter (fun e => s.engState e = 2)).take (s.ungatedTarget - s.ungated.length)).foldl
    (fun s e => s.set (F.DRM_ENG_STATUS_STATE e) 1) s

/-! ### Fencing and recall (R199 to R205) -/

/-- The causes of R177 of a frame whose tail has come, each with the bytes sent before its FCS and its counter, in the order
of the rows. `dup` is the code of the duplicate check. MTU is the egress channel's at the frame's dispatch: a write in mid-frame
governs the next frame (R76). DESIGN CHOICE (assumption 106): a frame begins, for the egress MTU, with its dispatch. -/
def Slot.stomps (t : Slot) (dup : Nat) : List (Nat × ChCnt) :=
  let full := t.out.length
  let f := t.frame
  let bad := match t.opened with
    | some o => !o.valid
    | none => false
  (if f.fcsOk then [] else [(full, .stompRxFcs)]) ++ (if f.fecOk then [] else [(full, .stompRxFec)]) ++
    (if f.truncated then [(if t.sealed.isSome then f.bytes.length + 16 else full, .stompRxOversize)] else []) ++
    (if t.mtu < full + 4 then [(t.mtu - 4, .stompTxOversize)] else []) ++
    (if bad then [(full, .stompIcv)] else []) ++ (if dup = 0 then [] else [(full, .stompDup)])

/-- The earliest cut, the first of equals (R177). -/
def earliest : List (Nat × ChCnt) → Option (Nat × ChCnt)
  | [] => none
  | x :: r => match earliest r with
    | some y => if y.1 < x.1 then some y else some x
    | none => some x

/-- The bytes of a stomped frame (R176): cut, and on an encrypted output the part of the ICV that it reaches complemented. -/
def stompBytes (t : Slot) (cut : Nat) : Bytes :=
  let bs := t.out.take cut
  if t.sealed.isSome then bs.take (t.out.length - 16) ++ (bs.drop (t.out.length - 16)).map (fun b => ~~~b) else bs

/-- The stomp counter of a cause; a frame cut at the egress MTU is counted as TX_OVERSIZE as well (R69, R177). -/
def State.stompCount (s : State) (ch : Nat) (c : ChCnt) : State :=
  let s := s.chCount ch c
  if c = .stompTxOversize then s.chCount ch .txOversize else s

/-- A frame whose head was committed ends at its last committed byte with the stomp of R176, or at an earlier cut of R177 (R203). -/
def State.stompRecalled (s : State) (t : Slot) : State :=
  match earliest (t.stomps 0 ++ [(128 * t.committed, .stompEngine)]) with
  | some (cut, c) => (s.stompCount t.ch c).emit (.frame t.ch (stompBytes t cut) true t.frame.td)
  | none => s

/-- A frame recalled (R201 to R203): one whose head was committed is stomped first; the PN it held stays consumed. -/
def State.recallSlot (s : State) (t : Slot) : State :=
  let s := if 0 < t.committed then s.stompRecalled t else s
  let s := match t.sealed, t.sa with
    | some _, some a => s.saCount a 4
    | _, _ => s
  (s.setSlot' { t with engine := none, out := [], sealed := none, opened := none, committed := 0, recalled := true }).bump
    (F.SEQ_CH_RECALL_FRAMES t.ch) 32 1

/-- The distance of a slot's DSN from its channel's commit pointer (R196). -/
def State.dsnAhead (s : State) (t : Slot) : Nat := (t.dsn + 65536 - s.commitDsn t.ch) % 65536

/-- The recall of R201: of every channel with a frame in the engine, each uncommitted frame from the lowest such DSN
on. -/
def State.recall (s : State) (e : Nat) : State :=
  let hit := s.pool.slots.filter (fun t => t.engine = some e)
  let covered := s.pool.slots.filter (fun t => t.engine.isSome &&
    hit.any (fun h => h.ch = t.ch && decide (s.dsnAhead h ≤ s.dsnAhead t)))
  covered.foldl State.recallSlot s

/-- DRM_ENG_FAULT.CAUSE (R209). -/
def EngineCause.code' : EngineCause → Nat
  | .parity => 1
  | .tag => 2
  | .len => 3
  | .keyEcc => 4
  | .timeout => 5
  | .keyEccCorrected => 0

/-- An engine is fenced: key slots zeroized, ENGINE_FENCED posted and logged, and its frames recalled (R200). -/
def State.fenceEngine (s : State) (e cause : Nat) : State :=
  let s := s.sets [(F.DRM_ENG_STATUS_STATE e, 3), (F.DRM_ENG_FAULT_CAUSE e, cause), (F.DRM_ENG_FAULT_NS_NS e, s.now32)]
  let s := s.bump (F.DRM_ENG_FAULT_FENCES e) 16 1
  let s := s.setPool { s.pool with keys := NTab.set s.pool.keys [] e [] }
  let s := (s.post F.DRM_EVENT_EVENTS 0).logFault 0x20 e
  ((s.recall e).serviceChanged).ungate

/-- A check unit finds a fault, or a single-bit error of a key slot that it corrects and counts (R199); only an engine that runs
can raise one. -/
def execEngineFault (e : Nat) (cause : EngineCause) (s : State) : Host.Outcome State Fault Refusal :=
  .next (if s.engState e = 1 then
      (if cause = .keyEccCorrected then s.bump (F.DRM_ENG_ECC_CORRECTED e) 32 1 else s.fenceEngine e (EngineCause.code' cause))
    else s)

/-- A completion shown in DRM_CMD_RESULT; BUSY leaves RUNNING as it is. -/
def State.completeDrm (s : State) (op e : Nat) (st : Status) : State :=
  s.sets [(F.DRM_CMD_RESULT_STATUS, st.code), (F.DRM_CMD_RESULT_OP, op), (F.DRM_CMD_RESULT_ENGINE, e)]

/-- FENCE (R204). -/
def State.fenceCmd (s : State) (who e : Nat) : State :=
  if isVf who then s.ignored who F.DRM_STATUS_WRITE_IGNORED
  else
    let st := firstStatus [(decide (enginesPresent s.fus.variant ≤ e), .absent),
      (decide (s.engState e ≠ 1) || decide (s.ungated.length ≤ 1), .stateConflict), (s.pool.testing.isSome, .busy)]
    let s := s.completeDrm 1 e st
    if st = .ok then s.fenceEngine e 6 else s

def execFence (who e : Nat) (s : State) : Host.Outcome State Fault Refusal := .next (s.fenceCmd who e)

/-- RESTORE (R204): known-answer tests begin. -/
def State.restoreCmd (s : State) (who e : Nat) : State :=
  if isVf who then s.ignored who F.DRM_STATUS_WRITE_IGNORED
  else
    let st := firstStatus [(decide (enginesPresent s.fus.variant ≤ e), .absent),
      (decide (s.engState e ≠ 3), .stateConflict), (s.pool.testing.isSome, .busy)]
    if st = .ok then
      (s.sets [(F.DRM_ENG_STATUS_STATE e, 4), (F.DRM_CMD_RESULT_RUNNING, 1)]).setPool { s.pool with testing := some e }
    else s.completeDrm 2 e st

def execRestore (who e : Nat) (s : State) : Host.Outcome State Fault Refusal := .next (s.restoreCmd who e)

/-- The known-answer tests of a reset run: a data-plane reset is under way, or a device reset and its boot. -/
def State.resetTests (s : State) : Bool := s.pwr.dpReset || (s.pwr.state = .startUp && !s.pwr.booted)

/-- The tests of an engine end. RESTORE completes OK whatever they find; those of a reset leave a present engine IN_SERVICE or
FAILED (R204). -/
def execRestoreTestsDone (e : Nat) (pass : Bool) (s : State) : Host.Outcome State Fault Refusal :=
  .next (if s.pool.testing = some e then
      let s := s.setPool { s.pool with testing := none }
      let s := (s.set F.DRM_CMD_RESULT_RUNNING 0).completeDrm 2 e .ok
      if pass then (s.set (F.DRM_ENG_STATUS_STATE e) 1).post F.DRM_EVENT_EVENTS 1
      else (s.set (F.DRM_ENG_STATUS_STATE e) 5).post F.DRM_EVENT_EVENTS 2
    else if s.resetTests ∧ e < enginesPresent s.fus.variant then s.set (F.DRM_ENG_STATUS_STATE e) (if pass then 1 else 5)
    else s)

/-! ### Gating (R207, R208) -/

/-- ENGINE_GATE: in DOZE the highest-numbered unreserved engine is gated once it is idle and N is below the number
ungated (R187, R207). -/
def execEngineGate (e : Nat) (s : State) : Host.Outcome State Fault Refusal :=
  .next (if s.pwr.state = .doze ∧ (s.ungated.filter (fun x => decide (x ∉ s.reserved))).getLast? = some e ∧ s.engFrames e = 0 ∧
      s.ungatedTarget < s.ungated.length then
      State.set (s.setPool { s.pool with keys := NTab.set s.pool.keys [] e [] }) (F.DRM_ENG_STATUS_STATE e) 2
    else s)

end Sys2Proof.Machine
end

