-- ==== Sys2Proof/Machine/Commit.lean ====
section
/-! DEFINITION. The commit of frames to egress (R168 to R184, R194, R217): checks at the first chunk, patches, and what a
frame leaves behind when its last chunk goes, stomped or not. -/

namespace Sys2Proof.Machine
open Sys2Proof

/-- A frame in the resequencer or egress is lost with its link (R156); its PN stays consumed. -/
def State.linkLost (s : State) (t : Slot) : State :=
  ((s.chCount t.ch .txLinkLoss).quietDrop t.frame 0x44).slotDone t

/-- A frame is discarded whole at the resequencer. -/
def State.reseqDrop (s : State) (t : Slot) (code : Nat) : State :=
  (s.discarded t.frame t.ch code code).slotDone t

/-- The receive SAs that a newer one replaces (R217). -/
def State.replaced (s : State) (k a : Nat) : List Nat :=
  ((s.sc k).slots.filterMap id).filter (fun b =>
    decide (b ≠ a) && s.saState b = .active && decide ((s.sa b).actSeq < (s.sa a).actSeq))

/-- An SA accepts a frame (R168, R217): NEXT_RX_PN and the counters, and the first frame that an ACTIVE SA accepts
retires the older ones, as their mirror is told (R315), and posts RX_NEW_SA. -/
def State.rxAccept (s : State) (o : OpenInfo) (len : Nat) : State :=
  let e := s.sa o.sa
  let s := s.setSa o.sa { e with nextPn := max e.nextPn (o.pn + 1) }
  let s := (s.saCount o.sa 0).saCount o.sa 1 len
  let s := if s.saMirrored o.sa ∧ s.twinIn .active ∧ o.sa ∉ s.twn.rxChanged then
      s.setTwn { s.twn with rxChanged := s.twn.rxChanged ++ [o.sa] } else s
  if s.saState o.sa = .active ∧ !e.heard then
    let s := s.setSa o.sa { s.sa o.sa with heard := true }
    (State.saEvent ((s.replaced o.sc o.sa).foldl (fun s b => let m := s.saMirrored b; (s.retire b).mirrorSa m b) s) 4 o.sa)
  else s

/-- The learn event of a received frame whose ICV checks, REPLAY_LATE or not (R116). -/
def State.learnSound (s : State) (t : Slot) : State :=
  match t.frame.learn with
  | some ev => s.learnQueue ev
  | none => s

/-- A frame that passed validation: its learn event, its SA's acceptance and, for a Twin tag, the duplicate check. The code
of the duplicate check is answered, 0 if the frame is accepted. -/
def State.rxPass (s : State) (t : Slot) (o : OpenInfo) : State × Nat :=
  let s := (s.learnSound t).rxAccept o t.frame.len
  match o.twin with
  | some tw =>
    match s.dupCheck (s.sc o.sc).dupCtx tw with
    | (s, some c) => (s.scCount o.sc (dupCounter c), c)
    | (s, none) => (s, 0)
  | none => (s, 0)

/-- The patches of a frame that departs at `td` (R178, R182): those of a generated message, or of a transparent clock. -/
def State.patchesFor (s : State) (t : Slot) (td : Nat) : Option (List Patch) :=
  match t.frame.ptp with
  | some r => ptpPatches r t.frame.bytes td
  | none =>
    if s.get (F.SEQ_CH_PROT_TC_EN t.ch) = 1 then
      match t.opened with
      | some o => s.tcPatches t.frame t.out o.tagLen td
      | none => s.tcPatches t.frame t.frame.bytes 0 td
    else some []

/-- The head of a frame enters stage 10; a frame sent again after a stomp counts its patches once (R422). t_d is fixed, the patches are applied and the transmit stamp is taken (R178 to R182,
R257, R297). -/
def State.commitHead (s : State) (t : Slot) : State × Slot :=
  let td := max t.frame.td (s.nowQns + 4 * (s.lead t.ch - 140))
  let once := fun (c : ChCnt) => if t.headGone then s else s.chCount t.ch c
  let (s, out) := match s.patchesFor t td with
    | none => (once .patchSkip, t.out)
    | some [] => (s, t.out)
    | some ps => (once .patchApplied, match t.sealed with
      | some i => patchSealed i t.out (deltas t.frame.bytes ps)
      | none => patchPlain t.out ps)
  let s := match t.frame.ptp with
    | some r => if r.twoStep then s.txStamp ⟨r.tag, t.ch, stampOf td⟩ else s
    | none => s
  (s.sampleNote t.frame.id (fun r => { r with engineNs := (s.nowQns - t.at') / 4 }),
    { t with out := out, headGone := true, frame := { t.frame with td := td } })

/-- The counters of a transmit SA (R184). -/
def State.txSaCounts (s : State) (t : Slot) : State :=
  match t.sealed, t.sa with
  | some i, some a => ((s.saCount a 0).saCount a 1 (t.out.length + 4)).saCount a (if i.conf then 2 else 3)
  | _, _ => s

/-- The end of a frame on the wire, in quarter ns. -/
def State.wireEnd (s : State) (t : Slot) : Nat := t.frame.td + s.wireQns t.ch (t.out.length + 4)

/-- A frame fully committed is on the wire until its end. -/
def State.onWire (s : State) (t : Slot) : State :=
  { s with sch := { s.sch with
    wire := s.sch.wire.filter (fun w => decide (s.nowQns < w.fin)) ++ [⟨t.ch, t.frame.cls, s.wireEnd t⟩] } }

/-- The last chunk of a frame goes: the frame leaves the device, and its slot and cells are free. -/
def State.commitTail (s : State) (t : Slot) (dup : Nat) : State :=
  let f := t.frame
  let cause := earliest (t.stomps dup)
  let bs := match cause with
    | some (cut, _) => stompBytes t cut
    | none => t.out
  let s := match cause with
    | some (_, c) => s.stompCount t.ch c
    | none => s
  let s := ((s.emit (.frame t.ch bs cause.isSome f.td)).cliTx t.ch (bs.length + 4)).onWire { t with out := bs }
  let s := ((s.chCount t.ch .txFrames).chCount t.ch .txOctets (bs.length + 4)).txSaCounts t
  let s := s.prog (.txFrame t.ch f.cls (bs.length + 4))
  let s := s.prog (if f.ct.getD false then .cutThrough t.ch f.cls else .storeForward t.ch f.cls)
  let transit := (f.td - f.tIn) / 4
  let s := s.prog (.transit t.ch f.cls transit)
  let s := (s.sampleNote f.id (fun r => { r with transit := transit })).sampleEnd f.id 0
  let s := if cause.isSome then s.fate f.host .aborted 0x45 0 else s.fate f.host .ok 0 f.td
  s.slotDone t

/-- The last chunk of a frame whose head has gone: the verdicts that it waits for (R177). -/
def State.commitLast (s : State) (t : Slot) : State :=
  match t.opened with
  | some o =>
    if t.verified then s.commitTail t 0
    else if o.valid then
      let (s, dup) := s.rxPass t o
      s.commitTail t dup
    else (s.saCount o.sa 2).commitTail t 0
  | none => s.commitTail t 0

/-- The checks of a received frame before its head (R168, R172): the state, and whether the frame goes on. A frame recalled after
its head had gone has passed them. -/
def State.headChecks (s : State) (t : Slot) : State × Bool :=
  match t.opened with
  | some o =>
    if t.headGone then (s, true)
    else if t.verified ∧ !o.valid then ((s.saCount o.sa 2).reseqDrop t 0x21, false)
    else if s.replayLate o then (((if o.valid then s.learnSound t else s).saCount o.sa 3).reseqDrop t 0x22, false)
    else if t.verified then
      let (s, dup) := s.rxPass t o
      if dup = 0 then (s, true) else (s.reseqDrop t dup, false)
    else (s, true)
  | none => (s, true)

/-- One chunk of a slot whose turn it is. -/
def State.commitSlot (s : State) (t : Slot) : State :=
  if Tab.get s.prt.loss [] t.ch ≠ [] then s.linkLost t
  else
    let (s, t, go) : State × Slot × Bool :=
      if t.committed = 0 then
        match s.headChecks t with
        | (s, true) => let (s, t) := s.commitHead t; (s, t, true)
        | (s, false) => (s, t, false)
      else (s, t, true)
    if !go then s
    else if t.chunks ≤ t.committed + 1 then s.commitLast t
    else s.setSlot' { t with committed := t.committed + 1 }

/-- CHUNK_COMMIT of a port: the oldest frame of its engine, if it is next on its channel (R194, R195). -/
def State.chunkCommit (s : State) (p : Nat) : State :=
  match s.pool.slots.find? (fun t => t.engine = some p) with
  | some t => if t.dsn = s.commitDsn t.ch then s.commitSlot t else s
  | none => s

def execChunkCommit (port : Nat) (s : State) : Host.Outcome State Fault Refusal := .next (s.chunkCommit port)

end Sys2Proof.Machine
end

