-- ==== Sys2Proof/Machine/HostFrames.lean ====
section
/-! DEFINITION. Frames of the host and of the time unit: send descriptors (R333 to R335, R473), generated PTP messages
(R296), and the delivery of punted frames (R336, R337). -/

namespace Sys2Proof.Machine
open Sys2Proof

/-! ### Frames that enter at stage 5 (R107, R108, R333) -/

/-- A frame of input 16 or 17 that names its channel: it obeys R107 and R108 as though received on the other side of its
egress channel, and enters at stage 5. It has no ingress channel, so a drop counts on none. -/
def State.direct (s : State) (f : Frame) (sc : Option Nat) : State :=
  match f.action, sc with
  | .clear, _ =>
    if lineSide f.outCh ∧ s.get (F.CLS_CH_CFG_CLEAR_OK f.outCh) = 0 then s.stage4Drop f 4 (some .clearDenied) none
    else s.storeLook f
  | _, none => s.stage4Drop f 6 (some .noSc) none
  | _, some k =>
    if !s.txScOk k f.outCh then s.stage4Drop f 6 (some .noSc) none
    else if !(s.sc k).enable then s.stage4Drop { f with sc := some k } 0x32 none (some (k, .scDisabled))
    else s.storeLook { f with sc := some k }

/-- The SC that a descriptor or request names: 0xFFFF stands for the channel's default. -/
def State.namedSc (s : State) (sc ch : Nat) : Option Nat := if sc = 0xFFFF then s.defaultSc ch else some sc

/-! ### Send descriptors (R333, R334) -/

/-- A frame of a send ring (R333): the metadata of its SOF descriptor, its descriptor count, whether its chain ends with EOF, its
total length, which is that of its buffers, and its bytes. -/
structure SendFrame where
  descriptors : Nat
  eof : Bool
  ltValid : Bool
  parse : Bool
  cls : Nat
  action : Nat
  channel : Nat
  sc : Nat
  launch : Nat
  tag : Nat
  total : Nat
  bytes : Bytes
deriving DecidableEq, Repr

/-- A little-endian field of a descriptor. -/
def descField (d : Bytes) (off len : Nat) : Nat := leNat (slice d off len)

/-- LEN of a descriptor: 0 means 65,536. -/
def descLen (d : Bytes) : Nat := if descField d 8 2 = 0 then 65536 else descField d 8 2

/-- The frame that a chain of descriptors describes (R333); of its descriptors only the first gives metadata. -/
def sendFrameOf (c : SendChain) : SendFrame :=
  let chain := c.descs
  let d := chain.headD []
  let flags := descField d 10 1
  let ca := descField d 11 1
  let total := (chain.map descLen).sum
  { descriptors := chain.length, eof := (chain.getLast?.map (fun l => (descField l 10 1).testBit 1)).getD false
    ltValid := flags.testBit 2, parse := flags.testBit 3, cls := field ca 0 3, action := field ca 3 2
    channel := descField d 12 1, sc := descField d 14 2, launch := descField d 16 4, tag := descField d 20 4
    total := total, bytes := c.data.take total }

/-- The launch time of a send descriptor. -/
def sendLt (f : SendFrame) : Option Nat := if f.ltValid then some (f.launch % 2 ^ 32) else none

/-- The descriptor names an SC of its own: DIRECT, PROTECT and not the default. -/
def sendNamesSc (f : SendFrame) : Bool := !f.parse && f.action = 0 && decide (f.sc ≠ 0xFFFF)

/-- A launch time that R277 rejects: of a DIRECT frame, which reaches stage 5 as it is fetched; a PARSE frame is judged there, once it
is resolved. -/
def State.sendFar (s : State) (f : SendFrame) : Bool := !f.parse && (sendLt f).any s.launchFar

/-- The checks of a frame sent by a ring set (R334). -/
def State.sendStatus (s : State) (who : Nat) (f : SendFrame) : Status :=
  firstStatus
    [(s.channelAbsent f.channel, .absent),
     (isVf who && (f.parse || (sendNamesSc f && decide ((s.sc f.sc).owner ≠ who))), .denied),
     (decide (2 ≤ f.action) || (!f.parse && f.action = 0 && !lineSide f.channel) || decide (16 < f.descriptors) || !f.eof ||
       decide (16028 < f.total) || s.sendFar f, .badArgument),
     (!s.bound f.channel || (sendNamesSc f && !(s.sc f.sc).created), .stateConflict)]

/-- A rejected frame completes at once; one whose launch time is rejected counts as LAUNCH_REJECT (R277) on its queue. -/
def State.sendReject (s : State) (r : Nat) (f : SendFrame) (st : Status) : State :=
  if st = .badArgument ∧ s.sendFar f then
    ((s.qCount (8 * f.channel + f.cls) .launchReject).post F.SCH_EVENT_EVENTS 0).completion r f.tag st 0x40 0
  else s.completion r f.tag st 0 0

/-- A frame copied in: DIRECT enters at stage 5, PARSE is resolved as though received on its channel. -/
def State.sendAccept (s : State) (r : Nat) (f : SendFrame) : State :=
  match s.pel.active with
  | none => s
  | some g =>
    let bs := f.bytes ++ List.replicate (60 - f.bytes.length) 0
    let s := s.setRing r { s.ring r with open' := (s.ring r).open' + 1 }
    let (id, s) := s.newId
    let fr : Frame :=
      { id := id, inPort := 16, bytes := bs, len := bs.length + 4, tag := s.get F.PEL_STATUS_BANK = 1, tIn := s.nowQns
        launch := sendLt f, host := some (r, f.tag) }
    if f.parse then s.parse g f.channel { fr with inCh := f.channel }
    else s.direct { fr with
      cls := f.cls, action := if f.action = 0 then .protect else .clear, outCh := f.channel
      queue := 8 * f.channel + f.cls } (s.namedSc f.sc f.channel)

/-- The descriptors that wait in a send ring. -/
def State.sendWaiting (s : State) (r : Nat) : Nat :=
  (s.get (F.HIF_TX_PROD_INDEX r) + 2 ^ 32 - s.get (F.HIF_TX_CONS_INDEX r)) % 2 ^ 32

/-- SEND_DESCRIPTOR_FETCH: the chain at the head of a running send ring, while the completion ring has room. -/
def State.sendFetch (s : State) (r : Nat) (f : SendFrame) : State :=
  if s.ringOn r ∧ 1 ≤ f.descriptors ∧ f.descriptors ≤ s.sendWaiting r ∧ s.cqRoom r ∧ r < 28 then
    let s := s.set (F.HIF_TX_CONS_INDEX r) ((s.get (F.HIF_TX_CONS_INDEX r) + f.descriptors) % 2 ^ 32)
    match s.sendStatus (ringOwner r) f with
    | .ok => s.sendAccept r f
    | st => s.sendReject r f st
  else s

def execSendDescriptorFetch (rs : Nat) (chain : SendChain) (s : State) : Host.Outcome State Fault Refusal :=
  .next (s.sendFetch rs (sendFrameOf chain))

/-! ### Generated messages (R296) -/

/-- A request is sent: its action and SC, and the channel it names. -/
def State.ptpSent (s : State) (r : PtpRequest) : Bool :=
  s.bound r.channel && decide (r.action < 2) && (r.sc = 0xFFFF || r.action ≠ 0 || (s.sc r.sc).created) &&
    (if r.action = 0 then lineSide r.channel
     else !lineSide r.channel || s.get (F.CLS_CH_CFG_CLEAR_OK r.channel) = 1)

/-- PTP_TX_REQUEST: the message enters at stage 5 on input 17. -/
def State.ptpTx (s : State) (r : PtpRequest) : State :=
  if s.ptpSent r then
    let (id, s) := s.newId
    s.direct
      { id := id, inPort := 17, bytes := r.message, len := r.message.length + 4, tag := s.get F.PEL_STATUS_BANK = 1
        tIn := s.nowQns, cls := r.cls, action := if r.action = 0 then .protect else .clear, outCh := r.channel
        launch := r.launch, ptp := some r, queue := 8 * r.channel + r.cls } (s.namedSc r.sc r.channel)
  else s

def execPtpTxRequest (req : PtpRequest) (s : State) : Host.Outcome State Fault Refusal := .next (s.ptpTx req)

/-! ### Punted frames (R336, R337) -/

/-- The metadata header of a punted frame (R336). -/
def puntHeader (f : Frame) (seq : Nat) : Bytes :=
  let t := stampOf f.tIn
  leBytes 2 f.bytes.length ++ leBytes 1 f.inCh ++ leBytes 1 (f.cls + 8 * bit f.tag) ++ leBytes 2 (f.sc.getD 0xFFFF) ++
    leBytes 2 0 ++ leBytes 6 t.sec ++ leBytes 1 t.qns ++ leBytes 1 0 ++ leBytes 4 t.ns ++ leBytes 4 seq ++ List.replicate 8 0

/-- ADDR and LEN of a receive descriptor, placed as in a send descriptor. -/
def recvBuf (d : Bytes) : Nat × Nat := (descField d 0 8, descField d 8 2)

/-- The bytes that a buffer takes: its LEN, 0 meaning 65,536, and none under 256. -/
def bufRoom (len : Nat) : Nat := if len = 0 then 65536 else if len < 256 then 0 else len

/-- The write-back of a receive descriptor: flags and bytes written. -/
def State.rxBack (s : State) (r flags n : Nat) : State :=
  let i := s.get (F.HIF_RX_CONS_INDEX r)
  let a := ringSlot (s.rxBase r) (s.rxSize r) i 16
  let s := (s.emit (.dma (a + 10) (leBytes 1 flags))).emit (.dma (a + 12) (leBytes 4 n))
  s.set (F.HIF_RX_CONS_INDEX r) ((i + 1) % 2 ^ 32)

/-- A frame written into buffers; short buffers on the way are returned with SHORT_BUF. -/
def State.fillBufs (s : State) (r : Nat) : List (Nat × Nat) → Bytes → Bool → State
  | [], _, _ => s
  | (a, len) :: l, bs, first =>
    if bs = [] then s
    else if bufRoom len = 0 then (s.rxBack r 9 0).fillBufs r l bs first
    else
      let b := bs.take (bufRoom len)
      let rest := bs.drop (bufRoom len)
      let s := s.emit (.dma a b)
      (s.rxBack r (1 + 2 * bit first + 4 * bit rest.isEmpty) b.length).fillBufs r l rest false

/-- Short buffers at the front of a ring are returned at once. -/
def State.returnShort (s : State) (r : Nat) : List (Nat × Nat) → State
  | [] => s
  | (_, len) :: l => if bufRoom len = 0 then (s.rxBack r 9 0).returnShort r l else s

/-- A punted frame whose buffers are there leaves: the queue, its counters, the punt shaper, and the receive ring. -/
def State.puntOut (s : State) (cls r : Nat) (f : Frame) (bufs : List (Nat × Nat)) : State :=
  let q := 1536 + cls
  let s := s.setBuf { s.buf with ready := s.buf.ready.filter (· ≠ q) }
  let s := ((s.popQueue q).qCount q .deqFrames).qCount q .deqOctets f.len
  let s := if s.shaperRate puntShaper = 0 then s else s.setTokens puntShaper (s.tokens puntShaper - f.len * 8000)
  let g := s.ring r
  let s := s.setRing r { g with seq := (g.seq + 1) % 2 ^ 32 }
  let s := (s.fillBufs r bufs (puntHeader f g.seq ++ f.bytes) true).ringIrq r
  ((s.sampleEnd f.id 0).fate f.host .ok 0 s.nowQns).pauseSync f.inCh

/-- PUNT_DELIVERY: the head of a punt class, unless a higher class can go, a traffic hold stands (R383) or the punt shaper
holds it. A frame found bad is discarded (R134). -/
def State.puntDeliver (s : State) (cls : Nat) (bufs : List (Nat × Nat)) : State :=
  if 8 ≤ cls ∨ s.get F.TMP_STATUS_HOLD = 1 ∨ (List.range 8).any (fun c => decide (cls < c) && s.puntReady c) then s
  else match s.queue (1536 + cls), s.puntRing cls with
    | f :: _, some r =>
      if !f.fcsOk || !f.fecOk || f.truncated then
        ((s.popQueue (1536 + cls)).voidDrop f 255).pauseSync f.inCh
      else if !s.ringOn r || !s.shaperOpen puntShaper then s
      else
        let bufs := bufs.take (s.rxFree r)
        if f.bytes.length + 32 ≤ (bufs.map (fun b => bufRoom b.2)).sum then s.puntOut cls r f bufs
        else if bufs.head?.any (fun b => bufRoom b.2 = 0) then (s.returnShort r bufs).ringIrq r
        else s
    | _, _ => s

def execPuntDelivery (cls : Nat) (descs : List Bytes) (s : State) : Host.Outcome State Fault Refusal :=
  .next (s.puntDeliver cls (descs.map recvBuf))

end Sys2Proof.Machine
end

