-- ==== Sys2Proof/Machine/TwinOps.lean ====
section
/-! DEFINITION. The operations of the twin unit that its commands, tamper responses, Strikes and resets share (R305 to R325,
R384): states, the Clapper output, the session, the lease, advance blocks, stream sequences and full SYNC. -/

namespace Sys2Proof.Machine
open Sys2Proof

/-- The data plane runs. -/
def State.dataUp (s : State) : Bool := s.planeOn && !s.pwr.dpReset

/-- The twin unit is on: a role other than standalone, out of INIT. -/
def State.twinOn (s : State) : Bool := s.twin?.isSome && !s.twinIn .init

/-- This twin's role in force. -/
def State.twinRole (s : State) : TwinRole :=
  match s.twin? with
  | some t => t.role
  | none => .standalone

def State.toTwin (s : State) (t : TwinState) : State := s.set F.TWN_STATUS_STATE (twinCode t)

/-- The Clapper output takes a value (R311). -/
def State.clapTo (s : State) (v : Clap) : State :=
  if s.get F.TWN_STATUS_CLAP_OUT = clapCode v then s
  else
    let s := (s.set F.TWN_STATUS_CLAP_OUT (clapCode v)).emit (.clap v)
    if v = .drive then s.setTwn { s.twn with driveSince := s.nowNs } else s

/-- A completion of a TWN command. -/
def State.completeTwn (s : State) (op : Nat) (st : Status) : State :=
  s.sets [(F.TWN_CMD_RESULT_STATUS, st.code), (F.TWN_CMD_RESULT_OP, op)]

/-- A YIELD that runs ends. -/
def State.yieldEnds (s : State) (st : Status) : State :=
  if s.get F.TWN_CMD_RESULT_RUNNING = 1 then (s.set F.TWN_CMD_RESULT_RUNNING 0).completeTwn 1 st else s

/-- The revert hold-off starts, runs or is lost (R325). -/
def State.holdOffCheck (s : State) : State :=
  if s.twinRole = .preferred ∧ s.twinIn .standby ∧ s.synced ∧ s.twinUp ∧ s.get F.TWN_STATUS_CLAPPER_FAULT = 0 then
    if s.twn.holdOff.isNone ∧ s.get F.TWN_CFG_REVERT_S ≠ 0 then
      s.setTwn { s.twn with holdOff := some (s.nowNs + s.get F.TWN_CFG_REVERT_S * 1000000000) }
    else s
  else s.setTwn { s.twn with holdOff := none }

/-- A fresh HELLO random (R308). -/
def State.newRandom (s : State) : State :=
  State.drew (s.setTwn { s.twn with random := BitVec.ofNat 128 (s.draw 128) })

/-- The session ends: nothing waits for an acknowledgement any more, and the next one has a new random (R308). -/
def State.sessionEnd (s : State) : State :=
  (s.setTwn { s.twn with
    session := none, heard := false, txSeq := 0, rxSeq := 0, unacked := [], reserved := [], synced := [] }).newRandom

/-- The Twin link is declared down (R309), with what R314 makes of it. -/
def State.twinDown (s : State) : State :=
  if !s.twinUp then s
  else
    let s := ((s.set F.TWN_STATUS_LINK_UP 0).sessionEnd).post F.TWN_EVENT_EVENTS 1
    let s := if s.twinIn .joining then s.toTwin .seeking
      else if s.twinIn .handing then
        (((s.set F.TWN_STATUS_SYNCED 0).clapTo .ready).setTwn { s.twn with handover := .idle, permit := false }).toTwin .seeking
          |>.yieldEnds .aborted
      else s
    s.holdOffCheck

/-- The twin becomes ACTIVE: its output is DRIVE. `permit` is false where BULK_PERMIT is still to come (R324). -/
def State.becomeActive (s : State) (permit : Bool) : State :=
  (((s.toTwin .active).setTwn { s.twn with permit := permit, left := false, handover := .idle }).clapTo .drive).holdOffCheck

/-- The node ID of the lease holder as this twin knows it. -/
def State.holderNode (s : State) : Nat := if s.holder then s.ownNode else s.peerNode

/-- A claim of the lease at an epoch (R321). -/
def State.claim (s : State) (epoch : Nat) : State :=
  let ms := s.get F.TWN_CFG_LEASE_MS
  let e := epoch % 65536
  let s := (s.sets [(F.TWN_LEASE_EPOCH, e), (F.TWN_LEASE_HOLDER, 1)]).setTwn
    { s.twn with leaseEnd := s.nowNs + ms * 1000000, peerLeaseEnd := 0 }
  if s.twinUp then s.twinSend (.lease .claim e s.ownNode ms (s.get F.TWN_STATUS_TEST = 1)) true else s

/-- The mirrored transmit SAs. -/
def State.mirroredTx (s : State) : List Nat := (s.sam.sa.filter (fun p => !p.2.rx && s.saMirrored p.1)).map Prod.fst

/-- The advance blocks of a new active twin (R317). -/
def State.advanceBlocks (s : State) : State :=
  s.mirroredTx.foldl (fun s a =>
    let e := s.sa a
    let r := Tab.get s.twn.resEnd 0 a
    s.setSa a { e with nextPn := r + 1, blockEnd := min (r + 2 ^ 20) (suiteMax e.suite) }) s

/-- NEXT_SEQ of every stream in force set (R320). -/
def State.setSeqs (s : State) (f : Nat → TwinStream → Nat) : State :=
  match s.twin? with
  | some t => (List.range t.streams.length).foldl (fun s i =>
      match t.streams[i]? with
      | some st => s.set (F.TWN_STR_SEQ_NEXT_SEQ i) (f i st % 2 ^ 32)
      | none => s) s
  | none => s

/-- The sequences of a start with no mirrored state (R320). -/
def State.seqsFresh (s : State) : State := s.setSeqs (fun _ _ => s.nowNs / 1000)

/-- The sequences of a takeover (R320). -/
def State.seqsTaken (s : State) : State := s.setSeqs (fun i _ => s.get (F.TWN_STR_LAST_LAST_SEQ i) + 1024)

/-- A full SYNC to the peer: every mirrored SC and SA, then SYNC_END (R314). -/
def State.sendSync (s : State) : State :=
  let scs := (s.sam.sc.filter (fun p => s.scMirrored p.1)).map (fun p => MirrorRec.sc (s.scRecord p.1))
  let sas := (s.sam.sa.filter (fun p => s.saMirrored p.1)).map (fun p =>
    let e := p.2
    MirrorRec.sa (s.saRecord p.1 (if e.blockEnd < e.nextPn then min (e.nextPn - 1 + 2 ^ 20) (suiteMax e.suite) else e.blockEnd)))
  (scs ++ sas ++ [MirrorRec.syncEnd]).foldl (fun s r => s.twinSend (.sync r) true) s

/-- An ACTIVE twin stops bulk and rejoins: a lost collision or TWIN_NOTIFY (R314). -/
def State.leaveActive (s : State) : State :=
  (((s.set F.TWN_STATUS_SYNCED 0).clapTo .ready).setTwn { s.twn with permit := false, handover := .idle, synced := [] }).toTwin
    .joining

/-- A collision stands: an ACTIVE twin in CLAPPER mode sees the peer's output DRIVE (R313). -/
def State.collides (s : State) : Bool := s.twinIn .active && !s.leaseMode && s.clapIn .drive

/-- What a collision that has begun since `was` does: it is posted, and the non-preferred twin rejoins (R313, R314). -/
def State.collision (s was : State) : State :=
  if s.collides && !was.collides then
    let s := s.post F.TWN_EVENT_EVENTS 5
    if s.twinRole = .nonPreferred then s.leaveActive else s
  else s

/-- The tamper response TWIN_NOTIFY (R314, R384). -/
def State.twinNotify (s : State) (source mask : Nat) : State :=
  if s.twin?.isNone then s
  else
    let s := if s.twinIn .active then s.leaveActive
      else
        let s := s.set F.TWN_STATUS_SYNCED 0
        (if s.get F.TWN_STATUS_CLAP_OUT = 0 then s else s.clapTo .ready).holdOffCheck
    if s.twinUp then s.twinSend (.notice source mask) true else s

/-- The structure that twins compare: the SHA-384 of the Active image's sections other than TWIN and NOTES, in the order of the
section table (R41, R306). -/
def structureOf (g : Image) : Digest :=
  Config.sha384 ((g.entries.filter (fun e => decide (e.typ ≠ 10 ∧ e.typ ≠ 12))).flatMap (fun e => e.bytes))

/-- The twin's state by its number (R326). -/
def twinStateOf (n : Nat) : TwinState :=
  match n with
  | 1 => .seeking
  | 2 => .joining
  | 3 => .standby
  | 4 => .active
  | 5 => .handing
  | _ => .init

/-- This twin's state. -/
def State.twinState (s : State) : TwinState := twinStateOf (s.get F.TWN_STATUS_STATE)

/-- The HELLO of this twin (R308). -/
def State.ownHello (s : State) (g : Image) : HelloMsg :=
  { role := s.twinRole, state := s.twinState, synced := s.synced, epoch := s.get F.TWN_LEASE_EPOCH
    holder := s.holderNode, structure' := structureOf g, domainId := s.domainId s.twinSlot, random := s.twn.random }

/-- A HELLO sent; it belongs to no session and carries MSG_SEQ 0. -/
def State.sendHello (s : State) : State :=
  match s.pel.active with
  | some g =>
    let m := TwinMsg.hello (s.ownHello g)
    let h := s.twinHdr 0 m
    if s.linkKeyed then s.emit (.twin h m (s.linkFrame s.peerNode h m)) else s
  | none => s

/-- A twin enters SEEKING with its output READY and a new session to come; HELLO is sent (R314). -/
def State.seek (s : State) : State := ((((s.toTwin .seeking).clapTo .ready).newRandom).holdOffCheck).sendHello

/-- A data-plane reset: the output ABSENT, the link down, SYNCED clear (R309, R314). -/
def State.twinDpReset (s : State) : State :=
  if s.twin?.isNone then s
  else
    let s := ((s.twinDown.set F.TWN_STATUS_SYNCED 0).clapTo .absent).yieldEnds .aborted
    (s.setTwn { s.twn with permit := false, handover := .idle }).holdOffCheck

/-- The data plane leaves reset (R314). -/
def State.twinDpUp (s : State) : State := if s.twin?.isSome then s.seek else s

/-- The registers of streams, moved with their streams to the places of a new section (R326). -/
def State.moveStreams (s : State) (old new : List TwinStream) : State :=
  let was := fun (st : TwinStream) => (old.findIdx? (fun x => x.id = st.id))
  let vals := (List.range 256).map (fun i =>
    match new[i]?.bind was with
    | some j => (s.get (F.TWN_STR_SEQ_NEXT_SEQ j), s.get (F.TWN_STR_LAST_LAST_SEQ j))
    | none => (0, 0))
  if old = new then s
  else ((List.range 256).zip vals).foldl (fun s p =>
    s.sets [(F.TWN_STR_SEQ_NEXT_SEQ p.1, p.2.1), (F.TWN_STR_LAST_LAST_SEQ p.1, p.2.2)]) s

/-- The TWIN section of an image as the unit takes it: standalone on a part without a Twin link. -/
def twinOf (v : Variant) (g : Option Image) : TwinSection :=
  match g with
  | some g => if hasTwin v then imgTwin g else { role := .standalone }
  | none => { role := .standalone }

/-- What a Strike does to the twin unit (R57, R314); the new image is Active already. LEASE_MS and REVERT_S are written where
the sections differ. -/
def State.twinStrike (s : State) (old : Option Image) : State :=
  let a := twinOf s.fus.variant old
  let b := twinOf s.fus.variant s.pel.active
  let s := s.moveStreams a.streams b.streams
  let s := if a.leaseMs = b.leaseMs ∧ old.isSome then s else s.set F.TWN_CFG_LEASE_MS b.leaseMs
  let s := if a.revertS = b.revertS ∧ old.isSome then s else s.set F.TWN_CFG_REVERT_S b.revertS
  if a.role = b.role then s
  else if b.role = .standalone then
    ((((s.twinDown.set F.TWN_STATUS_SYNCED 0).clapTo .absent).toTwin .init)).holdOffCheck
  else if a.role = .standalone then (if s.dataUp then s.seek else s)
  else (s.twinDown.set F.TWN_STATUS_SYNCED 0).seek

end Sys2Proof.Machine
end

