-- ==== Sys2Proof/Machine/Ports.lean ====
section
/-! DEFINITION. Link state, FEC reports and low-power idle of the ports (R66, R70, R71, R74, R75, R155, R156). -/

namespace Sys2Proof.Machine
open Sys2Proof

/-- The first lanes of the FlexE PHYs of the Active bank. -/
def State.phys (s : State) : List Nat :=
  match s.pel.active with
  | some g => (imgPorts g).flatMap portPhys
  | none => []

/-- The Active bank has a MAC endpoint or a FlexE PHY on a first lane. -/
def State.hasPort (s : State) (l : Nat) : Bool := decide (l < 64) && (s.bound l || decide (l ∈ s.phys))

/-- The loss conditions at a first lane. -/
def State.losses (s : State) (l : Nat) : List Nat := Tab.get s.prt.loss [] l

/-- FAULT of an endpoint follows its conditions (R76). DESIGN CHOICE (assumption 95): LOCAL_FAULT is shown where both faults
stand, and neither loss of lock nor hi_ber alone is a fault. -/
def State.faultShown (s : State) (ch : Nat) : State :=
  if s.bound ch then
    s.set (F.PRT_EP_STATUS_FAULT ch) (if 2 ∈ s.losses ch then 1 else if 3 ∈ s.losses ch then 2 else 0)
  else s

def State.setLosses (s : State) (l : Nat) (c : List Nat) : State :=
  State.faultShown { s with prt := { s.prt with loss := NTab.set s.prt.loss [] l c } } l

/-! ### LINK_DOWN and LINK_UP (R73 to R75, R155, R156) -/

/-- A frame in an engine, in the resequencer or in egress is lost (R156). -/
def State.slotLost (s : State) (t : Slot) : State :=
  let s := s.freeSlot t
  if t.dropped then s else ((s.chCount t.ch .txLinkLoss).quietDrop t.frame 0x44).pauseSync t.frame.inCh

/-- What becomes of the dispatched frames of a channel that goes down: lost (R156), lost but for the one in transmission, which
a port that stops at its next frame boundary completes (R57), or all completed (R403). -/
inductive InFlight where
  | lost | boundary | kept
deriving DecidableEq, Repr

/-- Every dispatched frame of a channel is lost; the commit pointer meets the next DSN. -/
def State.slotsLost (s : State) (ch : Nat) : State :=
  let l := s.pool.slots.filter (fun t => t.ch = ch)
  if l.isEmpty then s
  else (l.foldl State.slotLost s).set (F.SEQ_CH_DSN_COMMIT_DSN ch) (s.get (F.SEQ_CH_DSN_NEXT_DSN ch))

/-- The frames behind the one in transmission are lost; the commit pointer skips their DSNs when it comes to them. -/
def State.slotsBehindLost (s : State) (ch : Nat) : State :=
  if s.pool.slots.any (fun t => t.ch = ch && decide (0 < t.committed)) then
    (s.pool.slots.filter (fun t => t.ch = ch && t.committed = 0 && !t.dropped)).foldl (fun s t =>
      (((s.setSlot' { t with engine := none, dropped := true }).chCount ch .txLinkLoss).quietDrop t.frame 0x44).pauseSync
        t.frame.inCh) s
  else s.slotsLost ch

/-- What was selected of a queue and not dispatched waits again at its head. -/
def State.unselect (s : State) (q : Nat) : State :=
  let s := s.setBuf { s.buf with
    ready := s.buf.ready.filter (· ≠ q)
    sending := s.buf.sending.filter (fun e => e.2.elim true (fun x => decide (x.queue ≠ q))) }
  match s.queue q with
  | f :: r => if f.td = 0 then s else s.setQueue q ({ f with td := 0 } :: r)
  | [] => s

/-- A channel declares LINK_DOWN. A channel that is down already declares nothing. DESIGN CHOICE (assumption 96): a Strike that
finds the port down raises neither LINK_DOWN nor STRIKE_RETRAIN, and STRIKE_RETRAIN, once set, stays until it is written. -/
def State.linkFalls (s : State) (ch : Nat) (strike : Bool) (fl : InFlight) : State :=
  if !s.linkUp ch then s
  else
    let s := s.sets [(F.PRT_EP_STATUS_LINK_UP ch, 0), (F.PRT_EP_STATUS_LPI_TX ch, 0), (F.PRT_EP_STATUS_LPI_RX ch, 0)]
    let s := { s with prt := { s.prt with waking := s.prt.waking.filter (· ≠ ch) } }
    let s := s.setBuf { s.buf with paused := s.buf.paused.filter (· ≠ ch) }
    let s := (s.epPost ch 0).chCount ch .linkFlaps
    let s := if strike then s.epPost ch 2 else s
    let s := match fl with
      | .lost => s.slotsLost ch
      | .boundary => s.slotsBehindLost ch
      | .kept => s
    let s := ((List.range 8).foldl (fun s k => s.unselect (8 * ch + k)) s).setHorizon ch 0
    (s.queuesDown ch).ungate

/-- A channel declares LINK_DOWN and loses its dispatched frames. -/
def State.declareDown (s : State) (ch : Nat) (strike : Bool) : State := s.linkFalls ch strike .lost

/-- A channel declares LINK_UP. -/
def State.declareUp (s : State) (ch : Nat) : State :=
  if s.linkUp ch then s
  else (((s.set (F.PRT_EP_STATUS_LINK_UP ch) 1).epPost ch 1).queuesUp ch).ungate

/-- The corrected symbols of a second are above SER_LIMIT × 1,000 (R66). -/
def execFecDegrade (ch symbols : Nat) (s : State) : Host.Outcome State Fault Refusal :=
  .next (
    let n := s.get (F.PRT_EP_TIMERS_SER_LIMIT ch)
    if s.bound ch ∧ n ≠ 0 ∧ n * 1000 < symbols then s.epPost ch 3 else s)

/-! ### Low-power idle (R70, R71) -/

/-- No frame of a channel waits or is on its way. -/
def State.channelIdle (s : State) (ch : Nat) : Bool :=
  (List.range 8).all (fun k => (s.queue (8 * ch + k)).isEmpty) && s.pool.slots.all (fun t => decide (t.ch ≠ ch))

/-- The transmitter enters LPI. -/
def execLpiEnter (ch : Nat) (s : State) : Host.Outcome State Fault Refusal :=
  .next (if s.get (F.PRT_EP_CFG_LPI_EN ch) = 1 ∧ s.linkUp ch ∧ s.get (F.PRT_EP_STATUS_LPI_TX ch) = 0 ∧ s.channelIdle ch then
      (s.set (F.PRT_EP_STATUS_LPI_TX ch) 1).emit (.lpi ch true)
    else s)

/-- A frame is at the head of a queue: the transmitter leaves LPI and waits for Tw. -/
def execLpiExit (ch : Nat) (s : State) : Host.Outcome State Fault Refusal :=
  .next (if s.get (F.PRT_EP_STATUS_LPI_TX ch) = 1 ∧ !s.channelIdle ch then
      let s := (s.set (F.PRT_EP_STATUS_LPI_TX ch) 0).emit (.lpi ch false)
      State.ungate { s with prt := { s.prt with waking := s.prt.waking ++ [ch] } }
    else s)

/-- Tw ends. -/
def execLpiWakeDone (ch : Nat) (s : State) : Host.Outcome State Fault Refusal :=
  .next { s with prt := { s.prt with waking := s.prt.waking.filter (· ≠ ch) } }

end Sys2Proof.Machine
end

