-- ==== Sys2Proof/Machine/FlexE.lean ====
section
/-! DEFINITION. The FlexE shim (chapter 04): frame and multiframe lock, group alignment, calendars and their switch, and
what a Strike and a data-plane reset do to groups. -/

namespace Sys2Proof.Machine
open Sys2Proof

/-! ### Calendar pages and the switch (R91, R92, R95) -/

/-- The content of a Strike written to the standby pages; the receive page in use is that of the first instance. -/
def State.writeStandby (s : State) (gr : FlexGroup) : State :=
  let g := gr.index
  let r := s.grp g
  let txB := s.get (F.FLX_GRP_STATUS_TX_PAGE g) = 0
  let rxB := (groupInsts gr).head?.all (fun i => s.get (F.FLX_INST_STATUS_RX_PAGE i) = 0)
  s.setGrp g { r with
    txA := if txB then r.txA else gr.txA, txB := if txB then gr.txB else r.txB
    rxA := if rxB then r.rxA else gr.rxA, rxB := if rxB then gr.rxB else r.rxB, waiting := none }

/-- From IDLE, a request where the standby transmit page differs from the active page. -/
def State.switchStart (s : State) (g : Nat) : State :=
  let r := s.grp g
  let p := s.get (F.FLX_GRP_STATUS_TX_PAGE g)
  if s.get (F.FLX_GRP_STATUS_SWITCH g) = 0 ∧ r.txA ≠ r.txB then
    (s.setGrp g { r with cr := 1 - p }).set (F.FLX_GRP_STATUS_SWITCH g) 1
  else s

/-- The request withdrawn: CR returns to the active page. -/
def State.switchIdle (s : State) (g dest : Nat) : State :=
  (s.setGrp g { s.grp g with cr := s.get (F.FLX_GRP_STATUS_TX_PAGE g) }).set (F.FLX_GRP_STATUS_SWITCH g) dest

/-! ### The group state table (R88, R89) -/

/-- A group takes a state other than UP: on leaving UP its clients declare LINK_DOWN and a calendar request ends. A client is one
of the group that receives it. DESIGN CHOICE (assumption 98): the link state of a transit client, which two groups carry, follows
that of its receive group alone. -/
def State.leaveUp (s : State) (gr : FlexGroup) (dest : Nat) : State :=
  let g := gr.index
  if s.grpIn g 4 then
    let s := gr.clients.foldl (fun s c => s.declareDown c.channel false) (s.set (F.FLX_GRP_STATUS_STATE g) dest)
    let s : State := match (s.grp g).waiting with
      | some w => s.writeStandby w
      | none => s
    if s.get (F.FLX_GRP_STATUS_SWITCH g) = 1 ∨ s.get (F.FLX_GRP_STATUS_SWITCH g) = 2 then s.switchIdle g 0 else s
  else s.set (F.FLX_GRP_STATUS_STATE g) dest

/-- A group that is DOWN aligns once every member PHY is up. -/
def State.flexStart (s : State) (gr : FlexGroup) : State :=
  if s.grpIn gr.index 1 ∧ (s.physOf gr).all (fun l => decide (l ∈ s.prt.phyUp)) then s.set (F.FLX_GRP_STATUS_STATE gr.index) 2 else s

/-- GROUP_DOWN. -/
def State.groupDownNow (s : State) (gr : FlexGroup) : State :=
  ((s.flexPost gr.index 0 []).leaveUp gr 1).flexStart gr

/-- A condition takes the group down at once where DOWN_HOLDOFF is 0. -/
def State.groupCheck (s : State) (gr : FlexGroup) : State :=
  if s.grpIn gr.index 4 ∧ s.groupBad gr ∧ s.get (F.FLX_GRP_CFG_DOWN_HOLDOFF gr.index) = 0 then s.groupDownNow gr else s

/-- DOWN_HOLDOFF ends with a condition still there. -/
def execGroupDown (g : Nat) (s : State) : Host.Outcome State Fault Refusal :=
  .next (match s.flexGroup g with
    | some gr => if s.grpIn g 4 ∧ s.groupBad gr then s.groupDownNow gr else s
    | none => s)

/-- UP_DEBOUNCE ends: the clients declare LINK_UP together, but for those that a calendar mismatch keeps down (R89, R94). -/
def execGroupUp (g : Nat) (s : State) : Host.Outcome State Fault Refusal :=
  .next (match s.flexGroup g with
    | some gr =>
      if s.grpIn g 4 ∧ !s.groupBad gr ∧ s.dataUp then
        let chs := gr.clients.map (fun c => c.channel)
        let s := if chs.all (fun c => !s.linkUp c) then s.flexPost g 1 [] else s
        (chs.filter (fun c => c ∉ (s.grp g).calDown)).foldl State.declareUp s
      else s
    | none => s)

/-- DESKEW: the skew and the numbers are checked; each instance is delayed to the latest one (R88). -/
def State.deskew (s : State) (gr : FlexGroup) : State :=
  let g := gr.index
  let at' := fun i => (s.inst i).arrival.getD 0
  let is := groupInsts gr
  let hi := (is.map at').foldl max 0
  let skew := hi - (is.map at').foldl min hi
  let gid := is.filter (fun i => (s.inst i).gidBad)
  let num := is.filter (fun i => (s.inst i).instBad)
  if s.get (F.FLX_GRP_DESKEW_LIMIT_NS g) < skew ∨ gid ≠ [] ∨ num ≠ [] then
    let s := if s.get (F.FLX_GRP_DESKEW_LIMIT_NS g) < skew then s.flexPost g 7 is else s
    let s := if gid = [] then s else s.flexPost g 8 gid
    let s := if num = [] then s else s.flexPost g 9 num
    s.set (F.FLX_GRP_STATUS_STATE g) 2
  else
    let s := is.foldl (fun s i => s.set (F.FLX_INST_STATUS_DESKEW_NS i) ((hi - at' i) % 2 ^ 14)) s
    ((s.setGrp g { s.grp g with skew := skew }).set (F.FLX_GRP_STATUS_STATE g) 4).switchStart g

/-- Every instance of a group holds multiframe lock. -/
def State.allLocked (s : State) (gr : FlexGroup) : Bool :=
  (groupInsts gr).all (fun i => decide (s.get (F.FLX_INST_STATUS_MF_LOCK i) = 1))

/-- A group that is ALIGNING enters DESKEW once every instance holds multiframe lock. -/
def State.flexAlign (s : State) (gr : FlexGroup) : State :=
  if s.grpIn gr.index 2 ∧ s.allLocked gr then s.set (F.FLX_GRP_STATUS_STATE gr.index) 3 else s

/-- Half a multiframe in ns: frames 0 further apart belong to different multiframes. -/
def halfMultiframe : Nat := 1676000

/-- The arrivals of frame 0 of the multiframe of the latest one; an older one is that of an instance whose frame 0 was lost. -/
def State.freshArrivals (s : State) (gr : FlexGroup) : List Nat :=
  let all := (groupInsts gr).filterMap (fun i => (s.inst i).arrival)
  let hi := all.foldl max 0
  all.filter (fun a => decide (hi < a + halfMultiframe))

/-- Frame 0 of one multiframe has arrived on every instance: alignment of a group in DESKEW, or the watch over the skew of an UP
group, which realigns with the next multiframe. -/
def State.flexArrived (s : State) (gr : FlexGroup) : State :=
  let g := gr.index
  let is := groupInsts gr
  let at' := s.freshArrivals gr
  if at'.length < is.length then s
  else
    let hi := at'.foldl max 0
    let skew := hi - at'.foldl min hi
    let fixed := (s.grp g).skew
    let s' := if s.grpIn g 3 ∧ s.allLocked gr then s.deskew gr
      else if s.grpIn g 4 ∧ (fixed + 32 < skew ∨ skew + 32 < fixed) then (s.flexPost g 7 is).leaveUp gr 3
      else s
    is.foldl (fun s i => s.setInst i { s.inst i with arrival := none }) s'

/-! ### Frame and multiframe lock (R84 to R87) -/

/-- An instance without lock, searching. -/
def FlexInst.searching (x : FlexInst) : FlexInst :=
  { x with
    cands := [], lock := none, miss := 0, sinceChange := none, omfWrong := 0, rpfTx := true
    c := none, cAt := none, cr := none, ca := none, colA := none, colB := none, calA := none, calB := none, arrival := none }

def State.instSearch (s : State) (i : Nat) (x : FlexInst) : State :=
  (s.setInst i x.searching).sets [(F.FLX_INST_STATUS_FRAME i, 0), (F.FLX_INST_STATUS_MF_LOCK i, 0)]

/-- A block matches what a candidate or a lock waits for; `omf` is the OMF expected at a frame start. -/
def FlexCand.matches' (c : FlexCand) (omf : Bool) (b : OhBlock) : Bool :=
  if c.pos = 8 then b.marker && decide (b.groupNumber = c.group ∧ b.instNumber = c.inst) && b.omf == omf
  else b.headerOk && (decide (c.pos ≠ 7) || b.crcOk)

/-- The OMF expected at a frame start: that of the place in the multiframe under multiframe lock, else the last one. -/
def FlexInst.expected (x : FlexInst) (mf : Bool) (c : FlexCand) : Bool := if mf then decide (16 ≤ x.mfPos) else c.omf

/-- Multiframe lock at a frame start of a LOCKED instance (R87). -/
def State.mfStart (s : State) (gr : FlexGroup) (i : Nat) (c : FlexCand) (b : OhBlock) : State :=
  let x := s.inst i
  let own := b.marker && decide (b.groupNumber = c.group ∧ b.instNumber = c.inst)
  if s.get (F.FLX_INST_STATUS_MF_LOCK i) = 1 then
    let wrong := if own && (b.omf != decide (16 ≤ x.mfPos)) then x.omfWrong + 1 else 0
    if 2 ≤ wrong then
      ((s.setInst i { x with mfPos := 0, omfWrong := 0, sinceChange := none, lomf := true }).set
        (F.FLX_INST_STATUS_MF_LOCK i) 0).flexPost gr.index 11 [i]
    else s.setInst i { x with omfWrong := wrong, mfPos := (x.mfPos + 1) % 32 }
  else
    let n := x.sinceChange.map (· + 1)
    if own && b.omf != c.omf then
      if n = some 16 then
        (s.setInst i { x with sinceChange := none, omfWrong := 0, lomf := false, mfPos := if b.omf then 17 else 1 }).set
          (F.FLX_INST_STATUS_MF_LOCK i) 1
      else s.setInst i { x with sinceChange := some 0 }
    else s.setInst i { x with sinceChange := n }

/-- A block at the positions that a LOCKED instance follows; only frame starts move it. -/
def State.lockedBlock (s : State) (gr : FlexGroup) (i : Nat) (c : FlexCand) (b : OhBlock) : State :=
  if b.phase ≠ c.phase then s
  else if c.pos ≠ 8 then s.setInst i { s.inst i with lock := some { c with pos := c.pos + 1 } }
  else
    let x := s.inst i
    let ok := c.matches' (x.expected (s.get (F.FLX_INST_STATUS_MF_LOCK i) = 1) c) b
    let c' := { c with pos := 1, omf := if b.marker then b.omf else c.omf }
    if ok then (s.setInst i { x with lock := some c', miss := 0 }).mfStart gr i c b
    else if x.miss < 4 then
      (s.setInst i { x with lock := some c', miss := x.miss + 1, missRun := x.missRun + 1 }).mfStart gr i c b
    else ((s.instSearch i { x with lof := true, lomf := false }).flexPost gr.index 10 [i])

/-- A block seen by a searching instance: each candidate that waits for it matches or is rejected, and a marker block is a
new candidate while fewer than 16 are followed. -/
def State.searchBlock (s : State) (i : Nat) (b : OhBlock) : State :=
  let x := s.inst i
  let here := x.cands.filter (fun c => c.phase = b.phase)
  match here.find? (fun c => decide (c.pos = 8) && c.matches' c.omf b) with
  | some c =>
    (s.setInst i { x with cands := [], lock := some { c with pos := 1, omf := b.omf }, miss := 0, lof := false, rpfTx := false }).set
      (F.FLX_INST_STATUS_FRAME i) 2
  | none =>
    let bad := here.filter (fun c => !c.matches' c.omf b)
    let kept := (x.cands.filter (fun c => decide (c.phase ≠ b.phase) || c.matches' c.omf b)).map
      (fun c => if c.phase = b.phase then { c with pos := c.pos + 1 } else c)
    let cands := if b.marker ∧ kept.length < 16 then kept ++ [⟨b.phase, 1, b.groupNumber, b.instNumber, b.omf⟩] else kept
    (s.setInst i { x with cands := cands, falseRun := x.falseRun + bad.length }).set (F.FLX_INST_STATUS_FRAME i)
      (if cands = [] then 0 else 1)

/-- OVERHEAD_BLOCK_RECEIVED. -/
def execOverheadBlockReceived (inst : Nat) (b : OhBlock) (s : State) : Host.Outcome State Fault Refusal :=
  .next (match s.instGroup inst with
    | some (gr, _) =>
      if s.dataUp then
        ((match (s.inst inst).lock with
          | some c => s.lockedBlock gr inst c b
          | none => s.searchBlock inst b).groupCheck gr).flexAlign gr
      else s
    | none => s)

/-! ### Overhead frames (R81, R82, R93, R94) -/

/-- A received calendar in client channels; an ID that the FLEXE section does not map stands as channel 0. -/
def calChannels (gr : FlexGroup) (l : List Nat) : List (Option Nat) :=
  l.map (fun id => if id = 0 then none
    else some (((gr.clients.find? (fun c => c.clientId = id)).map (fun c => c.channel)).getD 0))

/-- One slot more of a calendar under collection: slot `n` is the next, and its frame passed the CRC. -/
def collectSlot (n : Nat) (ok : Bool) (id : Nat) (l : Option (List Nat)) : Option (List Nat) :=
  let l := if n = 0 then some [] else l
  if ok then l.bind (fun x => if x.length = n then some (x ++ [id]) else none) else none

/-- Frame `n` of a multiframe in the collection of the calendars: slot n in frames 0 to 19; with frame 31 the multiframe is
complete, and the calendars whose frames all passed the CRC are the collected ones (R93). -/
def FlexInst.collect (x : FlexInst) (n : Nat) (f : OhFrame) : FlexInst :=
  if n < 20 then
    { x with colA := collectSlot n f.crcOk f.slotA x.colA, colB := collectSlot n f.crcOk f.slotB x.colB }
  else if n = 31 then
    { x with
      calA := if x.colA.any (fun l => decide (l.length = 20)) then x.colA else x.calA
      calB := if x.colB.any (fun l => decide (l.length = 20)) then x.colB else x.calB
      colA := none, colB := none }
  else x


/-- The calendar that an instance collected of a page. -/
def FlexInst.cal (x : FlexInst) (page : Nat) : Option (List Nat) := if page = 1 then x.calB else x.calA

/-- The clients in slots where the page that a received C names differs from the received calendar (R94). -/
def State.calWrong (s : State) (gr : FlexGroup) : List Nat :=
  ((places gr).flatMap (fun p =>
    let x := s.inst p.2
    match x.c, x.c.bind x.cal with
    | some c, some l =>
      (((pageSlice ((s.grp gr.index).rx c) p.1).zip (calChannels gr l)).filter (fun d => d.1 ≠ d.2)).flatMap
        (fun d => d.1.toList ++ d.2.toList)
    | _, _ => [])).eraseDups.filter (· ≠ 0)

/-- The check of R93 on one instance: the calendar that CR names, as collected, equals the local receive page of that name. -/
def State.calAgrees (s : State) (gr : FlexGroup) (cr : Nat) (p : Nat × Nat) : Bool :=
  match (s.inst p.2).cal cr with
  | some l => pageSlice ((s.grp gr.index).rx cr) p.1 = calChannels gr l
  | none => false

/-- C on an instance: the receive page, CAL_SPLIT, and the clients that a mismatch takes down (R94). -/
def State.useC (s : State) (gr : FlexGroup) (i c : Nat) (zero : Bool) : State :=
  let g := gr.index
  let is := groupInsts gr
  let s := if s.get (F.FLX_INST_STATUS_RX_PAGE i) = c then s else (s.set (F.FLX_INST_STATUS_RX_PAGE i) c).flexPost g 3 []
  let x := s.inst i
  let split := x.cAt.isSome && is.any (fun j => decide ((s.inst j).cAt = x.cAt) && decide ((s.inst j).c ≠ x.c))
  let s := if split then s.flexPost g 6 is else s
  let wrong := s.calWrong gr
  let fresh := wrong.filter (fun ch => ch ∉ (s.grp g).calDown)
  let s := s.setGrp g { s.grp g with calDown := wrong }
  let s := if fresh ≠ [] ∨ (wrong ≠ [] ∧ zero) then s.flexPost g 5 [i] else s
  fresh.foldl (fun s ch => s.declareDown ch false) s

/-- CR on an instance: CA follows a CR of another value once every instance agrees (R93). DEDUCED (assumption 30): a CR that
CA echoes already asks for nothing, and one that returns to the page in use is compared with that page. -/
def State.useCr (s : State) (gr : FlexGroup) (i cr : Nat) (zero : Bool) : State :=
  let g := gr.index
  let is := groupInsts gr
  if s.grpIn g 4 ∧ (s.grp g).ca ≠ cr ∧ is.all (fun j => decide ((s.inst j).cr = some cr)) then
    if (places gr).all (s.calAgrees gr cr) then s.setGrp g { s.grp g with ca := cr }
    else if zero ∧ is.all (fun j => ((s.inst j).cal cr).isSome) then s.flexPost g 5 [i]
    else s
  else s

/-- CA: a request that every instance's CA echoes is ACKED (R92). -/
def State.useCa (s : State) (gr : FlexGroup) : State :=
  let g := gr.index
  if s.get (F.FLX_GRP_STATUS_SWITCH g) = 1 ∧ (groupInsts gr).all (fun j => decide ((s.inst j).ca = some (s.grp g).cr)) then
    s.set (F.FLX_GRP_STATUS_SWITCH g) 2
  else s

/-- A good overhead frame; `at'` is its place in the multiframe, under multiframe lock. -/
def State.goodFrame (s : State) (gr : FlexGroup) (i num : Nat) (at' : Option Nat) (f : OhFrame) : State :=
  let g := gr.index
  let x := s.inst i
  let gid := decide (f.groupNumber ≠ gr.number)
  let bad := decide (f.instNumber ≠ num) || !f.mapOk
  let s := if f.rpf ∧ s.get (F.FLX_INST_STATUS_RPF_RX i) = 0 then s.flexPost g 12 [i] else s
  let s := if gid ∧ !x.gidBad then s.flexPost g 8 [i] else s
  let s := if bad ∧ !x.instBad then s.flexPost g 9 [i] else s
  let s := s.sets [(F.FLX_INST_STATUS_RPF_RX i, bit f.rpf), (F.FLX_INST_STATUS_INST_NUMBER i, f.instNumber % 256)]
  let zero := at' = some 0
  let last := at' = some 31
  let s := s.setInst i { s.inst i with
    gidBad := gid, instBad := bad, c := some (bit f.c), cr := some (bit f.cr), ca := some (bit f.ca), cAt := at'
    arrival := if zero then some f.arrival else x.arrival }
  let s := (((s.useC gr i (bit f.c) last).useCr gr i (bit f.cr) last).useCa gr)
  if zero then s.flexArrived gr else s

/-- OVERHEAD_FRAME_RECEIVED: a frame that fails its CRC is counted and not used. -/
def execOverheadFrameReceived (inst : Nat) (f : OhFrame) (s : State) : Host.Outcome State Fault Refusal :=
  .next (match s.instGroup inst with
    | some (gr, num) =>
      if s.dataUp ∧ (s.inst inst).lock.isSome then
        let at' := if s.get (F.FLX_INST_STATUS_MF_LOCK inst) = 1 then some (((s.inst inst).mfPos + 31) % 32) else none
        let s := match at' with
          | some n => s.setInst inst ((s.inst inst).collect n f)
          | none => s
        if f.crcOk then ((s.goodFrame gr inst num at' f).groupCheck gr).flexAlign gr
        else s.setInst inst { s.inst inst with crcErr := (s.inst inst).crcErr + 1, cAt := none }
      else s
    | none => s)

/-! ### Transmitted overhead (R81) -/

/-- The client ID of a channel on the wire; 0 where no group binds it. -/
def State.wireId (s : State) (ch : Nat) : Nat :=
  ((s.pel.active.bind (fun img => clientOf img ch)).map (fun p => p.2.clientId)).getD 0

/-- The ID that frame `n` carries of a transmit page for the instance at place `p`: slot n in frames 0 to 19, 0 for a slot without
a client (PRESUMED, the FlexE IA; assumption 99). -/
def State.sentSlot (s : State) (page : List (Option Nat)) (p n : Nat) : Option Nat :=
  if n < 20 then some (((pageSlice page p)[n]?.join.map s.wireId).getD 0) else none

/-- The overhead frame that an instance, the one at place `p` of its group, transmits as frame `n` of a multiframe. -/
def State.overheadSent (s : State) (gr : FlexGroup) (p i num n : Nat) : OhSent :=
  let r := s.grp gr.index
  let c := s.get (F.FLX_GRP_STATUS_TX_PAGE gr.index)
  let rpf := s.get (F.FLX_INST_STATUS_FRAME i) ≠ 2
  let map := gr.instances.map Prod.snd
  let a := s.sentSlot r.txA p n
  let b := s.sentSlot r.txB p n
  { inst := i, frame := n, omf := decide (16 ≤ n), c := c, cr := r.cr, ca := r.ca, rpf := rpf, groupNumber := gr.number
    instNumber := num, map := map, slotA := a, slotB := b
    crc := Config.ohCrc ([bit (decide (16 ≤ n)), c, r.cr, r.ca, bit rpf, gr.number, num] ++ map ++ a.toList ++ b.toList) % 65536 }

/-- Frame `n` of a multiframe on every instance of a group, in ascending order; every instance carries the same C, CR and CA. -/
def State.sendOverhead (s : State) (gr : FlexGroup) (n : Nat) : State :=
  (((List.range gr.instances.length).zip gr.instances).map (fun x => s.overheadSent gr x.1 x.2.1 x.2.2 n)).foldl
    (fun s f => s.emit (.overhead f)) s

/-! ### The calendar switch (R92, R95) -/

/-- The rates of the clients that a group sends, within their slots on the page now in use (R56). -/
def State.clipClients (s : State) (g : Nat) : State :=
  match s.pel.active with
  | some img => ((imgGroups img).flatMap (fun gr => gr.clients.filter (fun c => decide (c.txGroup = g)))).foldl
      (fun s c => s.clipChannel img c.channel) s
  | none => s

/-- TX_SWAPPED: the first frame 0 after ACKED carries the new C. Strike content that waited is written then. -/
def execTxSwapped (g : Nat) (s : State) : Host.Outcome State Fault Refusal :=
  .next (match s.flexGroup g with
    | some gr =>
      if s.get (F.FLX_GRP_STATUS_SWITCH g) = 2 then
        let s := (s.sets [(F.FLX_GRP_STATUS_TX_PAGE g, (s.grp g).cr), (F.FLX_GRP_STATUS_SWITCH g, 0)]).flexPost g 2 []
        let s := (s.sendOverhead gr 0).clipClients g
        match (s.grp g).waiting with
        | some w => ((s.writeStandby w).switchStart g).ungate
        | none => (s.switchStart g).ungate
      else s
    | none => s)

/-- CAL_REQ_TIMEOUT multiframes have passed without CA. -/
def execCalSwStall (g : Nat) (s : State) : Host.Outcome State Fault Refusal :=
  .next (match s.flexGroup g with
    | some gr =>
      if s.get (F.FLX_GRP_STATUS_SWITCH g) = 1 ∧ s.get (F.FLX_GRP_CFG_CAL_REQ_TIMEOUT g) ≠ 0 then s.flexPost g 4 (groupInsts gr)
      else s
    | none => s)

/-- A write to FLX_GRP_CMD that does nothing: ignored on a part with the shim, discarded on one without (R9, R100). -/
def State.flexIgnored (s : State) (who : Nat) : State :=
  if hasFlexe s.fus.variant then s.ignored who F.FLX_STATUS_WRITE_IGNORED else s

/-- CANCEL. -/
def execCancel (who g : Nat) (s : State) : Host.Outcome State Fault Refusal :=
  .next (if !isVf who ∧ (s.flexGroup g).isSome ∧ s.get (F.FLX_GRP_STATUS_SWITCH g) = 1 then s.switchIdle g 3 else s.flexIgnored who)

/-- RETRY. -/
def execRetry (who g : Nat) (s : State) : Host.Outcome State Fault Refusal :=
  .next (if !isVf who ∧ (s.flexGroup g).isSome ∧ s.get (F.FLX_GRP_STATUS_SWITCH g) = 3 then
      (s.set (F.FLX_GRP_STATUS_SWITCH g) 0).switchStart g
    else s.flexIgnored who)

/-! ### PHYs, resets and Strikes -/

/-- A PHY goes down: its instances lose their lock (R86). -/
def State.phyDown (s : State) (l : Nat) : State :=
  match s.pel.active with
  | some img =>
    let s := { s with prt := { s.prt with phyUp := s.prt.phyUp.filter (· ≠ l) } }
    let is := (List.range 32).filter (fun i => instPhy img i = some l)
    let s := is.foldl (fun s i => s.instSearch i (s.inst i)) s
    (imgGroups img).foldl (fun s gr => s.groupCheck gr) s
  | none => s

/-- A PHY comes up. -/
def State.phyUp (s : State) (l : Nat) : State :=
  match s.pel.active with
  | some img =>
    if l ∈ s.prt.phyUp then s
    else (imgGroups img).foldl (fun s gr => s.flexStart gr) { s with prt := { s.prt with phyUp := s.prt.phyUp ++ [l] } }
  | none => s

/-- A data-plane reset, or the stop of the data plane: every PHY and every group is down. -/
def State.flexReset (s : State) : State :=
  match s.pel.active with
  | some img =>
    let s := { s with prt := { s.prt with phyUp := [] } }
    let s := (List.range 32).foldl (fun s i => if (s.instGroup i).isSome then s.instSearch i (s.inst i) else s) s
    (imgGroups img).foldl (fun s gr => if s.grpIn gr.index 4 then (s.flexPost gr.index 0 []).leaveUp gr 1
      else s.set (F.FLX_GRP_STATUS_STATE gr.index) 1) s
  | none => s

/-- Two images give a group the same PHYs: the same instances, on ports of one mode. DEDUCED (assumption 100): a change of instance
numbers or of the group number alone changes no PHY; the received overhead then mismatches until the peer follows. -/
def sameMembers (ia ib : Image) (a b : FlexGroup) : Bool :=
  groupInsts a = groupInsts b && a.instances.all (fun i =>
    (imgPorts ia).any (fun p => p.line && decide (p.port = i.1 / 4) && portKept ib p))

/-- Two sections give a group the same calendars. -/
def sameCalendar (a b : FlexGroup) : Bool := a.txA = b.txA && a.txB = b.txB && a.rxA = b.rxA && a.rxB = b.rxB

/-- A group that a Strike creates, or whose PHYs it changes: calendar A active, its PHYs retrain (R57, R88, R91). -/
def State.groupCreate (s : State) (gr : FlexGroup) : State :=
  let g := gr.index
  let s := (s.physOf gr).foldl State.phyDown s
  let s := s.leaveUp gr 1
  let s := (groupInsts gr).foldl (fun s i => (s.setInst i {}).sets [(F.FLX_INST_STATUS_FRAME i, 0), (F.FLX_INST_STATUS_MF_LOCK i, 0),
    (F.FLX_INST_STATUS_RX_PAGE i, 0), (F.FLX_INST_STATUS_RPF_RX i, 0), (F.FLX_INST_STATUS_INST_NUMBER i, 0),
    (F.FLX_INST_STATUS_DESKEW_NS i, 0)]) s
  let s := s.setGrp g { txA := gr.txA, txB := gr.txB, rxA := gr.rxA, rxB := gr.rxB }
  (s.sets [(F.FLX_GRP_STATUS_STATE g, 1), (F.FLX_GRP_STATUS_TX_PAGE g, 0), (F.FLX_GRP_STATUS_SWITCH g, 0)]).switchStart g

/-- A group that a Strike keeps: new content goes to the standby pages; a swap that is ACKED completes first (R92, R95). -/
def State.groupKeep (s : State) (a b : FlexGroup) : State :=
  let g := b.index
  if s.get (F.FLX_GRP_STATUS_SWITCH g) = 2 then
    if sameCalendar a b then s else s.setGrp g { s.grp g with waiting := some b }
  else
    let s := if sameCalendar a b then s else s.writeStandby b
    (s.switchIdle g 0).switchStart g

/-- A group that a Strike removes. -/
def State.groupRemove (s : State) (gr : FlexGroup) : State :=
  let s := s.leaveUp gr 0
  let s := (groupInsts gr).foldl (fun s i => if (s.instGroup i).isSome then s else s.instSearch i {}) s
  (s.setGrp gr.index {}).sets [(F.FLX_GRP_STATUS_STATE gr.index, 0), (F.FLX_GRP_STATUS_TX_PAGE gr.index, 0),
    (F.FLX_GRP_STATUS_SWITCH gr.index, 0)]

/-- What a Strike does to the groups; the new image is Active already. -/
def State.flexStrike (s : State) (old : Option Image) : State :=
  let was := (old.map imgGroups).getD []
  let now := (s.pel.active.map imgGroups).getD []
  let same := fun (a b : FlexGroup) => match old, s.pel.active with
    | some ia, some ib => sameMembers ia ib a b
    | _, _ => false
  let s := (was.filter (fun a => !now.any (fun b => b.index = a.index))).foldl State.groupRemove s
  now.foldl (fun s b => match was.find? (fun a => a.index = b.index) with
    | some a => if same a b then s.groupKeep a b else s.groupCreate b
    | none => s.groupCreate b) s

end Sys2Proof.Machine
end

