-- ==== Sys2Proof/Machine/Links.lean ====
section
/-! DEFINITION. Loss of link and its return on MAC endpoints and FlexE PHYs (R60, R61, R73, R74). -/

namespace Sys2Proof.Machine
open Sys2Proof

/-- LINK_DOWN of the MAC endpoint or of the FlexE PHY on a first lane. -/
def State.portDown (s : State) (l : Nat) : State := if s.bound l then s.declareDown l false else s.phyDown l

/-- A loss condition sets in; without a hold-off LINK_DOWN follows at once. -/
def State.lossSet (s : State) (l kind : Nat) : State :=
  if !s.hasPort l ∨ 4 ≤ kind ∨ kind ∈ s.losses l then s
  else
    let s := s.setLosses l (s.losses l ++ [kind])
    let s := if kind = 1 ∧ s.bound l then s.epPost l 5 else s
    if s.get (F.PRT_EP_TIMERS_DOWN_HOLDOFF l) = 0 then s.portDown l else s

def execLossConditionDetected (ch kind : Nat) (s : State) : Host.Outcome State Fault Refusal := .next (s.lossSet ch kind)

def execLossConditionCleared (ch kind : Nat) (s : State) : Host.Outcome State Fault Refusal :=
  .next (s.setLosses ch ((s.losses ch).filter (· ≠ kind)))

/-- DOWN_HOLDOFF ends with the condition still there. -/
def execLinkDown (ch : Nat) (s : State) : Host.Outcome State Fault Refusal :=
  .next (if s.hasPort ch ∧ s.losses ch ≠ [] then s.portDown ch else s)

/-- UP_DEBOUNCE ends on an aligned endpoint or PHY free of faults: LINK_UP, and the measured delays (R292). -/
def execLinkUp (ch rxDelay txDelay : Nat) (s : State) : Host.Outcome State Fault Refusal :=
  .next (if s.hasPort ch ∧ s.losses ch = [] ∧ s.dataUp ∧ !s.unitOff (16 + ch / 4) then
      if !s.bound ch then s.phyUp ch
      else if s.linkUp ch then s
      else (s.sets [(F.TIM_CH_RX_DLY_RX_DLY ch, rxDelay % 65536), (F.TIM_CH_TX_DLY_TX_DLY ch, txDelay % 65536)]).declareUp ch
    else s)

/-- The first lanes that a SerDes reference serves: 0 client A, 1 client B, 2 line A, 3 line B (R60). -/
def refLanes (grp : Nat) : List Nat := (List.range 16).map (16 * grp + ·)

/-- A SerDes reference is lost: every port of its group loses lock and reports LOCAL_FAULT (R61). -/
def execSerdesRefLost (grp : Nat) (s : State) : Host.Outcome State Fault Refusal :=
  .next (if grp < 4 then (refLanes grp).foldl (fun s l => (s.lossSet l 0).lossSet l 2) s else s)

end Sys2Proof.Machine
end

