-- ==== Sys2Proof/Machine/Reset.lean ====
section
/-! DEFINITION. The resets of R407 and R408: what a data-plane, a control-plane, a wake and a device reset do to each kind
of state, and the power domains (R399, R401). -/

namespace Sys2Proof.Machine
open Sys2Proof

/-! ### Power domains and their slots (R399, R401) -/

/-- The domains of slots 0 to 12, which run at every reset. -/
def bootSlots : List Nat := [55, 48, 44, 45, 46, 47, 42, 41, 49, 50, 51, 43, 52]

/-- The domains of slots 13 to 55, which run at a data-plane start. -/
def dataSlots : List Nat := [36, 32, 33, 34, 35, 37, 38, 39, 40] ++ List.range 16 ++ (List.range 16).map (16 + ·) ++ [53, 54]

/-- The switch-ons of some slots on a part. -/
def closings (v : Variant) (slots : List Nat) : List (Bool × Nat) := (slots.filter (domainPresent v)).map (fun d => (true, d))

/-! ### The Peal loader (R27, R30, R49) -/

/-- A completion of a PEL command (R54). -/
def State.completePel (s : State) (op : Nat) (st : Status) (step : Nat := 0) (sec : Nat := 15) : State :=
  (s.sets [(F.PEL_RESULT_STATUS, st.code), (F.PEL_RESULT_OP, op), (F.PEL_RESULT_FAIL_STEP, step),
    (F.PEL_RESULT_FAIL_SECTION, sec)]).post F.PEL_EVENT_DONE 0

/-- The state of the Shadow bank (R54): 0 EMPTY, 1 LOADING, 2 VERIFIED, 3 ARMED, 4 DRAINING. -/
def State.shadowState (s : State) : Nat := s.get F.PEL_STATUS_SHADOW

/-- The Shadow bank cleared. -/
def State.shadowClear (s : State) : State := State.set { s with pel := { s.pel with shadow := none } } F.PEL_STATUS_SHADOW 0

/-- An alarm with a response beyond LOG and IRQ cancels an armed Strike (R27). -/
def State.strikeCancel (s : State) : State := if s.shadowState = 3 then s.shadowClear.completePel 3 .aborted else s

/-- A control-plane reset ends LOAD and ARM_AT and clears the Shadow bank. -/
def State.shadowAbort (s : State) : State :=
  match s.shadowState with
  | 1 => s.shadowClear.completePel 1 .aborted
  | 2 => s.shadowClear
  | 3 => s.shadowClear.completePel 3 .aborted
  | _ => s

/-! ### The data plane (R30) -/

/-- Every queued frame is a FLAP_DISCARD, whatever the hold time, and every queue restarts empty in DOWN; the copies in
Snare queues are lost to their sessions. -/
def State.bufferDown (s : State) : State :=
  let queued := s.buf.queues
  let s := s.setBuf { s.buf with queues := [], ready := [], sending := [], paused := [] }
  let s := (List.range 64).foldl (fun s ch => s.set (F.SWC_CH_STATUS_XOFF_SENT ch) 0) s
  let s := queued.foldl (fun s p => p.2.foldl (fun s f => s.queueDrop f .flapFrames 9) s) s
  let s := (List.range 8).foldl (fun s i =>
    let n := s.snare i
    n.queue.foldl (fun s _ => s.snareLost i) (s.setSnare i { n with queue := [] })) s
  s.allQueues.foldl (fun s q => s.set (F.SWC_Q_STATUS_STATE q) 3) s

/-- The queues that belong to no channel are NORMAL while the data plane runs. -/
def State.internalQueuesUp (s : State) : State :=
  (s.allQueues.filter (fun q => decide (1536 ≤ q))).foldl (fun s q => s.set (F.SWC_Q_STATUS_STATE q) 1) s

/-- The engines after their known-answer tests (R204): IN_SERVICE, with empty key slots. A RESTORE that was testing
completes with them. -/
def State.enginesTested (s : State) : State :=
  let s := match s.pool.testing with
    | some e => ((s.set F.DRM_CMD_RESULT_RUNNING 0).completeDrm 2 e .ok).post F.DRM_EVENT_EVENTS 1
    | none => s
  let s := s.setPool { s.pool with keys := [], testing := none }
  (List.range (enginesPresent s.fus.variant)).foldl (fun s e => s.set (F.DRM_ENG_STATUS_STATE e) 1) s

/-- A data-plane reset begins: ports, groups and the Twin link go down, and every frame is lost and counted (R30). -/
def State.dataPlaneReset (s : State) : State :=
  let s := s.setPwr { s.pwr with dpReset := true }
  let s := s.channels.foldl (fun s ch => s.declareDown ch false) s
  let s := s.pool.slots.foldl State.slotLost s
  let s := s.channels.foldl (fun s ch => s.set (F.SEQ_CH_DSN_COMMIT_DSN ch) (s.get (F.SEQ_CH_DSN_NEXT_DSN ch))) s
  let s := (s.bufferDown.setSch { s.sch with wire := [], horizon := [], credit := [], turn := [] })
  (s.flexReset.enginesTested).twinDpReset

/-! ### The control plane (R30, R408) -/

/-- A control-plane reset begins. -/
def State.controlPlaneReset (s : State) : State :=
  let s := s.setPwr { s.pwr with cpReset := true }
  let s := s.shadowAbort
  let s := State.samAbortAll { s with key := { s.key with hyb := [] } }
  let s := [0, 1, 2, 3].foldl State.releaseLocksOf s
  let s := (s.chimeCoresReset.tabReset).twinDown
  (List.range 28).foldl (fun s r => s.sets [(F.HIF_RS_CTL_ENABLE r, 0), (F.HIF_RS_CTL_STOPPED r, 0)]) s

/-! ### Device and wake resets (R385, R408, R413) -/

/-- The register fields that a device reset keeps: the tamper unit's own and the set point of VDD_CORE (AON). -/
def keptFields : List FKey :=
  [F.TMP_LOG_INFO_HEAD, F.TMP_LOG_INFO_WRAPPED, F.TMP_LOG_SEQ_NEXT_SEQ, F.TMP_BAT_INFO_HEAD, F.TMP_BAT_INFO_OVERFLOW,
    F.TMP_BAT_INFO_DEFERRED, F.TMP_STATUS_DEFERRED_PENDING, F.TMP_STATUS_ASSERTED, F.PWR_AVS_STATUS_VDD_CORE_MV]

/-- The token that AON keeps unlocks debug (R413), under the fuses as loaded. -/
def State.tokenPasses (s : State) : Bool :=
  match s.pwr.token with
  | some t => decide (t.serial = s.fus.serial) && decide (t.challenge.toNat = Config.random s.pwr.challenge % 2 ^ 128) &&
      s.signerOk t.signerSlot t.sig && sigsOk t.sig (Config.sha384 (tokenSigned t)) && !s.debugNever
  | none => false

/-- The domain slots as the root of the new reset period finds them (R237): under the test root those of the Device Root
are SEALED, under the Device Root those of the test root are zeroized. -/
def rootSlots (test : Bool) (t : NTab KeySlot) : NTab KeySlot :=
  NTab.update t {} (fun _ k =>
    if test then (if k.state = .valid ∧ !k.testRoot then { k with state := .sealed } else k)
    else if k.testRoot ∧ k.state ≠ .empty then { gen := (k.gen + 1) % 2 ^ 16 }
    else if k.state = .sealed then { k with state := .valid } else k)

/-- The fuse words that neither copy holds with good parity (R450). -/
def Fuses.unread (f : Fuses) : List Nat :=
  ((f.faults.filter (fun p => !p.2 && decide ((p.1, true) ∈ f.faults))).map Prod.fst).eraseDups

/-- The fuse words that load now, from the copies whose parity checks (R450); of a word that neither copy holds well the manual
gives no value, and each is a free value (log entry 130). -/
def State.fusesLoad (s : State) : NTab Nat :=
  (s.fus.unread.zipIdx).foldl (fun t p => NTab.set t (Fuses.shipped p.1) p.1 (Config.random (s.free + 3 + p.2) % 2 ^ 32)) s.fus.words

/-- The machine at the start of a reset period: only what `keep` and the battery, AON and flash hold is left. -/
def State.cleared (s : State) (keep : List FKey) : State :=
  { regs := s.regs.filter (fun p => decide (p.1 ∈ keep))
    fus := { s.fus with floorLoaded := s.fus.floor, loaded := s.fusesLoad }
    sam := { seed0 := s.free, seed1 := s.free + 1 }
    key := { domain := s.key.domain, tableKey := s.free + 2, batKey := s.key.batKey, batLost := s.key.batLost }
    hif := { linkSeen := s.hif.linkSeen }
    jnl := { s.jnlStagingLost.jnl with planned := false, rSnare := 0, reads := [], tally := [], bucket := 0, bucketAt := 0 }
    tmp := { s.tmp with events := 0 }
    pwr := { seq := closings s.fus.variant bootSlots, ledger := s.pwr.ledger, lowSince := s.pwr.lowSince
             challenge := s.pwr.challenge, token := s.pwr.token }
    out := s.out
    free := s.free + 3 + s.fus.unread.length
    pending := s.pending }

/-- The state of a case loop's sequence after some steps (R377). -/
def loopAfter : Nat → Nat → Nat
  | 0, x => x
  | n + 1, x => loopAfter n (Config.loopNext x % 2 ^ 16)

/-- The steps that the loops have made: one every 1 ms, every 8 ms on battery. -/
def State.loopSteps (s : State) : Nat :=
  s.tmp.loopRun + (s.nowNs - s.tmp.loopAt) / (if s.tmp.onBattery then 8000000 else 1000000)

/-- The bit that a loop's output drives now (R377): loop B or loop A. -/
def State.loopBit (s : State) (b : Bool) : Nat :=
  loopAfter s.loopSteps (Config.random (if b then s.tmp.loopB else s.tmp.loopA) % 2 ^ 16) % 2

/-- The DRBG seeds both sequences, at each device reset. -/
def State.loopSeed (s : State) : State :=
  { s with free := s.free + 2
           tmp := { s.tmp with loopA := s.free, loopB := s.free + 1, loopRun := 0, loopAt := s.nowNs } }

/-- The sequences go on from their own states in `was` as the clock that steps them changes. -/
def State.loopKeep (s was : State) : State :=
  { s with tmp := { s.tmp with loopA := was.tmp.loopA, loopB := was.tmp.loopB, loopRun := was.loopSteps, loopAt := s.nowNs } }

/-- The outputs during a device reset or a wake reset (R466). -/
def State.resetPins (s : State) : State :=
  (((s.clapTo .absent).emit (.mainEnable true)).emit (.extReset true)).emit (.pcieUp false)

/-- The engines and the fuse load of a reset, and its cause. A load that used one copy alone is not CHECK_OK (R450). -/
def State.resetLoads (s : State) (cause : Nat) : State :=
  (s.enginesTested).sets [(F.FUS_STATUS_CHECK_OK, bit (s.fus.faults = [])), (F.PWR_STATUS_RESET_CAUSE, cause)]

/-- A device reset with its RESET_CAUSE: 0 power-on, 1 RESET_N, 2 tamper, 3 command, 4 watchdog. A token is checked and
consumed, and a new challenge is drawn. A device held in reset stays so (R385). -/
def State.deviceReset (s : State) (cause : Nat) : State :=
  if s.tmp.held then s
  else
    let s := s.resetPins.cleared keptFields
    let test := s.tokenPasses
    let s := s.setPwr { s.pwr with token := none, challenge := s.free }
    let s := { s.drew with key := { s.key with domain := rootSlots test s.key.domain } }
    ((s.sets [(F.PWR_STATUS_DEBUG_UNLOCKED, bit test), (F.KEY_STATUS_TEST_ROOT, bit test)]).resetLoads cause).loopSeed

/-- The register fields that a wake reset keeps besides: the traffic hold and the root of the reset period. -/
def keptAtWake : List FKey := keptFields ++ [F.TMP_STATUS_HOLD, F.PWR_STATUS_DEBUG_UNLOCKED, F.KEY_STATUS_TEST_ROOT]

/-- The counters across a wake reset: only a device reset sets the fixed ones to 0 and begins their sequence numbers anew,
those of the SAs apart, whose SAs return to FREE (R420, R429, R433). -/
def Counters.awoken (c : Counters) : Counters :=
  { fixed := c.fixed.filter (fun p => !(decide (saOff 0 0 ≤ p.1) && decide (p.1 < scOff 0 0)))
    rollSeq := c.rollSeq
    sampleSeq := c.sampleSeq }

/-- A wake ends HIBERNATE: PWR_MAIN_EN goes high and the wake reset follows (R403, R404). -/
def State.wakeReset (s : State) (causes : Nat) : State :=
  let was := s
  let saved := s.pwr.saved
  let events := s.tmp.events
  let s := s.resetPins.cleared keptAtWake
  let s := { s with
    tim := { s.tim with now := saved }
    tmp := { s.tmp with events := events }
    cnt := was.cnt.awoken
    pwr := { s.pwr with wakeReset := true } }
  ((s.set F.PWR_STATUS_WAKE_CAUSE causes).resetLoads 5).loopKeep was

/-- Everything that a device reset keeps but the domains and the battery unit lose with the main supplies (R393, R414):
the on-die log, the ledger copy, the voltage, the token. -/
def State.aonLost (s : State) : State :=
  let s := s.sets [(F.TMP_LOG_INFO_HEAD, 0), (F.TMP_LOG_INFO_WRAPPED, 0), (F.PWR_AVS_STATUS_VDD_CORE_MV, 800)]
  { s with
    tmp := { s.tmp with log := [], omitReset := [], held := false, journaled := 0, pend := 0, pendSrc := 0 }
    pwr := { s.pwr with ledger := [], token := none, lowSince := false }
    hif := { s.hif with linkSeen := false } }

/-- What the loss of VBAT loses besides (R247, R389). -/
def State.batteryLost (s : State) : State :=
  let s := s.sets [(F.TMP_LOG_SEQ_NEXT_SEQ, 0), (F.TMP_BAT_INFO_HEAD, 0), (F.TMP_BAT_INFO_OVERFLOW, 0),
    (F.TMP_BAT_INFO_DEFERRED, 0), (F.TMP_STATUS_DEFERRED_PENDING, 0)]
  { s with
    tmp := { s.tmp with bat := [], batMask := [], lastSec := none }
    key := { s.key with domain := [], batKey := none } }

end Sys2Proof.Machine
end

