-- ==== Sys2Proof/Machine/Tamper.lean ====
section
/-! DEFINITION. The tamper unit (R376 to R398): sources, masks, runs, deferral, and the supplies of R389. -/

namespace Sys2Proof.Machine
open Sys2Proof

def State.setTmp (s : State) (t : Tamper) : State := { s with tmp := t }

/-- A completion of a TMP command (R398). -/
def State.completeTmp (s : State) (op : Nat) (st : Status) : State :=
  s.sets [(F.TMP_CMD_RESULT_STATUS, st.code), (F.TMP_CMD_RESULT_OP, op)]

/-! ### Sources and masks (R376, R381, R387, R388) -/

/-- The condition sources; the others are events. -/
def isCondition (src : Nat) : Bool := src ≤ 6 || (9 ≤ src && src ≤ 11)

/-- The sources that the battery domain monitors too. -/
def batSources : List Nat := [0, 1, 3, 5, 9, 10]

/-- The battery domain's copy of a mask, or the fused default where no Strike gave one. -/
def State.batMaskOf (s : State) (src : Nat) : Nat :=
  match Tab.get s.tmp.batMask 0 src with
  | 0 => s.defaultResponse src ||| s.minResponse src ||| 1
  | m => m

/-- The mask that an alarm takes now. -/
def State.maskOf (s : State) (src : Nat) : Nat := if s.tmp.onBattery then s.batMaskOf src else s.effectiveMask src

/-- A condition source is asserted. -/
def State.asserted (s : State) (src : Nat) : Bool := (s.get F.TMP_STATUS_ASSERTED).testBit src

/-- The monitor of a source runs. In a device held in reset those of AON and BAT do (R385). -/
def State.monitored (s : State) (src : Nat) : Bool :=
  decide (src < 16) && !s.srcDisabled src &&
    (if s.tmp.onBattery then decide (src ∈ batSources)
     else if s.pwr.state = .hibernate ∨ s.tmp.held then decide (src ∈ batSources) || decide (src = 11)
     else true)

/-! ### Log entries (R386, R389, R391, R395, R396) -/

/-- The marks of where an entry was written: on battery, or in HIBERNATE. -/
def State.placed (s : State) (e : LogEntry) : LogEntry :=
  if s.tmp.onBattery then
    { e with
      sec := s.tmp.lastSec.getD 0 + s.nowSec, state := 4, policy := decide (s.tmp.batMask ≠ [])
      timeValid := s.tmp.lastSec.isSome, estimated := true }
  else { e with estimated := decide (s.pwr.state = .hibernate) }

/-- An entry that only the battery log receives; one that finds no room takes no SEQ. -/
def State.batWrite (s : State) (e : LogEntry) : State :=
  if s.batSlot = none then s.batPut e false else s.seqUsed.batPut e false

/-- An entry written now; `run` is the mask of its run, whose steps from ZEROIZE_SESSION on put it in the battery log too. -/
def State.write (s : State) (e : LogEntry) (run : Nat) : State :=
  if s.tmp.onBattery then s.batWrite e
  else
    let s := s.seqUsed.logPut e
    if run &&& 0x78 = 0 then s else s.batPut e true

/-- The ASSERT entry of an alarm. -/
def State.assertEntry (s : State) (src value : Nat) (same : Bool) : LogEntry :=
  let m := s.maskOf src
  let e := s.placed (s.newEntry src 0 m (value % 2 ^ 32))
  { e with sameInstant := same, deferred := if s.tmp.onBattery then m &&& 0xFE else 0 }

/-! ### Deferred bits (R389, R390) -/

/-- The deferred mask set. -/
def State.setDeferred (s : State) (m : Nat) : State :=
  s.sets [(F.TMP_BAT_INFO_DEFERRED, m), (F.TMP_STATUS_DEFERRED_PENDING, if m = 0 then 0 else 1)]

/-- A deferred bit is due; it leaves the mask. -/
def State.deferDue (s : State) (i : Nat) : Bool := (s.get F.TMP_BAT_INFO_DEFERRED).testBit i

def State.deferDone (s : State) (i : Nat) : State := s.setDeferred (clearBits (s.get F.TMP_BAT_INFO_DEFERRED) (2 ^ i))

/-- The deferred TRAFFIC_HOLD is in force from the first Strike. -/
def State.deferredHold (s : State) : State :=
  if s.deferDue 2 then (s.deferDone 2).sets [(F.TMP_STATUS_HOLD, 1), (F.TMP_STATUS_RESPONDED, 1)] else s

/-- The IRQ response: vector 18, unless the event itself has just fired it, and the management cores (R382). -/
def State.irqResponse (s : State) (fired : Bool) : State :=
  let s := if fired then s else s.fire 18
  { s with out := [.core 3 18, .core 2 18, .core 1 18, .core 0 18] ++ s.out }

/-- The deferred IRQ is posted at the first PCIe link-up. -/
def State.deferredIrq (s : State) : State := if s.deferDue 1 then (s.deferDone 1).irqResponse false else s

/-- The latest battery entry whose TWIN_NOTIFY was deferred. -/
def State.noticeEntry (s : State) : Option LogEntry :=
  ((s.tmp.bat.filterMap (fun p => p.2)).filter (fun b => b.entry.deferred.testBit 7)).foldl (fun b x => match b with
    | some y => if y.seq < x.entry.seq then some x.entry else b
    | none => some x.entry) none

/-- The deferred TWIN_NOTIFY is sent at the first Twin link-up. -/
def State.deferredNotice (s : State) : State :=
  if s.deferDue 7 then
    let e := s.noticeEntry
    (s.deferDone 7).twinSend (.notice ((e.map (fun e => e.source)).getD 0) ((e.map (fun e => e.mask)).getD 0)) true
  else s

/-! ### The run (R382 to R386) -/

/-- One frame in an engine or in egress discarded by a zeroization. -/
def State.tamperDrop (s : State) (t : Slot) : State :=
  let s := s.chCount t.ch .tamperDiscard
  let s := if 0 < t.committed then (s.emit (.frame t.ch (t.out.take (128 * t.committed)) true t.frame.td)).quietDrop t.frame 0x45
    else s.discardUncoded t.frame t.ch
  let s := s.setSlot' { t with dropped := true, engine := none, out := [], sealed := none, opened := none }
  (State.skipDropped s.pool.slots.length s t.ch).pauseSync t.frame.inCh

/-- Every frame in an engine or in egress is discarded. -/
def State.tamperDiscard (s : State) : State :=
  (s.pool.slots.filter (fun t => t.engine.isSome && !t.dropped)).foldl State.tamperDrop s

/-- RESET, and HOLD_IN_RESET beside it. -/
def State.resetRun (s : State) (hold : Bool) : State :=
  let s := s.setTmp { s.tmp with omitReset := (List.range 16).filter (fun x => isCondition x && s.asserted x), pend := 0 }
  let s := s.deviceReset 2
  s.setTmp { s.tmp with held := s.tmp.held || hold }

/-- The steps of a run beyond IRQ, in their order. -/
def State.runSteps (s : State) (mask src : Nat) : State :=
  if mask / 4 = 0 then s
  else
    let s := s.set F.TMP_STATUS_RESPONDED 1
    let s := if mask.testBit 2 then s.set F.TMP_STATUS_HOLD 1 else s
    let s := if mask.testBit 7 then s.twinNotify src mask else s
    let s := if mask.testBit 3 ∨ mask.testBit 4 then s.tamperDiscard else s
    let s := if mask.testBit 3 then s.zeroizeSession else s
    let s := if mask.testBit 4 then s.zeroizeAll else s
    if mask.testBit 5 ∨ mask.testBit 6 then s.resetRun (mask.testBit 6) else s

/-- A run waits. -/
def State.pendRun (s : State) (mask src : Nat) : State :=
  s.setTmp { s.tmp with pend := s.tmp.pend ||| mask, pendSrc := if mask.testBit 7 then src else s.tmp.pendSrc }

/-- A wake event while HIBERNATE is entered is kept; in HIBERNATE the wake begins at once (R404). -/
def State.wakeEvent (s : State) (causes : Nat) : State :=
  if s.pwr.state = .hibernate then s.wakeReset causes
  else if s.pwr.goal = some (.stop .hibernate) then s.setPwr { s.pwr with wakes := s.pwr.wakes ||| causes }
  else s

/-- The steps beyond IRQ, at once or when the planes and domains they act on are up (R30, R385, R391, R392). -/
def State.respond (s : State) (mask src : Nat) : State :=
  if s.tmp.held then s
  else if s.pwr.state = .hibernate then (s.pendRun mask src).wakeEvent 4
  else
    let s := s.wakeEvent 4
    if mask / 4 = 0 then s
    else if s.pwr.goal = some .boot ∨ (s.pwr.dpReset ∧ mask.testBit 2) then s.pendRun (mask / 4 * 4) src
    else if s.pwr.cpReset ∧ mask &&& 0x98 ≠ 0 then
      (s.runSteps (mask &&& 4) src).pendRun (clearBits (mask / 4 * 4) 4) src
    else s.runSteps mask src

/-- A run that waited. -/
def State.pended (s : State) : State :=
  let m := s.tmp.pend
  let src := s.tmp.pendSrc
  if m = 0 then s
  else
    let s := s.setTmp { s.tmp with pend := 0, pendSrc := 0 }
    let s := if m.testBit 1 then (if s.pwr.cpReset then s.pendRun 2 src else s.irqResponse false) else s
    s.respond m src

/-! ### Alarms (R376, R386, R389) -/

/-- What the registers show of an assertion. -/
def State.noteAssert (s : State) (src value : Nat) : State :=
  let s := if isCondition src then s.set F.TMP_STATUS_ASSERTED (setBit (s.get F.TMP_STATUS_ASSERTED) src) else s
  if s.tmp.onBattery then s
  else ((s.set (F.TMP_SRC_VALUE_VALUE src) (value % 2 ^ 32)).bump (F.TMP_SRC_COUNT_COUNT src) 32 1).post F.TMP_EVENT_EVENTS src

/-- The alarms of one instant that assert, in source order. -/
def State.accepted (s : State) (alarms : List (Nat × Nat)) : List (Nat × Nat) :=
  (List.range 16).filterMap (fun src => (alarms.find? (fun p => p.1 = src)).bind (fun p =>
    if s.monitored src ∧ !(isCondition src && s.asserted src) then some p else none))

/-- The union of the masks of some alarms. -/
def State.unionMask (s : State) (hits : List (Nat × Nat)) : Nat := hits.foldl (fun m p => m ||| s.maskOf p.1) 0

/-- Alarms of one instant on battery: entries, the domain slots, and deferral. -/
def State.batteryAlarms (s : State) (hits : List (Nat × Nat)) : State :=
  let m := s.unionMask hits
  let s := hits.foldl (fun s p => (s.noteAssert p.1 p.2).batWrite (s.assertEntry p.1 p.2 (decide (1 < hits.length)))) s
  let s := if m.testBit 4 then s.zeroizeBattery else s
  s.setDeferred (s.get F.TMP_BAT_INFO_DEFERRED ||| (m &&& 0xFE))

/-- LOG and IRQ of the alarms of one instant; `run` is the mask of the run. An IRQ waits for the end of a control-plane reset
(R30). -/
def State.logAlarms (s : State) (hits : List (Nat × Nat)) (run : Nat) : State :=
  let was := decide (18 ∈ s.irq)
  let s := hits.foldl (fun s p => s.noteAssert p.1 p.2) s
  let s := hits.foldl (fun s p => s.write (s.assertEntry p.1 p.2 (decide (1 < hits.length))) run) s
  if run.testBit 1 ∧ s.pwr.state ≠ .hibernate then
    if s.pwr.cpReset then s.pendRun 2 0 else s.irqResponse (!was && decide (18 ∈ s.irq))
  else s

/-- The source that a NOTICE names: the first whose mask has TWIN_NOTIFY. -/
def State.noticeSource (s : State) (hits : List (Nat × Nat)) : Nat :=
  ((hits.find? (fun p => (s.maskOf p.1).testBit 7)).map Prod.fst).getD 0

/-- The alarms of one instant. -/
def State.alarm (s : State) (alarms : List (Nat × Nat)) : State :=
  match s.accepted alarms with
  | [] => s
  | hits =>
    if s.tmp.onBattery then s.batteryAlarms hits
    else
      let run := s.unionMask hits
      let src := s.noticeSource hits
      let s := s.logAlarms hits run
      (if run / 4 = 0 then s else s.strikeCancel).respond run src

/-- CLK_FREQ with the value of a stopped clock or a lost lock, under SRC 0: whether it is the time PLL that lost its lock the
alarm does not tell, so a free value decides whether REF_LOCKED falls (R289, R395, R406). -/
def State.timePllLost (s : State) (alarms : List (Nat × Nat)) : State :=
  if (4, 0x7FFFFFFF) ∈ alarms ∧ s.get F.TIM_CFG_SRC = 0 then
    if s.draw 1 = 0 then s.drew.set F.TIM_STATUS_REF_LOCKED 0 else s.drew
  else s

def execTamperAssert (alarms : List (Nat × Nat)) (s : State) : Host.Outcome State Fault Refusal :=
  .next ((s.timePllLost alarms).alarm alarms)

/-- VALUE of a CLEAR entry: a measurement that nothing gives for the measured sources, the pair for SHADOW_MISMATCH. -/
def State.clearValue (s : State) (src : Nat) : Nat :=
  if src ≤ 4 then s.draw 32 else if src = 6 then s.get (F.TMP_SRC_VALUE_VALUE src) else 0

/-- A condition source clears (R393). -/
def State.tamperClear (s : State) (src : Nat) : State :=
  if isCondition src ∧ s.monitored src ∧ s.asserted src then
    let s := s.set F.TMP_STATUS_ASSERTED (clearBits (s.get F.TMP_STATUS_ASSERTED) (2 ^ src))
    let s := s.setTmp { s.tmp with omitReset := s.tmp.omitReset.filter (· ≠ src) }
    s.drew.write (s.placed (s.newEntry src 1 (s.maskOf src) (s.clearValue src))) 0
  else s

/-- A shadowed pair agrees again: its write or the reload of its latch ends the SHADOW_MISMATCH that names it (R380). -/
def State.pairAgrees (s : State) (pair : Nat → Bool) : State :=
  if pair (s.get (F.TMP_SRC_VALUE_VALUE 6)) then s.tamperClear 6 else s

def execTamperClear (src : Nat) (s : State) : Host.Outcome State Fault Refusal := .next (s.tamperClear src)

/-! ### Commands (R383, R398) -/

def execSoft (who code : Nat) (s : State) : Host.Outcome State Fault Refusal :=
  .next (if isVf who then s.ignored who F.TMP_STATUS_WRITE_IGNORED
    else if s.srcDisabled 14 then s.completeTmp 1 .denied
    else (s.completeTmp 1 .ok).alarm [(14, code % 256)])

/-- A source that is still asserted keeps the hold. -/
def State.holdKept (s : State) : Bool := (List.range 16).any (fun x => s.asserted x && (s.effectiveMask x).testBit 2)

/-- RELEASE_HOLD; what SOURCE and MASK of its entry hold is open. -/
def execReleaseHold (who : Nat) (s : State) : Host.Outcome State Fault Refusal :=
  .next (if isVf who then s.ignored who F.TMP_STATUS_WRITE_IGNORED
    else if s.get F.TMP_STATUS_HOLD = 0 ∨ s.holdKept then s.completeTmp 2 .stateConflict
    else
      let e := s.newEntry (s.draw 4) 4 (s.drew.draw 8) 0
      ((s.drew.drew.set F.TMP_STATUS_HOLD 0).write e 0).completeTmp 2 .ok)

/-! ### The end of slot 12 (R385, R390, R392) -/

/-- Battery entries without a copy on die, in SEQ order, copied with FLAGS.BATTERY. -/
def State.copyBattery (s : State) : State :=
  let l := s.tmp.bat.filterMap (fun p => match p.2 with
    | some ⟨e, false⟩ => some e
    | _ => none)
  let sorted := l.foldl (fun l e => seqInsert e l) []
  let s := s.setTmp { s.tmp with bat := NTab.update s.tmp.bat none (fun _ b => b.map (fun b => { b with copied := true })) }
  sorted.foldl (fun s e => s.logPut { e with battery := true }) s

/-- The deferred bits that run before boot: ZEROIZE_ALL, RESET, HOLD_IN_RESET, and ZEROIZE_SESSION, which counts as run. -/
def State.deferredRun (s : State) : State :=
  let s := s.copyBattery
  let d := s.get F.TMP_BAT_INFO_DEFERRED
  let run := d &&& 0x78
  if run = 0 then s
  else
    let s := s.setDeferred (clearBits d 0x78)
    let s := if run.testBit 4 then s.zeroizeAll else s
    let s := s.drew.write (s.newEntry (s.draw 4) 2 run 0) 0
    let s := if run / 16 = 0 then s else s.set F.TMP_STATUS_RESPONDED 1
    if run.testBit 5 ∨ run.testBit 6 then s.resetRun (run.testBit 6) else s

/-- The sources still asserted after a RESET response: logged again, and run without RESET and HOLD_IN_RESET. -/
def State.stillAsserted (s : State) : State :=
  let hits := (s.tmp.omitReset.filter s.asserted).map (fun x => (x, s.get (F.TMP_SRC_VALUE_VALUE x)))
  let s := s.setTmp { s.tmp with omitReset := [] }
  if hits = [] then s
  else
    let run := clearBits (s.unionMask hits) 0x60
    (s.logAlarms hits run).respond run (s.noticeSource hits)

/-! ### The cold path (R223) -/

/-- The frames that wait on a fetch are discarded as COLD_FAULT. -/
def State.coldFault (s : State) (a : Nat) : State :=
  let bad := s.queuedFrames.filter (fun f => f.cold = some a)
  let s := s.queuesWithout (fun f => f.cold = some a)
  bad.foldl (fun s f =>
    let s := match f.sc with
      | some k => s.scCount k .coldFault
      | none => s
    (s.discarded f f.outCh 0x39 0x39).pauseSync f.inCh) s

/-- A fetch is no longer pending, and the next one asked for takes its place. -/
def State.fetchOver (s : State) (a : Nat) : State :=
  State.samFetch { s with sam := { s.sam with fetch := s.sam.fetch.filter (· ≠ a) } }

/-- A fetch ends. The SA enters the store, its frames may go and the commands that waited for it go on; at a store with no room
the fetch waits for an entry to leave (R222). Or its copy fails: its frames are discarded, its commands end and KEYSTORE_ECC is
raised. -/
def State.coldFetchDone (s : State) (a : Nat) (ok : Bool) : State :=
  if a ∉ s.sam.fetch then s
  else if ok then
    let s' := s.toDie a
    if s'.onDie a then
      let s := s'.fetchOver a
      (s.setBuf { s.buf with queues := s.buf.queues.map (fun p =>
        (p.1, p.2.map (fun f => if f.cold = some a then { f with cold := none } else f))) }).samResume
    else s
  else (((s.fetchOver a).coldFault a).samAbort (fun w => w.sa = a)).alarm [(12, 0)]

def execColdFetchDone (sa : Nat) (ok : Bool) (s : State) : Host.Outcome State Fault Refusal := .next (s.coldFetchDone sa ok)

/-! ### Supplies and resets (R389, R407, R468, R469) -/

/-- VDDIO_18 falls away: a device reset at once, and the device runs on battery only. -/
def State.batteryOnly (s : State) : State :=
  if s.tmp.onBattery then s
  else
    let last := if s.timeValid then some s.nowSec else none
    let was := s
    let s := s.setTmp { s.tmp with held := false }
    let s := s.deviceReset 0
    let s := s.set F.TMP_STATUS_ASSERTED (s.get F.TMP_STATUS_ASSERTED &&& 0x62B)
    (s.setTmp { s.tmp with onBattery := true, lastSec := last }).loopKeep was

def execBatteryOnly (s : State) : Host.Outcome State Fault Refusal := .next s.batteryOnly

/-- Copies of fuse words have lost their parity (R450). -/
def State.parityLost (s : State) (parity : List (Nat × Bool)) : State :=
  { s with fus := { s.fus with faults := parity ++ s.fus.faults.filter (fun p => decide (p ∉ parity)) } }

/-- Power-up. -/
def State.powerOn (s : State) (vbatLost : Bool) (parity : List (Nat × Bool)) : State :=
  let s := s.aonLost.parityLost parity
  let s := if vbatLost then s.batteryLost.set F.TMP_STATUS_ASSERTED 0 else s
  let s := { s.setTmp { s.tmp with onBattery := false } with key := { s.key with batLost := vbatLost } }
  let s := s.deviceReset 0
  if vbatLost then s.post F.KEY_EVENT_EVENTS 4 else s

def execPowerOn (how : PowerUp) (s : State) : Host.Outcome State Fault Refusal :=
  .next (s.powerOn how.vbatLost how.parity)

/-- RESET_N low for 1 µs: in HIBERNATE the start is a device reset too. -/
def execResetN (s : State) : Host.Outcome State Fault Refusal := .next (if s.tmp.onBattery then s else s.deviceReset 1)

/-- A rail leaves its range: a device reset. Rail 0 is VDD_CORE, whose removal ends a hold in reset. Main rails are ignored
on battery, and removed under PWR_MAIN_EN in HIBERNATE. -/
def execRailFault (rail : Nat) (s : State) : Host.Outcome State Fault Refusal :=
  .next (if s.tmp.onBattery ∨ s.pwr.state = .hibernate then s
    else
      let s := if rail = 0 then s.setTmp { s.tmp with held := false } else s
      s.deviceReset 0)

end Sys2Proof.Machine
end

