-- ==== Sys2Proof/Machine/Address.lean ====
section
/-! DEFINITION. The addresses of the register map (R436, R437, R443, R445): which register an offset of BAR0 names, as each
requester sees it. -/

namespace Sys2Proof.Machine
open Sys2Proof

/-- A register at an address: its row and its element, element times words plus word where an element spans several
words. -/
structure Place where
  row : RegRow
  elem : Nat
deriving DecidableEq, Repr

/-- The registers of a block (R436). -/
def blockTable : Nat → List RegRow
  | 0 => regTableTOP
  | 1 => regTablePEL
  | 2 => regTablePRT
  | 3 => regTableFLX
  | 4 => regTableCLS
  | 5 => regTableTBL
  | 6 => regTableSWC
  | 7 => regTableDRM
  | 8 => regTableSEQ
  | 9 => regTableSAM
  | 10 => regTableKEY
  | 11 => regTableSCH
  | 12 => regTableTIM
  | 13 => regTableTWN
  | 14 => regTableHIF
  | 15 => regTableCHM
  | 16 => regTableTAB
  | 17 => regTableJNL
  | 18 => regTableTMP
  | 19 => regTablePWR
  | 20 => regTableCNT
  | 21 => regTableFUS
  | 22 => regTableVF
  | _ => []

/-- The element of a register that stands at a block offset. -/
def RegRow.at? (r : RegRow) (off : Nat) : Option Nat :=
  if off < r.off then none
  else
    let d := off - r.off
    let i := if r.count = 1 then 0 else d / r.stride
    let w := (if r.count = 1 then d else d % r.stride) / 4
    if d % 4 = 0 ∧ i < r.count ∧ w < r.words then some ((r.first + i) * r.words + w) else none

/-- The register at an offset of a block. -/
def placeIn (b off : Nat) : Option Place :=
  (blockTable b).findSome? (fun r => (r.at? off).map (fun e => ⟨r, e⟩))

/-- The places of the views that are no registers of a table: the table window, the log entries of the tamper unit and
the ledger copy, all of them words to read (R395, R396, R419, R444). -/
inductive ViewWord where
  | table (byte : Nat)
  | log (i w : Nat)
  | battery (i w : Nat)
  | ledger (i w : Nat)
deriving DecidableEq, Repr

/-- What stands at an address. -/
inductive Target where
  | reg (p : Place)
  | view (v : ViewWord)
  | unmapped
deriving DecidableEq, Repr

/-- The view words of a block. -/
def viewIn (b off : Nat) : Option ViewWord :=
  if b = 18 then
    if 0x1000 ≤ off ∧ off < 0x3000 then some (.log ((off - 0x1000) / 32) ((off - 0x1000) % 32 / 4))
    else if 0x3000 ≤ off ∧ off < 0x3200 then some (.battery ((off - 0x3000) / 32) ((off - 0x3000) % 32 / 4))
    else none
  else if b = 19 ∧ 0x1000 ≤ off ∧ off < 0x2000 then some (.ledger ((off - 0x1000) / 64) ((off - 0x1000) % 64 / 4))
  else none

/-- The target of a PF or core access; the offset is a multiple of 4. -/
def targetPf (off : Nat) : Target :=
  if off < 22 * 0x40000 then
    match placeIn (off / 0x40000) (off % 0x40000) with
    | some p => .reg p
    | none =>
      match viewIn (off / 0x40000) (off % 0x40000) with
      | some v => .view v
      | none => .unmapped
  else if 0x1000000 ≤ off ∧ off < 0x2000000 then .view (.table (off - 0x1000000))
  else .unmapped

/-- A register of a block with its element replaced. -/
def placeAs (b off elem : Nat) : Target :=
  match placeIn b off with
  | some p => .reg { p with elem := elem }
  | none => .unmapped

/-- A register of a block as it stands. -/
def placeOf (b off : Nat) : Target :=
  match placeIn b off with
  | some p => .reg p
  | none => .unmapped

/-- The target of an access through the BAR0 of VF `v`, 1 to 8 (R445). -/
def targetVf (v off : Nat) : Target :=
  if off < 0x1000 then placeAs 22 off (v - 1)
  else if off < 0x1030 then placeOf 5 (0x0100 + (off - 0x1000))
  else if 0x2000 ≤ off ∧ off < 0x2040 then placeOf 5 (0x1000 + (4 + v) * 0x40 + (off - 0x2000))
  else if 0x3000 ≤ off ∧ off < 0x3100 then placeOf 9 (0x1000 + (4 + v) * 0x100 + (off - 0x3000))
  else if 0x4000 ≤ off ∧ off < 0x4010 then placeOf 12 (0x10 + (off - 0x4000))
  else if 0x5000 ≤ off ∧ off < 0x5080 then
    placeAs 14 (0x1000 + (off - 0x5000) % 0x40) (8 + 2 * (v - 1) + (off - 0x5000) / 0x40)
  else if 0x8000 ≤ off ∧ off < 0xA000 then placeOf 15 (0x1000 + (off - 0x8000))
  else .unmapped

/-- The target of a core's access: the image of the PF with the cores' own ring sets 0 to 3 at the places of the PF's
(R332, R437). -/
def targetCore (off : Nat) : Target :=
  let d := off - (14 * 0x40000 + 0x1000)
  if 14 * 0x40000 + 0x1000 ≤ off ∧ off < 14 * 0x40000 + 0x1200 then
    if d / 0x40 < 4 then placeAs 14 (0x1000 + d % 0x40) (24 + d / 0x40) else .unmapped
  else targetPf off

/-- What stands at a multiple of 4 for a requester. -/
def targetOf (who off : Nat) : Target :=
  if isVf who then targetVf (who - 4) off else if isCore who then targetCore off else targetPf off

/-! ### Elements of absent units (R9) -/

/-- The registers whose elements are channels, those of FLX_CLI apart. -/
def channelRegs : List Reg :=
  [.PRT_EP_CFG, .PRT_EP_TIMERS, .PRT_EP_STATUS, .PRT_EP_EVENT, .PRT_EP_MASK, .CLS_CH_CFG, .CLS_CH_SC, .SWC_CH_CFG,
    .SWC_CH_PAUSE, .SWC_CH_STATUS, .SEQ_CH_DSN, .SEQ_CH_INFLIGHT, .SEQ_CH_RECALL, .SEQ_CH_PROT, .SEQ_CH_ISCI_LO,
    .SEQ_CH_ISCI_HI, .SCH_CH_CFG, .SCH_CH_RATE, .SCH_CH_BURST, .SCH_CH_TOKENS, .SCH_CH_GATE, .SCH_CH_CYCLE, .SCH_CH_LEAD,
    .TIM_CH_CFG, .TIM_CH_LINK_DLY, .TIM_CH_RX_DLY, .TIM_CH_TX_DLY]

/-- The registers whose elements are queues. -/
def queueRegs : List Reg := [.SWC_Q_CFG, .SWC_Q_STATUS, .SCH_Q_RATE, .SCH_Q_BURST, .SCH_Q_CFG, .SCH_Q_TOKENS]

/-- The registers whose elements are engines, the completion ports of the engines among them. -/
def engineRegs : List Reg :=
  [.DRM_ENG_STATUS, .DRM_ENG_FAULT, .DRM_ENG_FAULT_NS, .DRM_ENG_ECC, .SEQ_PORT_STATUS, .SEQ_PORT_STALL]

/-- The channel that a register element belongs to, if it belongs to one (R136, R443). -/
def Place.channel? (p : Place) : Option Nat :=
  if p.row.reg ∈ channelRegs then some p.elem
  else if p.row.reg ∈ queueRegs ∧ p.elem < 1536 then some (p.elem / 8)
  else if p.row.block = 3 ∧ 0x4000 ≤ p.row.off then some (64 + p.elem)
  else none

/-- The element belongs to a unit, a port or an engine that the part does not have (R9). -/
def unitAbsent (v : Variant) (p : Place) : Bool :=
  (p.row.block = 3 && !hasFlexe v) || ((p.row.block = 13 || p.row.block = 17) && !hasTwin v) ||
    (decide (p.row.reg ∈ engineRegs) && decide (p.elem < 16) && decide (enginesPresent v ≤ p.elem)) ||
    (decide (p.row.reg ∈ queueRegs) && decide (1544 ≤ p.elem) && decide (p.elem < 1552) && !hasTwin v) ||
    (match p.channel? with
    | some ch => !channelInVariant v ch
    | none => false)

end Sys2Proof.Machine
end

