-- ==== Sys2Proof/Machine/Limits.lean ====
section
/-! DEFINITION. Which writes of a register are ignored whole (R440): values that the register tables forbid, states in
which a field cannot be written, elements that are not present, and windows and views of other requesters. -/

namespace Sys2Proof.Machine
open Sys2Proof

/-- A value lies outside a range. -/
def outside (lo hi n : Nat) : Bool := decide (n < lo) || decide (hi < n)

/-- TOP, CLS, TBL and PRT (R67, R70, R76, R130, R131, R446): `e` is the element, `v` the word written. -/
def State.portLimit (s : State) (r : Reg) (e v : Nat) : Bool :=
  match r with
  | .TOP_TBLWIN => decide (16 < field v 8 5)
  | .PRT_EP_CFG => outside 64 (if e < 32 then 16000 else 16032) (field v 0 14) ||
      (field v 14 1 = 1 && !(s.pel.active.map (fun g => imgLpi g e)).getD false)
  | .PRT_EP_TIMERS => decide (1000 < field v 0 10) || decide (1000 < field v 16 10)
  | .CLS_CH_CFG =>
    let d := field v 8 8
    decide (d ≠ 255) && (!s.bound d || lineSide d = lineSide e)
  | .TBL_LEASE => outside 100 1000000 (field v 0 20)
  | _ => false

/-- FLX, SWC, DRM and SEQ (R100, R158, R185, R209, R210, R338). -/
def State.coreLimit (s : State) (r : Reg) (e v : Nat) : Bool :=
  match r with
  | .FLX_GRP_CFG => decide (1000 < field v 0 10) || decide (1000 < field v 10 10)
  | .FLX_GRP_DESKEW => decide (8000 < field v 0 14)
  | .SWC_HOLD => decide (10000 < field v 0 14)
  | .SWC_SNR_WB_LO => decide (v % 8 ≠ 0)
  | .SWC_SNR_CONS => decide (field v 0 30 % 8 ≠ 0) || decide (s.snrSize ≤ field v 0 30)
  | .SWC_SNR_SEL => field v 16 2 = 3
  | .SWC_SNR_CTL => decide (16 < field v 0 5) || field v 5 2 = 3
  | .SWC_CH_PAUSE => decide (field v 0 16 ≤ field v 16 16)
  | .SWC_Q_CFG => decide (9 < field v 12 4)
  | .DRM_POOL_CFG => outside 1 (enginesPresent s.fus.variant) (field v 0 5)
  | .SEQ_CFG => outside 500 10000 (field v 0 14)
  | .SEQ_CH_PROT => decide (1000 < field v 4 10)
  | .SEQ_CH_ISCI_LO | .SEQ_CH_ISCI_HI => !lineSide e
  | .SEQ_DUP_CFG => s.get (F.SEQ_DUP_CFG_ENABLE e) = 1 && decide (field v 0 16 ≠ s.get (F.SEQ_DUP_CFG_STREAM e))
  | .SEQ_DUP_NODES => s.get (F.SEQ_DUP_CFG_ENABLE e) = 1 &&
      decide (field v 0 16 ≠ s.get (F.SEQ_DUP_NODES_NODE_A e) ∨ field v 16 16 ≠ s.get (F.SEQ_DUP_NODES_NODE_B e))
  | _ => false

/-- KEY, SCH, TIM, TWN, TAB, JNL and PWR (R256, R281, R304, R326, R352, R375, R419). -/
def State.ctlLimit (s : State) (r : Reg) (e v : Nat) : Bool :=
  match r with
  | .KEY_HYB_EXPIRY => outside 1 3600 (field v 0 12)
  | .SCH_PUNT_RATE => decide (800000000 < field v 0 30)
  | .SCH_CH_RATE => decide (s.rateGb e * 1000000 < field v 0 30)
  | .SCH_CH_BURST => decide (field v 0 20 < 64)
  | .SCH_Q_RATE => e % 8 = 7 || decide (s.rateLimit e < field v 0 30)
  | .SCH_Q_BURST => e % 8 = 7 || decide (field v 0 20 < 64)
  | .SCH_Q_CFG => outside 64 (s.get (F.PRT_EP_CFG_MTU (e / 8))) (field v 0 14) || field v 14 8 = 0 ||
      decide (1000 < field v 22 10)
  | .TIM_PPS_OUT => decide (signed 21 (field v 0 21) < -999999 ∨ 999999 < signed 21 (field v 0 21)) ||
      outside 1 999 (field v 21 10)
  | .TWN_CFG => outside 1 1000 (field v 0 10)
  | .TAB_CFG => outside 20 1000 (field v 9 10)
  | .JNL_CFG => field v 0 2 = 3 || outside 10 2000 (field v 2 11) || outside 1 30 (field v 13 5) || field v 18 8 = 0
  | .JNL_LIFE => decide (field v 6 14 < 100)
  | .PWR_RECOVER_ADDR_LO => decide (v % 4096 ≠ 0)
  | .PWR_AVS_CFG => decide (field v 0 8 ≤ field v 8 8) || field v 16 8 = 0
  | .PWR_LIFE => outside 1 40 (field v 0 6)
  | _ => false

/-- HIF and CHM (R338, R350, R351): the indices of a ring stay within it, and its bases are aligned and fixed while it
runs. -/
def State.hostLimit (s : State) (who : Nat) (r : Reg) (e v : Nat) : Bool :=
  let on := s.get (F.HIF_RS_CTL_ENABLE e) = 1
  let ahead := fun (a b : Nat) => (a + 2 ^ 32 - b) % 2 ^ 32
  match r with
  | .HIF_PUNT_MAP => decide (who ≠ pf) || (List.range 8).any (fun k => decide (9 < field v (4 * k) 4))
  | .HIF_TX_BASE_LO => on || decide (v % 32 ≠ 0)
  | .HIF_RX_BASE_LO | .HIF_CQ_BASE_LO => on || decide (v % 16 ≠ 0)
  | .HIF_TX_BASE_HI | .HIF_RX_BASE_HI | .HIF_CQ_BASE_HI => on
  | .HIF_TX_PROD => decide (2 ^ s.get (F.HIF_RS_CTL_TX_LOG2 e) < ahead v (s.get (F.HIF_TX_CONS_INDEX e)))
  | .HIF_RX_PROD => decide (s.rxSize e < ahead v (s.get (F.HIF_RX_CONS_INDEX e)))
  | .HIF_CQ_CONS => decide (ahead (s.get (F.HIF_CQ_PROD_INDEX e)) (s.get (F.HIF_CQ_CONS_INDEX e)) <
      ahead v (s.get (F.HIF_CQ_CONS_INDEX e)))
  | .CHM_PAIR_CFG => decide (who ≠ pf) || outside 4 12 (field v 0 4) || (s.box (2 * e)).full || (s.box (2 * e + 1)).full
  | _ => false

/-- The bytes of a dump under a mask and SC_BLOCKS (R429, R430). -/
def dumpBytes (mask blocks : Nat) : Nat := 72 + 8 * ((rollRanges mask blocks).map (fun r => r.2)).sum

/-- An ARG lies outside the range of an event code (R423). -/
def argOutside (code arg : Nat) : Bool :=
  match code with
  | 5 => decide (255 < arg)
  | 9 | 10 => decide (16 < arg)
  | _ => false

/-- CNT (R423, R431, R435). -/
def State.cntLimit (s : State) (r : Reg) (e v : Nat) : Bool :=
  let hostOn := s.get F.CNT_ROLL_CFG_HOST_EN = 1
  let zero := fun (lo hi : FKey) => s.get lo = 0 && s.get hi = 0
  let tooLong := fun (mask blocks stride : Nat) => decide (stride * 1048576 < dumpBytes mask blocks)
  let stride := s.get F.CNT_ROLL_BUF_STRIDE_MIB
  match r with
  | .CNT_ROLL_CFG => outside 10 1000 (field v 0 11) ||
      (field v 13 1 = 1 && (zero F.CNT_ROLL_BASE_LO_ADDR F.CNT_ROLL_BASE_HI_ADDR || zero F.CNT_ROLL_WB_LO_ADDR F.CNT_ROLL_WB_HI_ADDR))
  | .CNT_ROLL_MASK => tooLong (field v 0 5) (s.get F.CNT_ROLL_LIMIT_SC_BLOCKS) stride
  | .CNT_ROLL_LIMIT => decide (256 < field v 0 9) || tooLong (s.get F.CNT_ROLL_MASK_HOST) (field v 0 9) stride
  | .CNT_ROLL_BUF => decide (4 < field v 0 3) || outside 1 32 (field v 8 6) ||
      tooLong (s.get F.CNT_ROLL_MASK_HOST) (s.get F.CNT_ROLL_LIMIT_SC_BLOCKS) (field v 8 6)
  | .CNT_ROLL_BASE_LO => hostOn || decide (v % 4096 ≠ 0)
  | .CNT_ROLL_WB_LO => hostOn || decide (v % 8 ≠ 0)
  | .CNT_ROLL_BASE_HI | .CNT_ROLL_WB_HI => hostOn
  | .CNT_PROG_ARG => argOutside (s.get (F.CNT_PROG_SEL_CODE e)) (field v 0 16)
  | .CNT_SAMPLE_CFG => decide (20 < field v 16 5) || field v 21 2 = 3
  | _ => false

/-- The limits of the registers whose write is an operation of its own: SWC_SNR_SIZE (R158), SCH_P_RATE and SCH_P_BURST
(R281), TIM_INC_NS (R284), HIF_RS_CTL (R350) and CNT_PROG_SEL (R423, R424). -/
def State.opLimit (s : State) (r : Reg) (e v : Nat) : Bool :=
  match r with
  | .SWC_SNR_SIZE => outside 16 30 (field v 0 5)
  | .SCH_P_RATE => decide (s.pRateLimit e < field v 0 30)
  | .SCH_P_BURST => decide (field v 0 20 < 64)
  | .TIM_INC_NS => outside 0x1FF7CED92 0x20083126E (field v 0 8 * 2 ^ 32 + s.get F.TIM_INC_FRAC_FRAC)
  | .HIF_RS_CTL => [1, 6, 11].any (fun lo => outside 6 16 (field v lo 5))
  | .CNT_PROG_SEL => !s.progSelOk e v
  | _ => false

/-- A write of `v` to a register would give some field a value that its table forbids, or meets a state in which it
cannot be written (R440); an RWL field takes no write after the first Strike of a reset period (R15). -/
def State.forbids (s : State) (who : Nat) (p : Place) (v : Nat) : Bool :=
  (s.pel.struck && p.row.fields.any (fun f => decide (f.acc = .rwl))) || s.portLimit p.row.reg p.elem v || s.coreLimit p.row.reg p.elem v || s.ctlLimit p.row.reg p.elem v ||
    s.hostLimit who p.row.reg p.elem v || s.cntLimit p.row.reg p.elem v

/-! ### Elements, windows and views -/

/-- The order state of SEQ, which software only reads (R210). -/
def orderRegs : List Reg := [.SEQ_CH_DSN, .SEQ_CH_INFLIGHT, .SEQ_CH_RECALL]

/-- The registers of FlexE groups and instances (R100). -/
def groupRegs : List Reg :=
  [.FLX_GRP_CFG, .FLX_GRP_DESKEW, .FLX_GRP_STATUS, .FLX_GRP_EVENT, .FLX_GRP_MASK, .FLX_GRP_CMD]

def instRegs : List Reg := [.FLX_INST_STATUS, .FLX_INST_SEC_CRC, .FLX_INST_SEC_MISS, .FLX_INST_SEC_FALSE, .FLX_INST_SEC_DEFECT]

/-- The element is one of a channel, queue, group or instance that the Active bank does not bind (R76, R100, R130, R136,
R158, R185, R281, R304). -/
def State.notPresent (s : State) (p : Place) : Bool :=
  (match p.channel? with
    | some ch => !s.bound ch && decide (p.row.reg ∉ orderRegs)
    | none => false) ||
  (decide (p.row.reg ∈ groupRegs) && (s.flexGroup p.elem).isNone) ||
  (decide (p.row.reg ∈ instRegs) && (s.instGroup p.elem).isNone)

/-- The registers of the per-requester windows (R55, R443). -/
def windowRegs : List Reg :=
  [.TBL_ARG, .TBL_CMD, .TBL_CMD_RESULT, .SAM_ARG, .SAM_CMD, .SAM_CMD_RESULT, .SAM_RES, .KEY_ARG, .KEY_CMD,
    .KEY_CMD_RESULT, .KEY_RES, .JNL_ARG, .JNL_CMD, .JNL_CMD_RESULT, .JNL_RES]

/-- The requester whose command window a register belongs to (R125, R443). -/
def Place.window? (p : Place) : Option Nat :=
  if p.row.reg ∈ windowRegs then some (p.elem / p.row.words) else none

/-- The view of a Chime pair that a register belongs to (R351). -/
def Place.view? (p : Place) : Option Nat :=
  match p.row.reg with
  | .CHM_OUT_DATA | .CHM_IN_DATA => some (p.elem / 64)
  | .CHM_OUT_SEND | .CHM_OUT_STATUS | .CHM_OUT_CTL | .CHM_IN_HDR | .CHM_IN_POP | .CHM_NOTICE | .CHM_EVENT | .CHM_MASK =>
    some p.elem
  | _ => none

/-- The register belongs to another requester: its command window, or a view of a pair that the requester does not have
(R125, R338, R443, R445). -/
def State.notOwn (s : State) (who : Nat) (p : Place) : Bool :=
  (match p.window? with
    | some w => decide (w ≠ who)
    | none => false) ||
  (match p.view? with
    | some v => decide (s.viewOf who (v % 8) ≠ some v)
    | none => false)

/-- The blocks whose writes a control-plane reset discards (R408): PEL, SAM, KEY, HIF, CHM and TAB. -/
def cpBlocks : List Nat := [1, 9, 10, 14, 15, 16]

/-- The WRITE_IGNORED flag of a block (R441). -/
def blockFlag : Nat → FKey
  | 1 => F.PEL_STATUS_WRITE_IGNORED
  | 2 => F.PRT_STATUS_WRITE_IGNORED
  | 3 => F.FLX_STATUS_WRITE_IGNORED
  | 4 => F.CLS_STATUS_WRITE_IGNORED
  | 5 => F.TBL_STATUS_WRITE_IGNORED
  | 6 => F.SWC_STATUS_WRITE_IGNORED
  | 7 => F.DRM_STATUS_WRITE_IGNORED
  | 8 => F.SEQ_STATUS_WRITE_IGNORED
  | 9 => F.SAM_STATUS_WRITE_IGNORED
  | 10 => F.KEY_STATUS_WRITE_IGNORED
  | 11 => F.SCH_STATUS_WRITE_IGNORED
  | 12 => F.TIM_STATUS_WRITE_IGNORED
  | 13 => F.TWN_STATUS_WRITE_IGNORED
  | 14 => F.HIF_STATUS_WRITE_IGNORED
  | 15 => F.CHM_STATUS_WRITE_IGNORED
  | 16 => F.TAB_STATUS_WRITE_IGNORED
  | 17 => F.JNL_STATUS_WRITE_IGNORED
  | 18 => F.TMP_STATUS_WRITE_IGNORED
  | 19 => F.PWR_STATUS_WRITE_IGNORED
  | 20 => F.CNT_STATUS_WRITE_IGNORED
  | 21 => F.FUS_STATUS_WRITE_IGNORED
  | _ => F.TOP_STATUS_WRITE_IGNORED

end Sys2Proof.Machine
end

