-- ==== Sys2Proof/Machine/Verify.lean ====
section
/-! DEFINITION. The verification of an image in the Shadow bank: the nine steps of R47 with the limits that the chapters
give the sections. -/

namespace Sys2Proof.Machine
open Sys2Proof

/-- The outcome of a verification: a status, the failed step (0 none) and the failed section (15 none). -/
structure Verdict where
  status : Status := .ok
  step : Nat := 0
  sec : Nat := 15
deriving DecidableEq, Repr

/-- The numbers of a list occur once each. -/
def distinct : List Nat → Bool
  | [] => true
  | a :: r => decide (a ∉ r) && distinct r

/-- The numbers of a list rise strictly. -/
def ascending : List Nat → Bool
  | a :: b :: r => decide (a < b) && ascending (b :: r)
  | _ => true

/-! ### Steps 1 to 6 -/

/-- Step 1: the header (R42, R44). -/
def headerOk (loadLen : Nat) (g : Image) : Bool :=
  decide (g.magic = 0x5045414C) && decide (g.format = 2) && decide (g.headerLen = 64) &&
    decide (g.imageLen ≤ loadLen) && decide (g.imageLen ≤ 8388608) && decide (g.sigOffset + 7424 = g.imageLen) &&
    decide (g.svn ≤ 64) && decide (g.zero34 = 0) && decide (g.zero44 = 0) && decide (g.variantMask < 8) &&
    decide (g.flags < 2) && decide (g.buildTime < 2 ^ 48) && decide (g.sig.zero97 = 0) && decide (g.sig.zero7419 = 0)

/-- The end of the section table. -/
def tableEnd (g : Image) : Nat := 64 + 64 * g.sectionCount

/-- The section table as a whole (R42, R43). -/
def tableOk (g : Image) : Bool :=
  decide (3 ≤ g.sectionCount) && decide (g.sectionCount ≤ 12) && decide (g.entries.length = g.sectionCount) &&
    decide (g.tableOffset = 64) && decide (g.sigOffset % 8 = 0) && decide (tableEnd g ≤ g.sigOffset)

/-- Two sections overlap. -/
def overlap (a b : SectionEntry) : Bool :=
  decide (a.offset < b.offset + b.length) && decide (b.offset < a.offset + a.length)

/-- Step 6 of one entry against those before it (R41, R43). DESIGN CHOICE (notes/assumptions/117): non-zero zero fields of an entry
fail here and not in step 1, and so does a SECTION_TABLE_OFFSET other than 64 (in the table's own check). -/
def entryOk (g : Image) (before : List SectionEntry) (e : SectionEntry) : Bool :=
  decide (1 ≤ e.typ) && decide (e.typ ≤ 12) && decide (e.zero2 = 0) && decide (e.zero12 = 0) &&
    decide (e.offset % 8 = 0) && decide (1 ≤ e.length) && decide (tableEnd g ≤ e.offset) &&
    decide (e.offset + e.length ≤ g.sigOffset) && !before.any (overlap e) &&
    before.all (fun b => decide (b.typ ≠ e.typ)) && decide (e.digest = Config.sha384 e.bytes)

/-- The index of the first entry at fault, each entry seen with those before it. -/
def firstFault (ok : List SectionEntry → SectionEntry → Bool) : List SectionEntry → List SectionEntry → Option Nat
  | _, [] => none
  | before, e :: r => if ok before e then firstFault ok (before ++ [e]) r else some before.length

/-- The mandatory sections are present (R41). -/
def mandatoryOk (g : Image) : Bool := [1, 5, 6].all (fun t => g.entries.any (fun e => decide (e.typ = t)))

/-- Step 6: the section at fault, 15 for the table as a whole. -/
def tableFault (g : Image) : Option Nat :=
  if !tableOk g then some 15
  else
    match firstFault (entryOk g) [] g.entries with
    | some i => some i
    | none => if mandatoryOk g then none else some 15

/-! ### Step 7: absent units (R10) -/

/-- The channels that a Stroke program names in SETCH (R103). -/
def setchOf (p : StrokeProgram) : List Nat :=
  (p.code.filter (fun w => field w.toNat 27 5 = 0x0B)).map (fun w => field w.toNat 0 8)

/-- The second port of an 800GbE pair is used as well. -/
def topPort (p : PortDef) : Nat := if p.mode = .m800 then p.port + 1 else p.port

/-- A port is in a FlexE mode (R62). -/
def isFlexePort (p : PortDef) : Bool := p.mode = .flexe400 || p.mode = .flexe200 || p.mode = .flexe100

/-- The register that a REG_INIT entry names (R55). -/
def regInitPlace (r : RegInit) : Option Place :=
  if r.offset % 4 = 0 then (match targetPf r.offset with | .reg p => some p | _ => none) else none

/-- The channels that a section names, PORT_MAP and FLEXE apart. -/
def channelsNamed : SectionBody → List Nat
  | .stroke ps as => as.map Prod.fst ++ ps.flatMap setchOf
  | .queues q =>
    q.headroom.map Prod.fst ++ q.pDecryptCt ++ q.channelShapers.map (fun p => p.index) ++ q.classes67 ++
      (((q.queueMin.map Prod.fst) ++ q.pShapers.filterMap (fun p => p.queue) ++
        q.queueShapers.map (fun p => p.index)).filter (fun n => decide (n < 1536))).map (· / 8)
  | .gates l => l.map (fun g => g.channel)
  | .twin t => t.channels
  | _ => []

/-- A section refers to a unit that the part does not have. -/
def sectionAbsent (v : Variant) (b : SectionBody) : Bool :=
  (channelsNamed b).any (fun ch => decide (ch < 192) && !channelInVariant v ch) ||
    match b with
    | .portMap ps => ps.any (fun p => decide (portsPerSide v ≤ topPort p) || (isFlexePort p && !hasFlexe v))
    | .flexe _ => !hasFlexe v
    | .queues q => q.queueMin.any (fun p => decide (1544 ≤ p.1) && decide (p.1 < 1552) && !hasTwin v)
    | .twin _ => !hasTwin v
    | .power l => l.any (fun d => decide (d < 56) && !domainPresent v d)
    | .regInit l => l.any (fun r => ((regInitPlace r).map (unitAbsent v)).getD false)
    | _ => false

/-! ### Step 8: the TAMPER section and the fuses (R58) -/

/-- A TAMPER section goes beyond the fuses. -/
def State.beyondFuses (s : State) (t : TamperSection) : Bool :=
  t.masks.any (fun m => decide (m.1 < 16) && s.srcDisabled m.1 && decide (1 < m.2)) ||
    [t.tHigh, t.tLow].any (fun x => match x with
      | some v => decide (v < s.tLowMin) || decide (s.tHighMax < v)
      | none => false)

/-! ### Step 9: the limits of each section -/

/-- A port definition keeps to R59, R62 and R70. -/
def portOk (p : PortDef) : Bool :=
  let lanes := if p.mode = .m800 then 2 ^ 8 else 2 ^ 4
  decide (topPort p < 8) && decide (p.txInv < lanes) && decide (p.rxInv < lanes) &&
    (match p.mode with
    | .m800 => decide (p.port % 2 = 0) && p.fec = .rs544
    | .flexe400 | .flexe200 | .flexe100 => p.line && p.fec = .rs544
    | .m4x25 => p.fec = .none || p.fec = .rs528
    | .m4x10 => p.fec = .none
    | _ => p.fec = .rs544) &&
    (p.lpi.isEmpty || (p.mode = .m4x100 || p.mode = .m4x25 || p.mode = .m4x10)) &&
    p.lpi.all (fun c => decide (c ∈ portChannels p))

/-- The port numbers that a definition takes, client ports first. -/
def portsTaken (p : PortDef) : List Nat :=
  let n := (if p.line then 8 else 0) + p.port
  if p.mode = .m800 then [n, n + 1] else [n]

/-- The slots of a calendar page that name a channel. -/
def slotsOf (page : List (Option Nat)) (ch : Nat) : Nat := (page.filter (fun e => e = some ch)).length

/-- A page gives each slot of a group to one of some clients or to none. -/
def pageOk (n : Nat) (own : List Nat) (page : List (Option Nat)) : Bool :=
  decide (page.length = n) && page.all (fun e => match e with
    | some ch => decide (ch ∈ own)
    | none => true)

/-- A group keeps to R77, R78 and R91; `all` are the groups of the section. -/
def groupOk (all : List FlexGroup) (x : FlexGroup) : Bool :=
  let slots := 20 * x.instances.length
  let rx := x.clients.map (fun c => c.channel)
  let tx := all.flatMap (fun o => (o.clients.filter (fun c => c.txGroup = x.index)).map (fun c => c.channel))
  decide (x.index < 4) && decide (1 ≤ x.number) && decide (x.number ≤ 0xFFFFE) && !x.phyPorts.isEmpty &&
    ascending (x.instances.map Prod.fst) && x.instances.all (fun i => decide (i.1 < 32)) &&
    x.instances.all (fun i => decide (1 ≤ i.2) && decide (i.2 ≤ 254)) && distinct (x.instances.map Prod.snd) &&
    x.clients.all (fun c => decide (64 ≤ c.channel) && decide (c.channel < 192) && decide (1 ≤ c.clientId) &&
      decide (c.clientId ≤ 65534) && decide (c.txGroup ∈ all.map (fun o => o.index)) &&
      (c.transit || decide (c.txGroup = x.index)) &&
      decide (0 < slotsOf x.rxA c.channel + slotsOf x.rxB c.channel)) &&
    distinct (x.clients.map (fun c => c.clientId)) &&
    distinct (all.flatMap (fun o => (o.clients.filter (fun c => c.txGroup = x.index)).map (fun c => c.clientId))) &&
    pageOk slots tx x.txA && pageOk slots tx x.txB && pageOk slots rx x.rxA && pageOk slots rx x.rxB

/-- A transit client has the same slots on both sides and in both pages (R97); any client has transmit slots. -/
def clientOk (all : List FlexGroup) (x : FlexGroup) (c : FlexClient) : Bool :=
  match all.find? (fun o => decide (o.index = c.txGroup)) with
  | some o =>
    let n := slotsOf x.rxA c.channel
    decide (0 < slotsOf o.txA c.channel + slotsOf o.txB c.channel) &&
      (!c.transit || (decide (slotsOf x.rxB c.channel = n) && decide (slotsOf o.txA c.channel = n) &&
        decide (slotsOf o.txB c.channel = n)))
  | none => false

/-- The FLEXE section (R63, R77, R97). -/
def flexeOk (all : List FlexGroup) : Bool :=
  decide (all.length ≤ 4) && distinct (all.map (fun x => x.index)) && distinct (all.map (fun x => x.number)) &&
    distinct (all.flatMap (fun x => x.instances.map Prod.fst)) && distinct (all.flatMap (fun x => x.clients.map (fun c => c.channel))) &&
    all.all (fun x => groupOk all x && x.clients.all (clientOk all x))

/-- The TABLES section (R111), and the pin limit against the entries pinned (R222). -/
def tablesOk (pinned : Nat) (t : TablesSection) : Bool :=
  let lpm := fun n : Nat => ceilDiv ((256 + n) * 1024) 65536
  decide (t.mac ∈ [16384, 32768, 65536, 131072, 262144]) && decide (4096 ≤ t.saStore) && decide (t.saStore ≤ 32768) &&
    decide (t.saStore % 4096 = 0) && [t.lpm4, t.lpm6].all (fun n => decide (1024 ≤ n) && decide (n ≤ 16384)) &&
    decide (t.mac * 16 / 65536 + t.saStore * 128 / 65536 + lpm t.lpm4 + lpm t.lpm6 ≤ 512) &&
    decide (pinned + 4096 ≤ t.saStore)

/-- The STROKE section (R101, R103, R104). -/
def strokeOk (ps : List StrokeProgram) (as : List (Nat × Nat)) : Bool :=
  decide (ps.length ≤ 16) && decide ((ps.map (fun p => p.code.length)).sum ≤ 4096) &&
    ps.all (programOk (fun _ => true)) && distinct (as.map Prod.fst) &&
    as.all (fun a => decide (a.1 < 192) && decide (a.2 < ps.length))

/-- A shaper's RATE and BURST keep to R281. -/
def profileOk (rate burst : Nat) : Bool :=
  decide (rate ≤ 800000000) && decide (64 ≤ burst) && decide (burst < 2 ^ 20)

/-- The QUEUES section (R137, R157, R158, R264). -/
def queuesOk (v : Variant) (g : Image) (q : QueuesSection) : Bool :=
  let bound := q.pShapers.filterMap (fun p => p.queue)
  decide (q.minCells < 4096) && q.queueMin.all (fun p => decide (p.1 < 1568) && decide (p.2 < 4096)) &&
    distinct (q.queueMin.map Prod.fst) && distinct (q.headroom.map Prod.fst) &&
    q.headroom.all (fun p => decide (p.1 < 64) && decide (p.2 < 65536)) &&
    q.pDecryptCt.all (fun c => decide (32 ≤ c) && decide (c < 192)) &&
    distinct (q.pShapers.map (fun p => p.index)) && distinct bound &&
    bound.all (fun n => decide (n < 1536) && decide (n % 8 = 7)) &&
    q.pShapers.all (fun p => decide (p.index < 64) && profileOk p.rate p.burst) &&
    distinct (q.queueShapers.map (fun p => p.index)) && distinct (q.channelShapers.map (fun p => p.index)) &&
    q.queueShapers.all (fun p => decide (p.index < 1536) && decide (p.index % 8 ≠ 7) && profileOk p.rate p.burst) &&
    q.channelShapers.all (fun p => decide (p.index < 192) && profileOk p.rate p.burst) &&
    decide (q.holdUs.length ≤ 8) && q.holdUs.all (fun h => decide (h ≤ 10000)) &&
    q.classes67.all (fun c => decide (c < 192)) && decide (65536 ≤ sharedPool v g)

/-- A gate control list (R268, R269). -/
def gateListOk (l : GateList) : Bool :=
  decide (l.channel < 192) && decide (1 ≤ l.entries.length) && decide (l.entries.length ≤ 1024) &&
    decide (1000 ≤ l.cycleNs) && decide (l.cycleNs ≤ 1000000000) && decide (l.baseNs ≤ 999999999) &&
    decide (l.baseSec < 2 ^ 48) &&
    l.entries.all (fun e => decide (e.1 < 256) && decide (32 ≤ e.2) && decide (e.2 ≤ 1000000000)) &&
    decide ((l.entries.map Prod.snd).sum ≤ l.cycleNs)

/-- The GATES section. -/
def gatesOk (ls : List GateList) : Bool :=
  ls.all gateListOk && ascending (ls.map (fun l => l.channel)) &&
    decide ((ls.map (fun l => l.entries.length)).sum ≤ 32768)

/-- The TAMPER section: the thresholds as they will apply (R58). -/
def State.tamperOk (s : State) (t : TamperSection) : Bool :=
  t.masks.all (fun m => decide (m.1 < 16) && decide (m.2 < 256)) && distinct (t.masks.map Prod.fst) &&
    decide (t.tLow.getD (max (-48 * 16) s.tLowMin) < t.tHigh.getD (min (115 * 16) s.tHighMax))

/-- The TWIN section (R305). -/
def twinOk (t : TwinSection) : Bool :=
  decide (t.domainSlot < 16) && t.channels.all (fun c => decide (c < 192)) && decide (t.streams.length ≤ 256) &&
    distinct (t.streams.map (fun x => x.id)) &&
    t.streams.all (fun x => decide (1 ≤ x.id) && decide (x.id ≤ 65535) && decide (x.client ∈ t.channels) &&
      decide (x.sc < 65536)) &&
    decide (1 ≤ t.leaseMs) && decide (t.leaseMs ≤ 1000) && decide (t.revertS ≤ 65535)

/-- The fields whose 1 bars other registers from being written, which is no limit of a value. -/
def runFields : List Reg := [.HIF_RS_CTL, .CNT_ROLL_CFG]

/-- The registers as the REG_INIT entries of an image leave those of a fresh machine under it: what their limits are judged
against. -/
def State.initState (s : State) (g : Image) (l : List RegInit) : State :=
  let s0 : State :=
    { fus := s.fus, pel := { active := some g }
      flx := { grp := (imgGroups g).map (fun x => (x.index, { txA := x.txA, txB := x.txB })) } }
  l.foldl (fun s r => match regInitPlace r with
    | some p => if p.row.reg ∈ runFields ∧ r.value = 1 then s else s.set ⟨p.row.reg, p.elem, r.lo⟩ r.value
    | none => s) s0

/-- The word that the REG_INIT entries of a register make with the reset values of its other fields. -/
def initWord (l : List RegInit) (p : Place) (off : Nat) : Nat :=
  p.row.fields.foldl (fun n f =>
    let v := ((l.find? (fun r => decide (r.offset = off) && decide (r.lo = f.lo))).map (fun r => r.value)).getD
      (FKey.reset ⟨p.row.reg, p.elem, f.lo⟩)
    n + v % 2 ^ f.width * 2 ^ f.lo) 0

/-- A REG_INIT entry names an RW field of no window and gives it a value that it can hold, within the limits of its register
(R47, R55). -/
def State.regInitOk (s : State) (g : Image) (l : List RegInit) (r : RegInit) : Bool :=
  match regInitPlace r with
  | some p =>
    let s0 := s.initState g l
    let w := initWord l p r.offset
    decide (p.row.reg ∉ windowRegs) &&
      p.row.fields.any (fun f => decide (f.lo = r.lo) && decide (f.acc = .rw) && decide (r.value < 2 ^ f.width)) &&
      !s0.forbids pf p w && !s0.opLimit p.row.reg p.elem w
  | none => false

/-- The TYPE of a section's content (R41). -/
def bodyType : SectionBody → Nat
  | .portMap _ => 1
  | .flexe _ => 2
  | .enginePool .. => 3
  | .tables _ => 4
  | .stroke .. => 5
  | .queues _ => 6
  | .gates _ => 7
  | .tamper _ => 8
  | .power _ => 9
  | .twin _ => 10
  | .regInit _ => 11
  | .notes => 12
  | .other => 0

/-- Every field of a section lies within its limits. -/
def State.sectionOk (s : State) (g : Image) (e : SectionEntry) : Bool :=
  let v := s.fus.variant
  decide (bodyType e.body = e.typ) &&
    match e.body with
    | .portMap ps => ps.all portOk && distinct (ps.flatMap portsTaken)
    | .flexe gs => flexeOk gs
    | .enginePool r c => decide (r ≤ 4) && decide (r ≤ enginesPresent v - 1) && decide (c < 256)
    | .tables t => tablesOk s.pinned t
    | .stroke ps as => strokeOk ps as
    | .queues q => queuesOk v g q
    | .gates ls => gatesOk ls
    | .tamper t => s.tamperOk t
    | .power l => distinct l && l.all (fun d => decide (d < 56))
    | .twin t => twinOk t
    | .regInit l => l.all (s.regInitOk g l)
    | .notes => true
    | .other => false

/-! ### Step 9: the sections agree -/

/-- A group runs on PHYs as PORT_MAP gives them (R77, R78): its ports are FlexE ports of one mode, its PHYs are 1 to 8, and it holds
every instance of each. -/
def groupPortsOk (g : Image) (x : FlexGroup) : Bool :=
  let ps := x.phyPorts.filterMap (fun n => (imgPorts g).find? (fun p => p.line && decide (p.port = n)))
  let is := x.instances.map Prod.fst
  let phys := groupPhys g x
  decide (x.phyPorts = (is.map (· / 4)).eraseDups) && decide (ps.length = x.phyPorts.length) && ps.all isFlexePort &&
    ps.all (fun p => ps.all (fun q => decide (p.mode = q.mode))) && decide (1 ≤ phys.length) && decide (phys.length ≤ 8) &&
    (List.range 32).all (fun i => decide (i ∈ is) || (match instPhy g i with
      | some l => decide (l ∉ phys)
      | none => true))

/-- A section names only channels that the bank binds: those below 64 by PORT_MAP, the others by FLEXE. -/
def bindsMac (g : Image) (b : SectionBody) : Bool :=
  (channelsNamed b).all (fun c => decide (64 ≤ c) || decide (c ∈ macChannels g))

/-- The channels of 64 and above that a section names are clients of FLEXE. -/
def bindsFlex (g : Image) (b : SectionBody) : Bool :=
  (channelsNamed b).all (fun c => decide (c < 64) || decide (c ∈ flexChannels g))

/-- One program is assigned to each present ingress channel (R101). -/
def programsOk (chs : List Nat) (as : List (Nat × Nat)) : Bool := chs.all (fun c => decide (c ∈ as.map Prod.fst))

/-- The FlexE channels that the parser sees: every client but the transit clients (R96). -/
def parsedClients (g : Image) : List Nat :=
  (imgGroups g).flatMap (fun x => (x.clients.filter (fun c => !c.transit)).map (fun c => c.channel))

/-- The endpoints marked LPI_ALLOWED. -/
def lpiChannels (g : Image) : List Nat := (imgPorts g).flatMap (fun p => p.lpi)

/-- The index of the section of a type; 0 where there is none, so that a disagreement is charged to the other. -/
def sectionIndex (g : Image) (t : Nat) : Nat := (g.entries.findIdx? (fun e => decide (e.typ = t))).getD 0

/-- What a section must agree on with PORT_MAP. -/
def agreesPorts (g : Image) (b : SectionBody) : Bool :=
  bindsMac g b &&
    match b with
    | .flexe gs => gs.all (groupPortsOk g)
    | .stroke _ as => programsOk (macChannels g) as
    | .queues q => (lpiChannels g).all (fun c => decide (c ∉ q.classes67))
    | .gates ls => (lpiChannels g).all (fun c => decide (c ∉ ls.map (fun l => l.channel)))
    | _ => true

/-- What a section must agree on with FLEXE. -/
def agreesFlex (g : Image) (b : SectionBody) : Bool :=
  bindsFlex g b &&
    match b with
    | .stroke _ as => programsOk (parsedClients g) as
    | _ => true

/-- The sections at fault in step 9: each by its own limits, or as the later of two that disagree. -/
def State.faults (s : State) (g : Image) : List Nat :=
  (g.entries.zipIdx).flatMap (fun (e, i) =>
    (if s.sectionOk g e then [] else [i]) ++
      (if agreesPorts g e.body then [] else [max i (sectionIndex g 1)]) ++
      (if agreesFlex g e.body then [] else [max i (sectionIndex g 2)]))

/-- The lowest of some numbers. -/
def lowest : List Nat → Option Nat
  | [] => none
  | a :: r => some (r.foldl min a)

/-! ### The nine steps -/

/-- The verdict of a step that examines the sections. -/
def sectionVerdict (bad : Option Nat) (st : Status) (step : Nat) (k : Verdict) : Verdict :=
  match bad with
  | some i => ⟨st, step, i⟩
  | none => k

/-- The verification of the image in the Shadow bank against this device (R47). -/
def State.verify (s : State) (g : Image) : Verdict :=
  let v := s.fus.variant
  if !headerOk s.pel.loadLen g then ⟨.badArgument, 1, 15⟩
  else if field g.variantMask (variantNumber v) 1 = 0 then ⟨.absent, 2, 15⟩
  else if !s.signerOk g.signerSlot g.sig then ⟨.denied, 3, 15⟩
  else if !sigsOk g.sig g.digest then ⟨.denied, 4, 15⟩
  else if g.svn < s.fus.floorLoaded ∨ (g.flags = 1 ∧ s.get F.PWR_STATUS_DEBUG_UNLOCKED = 0) then ⟨.denied, 5, 15⟩
  else
    sectionVerdict (tableFault g) .badArgument 6
      (sectionVerdict (firstFault (fun _ e => !sectionAbsent v e.body) [] g.entries) .absent 7
        (sectionVerdict (firstFault (fun _ e => match e.body with
            | .tamper t => !s.beyondFuses t
            | _ => true) [] g.entries) .denied 8
          (sectionVerdict (lowest (s.faults g)) .badArgument 9 {})))

end Sys2Proof.Machine
end

