-- ==== Sys2Proof/Machine/Writes.lean ====
section
/-! DEFINITION. What a register write stores and what follows from it (R15, R440): shared by the accesses of the requesters and
by the REG_INIT values of a Strike (R55). -/

namespace Sys2Proof.Machine
open Sys2Proof

/-! ### The store of a value -/

/-- One field takes its part of a written word (R15). -/
def State.storeField (s : State) (p : Place) (v : Nat) (f : FieldRow) : State :=
  let k : FKey := ⟨p.row.reg, p.elem, f.lo⟩
  let n := field v f.lo f.width
  match f.acc with
  | .rw | .sh | .rwl => s.set k n
  | .w1c => s.clearEvents k n
  | .w1s => s.set k (s.get k ||| n)
  | .ro | .rc | .wo => s

/-- Every field of a register takes its part of a written word. -/
def State.storeWord (s : State) (p : Place) (v : Nat) : State := p.row.fields.foldl (fun s f => s.storeField p v f) s

/-- The vector that a MASK register governs (R331). -/
def maskVector (p : Place) : Option Nat :=
  match p.row.reg with
  | .TOP_MASK => some 0
  | .PEL_MASK => some 1
  | .PRT_EP_MASK => some 2
  | .FLX_GRP_MASK => some 3
  | .TBL_MASK => some 5
  | .DRM_MASK => some 7
  | .SAM_MASK => some 9
  | .KEY_MASK => some 10
  | .SCH_MASK => some 11
  | .TIM_MASK => some 12
  | .TWN_MASK => some 13
  | .HIF_MASK => some 14
  | .TAB_MASK => some 16
  | .JNL_MASK => some 17
  | .TMP_MASK => some 18
  | .PWR_MASK => some 19
  | .CNT_MASK => some 20
  | .VF_MASK => some (32 + 4 * p.elem + 3)
  | _ => none

/-- READY events stay posted while their FIFO holds an entry (R16, R297, R302, R433). -/
def State.readyEvents (s : State) : State :=
  let s := if s.tim.txts = [] then s else s.post F.TIM_EVENT_EVENTS 5
  let s := if (List.range 3).all (fun k => (s.capFifo k).isEmpty) then s else s.post F.TIM_EVENT_EVENTS 6
  if s.cnt.sampleFifo = [] then s else s.post F.CNT_EVENT_EVENTS 3

/-- The word that a register takes of a written one: bits that read 0 on this element, and the page offset of the Snare
ring base, are written as 0. -/
def wordTaken (p : Place) (v : Nat) : Nat :=
  match p.row.reg with
  | .SWC_SNR_BASE_LO => v / 4096 * 4096
  | .CLS_CH_CFG => if lineSide p.elem then v else clearBits v 0x40
  | .SWC_CH_CFG => if p.elem < 64 then v else field v 0 8
  | .SEQ_CH_PROT => if lineSide p.elem then v else clearBits v 0x2
  | _ => v

/-- What follows a write that took effect: `was` is the state before it. -/
def State.afterWrite (s was : State) (p : Place) : State :=
  match p.row.reg with
  | .TIM_CFG =>
    let s : State := State.ppsFall { s with tim := { s.tim with ppsFrom := s.tim.now } }
    if s.get F.TIM_CFG_SRC = was.get F.TIM_CFG_SRC then s else s.set F.TIM_STATUS_REF_LOCKED 0
  | .TIM_PPS_OUT => { s with tim := { s.tim with ppsFrom := s.tim.now } }
  | .TIM_EVENT | .CNT_EVENT => s.readyEvents
  | .SWC_CH_CFG | .SWC_CH_PAUSE =>
    let s := s.pauseSync p.elem
    if s.get (F.SWC_CH_CFG_PAUSE_RX_EN p.elem) = 0 then s.setBuf { s.buf with paused := s.buf.paused.filter (· ≠ p.elem) } else s
  | .DRM_POOL_CFG => s.ungate
  | .SEQ_DUP_CFG =>
    if s.get (F.SEQ_DUP_CFG_ENABLE p.elem) = 1 ∧ was.get (F.SEQ_DUP_CFG_ENABLE p.elem) = 0 then
      s.set (F.SEQ_DUP_STATUS_SEEN p.elem) 0
    else s
  | .TAB_CFG => if s.get F.TAB_CFG_EN = 0 then s.tabDown else s
  | .PWR_WDOG =>
    if was.get F.PWR_WDOG_TIMEOUT_MS = 0 then s.setPwr { s.pwr with wdogFrom := s.nowNs } else s
  | .CNT_ROLL_CFG =>
    if s.rollPoint ≠ was.rollPoint ∨ was.get F.CNT_ROLL_CFG_EN = 0 then { s with cnt := { s.cnt with rollMs := s.rollPoint } }
    else s
  | .CHM_PAIR_CFG => s.chmRefreshAll
  | _ =>
    match maskVector p with
    | some vec => s.refreshIrq vec
    | none => s

end Sys2Proof.Machine
end

