-- ==== Sys2Proof/Machine/Strike.lean ====
section
/-! DEFINITION. The Strike (R51 to R58): the exchange of the banks and what it does to the structure that is in force. -/

namespace Sys2Proof.Machine
open Sys2Proof

/-! ### Registers of the objects that come and go (R55, R56) -/

/-- The access code of a register field. -/
def accOf (k : FKey) : Option Acc :=
  (regTable.find? (fun r => r.reg = k.reg)).bind (fun r => (r.fields.find? (fun f => f.lo = k.lo)).map (fun f => f.acc))

/-- The channel of a register field, if its element belongs to one. -/
def fieldChannel (k : FKey) : Option Nat :=
  if k.reg ∈ channelRegs then some k.elem
  else if k.reg ∈ queueRegs ∧ k.elem < 1536 then some (k.elem / 8)
  else none

/-- The group of a register field of a FlexE group. -/
def fieldGroup (k : FKey) : Option Nat :=
  if k.reg ∈ [.FLX_GRP_CFG, .FLX_GRP_DESKEW, .FLX_GRP_EVENT, .FLX_GRP_MASK] then some k.elem else none

/-- The channels that one image binds and another does not. -/
def channelsOnlyIn (a b : Image) : List Nat := (imgChannels a).filter (fun c => !imgBinds b c)

/-- The groups that one image has and another has not. -/
def groupsOnlyIn (a b : Image) : List Nat :=
  ((imgGroups a).map (fun x => x.index)).filter (fun i => decide (i ∉ (imgGroups b).map (fun x => x.index)))

/-- The settings and the link state of removed channels and groups are gone; their order state stays. -/
def State.clearObjects (s : State) (chs grps : List Nat) : State :=
  let gone := fun (k : FKey) =>
    ((fieldChannel k).any (fun c => decide (c ∈ chs)) || (fieldGroup k).any (fun g => decide (g ∈ grps))) &&
      (accOf k = some .rw || k.reg = .PRT_EP_STATUS || k.reg = .PRT_EP_EVENT || k.reg = .FLX_GRP_EVENT)
  { s with regs := s.regs.filter (fun p => !gone p.1) }

/-- The word of a register's RW fields as they stand, with one field replaced. -/
def State.withField (s : State) (p : Place) (lo v : Nat) : Nat :=
  p.row.fields.foldl (fun n f =>
    if f.acc = .rw then n + (if f.lo = lo then v else s.get ⟨p.row.reg, p.elem, f.lo⟩) % 2 ^ f.width * 2 ^ f.lo else n) 0

/-- A REG_INIT value written by the loader, with what follows from a write of its register (R55, R266, R275, R284). -/
def State.initField (s : State) (r : RegInit) : State :=
  match regInitPlace r with
  | some p =>
    let k : FKey := ⟨p.row.reg, p.elem, r.lo⟩
    match p.row.reg with
    | .SCH_P_RATE | .SCH_P_BURST => (s.set k r.value).pShaperReset p.elem
    | .SCH_CH_CFG => if r.lo = 8 then s.gateEn p.elem (r.value = 1) else s.set k r.value
    | .TIM_INC_NS => s.commitInc pf r.value
    | .HIF_RS_CTL => s.ringCtl pf p.elem (s.withField p r.lo r.value)
    | .CNT_PROG_SEL => s.progSelWrite pf p.elem (s.withField p r.lo r.value)
    | .CHM_MASK => State.chmRefreshAll (s.set k r.value)
    | .SWC_SNR_SIZE => s.sets [(k, r.value), (F.SWC_SNR_PROD_PROD, 0), (F.SWC_SNR_CONS_CONS, 0)]
    | _ => (s.set k r.value).afterWrite s p
  | none => s

/-- A REG_INIT value is written: every one at the first Strike, at a later one those of objects that the bank creates (R55). -/
def initNew (first : Bool) (newCh newGrp : List Nat) (r : RegInit) : Bool :=
  first || match regInitPlace r with
    | some p =>
      let k : FKey := ⟨p.row.reg, p.elem, r.lo⟩
      (fieldChannel k).any (fun c => decide (c ∈ newCh)) || (fieldGroup k).any (fun g => decide (g ∈ newGrp))
    | none => false

/-- MAX_FRAME of a created channel's queues is the channel's MTU where no REG_INIT value gives it (R281). -/
def State.maxFrames (s : State) (l : List RegInit) (ch : Nat) : State :=
  (List.range 8).foldl (fun s k =>
    let q := 8 * ch + k
    if l.any (fun r => decide ((regInitPlace r).map (fun p => (⟨p.row.reg, p.elem, r.lo⟩ : FKey)) = some (F.SCH_Q_CFG_MAX_FRAME q))) then s
    else s.set (F.SCH_Q_CFG_MAX_FRAME q) (s.get (F.PRT_EP_CFG_MTU ch))) s

/-! ### Ports, channels and queues (R57, R155) -/

/-- A port changes its FEC mode and nothing else: only its PCS restarts (R57). -/
def fecOnly (b : Image) (p : PortDef) : Bool :=
  (imgPorts b).any (fun q => q.line = p.line && q.port = p.port && q.mode = p.mode && q.fec ≠ p.fec)

/-- The ports of the old bank that the new one changes. -/
def stoppedPorts (a b : Image) : List PortDef := (imgPorts a).filter (fun p => !portKept b p)

/-- A port that a Strike changes declares LINK_DOWN in the Strike cycle: one that retrains stops at its next frame boundary, one
whose PCS restarts loses its frames, and the PHYs of a FlexE port go down (R57, R74). -/
def State.portStops (s : State) (b : Image) (p : PortDef) : State :=
  let s := (portChannels p).foldl (fun s ch => s.linkFalls ch true (if fecOnly b p then .lost else .boundary)) s
  { s with prt := { s.prt with phyUp := s.prt.phyUp.filter (fun l => l ∉ portPhys p) } }

/-- A removed channel: its queued frames are STRIKE_DISCARD and its queues are not present. -/
def State.removeChannel (s : State) (ch : Nat) : State :=
  (List.range 8).foldl (fun s k =>
    State.set (s.flush (8 * ch + k) (fun _ => true) .strikeFrames 10) (F.SWC_Q_STATUS_STATE (8 * ch + k)) 0) s

/-- A created channel: its queues are DOWN until its first LINK_UP. -/
def State.createChannel (s : State) (ch : Nat) : State :=
  (List.range 8).foldl (fun s k => s.set (F.SWC_Q_STATUS_STATE (8 * ch + k)) 3) s

/-! ### Shapers, hold times and gates (R56, R57, R157, R265, R266, R273) -/

/-- The profiles of a list that an older list does not give alike, or whose channel is new. -/
def changedProfiles (isNew : Nat → Bool) (old new : List ShaperProfile) : List ShaperProfile :=
  new.filter (fun p => decide (p ∉ old) || isNew p.index)

/-- Shaper profiles that changed come into their registers; a changed protection shaper restarts its tokens. -/
def State.strikeShapers (s : State) (newCh : List Nat) (old new : QueuesSection) : State :=
  let s := (changedProfiles (fun q => decide (q / 8 ∈ newCh)) old.queueShapers new.queueShapers).foldl (fun s p =>
    s.sets [(F.SCH_Q_RATE_RATE p.index, p.rate), (F.SCH_Q_BURST_BURST p.index, p.burst)]) s
  let s := (changedProfiles (fun c => decide (c ∈ newCh)) old.channelShapers new.channelShapers).foldl (fun s p =>
    s.sets [(F.SCH_CH_RATE_RATE p.index, p.rate), (F.SCH_CH_BURST_BURST p.index, p.burst)]) s
  let s := (new.pShapers.filter (fun p => decide (p ∉ old.pShapers))).foldl (fun s p =>
    State.pShaperReset (s.sets [(F.SCH_P_RATE_RATE p.index, p.rate), (F.SCH_P_RATE_RESET_TO p.index, bit p.resetTo),
      (F.SCH_P_BURST_BURST p.index, p.burst)]) p.index) s
  (old.pShapers.filter (fun p => p.queue.isSome && !new.pShapers.any (fun q => q.index = p.index))).foldl
    (fun s p => s.pShaperReset p.index) s

/-- Hold times: every class at the first Strike, those that changed at a later one. -/
def State.strikeHolds (s : State) (first : Bool) (old new : QueuesSection) : State :=
  (List.range 8).foldl (fun s k =>
    let h := (new.holdUs[k]?).getD 0
    if first ∨ (old.holdUs[k]?).getD 0 ≠ h then s.set (F.SWC_HOLD_HOLD_US k) h else s) s

/-- The gate list of a channel under an image. -/
def gateListOf (g : Image) (ch : Nat) : Option GateList := (imgGates g).find? (fun l => l.channel = ch)

/-- Gate lists: a new list waits for its first cycle start, a removed one runs to the end of its cycle. -/
def State.strikeGates (s : State) (old : Option Image) (g : Image) : State :=
  (imgChannels g).foldl (fun s ch =>
    let was := old.bind (fun o => gateListOf o ch)
    let now := gateListOf g ch
    if was = now then s else s.setGate ch { s.gate ch with pending := some now, since := s.nowNs }) s

/-! ### Tables, SA store, Snare, tamper policy (R57, R111, R113, R148, R222, R387) -/

/-- A seed of the MAC table: the section's, or the one of the draw with the number `drawn`, made at the first Strike and kept until
the next reset (R113). -/
def seedFor (fixed drawn : Nat) : Nat := if fixed ≠ 0 then fixed % 2 ^ 32 else Config.random drawn % 2 ^ 32

/-- The DRBG draws both seeds at the first Strike after a reset, whether or not its section fixes them. -/
def State.seedsDrawn (s : State) (first : Bool) : State :=
  if first then { s with free := s.free + 2, tbl := { s.tbl with drawn0 := s.free, drawn1 := s.free + 1 } } else s

/-- Partitions: a resized one, or a MAC table with a changed seed, is emptied; a shrunk store releases entries. -/
def State.strikeTables (s : State) (first : Bool) (old new : TablesSection) : State :=
  let s := s.seedsDrawn first
  let a := seedFor new.seed0 s.tbl.drawn0
  let b := seedFor new.seed1 s.tbl.drawn1
  let keep := decide (old.mac = new.mac) && decide (a = s.tbl.seed0) && decide (b = s.tbl.seed1)
  let t := s.tbl
  let s : State := { s with
    tbl := { t with
      seed0 := a, seed1 := b
      mac := if keep then t.mac else []
      lpm4 := if old.lpm4 = new.lpm4 then t.lpm4 else {}
      lpm6 := if old.lpm6 = new.lpm6 then t.lpm6 else {} } }
  s.storeKeep (s.storeFit new.saStore s.sam.onDie)

/-- The session LFSRs are seeded. -/
def State.seedSnare (s : State) : State :=
  (List.range 8).foldl (fun s i => State.drew (s.setSnare i { s.snare i with lfsr := s.draw 32 })) s

/-- The latches of the Active bank reload (R380), and with them the battery domain's copy of the masks of its sources. -/
def State.strikeMasks (s : State) : State :=
  let s := s.pairAgrees (fun m => decide (0x80000005 ≤ m ∧ m ≤ 0x80000008))
  match s.pel.active.bind imgTamper with
  | some _ => s.setTmp { s.tmp with batMask := batSources.map (fun x => (x, s.effectiveMask x)) }
  | none => s.setTmp { s.tmp with batMask := [] }

/-! ### The power plan and the start of the data plane (R55, R401 to R403, R416) -/

/-- The switchings that a new POWER section asks for: off in reverse slot order, then on in slot order. -/
def State.planSeq (s : State) (old new : List Nat) : List (Bool × Nat) :=
  let slots := bootSlots ++ dataSlots
  let up := fun d => decide (d ∈ bootSlots) || s.planeOn
  ((slots.filter (fun d => decide (d ∈ new) && decide (d ∈ s.pwr.on))).reverse.map (fun d => (false, d))) ++
    (slots.filter (fun d => decide (d ∈ old) && decide (d ∉ new) && up d && domainPresent s.fus.variant d)).map (fun d => (true, d))

/-- A later Strike carries its power plan out; the first takes the device out of START-UP once it has booted. -/
def State.strikePower (s : State) (first : Bool) (old new : List Nat) : State :=
  let s := if first then s.setPwr { s.pwr with planDue := true } else s
  let seq := s.planSeq old new
  if first ∧ !s.pwr.wakeReset then
    if s.pwr.goal.isSome then s else s.setPwr { s.pwr with goal := some (.start .active) }
  else
    let s := if first then ((s.setPwr { s.pwr with state := .standby }).post F.PWR_EVENT_EVENTS 0).pended else s
    if seq = [] then s
    else s.setPwr { s.pwr with seq := s.pwr.seq ++ seq, goal := some (s.pwr.goal.getD .powerSection) }

/-! ### The Strike -/

/-- The exchange of the banks (R52). -/
def State.exchange (s : State) (g : Image) : State :=
  let s := { s with pel := { s.pel with active := some g, shadow := none, old := s.pel.active, struck := true } }
  s.sets [(F.PEL_STATUS_SHADOW, 4), (F.PEL_STATUS_ACTIVE, 1), (F.PEL_STATUS_BANK, 1 - s.get F.PEL_STATUS_BANK),
    (F.PEL_STATUS_ACTIVE_SVN, g.svn), (F.PEL_ACTIVE_ID_LO_ID, g.imageId % 2 ^ 32), (F.PEL_ACTIVE_ID_HI_ID, g.imageId / 2 ^ 32),
    (F.PEL_STRIKE_COUNT_COUNT, (s.get F.PEL_STRIKE_COUNT_COUNT + 1) % 2 ^ 32)]

/-- What leaves with the old structure: removed channels, and the ports that stop. -/
def State.leaveOld (s : State) (old : Option Image) (g : Image) : State :=
  match old with
  | some a =>
    let s := (channelsOnlyIn a g).foldl State.removeChannel s
    (stoppedPorts a g).foldl (fun s p => s.portStops g p) s
  | none => s

/-- The channels that a Strike creates. -/
def createdChannels (old : Option Image) (g : Image) : List Nat :=
  match old with
  | some a => channelsOnlyIn g a
  | none => imgChannels g

/-- The Strike with the image of the Shadow bank; `op` is the command that it completes (2 ARM_NOW, 3 ARM_AT). -/
def State.strike (s : State) (op : Nat) : State :=
  match s.pel.shadow with
  | none => s
  | some g =>
    let old := s.pel.active
    let first := !s.pel.struck
    let oldQ := (old.map imgQueues).getD { minCells := 0 }
    let newCh := createdChannels old g
    let newGrp := (old.map (fun a => groupsOnlyIn g a)).getD ((imgGroups g).map (fun x => x.index))
    let s := s.leaveOld old g
    let s := match old with
      | some a => (channelsOnlyIn a g).foldl (fun s ch => State.setGate s ch {})
          (s.clearObjects (channelsOnlyIn a g ++ newCh) (groupsOnlyIn a g ++ newGrp))
      | none => s
    let s := (s.exchange g).poolStrike s
    let s := newCh.foldl State.createChannel s
    let s := if first ∧ !s.pwr.dpReset then s.internalQueuesUp else s
    let s := (s.strikeHolds first oldQ (imgQueues g)).strikeShapers newCh oldQ (imgQueues g)
    let s := s.strikeGates old g
    let s := s.strikeTables first ((old.map imgTables).getD {}) (imgTables g)
    let s := s.seedSnare.strikeMasks
    let s := (s.flexStrike old).twinStrike old
    let s := ((imgRegInit g).filter (initNew first newCh newGrp)).foldl State.initField s
    let s := newCh.foldl (fun s ch => s.maxFrames (imgRegInit g) ch) s
    let s := (imgChannels g).foldl (fun s ch => s.clipChannel g ch) s
    let s := if first then s.deferredHold else s
    (s.strikePower first ((old.map imgPowerOff).getD []) (imgPowerOff g)).completePel op .ok

/-- R51: the Shadow bank would change the twin role while the twin is ACTIVE or HANDING. -/
def State.roleBarred (s : State) : Bool :=
  (s.twinIn .active || s.twinIn .handing) &&
    decide ((twinOf s.fus.variant s.pel.active).role ≠ (twinOf s.fus.variant s.pel.shadow).role)

end Sys2Proof.Machine
end

