-- ==== Sys2Proof/Machine/Avs.lean ====
section
/-! DEFINITION. The core voltage (R414 to R418): plans, raises and the ledger. -/

namespace Sys2Proof.Machine
open Sys2Proof

/-- A completion of a PWR command (R419). -/
def State.completePwr (s : State) (op : Nat) (st : Status) : State :=
  let s := s.setPwr { s.pwr with running := s.pwr.running.filter (· ≠ op) }
  s.sets [(F.PWR_CMD_RESULT_STATUS, st.code), (F.PWR_CMD_RESULT_OP, op), (F.PWR_CMD_RESULT_RUNNING, bit (s.pwr.running ≠ []))]

/-- A PWR command that takes time begins. -/
def State.runPwr (s : State) (op : Nat) : State :=
  (s.setPwr { s.pwr with running := op :: s.pwr.running.filter (· ≠ op) }).set F.PWR_CMD_RESULT_RUNNING 1

/-- A PWR command turned away: its completion is shown, and a command that runs goes on. -/
def State.rejectPwr (s : State) (op : Nat) (st : Status) : State :=
  s.sets [(F.PWR_CMD_RESULT_STATUS, st.code), (F.PWR_CMD_RESULT_OP, op)]

/-- A PWR command of a requester (R403): a VF's write is ignored; the checks in the order of R19, then the action. -/
def State.pwrCommand (s : State) (who op : Nat) (checks : List (Bool × Status)) (act : State → State) : State :=
  if isVf who then s.ignored who F.PWR_STATUS_WRITE_IGNORED
  else
    match firstStatus checks with
    | .ok => act s
    | st => s.rejectPwr op st

/-- A sequence of R401 or R402 runs. -/
def State.seqRunning (s : State) : Bool := s.pwr.goal.isSome

/-- A signed number in the two's complement of `w` bits; a value outside is open. -/
def State.signedField (s : State) (w : Nat) (v : Int) : Nat :=
  if -(2 ^ (w - 1)) ≤ v ∧ v < 2 ^ (w - 1) then (v % 2 ^ w).toNat else s.draw w

/-- The steps of VDD_CORE in range (R414). -/
def vddSteps : List Nat := (List.range 25).map (720 + 5 * ·)

/-- A voltage meets SLACK_TARGET (R416): `v` is the present voltage, `d` the drift in 1/10 ps per year, `y` the years in
1/10; everything in 1/100 ps. -/
def meetsSlack (i : AvsInputs) (target v : Nat) (d : Int) (y v' : Nat) : Bool :=
  decide ((target : Int) * 100 ≤ i.slack * 100 + (i.gain10mV : Int) * 10 * ((v' : Int) - v) + d * y)

/-- The ledger as points of powered hours and S (R416, R418): the LEDGER records of source 1, or on a part without a journal the copy
in AON. -/
def State.ledgerPoints (s : State) : List (Int × Int) :=
  if hasTwin s.fus.variant then
    (s.jnl.recs.filter (fun r => r.cls = .ledger && r.readable && decide (leNat (slice r.body 0 1) = 1))).map
      (fun r => ((leNat (slice r.body 32 4) : Int), signed 16 (leNat (slice r.body 12 2))))
  else s.pwr.ledger.map (fun e => ((e.hours : Int), e.slack))

/-- The slope of the least squares line through some points, in 1/10 ps per year of 8,766 hours, cut to the whole number below. -/
def driftOf (ps : List (Int × Int)) : Int :=
  let n : Int := ps.length
  let sx := (ps.map Prod.fst).sum
  let sy := (ps.map Prod.snd).sum
  let sxy := (ps.map (fun p => p.1 * p.2)).sum
  let sxx := (ps.map (fun p => p.1 * p.1)).sum
  (n * sxy - sx * sy) * 87660 / (n * sxx - sx * sx)

/-- The drift D that a plan uses (R416): that of the entries of the last 365 days, and 0 while fewer than 30 days are held. -/
def State.planDrift (s : State) (i : AvsInputs) : Int :=
  let ps := s.ledgerPoints.filter (fun p => decide ((i.hours : Int) ≤ p.1 + 8760))
  if ps.any (fun p => ps.any (fun q => decide (p.1 + 720 ≤ q.1))) then driftOf ps else 0

/-- V_end, and whether it exceeds 0.84 V (R416): the lowest step, in range or above, that meets the target at the end of
life; where none can be shown, its value is open. -/
def State.vEnd (s : State) (i : AvsInputs) (target v : Nat) : Nat × Bool :=
  let left := 10 * s.get F.PWR_LIFE_LIFE_YEARS - i.age10
  match (((List.range 60).map (720 + 5 * ·)).find? (meetsSlack i target v (s.planDrift i) left)) with
  | some e => (e, decide (840 < e))
  | none => (s.draw 10, true)

/-- Margin years in 1/10 year (R416). -/
def marginYears (i : AvsInputs) (d : Int) (target v : Nat) : Nat :=
  if 0 ≤ d then 0xFFFF
  else min 0xFFFF (((i.slack * 10 + (i.gain10mV : Int) * (840 - (v : Int)) - target * 10) * 10) / -d).toNat

/-- A ledger entry as a journal body of source 1 (R418). -/
def LedgerEntry.body (e : LedgerEntry) : Bytes :=
  let i16 := fun (v : Int) => leBytes 2 (v % 65536).toNat
  leBytes 8 1 ++ leBytes 2 e.vPlan ++ i16 e.temp ++ i16 e.slack ++ leBytes 2 e.monitor ++ leBytes 2 e.k100 ++ i16 e.drift10 ++
    leBytes 2 e.vEnd ++ leBytes 2 e.margin10 ++ leBytes 2 e.eyeHeight ++ leBytes 2 e.eyeHeightLane ++ leBytes 2 e.eyeWidth ++
    leBytes 2 e.eyeWidthLane ++ leBytes 4 e.hours ++ leBytes 4 e.flags

/-- A ledger entry written: a journal record where there is a journal, and the copy of the last 64 in AON. -/
def State.ledgerPut (s : State) (e : LedgerEntry) : State :=
  let s := if hasTwin s.fus.variant then s.jnlOffer (newRec .ledger e.body) else s
  let l := s.pwr.ledger ++ [e]
  s.setPwr { s.pwr with ledger := l.drop (l.length - 64) }

/-- The voltage that a raise within the last PLAN_H hours set, below which no plan goes (R417). -/
def State.raiseFloor (s : State) : Nat :=
  match s.pwr.raise' with
  | some (mv, at') => if s.nowNs < at' + s.get F.PWR_AVS_CFG_PLAN_H * 3600000000000 then mv else 0
  | none => 0

/-- A plan (R416). -/
def State.plan (s : State) (i : AvsInputs) : State :=
  let v := s.get F.PWR_AVS_STATUS_VDD_CORE_MV
  let target := s.get F.PWR_AVS_CFG_SLACK_TARGET
  let found := vddSteps.find? (meetsSlack i target v 0 0)
  let vPlan := max (found.getD 840) s.raiseFloor
  let (vEnd, short) := s.vEnd i target v
  let eye := decide (i.eyeHeight < s.get F.PWR_AVS_CFG_EYE_MIN)
  let e : LedgerEntry :=
    { vPlan := vPlan, temp := i.temp, slack := i.slack, monitor := i.monitor, k100 := i.gain10mV * 10
      drift10 := s.planDrift i, vEnd := vEnd, margin10 := marginYears i (s.planDrift i) target v, eyeHeight := i.eyeHeight
      eyeHeightLane := i.eyeHeightLane, eyeWidth := i.eyeWidth, eyeWidthLane := i.eyeWidthLane, hours := i.hours
      flags := bit found.isNone + 2 * bit short + 4 * bit s.pwr.lowSince + 8 * bit eye }
  let s := s.sets [(F.PWR_AVS_STATUS_VDD_CORE_MV, vPlan), (F.PWR_AVS_STATUS_V_END_MV, vEnd),
    (F.PWR_AVS_STATUS_MIN_SLACK, State.signedField s.drew 8 i.slack)]
  let s := (s.drew.drew.setPwr { s.pwr with lowSince := false, planDue := false, planAt := s.nowNs }).ledgerPut e
  let s := if found.isNone then (s.post F.PWR_EVENT_EVENTS 3).logFault 0x21 0 else s
  let s := if short then s.post F.PWR_EVENT_EVENTS 4 else s
  let s := if eye then s.post F.PWR_EVENT_EVENTS 5 else s
  s.post F.PWR_EVENT_EVENTS 6

/-- The monitors run and the voltage may move (R414, R415). -/
def State.avsLive (s : State) : Bool := s.planeOn && !s.seqRunning

/-- AVS_PLAN. -/
def execAvsPlan (who : Nat) (i : AvsInputs) (s : State) : Host.Outcome State Fault Refusal :=
  .next (s.pwrCommand who 8 [(!s.planeOn, .stateConflict), (s.seqRunning, .busy)] (fun s => (s.plan i).completePwr 8 .ok))

/-- A plan is due: that of the first Strike, or PLAN_H hours after the last. -/
def execAvsPlanTimer (i : AvsInputs) (s : State) : Host.Outcome State Fault Refusal :=
  .next (if s.avsLive ∧ (s.pwr.planDue ∨ s.pwr.planAt + s.get F.PWR_AVS_CFG_PLAN_H * 3600000000000 ≤ s.nowNs) then s.plan i
    else s)

/-- The slack that a monitor reads below SLACK_MIN: a free value of 8 bits there (log entry 78). -/
def State.lowSlack (s : State) : Int :=
  let least : Int := s.get F.PWR_AVS_CFG_SLACK_MIN
  least - 1 - ((s.draw 8 : Int) % max (least + 128) 1)

/-- A monitor reads below SLACK_MIN: MIN_SLACK shows it, and the voltage is raised (R417). -/
def execLowMargin (s : State) : Host.Outcome State Fault Refusal :=
  let v := s.get F.PWR_AVS_STATUS_VDD_CORE_MV
  .next (if !s.avsLive then s
    else
      let s := s.drew.set F.PWR_AVS_STATUS_MIN_SLACK (s.lowSlack % 256).toNat
      let s := s.setPwr { s.pwr with lowSince := true }
      if 840 ≤ v then s.logFault 0x21 0
      else
        let s := s.set F.PWR_AVS_STATUS_VDD_CORE_MV (min 840 (v + 10))
        (s.setPwr { s.pwr with raise' := some (min 840 (v + 10), s.nowNs) }).post F.PWR_EVENT_EVENTS 2)

end Sys2Proof.Machine
end

