-- ==== Sys2Proof/Machine/Peal.lean ====
section
/-! DEFINITION. The commands of the Peal loader (R45 to R51) and the events of its banks. -/

namespace Sys2Proof.Machine
open Sys2Proof

/-- A PEL command of a requester: a VF's write is ignored, one during a control-plane reset discarded; the checks in
the order of R19, then the action. -/
def State.pelCommand (s : State) (who op : Nat) (checks : List (Bool × Status)) (act : State → State) : State :=
  if isVf who then s.ignored who F.PEL_STATUS_WRITE_IGNORED
  else if s.pwr.cpReset then s
  else
    match firstStatus checks with
    | .ok => act s
    | st => s.completePel op st

/-- The host address of PEL_LOAD_ADDR. -/
def State.loadAddr (s : State) : Nat := s.get F.PEL_LOAD_ADDR_LO_ADDR + s.get F.PEL_LOAD_ADDR_HI_ADDR * 2 ^ 32

/-- A copy into the Shadow bank begins. -/
def State.loadStart (s : State) (addr len : Nat) : State :=
  State.set { s with pel := { s.pel with loadAddr := addr, loadLen := len } } F.PEL_STATUS_SHADOW 1

/-- LOAD (R46, R49). -/
def execLoad (who : Nat) (s : State) : Host.Outcome State Fault Refusal :=
  let len := s.get F.PEL_LOAD_LEN_LEN
  .next (s.pelCommand who 1
    [(decide (len = 0 ∨ 8388608 < len ∨ s.loadAddr % 4096 ≠ 0), .badArgument),
      (decide (s.shadowState = 2 ∨ s.shadowState = 3), .stateConflict),
      (decide (s.shadowState = 1 ∨ s.shadowState = 4), .busy)]
    (fun s => s.loadStart s.loadAddr len))

/-- Verification of the copy ends (R47 to R49). A failed signature raises PEAL_AUTH. -/
def State.verificationDone (s : State) (img : Image) : State :=
  if s.shadowState ≠ 1 then s
  else
    let v := s.verify img
    match v.status with
    | .ok =>
      let s : State := { s with pel := { s.pel with shadow := some img } }
      (s.set F.PEL_STATUS_SHADOW 2).completePel 1 .ok
    | st =>
      let s := s.shadowClear.completePel 1 st v.step v.sec
      if v.step = 4 then s.alarm [(15, 0)] else s

def execVerificationDone (copy : PealCopy) (s : State) : Host.Outcome State Fault Refusal :=
  .next (s.verificationDone (imageOf copy))

/-- ARM_NOW (R49 to R51). -/
def State.armNow (s : State) (who : Nat) (alarm : Bool) : State :=
  s.pelCommand who 2 [(decide (s.shadowState ≠ 2) || s.roleBarred, .stateConflict)]
    (fun s => if alarm then s.shadowClear.completePel 2 .aborted else s.strike 2)

def execArmNow (who : Nat) (alarm : Bool) (s : State) : Host.Outcome State Fault Refusal := .next (s.armNow who alarm)

/-- The Strike time that ARM_AT latches, in TAI ns. -/
def State.strikeTime (s : State) : Nat :=
  (s.get F.PEL_STRIKE_SEC_LO_SEC + s.get F.PEL_STRIKE_SEC_HI_SEC * 2 ^ 32) * 1000000000 + s.get F.PEL_STRIKE_NS_NS

/-- ARM_AT (R49, R51, R54). -/
def execArmAt (who : Nat) (s : State) : Host.Outcome State Fault Refusal :=
  .next (s.pelCommand who 3
    [(decide (999999999 < s.get F.PEL_STRIKE_NS_NS), .badArgument),
      (decide (s.shadowState ≠ 2) || s.roleBarred, .stateConflict)]
    (fun s => State.set { s with pel := { s.pel with armAt := s.strikeTime } } F.PEL_STATUS_SHADOW 3))

/-- An armed Strike is due and the data plane can take it (R26, R30). -/
def State.strikeDue (s : State) : Bool :=
  decide (s.shadowState = 3) && decide (s.pel.armAt ≤ s.nowNs) && !s.pwr.dpReset

/-- DISARM (R49, R50): with the Strike time reached, the Strike takes place. -/
def execDisarm (who : Nat) (s : State) : Host.Outcome State Fault Refusal :=
  .next (if s.strikeDue ∧ !isVf who ∧ !s.pwr.cpReset then (s.completePel 4 .stateConflict).strike 3
    else s.pelCommand who 4 [(decide (s.shadowState ≠ 3), .stateConflict)]
      (fun s => ((s.set F.PEL_STATUS_SHADOW 2).completePel 4 .ok).completePel 3 .aborted))

/-- CLEAR_SHADOW (R49). -/
def execClearShadow (who : Nat) (s : State) : Host.Outcome State Fault Refusal :=
  .next (s.pelCommand who 5 [(decide (s.shadowState ≠ 2), .stateConflict)] (fun s => s.shadowClear.completePel 5 .ok))

/-- ADVANCE_FLOOR (R45): the floor as the array now holds it rises to the SVN of the Active image. -/
def execAdvanceFloor (who : Nat) (s : State) : Host.Outcome State Fault Refusal :=
  let svn := (s.pel.active.map (fun g => g.svn)).getD 0
  .next (s.pelCommand who 6 [(decide (s.pel.active.isNone ∨ svn ≤ s.fus.floor), .stateConflict)]
    (fun s =>
      let s : State := { s with fus := { s.fus with floor := svn } }
      (s.set F.FUS_STATUS_PENDING 1).completePel 6 .ok))

/-- The armed Strike takes place if its time has come (R26, R49). -/
def State.timedStrike (s : State) : State := if s.strikeDue then s.strike 3 else s

/-- The time base reaches the Strike time. -/
def execTimedStrike (s : State) : Host.Outcome State Fault Refusal := .next s.timedStrike

/-- A frame with the tag of the released bank is still in the device (R28). -/
def State.oldFrames (s : State) : Bool :=
  let tag := decide (s.get F.PEL_STATUS_BANK = 1)
  s.buf.queues.any (fun p => p.2.any (fun f => decide (f.tag ≠ tag))) || s.pool.slots.any (fun t => decide (t.frame.tag ≠ tag))

/-- The last frame with the old tag has gone: the old bank is released (R28, R49). -/
def execDrainComplete (s : State) : Host.Outcome State Fault Refusal :=
  .next (if s.shadowState = 4 ∧ !s.oldFrames then
      State.set { s with pel := { s.pel with old := none } } F.PEL_STATUS_SHADOW 0
    else s)

end Sys2Proof.Machine
end

