-- ==== Sys2Proof/Machine/TwinLink.lean ====
section
/-! DEFINITION. The messages of the Twin link and their timers (R307 to R310, R314, R315, R317, R319, R321, R325). -/

namespace Sys2Proof.Machine
open Sys2Proof

/-! ### Checks and acknowledgement (R308 to R310) -/

/-- A frame fails its tag: discarded, counted, and TWIN_PEER raised. -/
def State.authFail (s : State) : State := (s.bump F.TWN_DISCARDS_AUTH_FAIL 16 1).alarm [(13, 0)]

/-- The tag of a received frame is right. -/
def State.twinAuth (s : State) (h : TwinHdr) (m : TwinMsg) : Bool :=
  decide (h.icv = s.twinIcv h.node s.ownNode h.epoch h.seq m)

/-- A frame of the session: its tag, its epoch against `epoch`, and then what it does. -/
def State.twinRx (s : State) (h : TwinHdr) (m : TwinMsg) (epoch : Nat) (f : State → State) : State :=
  if !s.twinUp then s
  else if !s.twinAuth h m then s.authFail
  else if h.epoch % 65536 ≠ epoch % 65536 then s.bump F.TWN_DISCARDS_EPOCH_DISCARD 16 1
  else f s

/-- The epoch in force. -/
def State.epoch (s : State) : Nat := s.get F.TWN_LEASE_EPOCH

/-- A frame of an acknowledged type: taken once, and acknowledged each time. -/
def State.twinTake (s : State) (h : TwinHdr) (f : State → State) : State :=
  let s := if s.twn.rxSeq < h.seq then f (s.setTwn { s.twn with rxSeq := h.seq }) else s
  if s.twinUp then s.twinSend (.ack s.twn.rxSeq) false else s

/-! ### Link-up (R306 to R309, R314) -/

/-- The pairing of R306. -/
def State.helloFits (s : State) (g : Image) (m : HelloMsg) : Bool :=
  decide (m.structure' = structureOf g ∧ m.domainId = s.domainId s.twinSlot ∧ m.role ≠ s.twinRole ∧ m.role ≠ .standalone)

/-- The session key (R308). -/
def State.sessionKey (s : State) (node : Nat) (random : Block) : Key :=
  let own := s.ownNode
  let (lo, hi) := if own < node then (s.twn.random, random) else (random, s.twn.random)
  toKey (kdf (s.linkKey own node) "TWIN-SES" (blockBytes lo ++ blockBytes hi) 256)

/-- A twin joins an ACTIVE peer at an epoch. -/
def State.joinPeer (s : State) (epoch : Nat) : State :=
  ((s.sets [(F.TWN_LEASE_EPOCH, epoch % 65536), (F.TWN_LEASE_HOLDER, 0)]).setTwn
    { s.twn with peerLeaseEnd := s.nowNs + s.get F.TWN_CFG_LEASE_MS * 1000000, synced := [] }).toTwin .joining

/-- What link-up makes of this twin's state and the peer's. -/
def State.linkUpState (s : State) (m : HelloMsg) : State :=
  match s.twinState, m.state with
  | .seeking, .active => s.joinPeer m.epoch
  | .joining, .active => s.joinPeer m.epoch
  | .seeking, .seeking =>
    let e := max s.epoch m.epoch
    if s.twinRole = .preferred then
      let s := (((s.claim (e + 1)).seqsFresh).becomeActive true).sendSync
      s.setTwn { s.twn with peerState := .joining }
    else s.joinPeer e
  | .active, .seeking => (s.sendSync).setTwn { s.sendSync.twn with peerState := .joining }
  | .active, .joining => s.sendSync
  | .active, .standby => s.sendSync
  | _, _ => s

/-- The session starts. -/
def State.sessionStart (s : State) (h : TwinHdr) (m : HelloMsg) (skew : Nat) : State :=
  let key := s.sessionKey h.node m.random
  let s := s.setTwn { s.twn with session := some key, txSeq := 0, rxSeq := 0, unacked := [], reserved := [] }
  let s := (s.sets [(F.TWN_STATUS_LINK_UP, 1), (F.TWN_SKEW_SKEW_NS, skew % 65536)]).post F.TWN_EVENT_EVENTS 0
  ((s.linkUpState m).deferredNotice).holdOffCheck

/-- HELLO. -/
def execHello (h : TwinHdr) (m : HelloMsg) (skewNs : Nat) (s : State) : Host.Outcome State Fault Refusal :=
  .next (match s.pel.active with
    | some g =>
      if !s.twinOn ∨ !s.dataUp ∨ s.pwr.cpReset ∨ !s.linkKeyed then s
      else if !s.twinAuth h (.hello m) then s.authFail
      else if s.twinUp then s
      else
        let s := s.setTwn { s.twn with heard := true, peerNode := h.node, peerState := m.state, peerSynced := m.synced }
        if s.helloFits g m then s.sessionStart h m skewNs else s.post F.TWN_EVENT_EVENTS 9
    | none => s)

/-- HEARTBEAT: the peer's state; an ACTIVE twin sends a full SYNC to a peer that has entered JOINING. -/
def State.heartbeatIn (s : State) (state : TwinState) (synced : Bool) : State :=
  let was := s.twn.peerState
  let s := s.setTwn { s.twn with peerState := state, peerSynced := synced }
  if s.twinIn .active ∧ state = .joining ∧ was ≠ .joining then s.sendSync
  else if s.twinIn .seeking ∧ state = .active then s.joinPeer s.epoch
  else s

def execHeartbeat (h : TwinHdr) (state : TwinState) (synced : Bool) (clap : Clap) (s : State) : Host.Outcome State Fault Refusal :=
  .next (s.twinRx h (.heartbeat state synced clap) s.epoch (fun s => (s.heartbeatIn state synced).collision s))

/-! ### Mirrored state (R314, R315, R317) -/

/-- The SCI of a receive SC leaves the map. -/
def State.sciDrop (s : State) (k : Nat) : State :=
  let c := s.sc k
  match (if c.created ∧ c.rx then s.sciFind c.sci else none) with
  | some i => { s with sam := { s.sam with sciMap := NTab.set s.sam.sciMap none i none } }
  | none => s

/-- An SC entry as a record gives it. -/
def recordEntry (r : ScRecord) : Sc :=
  { created := true, enable := r.enable, rx := r.dirRx, sci := r.sci, conf := r.conf, offset := r.offset
    clearTags := r.clearTags, tagAuth := r.tagAuth, twinTagged := r.twinTagged, dupCtx := r.dupCtx, channel := r.channel
    owner := r.owner, egress := r.egress, slots := r.slots, txAn := r.txAn.getD 0, txValid := r.txAn.isSome
    nextAn := r.nextAn, rollMode := r.rollMode, overlapMs := r.overlapMs, window := r.window, rollNs := r.rollNs
    rollSec := r.rollSec }

/-- A record of an SC applied. -/
def State.applySc (s : State) (r : ScRecord) : State :=
  let k := r.sc
  let s := s.sciDrop k
  let s := { s with cnt := { s.cnt with vfSlot := s.cnt.vfSlot.filter (fun p => p.2.2 ≠ k) } }
  if r.created then
    let s := if r.dirRx then (s.sciPlace k r.sci).getD s else s
    let s := s.setSc k (recordEntry r)
    if 5 ≤ r.owner then s.vfSlotTake r.owner k else s
  else s.setSc k {}

/-- A record of an SA applied: its parent is the domain slot of the TWIN section, and a transmit SA starts after the
reserved end. -/
def State.applySa (s : State) (r : SaRecord) : State :=
  let a := r.sa
  let old := s.sa a
  if r.state = 0 then (if old.state = .free then s else s.freeSa a)
  else match kwUnwrap (s.twn.session.getD 0) (r.wrapped.map (BitVec.ofNat 8)) with
  | none => s
  | some key =>
    let d := s.twinSlot
    let e := max (Tab.get s.twn.resEnd 0 a) r.firstEnd
    let s := if r.dirRx then s else s.setTwn { s.twn with resEnd := NTab.set s.twn.resEnd 0 a e }
    let s := if old.state = .free then (s.saCountsClear a).toDie a else s
    let s := s.setSa a { old with
      state := if r.state = 5 then .orphaned else .installed, rx := r.dirRx, suite := r.suite, key := toKey key, salt := r.salt
      ssci := r.ssci, nextPn := if r.dirRx then max old.nextPn r.nextRxPn else e + 1, threshold := r.threshold
      blockEnd := if r.dirRx then suiteMax r.suite else e, an := r.an, sc := r.sc, parent := d, parentGen := (s.slot 0 d).gen, parentLevel := 1 }
    if r.state = 3 then
      (if old.state = .active then s.setSa a { s.sa a with state := .active } else s.activated a)
    else if r.state = 4 then
      (if old.state = .retiring then s.setSa a { s.sa a with state := .retiring }
       else State.retire (s.setSa a { s.sa a with accepting := r.dirRx }) a)
    else s

/-- A record applied. -/
def State.applyRec (s : State) : MirrorRec → State
  | .sc r => s.applySc r
  | .sa r => s.applySa r
  | .rxPn a pn => if (s.sa a).rx then s.setSa a { s.sa a with nextPn := max (s.sa a).nextPn pn } else s
  | .syncEnd => s

/-- SYNC_END: the mirrored entries give way to the records received, and the twin is a SYNCED STANDBY. -/
def State.syncDone (s : State) : State :=
  let recs := s.twn.synced
  let s := ((s.sam.sa.map Prod.fst).filter s.saMirrored).foldl State.freeSa s
  let s := ((s.sam.sc.map Prod.fst).filter s.scMirrored).foldl (fun s k => (s.sciDrop k).setSc k {}) s
  let s := recs.foldl State.applyRec s
  let s := (s.setTwn { s.twn with synced := [] }).set F.TWN_STATUS_SYNCED 1
  ((s.toTwin .standby).post F.TWN_EVENT_EVENTS 4).holdOffCheck

/-- A record of MIRROR or SYNC: a JOINING twin keeps it until SYNC_END, a STANDBY applies it. -/
def State.mirrorIn (s : State) (r : MirrorRec) : State :=
  if s.twinIn .joining then
    (if r = .syncEnd then s.syncDone else s.setTwn { s.twn with synced := s.twn.synced ++ [r] })
  else if s.twinIn .standby then
    (if r = .syncEnd then s.syncDone else s.applyRec r)
  else s

def execMirror (h : TwinHdr) (r : MirrorRec) (s : State) : Host.Outcome State Fault Refusal :=
  .next (s.twinRx h (.mirror r) s.epoch (fun s => s.twinTake h (fun s => s.mirrorIn r)))

def execSync (h : TwinHdr) (r : MirrorRec) (s : State) : Host.Outcome State Fault Refusal :=
  .next (s.twinRx h (.sync r) s.epoch (fun s => s.twinTake h (fun s => s.mirrorIn r)))

/-- RESERVE at the peer (R317). -/
def State.reserveIn (s : State) (a newEnd : Nat) : State :=
  let e := max (Tab.get s.twn.resEnd 0 a) newEnd
  let s := s.setTwn { s.twn with resEnd := NTab.set s.twn.resEnd 0 a e }
  if s.twinIn .standby ∧ s.saMirrored a ∧ !(s.sa a).rx then s.setSa a { s.sa a with nextPn := e + 1, blockEnd := e } else s

def execReserve (h : TwinHdr) (sa newEnd : Nat) (s : State) : Host.Outcome State Fault Refusal :=
  .next (s.twinRx h (.reserve sa newEnd) s.epoch (fun s => s.twinTake h (fun s => s.reserveIn sa newEnd)))

/-- A block end that the peer has acknowledged (R317). -/
def State.blockTo (s : State) (a e : Nat) : State :=
  if (s.sa a).state ≠ .free ∧ !(s.sa a).rx then s.setSa a { s.sa a with blockEnd := max (s.sa a).blockEnd e } else s

/-- What the acknowledgement of a sent frame brings. -/
def State.ackedMsg (s : State) (u : TwinSent) : State :=
  match u.msg with
  | .reserve a e => State.blockTo (s.setTwn { s.twn with reserved := NTab.set s.twn.reserved 0 a 0 }) a e
  | .mirror (.sa r) => s.blockTo r.sa r.firstEnd
  | .sync (.sa r) => s.blockTo r.sa r.firstEnd
  | .lease _ _ node ms _ =>
    if s.holder ∧ node = s.ownNode then s.setTwn { s.twn with leaseEnd := max s.twn.leaseEnd (u.firstAt + ms * 1000000) } else s
  | _ => s

/-- ACK: every frame up to the number is acknowledged. -/
def State.ackIn (s : State) (n : Nat) : State :=
  let l := s.twn.unacked.filter (fun u => decide (u.hdr.seq ≤ n))
  let s := s.setTwn { s.twn with unacked := s.twn.unacked.filter (fun u => decide (n < u.hdr.seq)) }
  l.foldl State.ackedMsg s

def execAck (h : TwinHdr) (seq : Nat) (s : State) : Host.Outcome State Fault Refusal :=
  .next (s.twinRx h (.ack seq) s.epoch (fun s => s.ackIn seq))

/-! ### Lease, role and notice (R321, R323, R325, R384) -/

/-- LEASE CLAIM: the claimant holds the lease at the new epoch. LEASE RENEW: the holder's lease runs on, and TEST is the
flag's. -/
def State.leaseIn (s : State) (h : TwinHdr) (kind : LeaseKind) (holder ms : Nat) (test : Bool) : State :=
  let until' := s.nowNs + ms * 1000000
  let s := match kind with
    | .claim => (s.sets [(F.TWN_LEASE_EPOCH, h.epoch % 65536), (F.TWN_LEASE_HOLDER, 0)]).setTwn { s.twn with peerLeaseEnd := until' }
    | .renew => if holder = h.node then (s.set F.TWN_LEASE_HOLDER 0).setTwn { s.twn with peerLeaseEnd := until' } else s
  s.set F.TWN_STATUS_TEST (bit test)

def execLease (h : TwinHdr) (kind : LeaseKind) (epoch holder ms : Nat) (test : Bool) (s : State) :
    Host.Outcome State Fault Refusal :=
  .next (s.twinRx h (.lease kind epoch holder ms test) (if kind = .claim then s.epoch + 1 else s.epoch)
    (fun s => s.twinTake h (fun s => (s.leaseIn h kind holder ms test).collision s)))

/-- ROLE GRANT at the STANDBY: it is ACTIVE with the granted sequences. -/
def State.granted (s : State) (seqs : List (Nat × Nat)) : State :=
  let s := (s.becomeActive true).advanceBlocks
  let s := s.setSeqs (fun i st => ((seqs.find? (fun p => p.1 = st.id)).map Prod.snd).getD (s.get (F.TWN_STR_SEQ_NEXT_SEQ i)))
  let s := (s.set F.TWN_LEASE_HOLDER 1).setTwn { s.twn with leaseEnd := s.twn.peerLeaseEnd, peerLeaseEnd := 0 }
  (s.twinSend (.role .done) true).post F.TWN_EVENT_EVENTS 3

/-- ROLE DONE at the HANDING twin: a SYNCED STANDBY that knows the new active's block. -/
def State.handedOver (s : State) : State :=
  let s := s.mirroredTx.foldl (fun s a =>
    let r := (s.sa a).blockEnd + 2 ^ 20
    State.setSa (s.setTwn { s.twn with resEnd := NTab.set s.twn.resEnd 0 a r }) a { s.sa a with nextPn := r + 1, blockEnd := r }) s
  let s := (s.sets [(F.TWN_STATUS_SYNCED, 1), (F.TWN_LEASE_HOLDER, 0)]).setTwn
    { s.twn with peerLeaseEnd := s.twn.leaseEnd, leaseEnd := 0, handover := .idle, permit := false }
  (((s.toTwin .standby).post F.TWN_EVENT_EVENTS 3).yieldEnds .ok).holdOffCheck

/-- The handover begins at the ACTIVE twin. -/
def State.handing (s : State) : State := (s.toTwin .handing).setTwn { s.twn with handover := .draining }

/-- A ROLE message. -/
def State.roleIn (s : State) : RoleKind → State
  | .req => if s.twinIn .active then s.handing else s
  | .grant seqs => if s.twinIn .standby then s.granted seqs else s
  | .done => if s.twinIn .handing ∧ s.twn.handover = .granted then s.handedOver else s

def execRole (h : TwinHdr) (kind : RoleKind) (s : State) : Host.Outcome State Fault Refusal :=
  .next (s.twinRx h (.role kind) s.epoch (fun s => s.twinTake h (fun s => s.roleIn kind)))

/-- A peer's copy of a stream frame, resolved to this twin's SC of the stream (R319). -/
def State.dualIn (s : State) (stream seq tIn : Nat) (bytes : Bytes) : State :=
  match (s.twin?.bind (fun t => t.streams.find? (fun x => x.id = stream))) with
  | some st =>
    if s.twinIn .standby then
      let ch := (s.sc st.sc).channel
      let (id, s) := s.newId
      s.direct { id := id, inPort := 18, bytes := bytes, len := bytes.length + 4, tag := s.get F.PEL_STATUS_BANK = 1
                 tIn := tIn, cls := 7, action := .protect, outCh := ch, dual := some (stream, seq, tIn)
                 queue := 8 * ch + 7 } (some st.sc)
    else s
  | none => s

def execDual (h : TwinHdr) (stream seqNo tIn : Nat) (frame : Bytes) (s : State) : Host.Outcome State Fault Refusal :=
  .next (s.twinRx h (.dual stream seqNo tIn frame) s.epoch (fun s => s.dualIn stream seqNo tIn frame))

/-- NOTICE: an entry and an event, no alarm. -/
def execNotice (h : TwinHdr) (source mask : Nat) (s : State) : Host.Outcome State Fault Refusal :=
  .next (s.twinRx h (.notice source mask) s.epoch (fun s => s.twinTake h (fun s =>
    (s.log (source % 256) 5 (mask % 256) 0).post F.TMP_EVENT_EVENTS 16)))

/-! ### Timers of the link (R308, R309, R315, R321) -/

/-- 20 µs after a frame was last sent without an acknowledgement: every such frame is sent again, in order; at the eighth time the link is down. -/
def execTwinRetransmit (s : State) : Host.Outcome State Fault Refusal :=
  .next (if s.twinUp ∧ s.twn.unacked.any (fun u => decide (u.sentAt + 20000 ≤ s.nowNs)) then
      if s.twn.unacked.any (fun u => decide (7 ≤ u.resends)) then s.twinDown
      else s.twn.unacked.foldl (fun s u => s.emit (.twin u.hdr u.msg (s.linkFrame s.peerNode u.hdr u.msg)))
        (s.setTwn { s.twn with unacked := s.twn.unacked.map (fun u => { u with sentAt := s.nowNs, resends := u.resends + 1 }) })
    else s)

/-- Lane alignment is lost, or 50 µs have passed without an authenticated frame. -/
def execTwinLinkDown (s : State) : Host.Outcome State Fault Refusal := .next s.twinDown

/-- The HELLO of every 100 µs while no session runs. -/
def execHelloTimer (s : State) : Host.Outcome State Fault Refusal :=
  .next (if s.twinOn ∧ s.dataUp ∧ !s.pwr.cpReset ∧ !s.twinUp then s.sendHello else s)

/-- The value of the Clapper input. -/
def State.clapSeen (s : State) : Clap := if s.clapIn .drive then .drive else if s.clapIn .ready then .ready else .absent

/-- The HEARTBEAT of every 10 µs, and with every tenth the NEXT_RX_PN of the receive SAs that changed (R308, R315). -/
def execHeartbeatTimer (s : State) : Host.Outcome State Fault Refusal :=
  .next (if s.twinUp then
      let s := s.twinSend (.heartbeat s.twinState s.synced s.clapSeen) false
      if s.twn.beats < 9 then s.setTwn { s.twn with beats := s.twn.beats + 1 }
      else
        let l := s.twn.rxChanged
        let s := s.setTwn { s.twn with rxChanged := [], beats := 0 }
        if s.twinIn .active then l.foldl (fun s a => s.twinSend (.mirror (.rxPn a (s.sa a).nextPn)) true) s else s
    else s)

/-- Every LEASE_MS / 4: the holder renews over the link, or alone. -/
def execLeaseRenewTimer (s : State) : Host.Outcome State Fault Refusal :=
  .next (if s.holder ∧ s.twinOn then
      let ms := s.get F.TWN_CFG_LEASE_MS
      if s.twinUp then s.twinSend (.lease .renew s.epoch s.ownNode ms (s.get F.TWN_STATUS_TEST = 1)) true
      else if s.clapIn .absent ∧ !s.twn.heard then s.setTwn { s.twn with leaseEnd := s.nowNs + ms * 1000000 }
      else s
    else s)

end Sys2Proof.Machine
end

