-- ==== Sys2Proof/Machine/Twin.lean ====
section
/-! DEFINITION. The Clapper, takeover, handover and the commands of the twin (R311 to R314, R320 to R325). -/

namespace Sys2Proof.Machine
open Sys2Proof

/-! ### The Clapper (R311 to R313) -/

/-- The Clapper input changes; a collision, and a lost peer of an unsynced STANDBY. -/
def State.clapperIn (s : State) (v : Clap) : State :=
  let was := s.clapIn .drive
  let before := s
  let s := (s.set F.TWN_STATUS_CLAP_IN (clapCode v)).setTwn { s.twn with
    inDrive := if was ∨ v = .drive then some s.nowNs else s.twn.inDrive
    left := if v = .drive then false else s.twn.left || was }
  if s.collides then s.collision before
  else if s.twinIn .standby ∧ !s.synced ∧ was ∧ v ≠ .drive then s.post F.TWN_EVENT_EVENTS 10
  else s

def execClapperInputChange (v : Clap) (s : State) : Host.Outcome State Fault Refusal :=
  .next (if hasTwin s.fus.variant ∧ s.clapSeen ≠ v then s.clapperIn v else s)

/-- The peer's HEARTBEAT disagrees with the Clapper input (R312). -/
def State.clapDisagrees (s : State) : Bool :=
  s.clapIn .absent || (decide (s.twn.peerState = .active) != s.clapIn .drive)

/-- 100 µs of disagreement. -/
def execClapperFault (s : State) : Host.Outcome State Fault Refusal :=
  .next (if s.twinOn ∧ s.twinUp ∧ s.clapDisagrees ∧ s.get F.TWN_STATUS_CLAPPER_FAULT = 0 then
      (((s.set F.TWN_STATUS_CLAPPER_FAULT 1).post F.TWN_EVENT_EVENTS 6).holdOffCheck).alarm [(13, 0)]
    else s)

/-- 1 s of agreement. -/
def execClapperFaultClear (s : State) : Host.Outcome State Fault Refusal :=
  .next (if s.get F.TWN_STATUS_CLAPPER_FAULT = 1 ∧ s.twinUp ∧ !s.clapDisagrees then
      ((s.set F.TWN_STATUS_CLAPPER_FAULT 0).holdOffCheck).collision s
    else s)

/-! ### Start, takeover, lapse (R314, R321, R324) -/

/-- 1 s in SEEKING with the link down. -/
def execSeekTimeout (s : State) : Host.Outcome State Fault Refusal :=
  .next (if s.twinIn .seeking ∧ !s.twinUp then
      if s.clapIn .absent then ((s.claim (s.epoch + 1)).seqsFresh).becomeActive true else s.post F.TWN_EVENT_EVENTS 8
    else s)

/-- The conditions of a takeover (R324). -/
def State.takeoverDue (s : State) : Bool :=
  s.twinIn .standby && s.synced && !s.leaseMode &&
    (if s.twinRole = .preferred then s.twn.left || s.clapIn .ready
     else s.clapIn .absent || (!s.clapIn .drive && s.twn.inDrive.all (fun t => decide (t + 10000 ≤ s.nowNs))))

/-- Cycles 0 and 1 of a switchover. -/
def State.takeover (s : State) : State :=
  let s := s.post F.TWN_EVENT_EVENTS 2
  let s := s.set F.TWN_TAKEOVERS_COUNT ((s.get F.TWN_TAKEOVERS_COUNT + 1) % 2 ^ 32)
  let s := (((s.becomeActive false).claim (s.epoch + 1)).advanceBlocks).seqsTaken
  if s.twinUp ∧ s.twn.peerState = .joining then s.sendSync else s

def execTakeover (s : State) : Host.Outcome State Fault Refusal := .next (if s.takeoverDue then s.takeover else s)

/-- Cycle 111: bulk may be dispatched, provided the input has not been DRIVE since cycle 1, or for 100 ns (R313). -/
def execBulkPermit (s : State) : Host.Outcome State Fault Refusal :=
  .next (if s.twinIn .active ∧ !s.clapIn .drive ∧
      s.twn.inDrive.all (fun t => decide (t ≤ s.twn.driveSince ∨ t + 100 ≤ s.nowNs)) then s.setTwn { s.twn with permit := true }
    else s)

/-- The lease expires in LEASE mode. -/
def execLeaseLapsed (s : State) : Host.Outcome State Fault Refusal :=
  .next (if s.twinIn .active ∧ s.leaseMode ∧ !s.leaseValid then
      let s := (s.post F.TWN_EVENT_EVENTS 7).set F.TWN_LEASE_HOLDER 0
      (((s.toTwin .seeking).clapTo .ready).setTwn { s.twn with permit := false, handover := .idle }).holdOffCheck
    else s)

/-! ### Handover (R325) -/

/-- The revert hold-off ends. -/
def execRevertHoldoffExpiry (s : State) : Host.Outcome State Fault Refusal :=
  .next (if s.twn.holdOff.any (fun t => decide (t ≤ s.nowNs)) ∧ s.twinRole = .preferred ∧ s.twinIn .standby ∧ s.synced ∧ s.twinUp then
      (s.setTwn { s.twn with holdOff := none }).twinSend (.role .req) true
    else s)

/-- Every dispatched frame of a twin channel has been committed. -/
def State.twinDrained (s : State) : Bool := s.pool.slots.all (fun t => t.dropped || !s.twinFrame t.frame)

/-- NEXT_SEQ of every stream. -/
def State.streamSeqs (s : State) : List (Nat × Nat) :=
  match s.twin? with
  | some t => t.streams.map (fun x => (x.id, s.get (F.TWN_STR_SEQ_NEXT_SEQ (s.streamIndex x.id))))
  | none => []

/-- The HANDING twin has stopped and drained: its output is READY and it sends ROLE GRANT. -/
def execHandoverGrant (s : State) : Host.Outcome State Fault Refusal :=
  .next (if s.handStopped ∧ s.twn.handover = .draining ∧ s.twinDrained then
      ((s.clapTo .ready).setTwn { (s.clapTo .ready).twn with handover := .granted }).twinSend (.role (.grant s.streamSeqs)) true
    else s)

/-! ### Commands (R323) -/

/-- A TWN command: an absent unit takes none, a VF's is ignored, and one that comes while YIELD runs is BUSY. -/
def State.twnCommand (s : State) (who op : Nat) (conflict : Bool) (f : State → State) : State :=
  if !hasTwin s.fus.variant then s
  else if isVf who then s.ignored who F.TWN_STATUS_WRITE_IGNORED
  else match firstStatus [(conflict, .stateConflict), (decide (s.get F.TWN_CMD_RESULT_RUNNING = 1), .busy)] with
    | .ok => f s
    | st => s.completeTwn op st

/-- YIELD: it completes when the handover does. -/
def execYield (who : Nat) (s : State) : Host.Outcome State Fault Refusal :=
  .next (s.twnCommand who 1 (!s.twinIn .active || !s.peerStandby || !s.twinUp) (fun s => (s.set F.TWN_CMD_RESULT_RUNNING 1).handing))

/-- This twin sees an unexpired lease of the peer (R321). -/
def State.peerLease (s : State) : Bool := decide (s.nowNs < s.twn.peerLeaseEnd)

/-- TAKE. -/
def execTake (who : Nat) (s : State) : Host.Outcome State Fault Refusal :=
  .next (s.twnCommand who 2 (!s.twinOn || !s.leaseMode || s.peerLease) (fun s =>
    let was := s.twinState
    let s := (s.claim (s.epoch + 1)).becomeActive true
    let s := match was with
      | .standby => s.advanceBlocks.seqsTaken
      | .active => s
      | .handing => s
      | _ => s.seqsFresh
    s.completeTwn 2 .ok))

/-- TEST at both twins, by the flag of a LEASE RENEW. -/
def State.testTo (s : State) (op v : Nat) : State :=
  let was := s
  let s := s.set F.TWN_STATUS_TEST v
  let s := if s.twinUp then
      s.twinSend (.lease .renew s.epoch s.holderNode (s.get F.TWN_CFG_LEASE_MS) (v = 1)) true
    else s
  (s.holdOffCheck.completeTwn op .ok).collision was

def execTestEnter (who : Nat) (s : State) : Host.Outcome State Fault Refusal :=
  .next (s.twnCommand who 3 false (fun s => s.testTo 3 1))

def execTestExit (who : Nat) (s : State) : Host.Outcome State Fault Refusal :=
  .next (s.twnCommand who 4 false (fun s => s.testTo 4 0))

end Sys2Proof.Machine
end

