-- ==== Sys2Proof/Machine/Clock.lean ====
section
/-! DEFINITION. What follows the time base in other units: the per-second latches (R99, R427), Roll dumps (R428 to R432) and
STEP (R274, R279, R285). -/

namespace Sys2Proof.Machine
open Sys2Proof

/-! ### Per-second latches (R99, R427) -/

/-- The counters with PER_SEC set are latched and restart at 0. -/
def State.perSecLatch (s : State) : State :=
  let ns := (List.range 512).filter (fun n => s.get (F.CNT_PROG_SEL_PER_SEC n) = 1)
  let c := s.cnt
  let lat := ns.foldl (fun t n => NTab.set t 0 n (Tab.get c.prog 0 n)) c.perSec
  let prog := c.prog.filter (fun p => decide (p.1 ∉ ns))
  State.set { s with cnt := { c with perSec := lat, prog := prog } } F.CNT_SEC_STAMP_SEC (s.nowSec % 2 ^ 32)

/-- A running counter of 32 bits as latched. -/
def latched32 (n : Nat) : Nat := min n (2 ^ 32 - 1)

/-- The defects of an instance that are present now, as bits of FLX_GRP_EVENT; `rpf` is the RPF that it receives. -/
def FlexInst.present (x : FlexInst) (rpf : Nat) : Nat :=
  bit x.gidBad * 2 ^ 8 + bit x.instBad * 2 ^ 9 + bit x.lof * 2 ^ 10 + bit x.lomf * 2 ^ 11 + rpf % 2 * 2 ^ 12

/-- The running counters of an instance latched and cleared. -/
def State.instLatch (s : State) (i : Nat) : State :=
  let x := s.inst i
  (s.setInst i { x with crcErr := 0, missRun := 0, falseRun := 0, defects := x.present (s.get (F.FLX_INST_STATUS_RPF_RX i)) }).sets
    [(F.FLX_INST_SEC_CRC_OH_CRC_ERR i, latched32 x.crcErr), (F.FLX_INST_SEC_MISS_MARKER_MISS i, latched32 x.missRun),
      (F.FLX_INST_SEC_FALSE_FALSE_CANDIDATES i, latched32 x.falseRun), (F.FLX_INST_SEC_DEFECT_DEFECTS i, x.defects % 2 ^ 13)]

/-- A 64-bit block count as latched in two registers. -/
def latched64 (n : Nat) : Nat := min n (2 ^ 64 - 1)

/-- The counters of a FlexE client latched and cleared (R99): the blocks of its frames, and a free number of the idle blocks between
them, of the error blocks outside frames and of the idles inserted and deleted, which no command brings (assumption 31). -/
def State.clientLatch (s : State) (ch : Nat) : State :=
  let e := ch - 64
  let x := s.cli ch
  let idle := fun i => Config.random (s.free + i)
  let rx := latched64 (x.rx + idle 0)
  let tx := latched64 (x.tx + idle 1)
  State.sets { s.setCli ch {} with free := s.free + 5 }
    [(F.FLX_CLI_SEC_RX_LO_RX_BLOCKS e, rx % 2 ^ 32), (F.FLX_CLI_SEC_RX_HI_RX_BLOCKS e, rx / 2 ^ 32),
      (F.FLX_CLI_SEC_ERR_RX_ERR_BLOCKS e, latched32 (x.err + idle 2)), (F.FLX_CLI_SEC_INS_IDLE_INS e, latched32 (idle 3)),
      (F.FLX_CLI_SEC_DEL_IDLE_DEL e, latched32 (idle 4)), (F.FLX_CLI_SEC_TX_LO_TX_BLOCKS e, tx % 2 ^ 32),
      (F.FLX_CLI_SEC_TX_HI_TX_BLOCKS e, tx / 2 ^ 32)]

/-- The latches of the FlexE shim, and the seconds value to which they belong. -/
def State.flexLatch (s : State) : State :=
  let s := match s.pel.active with
    | some g =>
      let s := (imgGroups g).foldl (fun s gr => (groupInsts gr).foldl State.instLatch s) s
      (flexChannels g).foldl State.clientLatch s
    | none => s
  s.set F.FLX_SEC_STAMP_SEC (s.nowSec % 2 ^ 32)


def State.secondsLatch (s : State) : State := s.perSecLatch.flexLatch

/-- SECONDS_ROLLOVER: one latch per change of the seconds field. -/
def execSecondsRollover (s : State) : Host.Outcome State Fault Refusal :=
  .next (if s.nowSec % 2 ^ 32 ≠ s.get F.CNT_SEC_STAMP_SEC then s.secondsLatch else s)

/-! ### Roll dumps (R428 to R432) -/

/-- ROLL_LATCH. -/
def State.rollLatch (s : State) : State :=
  let c := s.cnt
  let c := { c with rollSeq := c.rollSeq + 1, rollMs := s.rollPoint }
  if c.roll.isSome then
    State.post { s with cnt := { c with rollSkipped := c.rollSkipped + 1 } } F.CNT_EVENT_EVENTS 1
  else
    { s with cnt := { c with
      rollSkipped := 0
      roll := some { seq := c.rollSeq, sec := s.nowSec, ns := s.nowSubNs, timeValid := s.timeValid, skipped := c.rollSkipped
                     fixed := c.fixed.filter (fun p => s.counterPresent p.1), prog := c.prog, perSec := c.perSec } } }

def execRollLatch (s : State) : Host.Outcome State Fault Refusal :=
  .next (if s.get F.CNT_ROLL_CFG_EN = 1 ∧ s.rollPoint ≠ s.cnt.rollMs then s.rollLatch else s)

/-- The bytes of a dump's regions. -/
def State.rollBody (s : State) (r : RollLatch) (mask : Nat) : Bytes :=
  (rollRanges mask (s.get F.CNT_ROLL_LIMIT_SC_BLOCKS)).flatMap (fun g =>
    (List.range g.2).flatMap (fun i =>
      let off := g.1 + 8 * i
      leBytes 8 (if off < 0x2000 then s.progWindow r.prog r.perSec off else Tab.get r.fixed 0 off)))

/-- The header of a dump with its CRC field (R429). -/
def State.rollHeader (s : State) (r : RollLatch) (mask len crc : Nat) : Bytes :=
  [0x52, 0x4F, 0x4C, 0x4C] ++ leBytes 4 len ++ leBytes 8 r.seq ++ leBytes 6 r.sec ++ leBytes 2 0 ++ leBytes 4 r.ns ++
    leBytes 1 mask ++ leBytes 1 (bit r.timeValid) ++ leBytes 2 (s.get F.CNT_ROLL_LIMIT_SC_BLOCKS) ++ leBytes 4 r.skipped ++
    leBytes 4 crc ++ leBytes 24 0

/-- A dump (R429). -/
def State.rollDump (s : State) (r : RollLatch) (mask : Nat) : Bytes :=
  let rest := s.rollBody r mask ++ leBytes 8 r.seq
  let len := 64 + rest.length
  s.rollHeader r mask len (crc32c (s.rollHeader r mask len 0 ++ rest)) ++ rest

/-- The ROLL records of a dump: fragments of 16,352 bytes where it is longer (R358, R432). The first argument bounds them. -/
def rollRecs : Nat → Nat → Bytes → List JRec
  | 0, _, _ => []
  | fuel + 1, n, bs =>
    let last := decide (bs.length ≤ 16352)
    { newRec .roll (bs.take 16352) with frag := decide (n ≠ 0) || !last, last := last && decide (n ≠ 0), fragNo := n } ::
      (if last then [] else rollRecs fuel (n + 1) (bs.drop 16352))

/-- The host copy of a dump and its write-back (R431). -/
def State.rollToHost (s : State) (r : RollLatch) : State :=
  if s.get F.CNT_ROLL_CFG_HOST_EN = 1 then
    let base := s.get F.CNT_ROLL_BASE_LO_ADDR + s.get F.CNT_ROLL_BASE_HI_ADDR * 2 ^ 32
    let place := r.seq % 2 ^ s.get F.CNT_ROLL_BUF_LOG2_COUNT * (s.get F.CNT_ROLL_BUF_STRIDE_MIB * 1048576)
    (s.emit (.dma (base + place) (s.rollDump r (s.get F.CNT_ROLL_MASK_HOST)))).emit
      (.dma (s.get F.CNT_ROLL_WB_LO_ADDR + s.get F.CNT_ROLL_WB_HI_ADDR * 2 ^ 32) (leBytes 8 r.seq))
  else s

/-- Every ROLL_EVERY-th dump is offered to the journal (R369, R432). -/
def State.rollToJournal (s : State) (r : RollLatch) : State :=
  if s.get F.CNT_ROLL_CFG_JNL_EN = 1 ∧ hasTwin s.fus.variant then
    let n := s.cnt.rollsSinceJournal + 1
    let bs := s.rollDump r (s.get F.CNT_ROLL_MASK_JMASK)
    let rs := rollRecs (bs.length / 16352 + 1) 0 bs
    let s := s.noteTally { at' := s.nowNs, roll := (rs.map JRec.size).sum }
    if n < s.get F.JNL_PLAN_MISC_ROLL_EVERY then { s with cnt := { s.cnt with rollsSinceJournal := n } }
    else
      rs.foldl State.jnlOffer { s with cnt := { s.cnt with rollsSinceJournal := 0 } }
  else s

/-- ROLL_DUMP_WRITTEN. -/
def execRollDumpWritten (s : State) : Host.Outcome State Fault Refusal :=
  .next (match s.cnt.roll with
    | some r =>
      let s := (s.rollToHost r).rollToJournal r
      let s : State := { s with cnt := { s.cnt with roll := none } }
      (s.sets [(F.CNT_ROLL_SEQ_LO_SEQ, r.seq % 2 ^ 32), (F.CNT_ROLL_SEQ_HI_SEQ, r.seq / 2 ^ 32)]).post F.CNT_EVENT_EVENTS 0
    | none => s)

/-! ### STEP (R285) -/

/-- An instant moved by an offset. -/
def moved (o : Int) (t : Nat) : Nat := ((t : Int) + o).toNat

/-- The instants of the time unit from which widths and spacings run move with the time base: the falls of PPS_OUT and of
the triggers (R290, R303) and the last captured edges (R302). -/
def State.moveTimers (s : State) (o : Int) : State :=
  let up := fun (t : Nat) => if t = 0 then 0 else moved o t
  { s with tim := { s.tim with
    ppsUntil := up s.tim.ppsUntil
    trig := NTab.update s.tim.trig {} (fun _ g => { g with highUntil := up g.highUntil })
    capLast := s.tim.capLast.map (fun p => (p.1, moved (o / 2 ^ 30) p.2)) } }

/-- The stored instants from which durations run, in ns, move with the time base, so that no duration changes. -/
def State.moveClocks (s : State) (o : Int) : State :=
  { s with
    twn := { s.twn with
      unacked := s.twn.unacked.map (fun u => { u with firstAt := moved o u.firstAt, sentAt := moved o u.sentAt })
      leaseEnd := moved o s.twn.leaseEnd, peerLeaseEnd := moved o s.twn.peerLeaseEnd
      driveSince := moved o s.twn.driveSince, inDrive := s.twn.inDrive.map (moved o), holdOff := s.twn.holdOff.map (moved o) }
    tbl := { s.tbl with lease := NTab.update s.tbl.lease (0, 0) (fun _ p => (p.1, moved o p.2)) }
    hif := { s.hif with ring := NTab.update s.hif.ring {} (fun _ r => { r with irqAt := r.irqAt.map (moved o) }) }
    key := { s.key with
      challenge := s.key.challenge.map (fun c => (c.1, moved o c.2))
      hyb := NTab.update s.key.hyb none (fun _ h => h.map (fun h => { h with expiry := moved o h.expiry })) }
    jnl := { s.jnl with
      bucketAt := moved o s.jnl.bucketAt, oldestUnflushed := s.jnl.oldestUnflushed.map (moved o)
      reads := s.jnl.reads.map (fun p => (moved o p.1, p.2)), dataFrom := moved o s.jnl.dataFrom, planAt := moved o s.jnl.planAt
      tally := s.jnl.tally.map (fun t => { t with at' := moved o t.at' }) }
    tab := { s.tab with creditAt := moved o s.tab.creditAt }
    tmp := { s.tmp with loopAt := moved o s.tmp.loopAt }
    pwr := { s.pwr with
      wdogLast := s.pwr.wdogLast.map (moved o), wdogFrom := moved o s.pwr.wdogFrom, planAt := moved o s.pwr.planAt
      raise' := s.pwr.raise'.map (fun p => (p.1, moved o p.2)) } }

/-- The departures already fixed and the horizons move with the time base, and so do the instants from which waits are
measured; `o` in quarter ns. -/
def State.moveFrames (s : State) (o : Int) : State :=
  let f' := fun (f : Frame) => { f with
    td := if f.td = 0 then 0 else moved o f.td, before := moved (o * fine) f.before, queuedAt := moved o f.queuedAt }
  { s with
    sch := { s.sch with
      horizon := NTab.update s.sch.horizon 0 (fun _ t => moved (o * fine) t)
      wire := s.sch.wire.map (fun w => { w with fin := moved o w.fin }) }
    buf := { s.buf with queues := s.buf.queues.map (fun p => (p.1, p.2.map f')) }
    pool := { s.pool with slots := s.pool.slots.map (fun t => { t with frame := f' t.frame, at' := moved o t.at' }) } }

/-- Every frame held for its launch time and not DUE is compared again (R279). -/
def State.launchRecheck (s : State) : State :=
  let bad := fun (f : Frame) => !f.due && f.launch.any s.launchFar
  let gone := s.queuedFrames.filter bad
  let s := s.queuesWithout bad
  gone.foldl (fun s f => ((s.qCount f.queue .launchStep).quietDrop f 0x42).pauseSync f.inCh) s

/-- The frames in transmission: those whose first chunk is committed, and those fully committed whose end is still to come. -/
def State.inTransmission (s : State) : List WireFrame :=
  (s.pool.slots.filter (fun t => decide (0 < t.committed))).map (fun t => ⟨t.ch, t.frame.cls, s.wireEnd t⟩) ++
    s.sch.wire.filter (fun w => decide (s.nowQns < w.fin))

/-- A frame in transmission runs past a close that the step has brought forward (R274). -/
def State.overruns (s : State) (w : WireFrame) : Bool :=
  s.gated w.ch &&
    (!s.gateOpen w.ch w.cls s.nowNs || (match s.gateClose w.ch w.cls s.nowNs with
      | some c => decide (4 * c < w.fin)
      | none => false))

/-- The overruns counted, once per frame. -/
def State.gateOverruns (s : State) : State :=
  (s.inTransmission.filter s.overruns).foldl (fun s w => (s.chCount w.ch .gateStepOverrun).post F.SCH_EVENT_EVENTS 3) s

/-- The one-shot events that a step has made due fire in its cycle: the single edges, the rolls and the timed Strike (R26). -/
def State.oneShots (s : State) : State := s.singleEdges.rollsDue.timedStrike

/-- What a step by `o` does to the units that follow the time base; `was` is the time before it. -/
def State.stepTaken (s : State) (was : Nat) (o : Int) : State :=
  let s := (((s.moveTimers o).moveClocks (o / 2 ^ 32)).moveFrames (o / 2 ^ 30)).timeOutputsAfterStep
  let s := s.gateOverruns.launchRecheck.oneShots
  let s : State := if s.tim.now < was then
      { s with cnt := { s.cnt with rollMs := s.rollPoint } }.setTab { s.tab with timeSent := min s.tab.timeSent s.tenths } else s
  let s := if was / second = s.nowSec then s else s.secondsLatch
  s.post F.TIM_EVENT_EVENTS 0

/-- STEP, at the tick that follows: `pending` says that an earlier STEP still waits for that tick (R286). -/
def State.stepCmd (s : State) (who : Nat) (pending : Bool) : State :=
  if isVf who then s.ignored who F.TIM_STATUS_WRITE_IGNORED
  else match s.stepStatus pending with
  | .ok =>
    let was := s.tim.now
    let o := s.stepOffset
    let adv := if s.pwr.state = .hibernate then 0 else s.tim.inc
    let s := s.tick
    let s := (s.set F.TIM_STATUS_VALID 1).completeTim 1 .ok
    if o = 0 then s
    else (State.stepTaken { s with tim := { s.tim with now := wrapTime (moved (o + adv) was) } } was o).clkStep s
  | st => s.completeTim 1 st

def execStep (who : Nat) (pending : Bool) (s : State) : Host.Outcome State Fault Refusal := .next (s.stepCmd who pending)

end Sys2Proof.Machine
end

