-- ==== Sys2Proof/Machine/Power.lean ====
section
/-! DEFINITION. Power states, sequences, resets, boot, the watchdog, debug and the fuses (R390, R400 to R413, R448 to R450). -/

namespace Sys2Proof.Machine
open Sys2Proof

/-! ### Sequences (R401 to R403) -/

/-- A number put in its place in an ascending list. -/
def insertAsc (n : Nat) : List Nat → List Nat
  | [] => [n]
  | a :: r => if n < a then n :: a :: r else if n = a then a :: r else a :: insertAsc n r

/-- Everything staged in the journal is programmed, as the entry of HIBERNATE waits for (R363). -/
def State.jnlFlushAll (s : State) : State :=
  if s.jnlReady then (s.jnlFlushArea true).jnlFlushArea false else s

/-- One domain switched. The journal mounts when its domain comes on, and is flushed before it goes off. -/
def State.switched (s : State) (close : Bool) (d : Nat) : State :=
  let s := if d = 52 ∧ !close then s.jnlFlushAll else s
  let s := s.setPwr { s.pwr with on := if close then insertAsc d s.pwr.on else s.pwr.on.filter (· ≠ d) }
  if d = 52 then s.set F.JNL_STATUS_STATE (bit close) else s

/-- The running lists reload from the Active bank (R273). -/
def State.gatesReload (s : State) : State :=
  match s.pel.active with
  | some g => (imgChannels g).foldl (fun s ch => State.setGate s ch
      { running := none, pending := (gateListOf g ch).map some, since := s.nowNs }) s
  | none => s

/-- The data plane runs again: after a start or a reset. -/
def State.planeUp (s : State) : State :=
  let s := s.internalQueuesUp.twinDpUp
  let s := ((s.pel.active.map imgGroups).getD []).foldl State.flexStart s
  s.gatesReload

/-- The data plane stops for STANDBY or HIBERNATE: ports down at once, queued frames discarded, dispatched frames left
to complete (R403). -/
def State.planeStops (s : State) : State :=
  let s := s.channels.foldl (fun s ch => s.linkFalls ch false .kept) s
  (s.bufferDown.flexReset.twinDpReset).tabDown

/-- A state is reached (R419). -/
def State.arrive (s : State) (dest : PowerState) : State :=
  (s.setPwr { s.pwr with state := dest, goal := none }).post F.PWR_EVENT_EVENTS 0

/-- A command that waited for the end of a sequence completes. -/
def State.endPwr (s : State) (op : Nat) : State := if op ∈ s.pwr.running then s.completePwr op .ok else s

/-- The commands of a reset that ends complete in the order in which they came. -/
def State.endPwrs (s : State) (ops : List Nat) : State :=
  (s.pwr.running.reverse.filter (· ∈ ops)).foldl State.endPwr s

/-- The data-plane start that the first Strike asks for once the device has booted. -/
def State.startIfStruck (s : State) : State :=
  if s.pel.struck ∧ s.pwr.state = .startUp ∧ s.pwr.goal.isNone ∧ !s.pwr.wakeReset then
    s.setPwr { s.pwr with goal := some (.start .active) }
  else s

/-- The end of slot 12 (R385, R390, R392): the pairs that the reset reloaded agree, deferred bits, sources still asserted,
and runs that waited. A reset that one of them begins ends the rest. -/
def State.bootSlotsEnd (s : State) : State :=
  let s := s.pairAgrees (fun m => decide (m ≤ 0x80000008))
  let s := ((s.setPwr { s.pwr with goal := none }).emit (.extReset false)).deferredRun
  let s : State := if s.fus.unread = [] ∨ s.pwr.goal.isSome ∨ s.tmp.held then s else s.alarm [(7, 0)]
  if s.pwr.goal.isSome ∨ s.tmp.held then s
  else
    let s := s.stillAsserted
    let s : State := if s.pwr.goal.isSome ∨ s.pwr.wakeReset then s else s.pended
    s.startIfStruck

/-- HIBERNATE is reached: the time is saved and the rails go; a wake event kept from the entry ends it at once. -/
def State.asleep (s : State) : State :=
  let s := (s.endPwr 4).setPwr { s.pwr with saved := s.tim.now, running := [] }
  let s := ((s.arrive .hibernate).emit (.mainEnable false)).emit (.pcieUp false)
  if s.pwr.wakes = 0 then s else s.wakeReset s.pwr.wakes

/-- A sequence ends. -/
def State.seqEnd (s : State) : State :=
  match s.pwr.goal with
  | some .boot => s.bootSlotsEnd
  | some (.start dest) => (((s.arrive dest).planeUp).endPwr (if dest = .doze then 2 else 1)).ungate
  | some (.stop .hibernate) => s.asleep
  | some (.stop dest) => ((s.arrive dest).endPwr 3).pended
  | some .powerSection => s.setPwr { s.pwr with goal := none }
  | none => s

/-- A slot of a sequence. A domain that holds frames is drained first; a device held in reset switches nothing; a
data-plane start waits for its PLL. -/
def State.slotStep (s : State) : State :=
  if s.tmp.held ∨ s.tmp.onBattery then s
  else
    match s.pwr.seq with
    | (close, d) :: rest =>
      if !close ∧ d ∈ dataSlots ∧ !s.pool.slots.isEmpty then s
      else
        let s := (s.setPwr { s.pwr with seq := rest }).switched close d
        if rest = [] then s.seqEnd else s
    | [] =>
      match s.pwr.goal with
      | some (.start _) => s
      | _ => s.seqEnd

def execPowerSequenceSlot (s : State) : Host.Outcome State Fault Refusal := .next s.slotStep

/-- The datapath PLL is locked and slots 13 to 55 begin; the POWER section's domains stay off (R401). -/
def execDataPlaneStart (s : State) : Host.Outcome State Fault Refusal :=
  let off := (s.pel.active.map imgPowerOff).getD []
  .next (match s.pwr.goal, s.pwr.seq with
    | some (.start _), [] =>
      s.setPwr { s.pwr with
        seq := closings s.fus.variant (dataSlots.filter (fun d => decide (d ∉ off))) ++
          ((bootSlots.reverse.filter (fun d => decide (d ∈ off) && decide (d ∈ s.pwr.on))).map (fun d => (false, d))) }
    | _, _ => s)

/-! ### State commands (R403) -/

/-- ACTIVE and DOZE: `op` 1 or 2. -/
def State.toPlane (s : State) (who op : Nat) (dest : PowerState) : State :=
  s.pwrCommand who op [(decide (s.pwr.state = .startUp ∨ s.pwr.state = .hibernate), .stateConflict), (s.seqRunning, .busy)]
    (fun s =>
      if s.pwr.state = dest then s.completePwr op .ok
      else if s.pwr.state = .standby then (s.setPwr { s.pwr with goal := some (.start dest) }).runPwr op
      else ((s.arrive dest).ungate).completePwr op .ok)

def execActive (who : Nat) (s : State) : Host.Outcome State Fault Refusal := .next (s.toPlane who 1 .active)

def execDoze (who : Nat) (s : State) : Host.Outcome State Fault Refusal := .next (s.toPlane who 2 .doze)

/-- The switch-offs of some slots, in reverse slot order. -/
def State.openings (s : State) (slots : List Nat) : List (Bool × Nat) :=
  ((slots.filter (fun d => decide (d ∈ s.pwr.on))).reverse).map (fun d => (false, d))

/-- STANDBY and HIBERNATE: `op` 3 or 4. -/
def State.toRest (s : State) (who op : Nat) (dest : PowerState) : State :=
  s.pwrCommand who op
    [(decide (s.pwr.state = .startUp ∨ s.pwr.state = .hibernate) || s.twinIn .active, .stateConflict), (s.seqRunning, .busy)]
    (fun s =>
      if s.pwr.state = dest then s.completePwr op .ok
      else
        let seq := (if s.planeOn then s.openings dataSlots else []) ++ (if dest = .hibernate then s.openings bootSlots else [])
        let s : State := if s.planeOn then s.planeStops else s
        (s.setPwr { s.pwr with goal := some (.stop dest), seq := seq, wakes := 0 }).runPwr op)

def execStandby (who : Nat) (s : State) : Host.Outcome State Fault Refusal := .next (s.toRest who 3 .standby)

def execHibernate (who : Nat) (s : State) : Host.Outcome State Fault Refusal := .next (s.toRest who 4 .hibernate)

/-- A wake event: bit 0 PWR_WAKE_N, bit 1 the wake timer, which SECONDS at 0 stops (R404, R419). -/
def execWake (cause : Nat) (s : State) : Host.Outcome State Fault Refusal :=
  let causes := if s.get F.PWR_WAKE_TIMER_SECONDS = 0 then cause % 2 else cause % 4
  .next (if causes = 0 then s else s.wakeEvent causes)

/-! ### Resets (R30, R407, R408) -/

/-- DP_RESET; one that finds a reset of either plane running merges into it, since the control plane's is the wider (R408). -/
def execDpReset (who : Nat) (s : State) : Host.Outcome State Fault Refusal :=
  .next (s.pwrCommand who 5 [] (fun s => if s.pwr.dpReset ∨ s.pwr.cpReset then s.runPwr 5 else (s.runPwr 5).dataPlaneReset))

/-- CP_RESET; a data-plane reset that runs merges into it, and its tests go on. -/
def execCpReset (who : Nat) (s : State) : Host.Outcome State Fault Refusal :=
  .next (s.pwrCommand who 6 [] (fun s => if s.pwr.cpReset then s.runPwr 6 else (s.runPwr 6).controlPlaneReset))

/-- DEVICE_RESET: no completion. -/
def execDeviceReset (who : Nat) (s : State) : Host.Outcome State Fault Refusal :=
  .next (s.pwrCommand who 7 [] (fun s => s.deviceReset 3))

/-- The data plane leaves reset: what waited for it takes place, an overdue Strike among it. A DP_RESET that merged into a reset of
the control plane completes with that one. -/
def execDataPlaneResetEnd (s : State) : Host.Outcome State Fault Refusal :=
  .next (if !s.pwr.dpReset then s
    else
      let s := s.setPwr { s.pwr with dpReset := false }
      let s : State := if s.planeOn then s.planeUp else s
      let s : State := (if s.pwr.cpReset then s else s.endPwr 5).pended
      if s.strikeDue then s.strike 3 else s)

/-- The control plane leaves reset. -/
def execControlPlaneResetEnd (s : State) : Host.Outcome State Fault Refusal :=
  .next (if !s.pwr.cpReset then s
    else State.pended (State.endPwrs (s.setPwr { s.pwr with cpReset := false }) (if s.pwr.dpReset then [6] else [5, 6])))

/-! ### The watchdog (R409) -/

/-- A write of PWR_WDOG with KICK. -/
def execKick (who timeout : Nat) (s : State) : Host.Outcome State Fault Refusal :=
  .next (if isVf who then s.ignored who F.PWR_STATUS_WRITE_IGNORED
    else State.set (s.setPwr { s.pwr with wdogFrom := s.nowNs }) F.PWR_WDOG_TIMEOUT_MS (timeout % 2 ^ 16))

/-- The watchdog expires: a control-plane reset, or a device reset where it expired within the last 10 s. -/
def execWdog (s : State) : Host.Outcome State Fault Refusal :=
  let t := s.get F.PWR_WDOG_TIMEOUT_MS
  .next (if t = 0 ∨ s.nowNs < s.pwr.wdogFrom + t * 1000000 then s
    else if s.pwr.wdogLast.any (fun l => decide (s.nowNs ≤ l + 10000000000)) then s.deviceReset 4
    else
      let s := s.setPwr { s.pwr with wdogFrom := s.nowNs, wdogLast := some s.nowNs }
      State.post (if s.pwr.cpReset then s else s.controlPlaneReset) F.PWR_EVENT_EVENTS 1)

/-! ### Boot (R236, R237, R410 to R412) -/

/-- The firmware floor: the thermometer of fuse word 0x64. -/
def State.fwFloor (s : State) : Nat := ((List.range 32).filter (fun i => (s.fuse 0x64).testBit i)).length

/-- A BOOT or FW image is denied: its signer slot or a signature does not pass, or its SVN lies below the floor (R411). -/
def State.fwDenied (s : State) (f : FwImage) : Bool :=
  !s.signerOk f.signerSlot f.sig || !sigsOk f.sig (fwDigest f) || decide (f.svn < s.fwFloor)

/-- The header of a BOOT or FW image is not as R411 gives it, or its lengths do not fit its area (R410). -/
def fwBad (f : FwImage) (area : Nat) : Bool :=
  decide (f.magic ≠ 0x47465731 ∨ f.format ≠ 1 ∨ 32 < f.svn ∨ f.bytes.length ≠ 64 + f.bodyLen ∨ f.imageLen ≠ f.bytes.length + 7424 ∨
    area < f.imageLen)

/-- The checks of BOOT and FW of a slot, in the order of R19. -/
def State.slotChecks (s : State) (b : BootSlot) : List (Bool × Status) :=
  [(s.fwDenied b.boot || s.fwDenied b.fw, .denied), (fwBad b.boot (256 * 1024) || fwBad b.fw (1536 * 1024), .badArgument)]

/-- BOOT and FW of a slot, checked together. -/
def State.slotStatus (s : State) (b : BootSlot) : Status := firstStatus (s.slotChecks b)

/-- The root of the reset period, and the identity keys under it. A PUF that does not check raises FUSE_INTEGRITY. -/
def State.rootUp (s : State) (puf : Option Key) : State :=
  match puf with
  | some k =>
    if s.key.rootBarred then s else
    let root := if s.testRoot then kdf Config.testConstant "GRL-TEST" s.serialBytes 256
      else kdf k "GRL-ROOT" (beBytes 32 Config.fuseSeed.toNat) 256
    State.set { s with key := { s.key with
      root := some (toKey root)
      batKey := some (toKey (kdf (toKey root) "BATSTORE" s.serialBytes 256)) } } F.KEY_STATUS_IDENTITY_READY 1
  | none => s.alarm [(7, 0)]

/-- The firmware of a slot runs; `result` is BOOT_RESULT. -/
def State.firmware (s : State) (b : BootSlot) (result : Nat) : State :=
  let s := s.setPwr { s.pwr with
    booted := true, fwRunning := true, bootMeas := fwMeasurement b.boot, fwMeas := fwMeasurement b.fw, fwSvn := b.fw.svn }
  ((s.set F.PWR_STATUS_BOOT_RESULT result).emit (.coreLoad false)).emit (.coreLoad true)

/-- Boot firmware loads a Peal from the flash: LOAD with its whole course (R49, R55). -/
def State.loadPeal (s : State) (c : PealCopy) : State := (s.loadStart 0 8388608).verificationDone (imageOf c)

/-- The device is still in the boot that began: no response of R382 has reset it. -/
def State.booting (s : State) : Bool := s.pwr.fwRunning && s.shadowState ≠ 1 && !s.tmp.held

/-- Boot firmware brings the first Peal up (R55, R412): the first image that verifies is struck with ARM_NOW, and where neither
does, both results are reported to the host. -/
def State.bootPeal (s : State) (one two : PealCopy) : State :=
  if s.shadowState ≠ 0 ∨ s.pwr.cpReset then s
  else
    let a := s.loadPeal one
    if a.shadowState = 2 then a.armNow 0 false
    else if !a.booting then a
    else
      let b := a.loadPeal two
      if b.shadowState = 2 then b.armNow 0 false
      else if !b.booting then b
      else b.emit (.pealFailed (a.get F.PEL_RESULT_STATUS) (b.get F.PEL_RESULT_STATUS))

/-- The header of the boot flash names slot B (R410, R411): a header that fails its magic or its CRC names slot A, and for another
value of ACTIVE_SLOT than 0 and 1 the manual names none, and a free value decides (log entry 134). -/
def State.slotBFirst (s : State) (h : Bytes) : Bool :=
  if h.take 4 ≠ [0x47, 0x42, 0x4F, 0x54] ∨ h.length < 11 ∨ beNat ((h.drop 7).take 4) ≠ crc32c (h.take 7) then false
  else if (h.getD 4 0).toNat ≤ 1 then decide (h.getD 4 0 = 1)
  else decide (s.draw 1 = 1)

/-- Boot. BOOT and FW come from one slot; without a good slot the ROM waits for RECOVER. -/
def State.bootRun (s : State) (fl : BootFlash) : State :=
  let s := s.rootUp fl.pufKey
  if s.pwr.goal.isSome ∨ s.tmp.held then s
  else
    let b := s.slotBFirst fl.header
    let s := s.drew
    let one := if b then fl.slotB else fl.slotA
    let two := if b then fl.slotA else fl.slotB
    if s.slotStatus one = .ok then ((s.set F.PWR_STATUS_BOOT_SLOT (bit b)).firmware one 0).bootPeal one.peal two.peal
    else
      let s := s.post F.PWR_EVENT_EVENTS 7
      if s.slotStatus two = .ok then ((s.set F.PWR_STATUS_BOOT_SLOT (bit !b)).firmware two 1).bootPeal two.peal one.peal
      else (s.setPwr { s.pwr with peals := [one.peal, two.peal] }).set F.PWR_STATUS_BOOT_RESULT 3

/-- BOOT: once, after slot 12 of a reset. -/
def execBoot (flash : BootFlash) (s : State) : Host.Outcome State Fault Refusal :=
  .next (if s.pwr.state = .startUp ∧ s.pwr.goal.isNone ∧ !s.pwr.booted ∧ !s.tmp.held ∧ !s.tmp.onBattery ∧
      s.get F.PWR_STATUS_BOOT_RESULT ≠ 3 then s.bootRun flash
    else s)

/-- RECOVER (R412, R419): a good image runs and completes nothing; its firmware then loads a Peal of the boot flash (R55). -/
def execRecover (who : Nat) (img : BootSlot) (s : State) : Host.Outcome State Fault Refusal :=
  .next (s.pwrCommand who 9
    (s.slotChecks img ++ [(decide (s.pwr.booted ∨ s.get F.PWR_STATUS_BOOT_RESULT ≠ 3), .stateConflict)])
    (fun s =>
      let s := s.firmware img 2
      match s.pwr.peals with
      | [one, two] => s.bootPeal one two
      | _ => s))

/-! ### Debug and fuses (R413, R449) -/

/-- A debug token is written: AON keeps it for the next device reset, and DEBUG_ATTACH is raised while debug is locked. -/
def execDbgTokenWrite (who : Nat) (token : DebugToken) (s : State) : Host.Outcome State Fault Refusal :=
  .next (if s.tmp.onBattery ∨ 13 ≤ who then s
    else
      let s := s.setPwr { s.pwr with token := some token }
      if s.debugUnlocked then s else s.alarm [(8, 0)])

/-- A fuse word as the array holds it. -/
def State.fuseNow (s : State) (w : Nat) : Nat := Tab.get s.fus.words (Fuses.shipped w) w

/-- The bits of a word are a thermometer. -/
def isThermometer (n : Nat) : Bool := decide ((n + 1) &&& n = 0)

/-- The set bits of a 32-bit word. -/
def countOnes (n : Nat) : Nat := ((List.range 32).filter n.testBit).length

/-- A completion of BLOW (R448). -/
def State.completeFus (s : State) (op : Nat) (st : Status) : State :=
  s.sets [(F.FUS_CMD_RESULT_STATUS, st.code), (F.FUS_CMD_RESULT_OP, op)]

/-- The conditions on what a word would hold (R449). -/
def State.blowChecks (s : State) (w new : Nat) : List (Bool × Status) :=
  let slot := w / 24 * 24
  [(s.debugUnlocked, .denied),
    (decide (0x75 < w), .badArgument),
    (decide (w = 0x64) && !isThermometer new, .badArgument),
    (decide (w = 0x65 ∧ 160 < field new 1 7 + field new 8 7), .badArgument),
    (decide (w < 0x60 ∧ new ≠ s.fuseNow w) && (List.range 24).any (fun i => decide (s.fuse (slot + i) ≠ 0)), .stateConflict),
    (decide (w = 0x64 ∧ s.pwr.fwSvn < countOnes new), .stateConflict)]

/-- A fuse word blown: both its copies hold it (R450). -/
def State.blown (s : State) (w new : Nat) : State :=
  { s with fus := { s.fus with
      words := NTab.set s.fus.words (Fuses.shipped w) w new
      faults := s.fus.faults.filter (fun p => decide (p.1 ≠ w)) } }

/-- BLOW: bits already blown are skipped; the word governs from the next device reset (R449). -/
def State.blow (s : State) (who : Nat) : State :=
  let w := s.get F.FUS_PROG_WORD_WORD
  let new := s.fuseNow w ||| s.get F.FUS_PROG_BITS_BITS
  if isVf who then s.ignored who F.FUS_STATUS_WRITE_IGNORED
  else
    match firstStatus (s.blowChecks w new) with
    | .ok =>
      let changed := decide (new ≠ s.fuseNow w)
      let s := s.blown w new
      (if changed then s.set F.FUS_STATUS_PENDING 1 else s).completeFus 1 .ok
    | st => s.completeFus 1 st

def execBlow (who : Nat) (s : State) : Host.Outcome State Fault Refusal := .next (s.blow who)

/-! ### PCIe (R390) -/

/-- The PCIe link trains up; a deferred IRQ is posted at the first link-up after power-up. -/
def execPcieLinkUp (gen width : Nat) (s : State) : Host.Outcome State Fault Refusal :=
  .next (if s.pwr.state = .hibernate ∨ s.tmp.onBattery ∨ gen = 0 ∨ 5 < gen ∨ 2 < width then s
    else
      let s := (s.sets [(F.HIF_STATUS_LINK_GEN, gen), (F.HIF_STATUS_LINK_WIDTH, width)]).emit (.pcieUp true)
      if s.hif.linkSeen then s
      else State.deferredIrq { s with hif := { s.hif with linkSeen := true } })

end Sys2Proof.Machine
end

