-- ==== Sys2Proof/Machine/RegWrite.lean ====
section
/-! DEFINITION. Register accesses (R125, R329, R438 to R445): writes of 4 and 8 bytes, sub-word writes and accesses to
unmapped addresses. A register whose write is an operation of the table does that operation. -/

namespace Sys2Proof.Machine
open Sys2Proof

/-- A write to a register without an operation of its own: ignored whole, or stored (R440). -/
def State.plainWrite (s : State) (who : Nat) (p : Place) (v : Nat) : State :=
  if s.forbids who p v then s.ignored who (blockFlag p.row.block)
  else
    let w := wordTaken p v
    let w := if p.row.reg = .CNT_ROLL_CFG ∧ !hasTwin s.fus.variant then clearBits w 0x1000 else w
    let s := (s.storeWord p w).afterWrite s p
    if p.row.reg = .TOP_SCRATCH_SH then s.pairAgrees (fun m => decide (m = 0x24)) else s

/-! ### Operations that a write starts -/

/-- The completion of an OP that a block does not have. -/
def badOp : List (Bool × Status) := [(true, .badArgument)]

/-- PEL_CMD (R54). -/
def pelWrite (who op : Nat) (s : State) : Host.Outcome State Fault Refusal :=
  match op with
  | 1 => execLoad who s
  | 2 => execArmNow who false s
  | 3 => execArmAt who s
  | 4 => execDisarm who s
  | 5 => execClearShadow who s
  | 6 => execAdvanceFloor who s
  | op => .next (s.pelCommand who op badOp id)

/-- DRM_CMD (R209). -/
def drmWrite (who op e : Nat) (s : State) : Host.Outcome State Fault Refusal :=
  match op with
  | 1 => execFence who e s
  | 2 => execRestore who e s
  | op => .next (s.completeDrm op e (firstStatus [(decide (enginesPresent s.fus.variant ≤ e), .absent), (true, .badArgument)]))

/-- TBL_CMD (R126). -/
def tblWrite (who op : Nat) (s : State) : Host.Outcome State Fault Refusal :=
  match op with
  | 1 => execMacInsert who s
  | 2 => execMacDelete who s
  | 3 => execMacDump who s
  | 4 => execLpmAdd who s
  | 5 => execLpmDel who s
  | 6 => execLpmDump who s
  | op => .next (s.tblCommand who op badOp id)

/-- SAM_CMD (R219, R220). -/
def samWrite (who op : Nat) (s : State) : Host.Outcome State Fault Refusal :=
  match op with
  | 0x01 => execScCreate who s
  | 0x02 => execScModify who s
  | 0x03 => execScDelete who s
  | 0x04 => execScRead who s
  | 0x10 => execSaStage who s
  | 0x11 => execSaInstall who s
  | 0x12 => execSaActivate who s
  | 0x13 => execSaRetire who s
  | 0x14 => execSaDelete who s
  | 0x15 => execSaSetPn who s
  | 0x16 => execSaSetThreshold who s
  | 0x17 => execSaPin who s
  | 0x18 => execSaUnpin who s
  | 0x19 => execSaRead who s
  | 0x20 => execRollArm who s
  | 0x21 => execRollNow who s
  | 0x22 => execRollDisarm who s
  | op => .next (s.samStart who op (fun s => s.samUnlisted who op))

/-- KEY_CMD (R255); what DOMAIN_IMPORT, HYB_RESPOND and HYB_FINISH read is a free value. -/
def keyWrite (who op : Nat) (dma : Bytes) (s : State) : Host.Outcome State Fault Refusal :=
  match op with
  | 0x01 => execChallenge who s
  | 0x02 => execDomainImport who (Config.foundPackage s.free) s.drew
  | 0x03 => execGroupDerive who s
  | 0x04 => execCakDerive who s
  | 0x05 => execKeyImport who s
  | 0x06 => execKeyExport who s
  | 0x07 => execKeyInvalidate who s
  | 0x08 => execKeyRead who s
  | 0x09 => execMkaIcv who dma s
  | 0x10 => execHybStart who s
  | 0x11 => execHybRespond who (Config.foundMessage s.free) s.drew
  | 0x12 => execHybFinish who (Config.foundMessage s.free) s.drew
  | 0x13 => execHybCancel who s
  | 0x18 => execIdGet who s
  | 0x19 => execAttest who s
  | op => .next (s.keyCommand who op badOp id)

/-- JNL_CMD (R373); what READ cannot read, and what a plan takes for what nothing has counted, are free values. -/
def jnlWrite (who op : Nat) (s : State) : Host.Outcome State Fault Refusal :=
  match op with
  | 1 => execFormat who s
  | 2 => execRead who (Config.foundBad s.free) s.drew
  | 3 => execFlush who s
  | 4 => execSetLife who (Config.foundGaps s.free) s.drew
  | 5 => execPlanNow who (Config.foundGaps s.free) s.drew
  | op => .next (s.jnlCommand { who := who, op := op })

/-- TWN_CMD (R326). -/
def twnWrite (who op : Nat) (s : State) : Host.Outcome State Fault Refusal :=
  match op with
  | 1 => execYield who s
  | 2 => execTake who s
  | 3 => execTestEnter who s
  | 4 => execTestExit who s
  | op => .next (s.completeTwn op .badArgument)

/-- TMP_CMD (R398). -/
def tmpWrite (who op code : Nat) (s : State) : Host.Outcome State Fault Refusal :=
  match op with
  | 1 => execSoft who code s
  | 2 => execReleaseHold who s
  | op => .next (s.completeTmp op .badArgument)

/-- PWR_CMD with its KEY (R419); what AVS_PLAN measures and RECOVER reads is a free value. -/
def pwrWrite (who op key : Nat) (s : State) : Host.Outcome State Fault Refusal :=
  if key ≠ (if op = 5 ∨ op = 6 ∨ op = 7 then 0xD5 else 0) then .next (s.rejectPwr op .badArgument)
  else
    match op with
    | 1 => execActive who s
    | 2 => execDoze who s
    | 3 => execStandby who s
    | 4 => execHibernate who s
    | 5 => execDpReset who s
    | 6 => execCpReset who s
    | 7 => execDeviceReset who s
    | 8 => execAvsPlan who (Config.foundAvs s.free) s.drew
    | 9 => execRecover who (Config.foundSlot s.free) s.drew
    | op => .next (s.rejectPwr op .badArgument)

/-- FUS_CMD with its KEY (R448, R449). -/
def fusWrite (who op key : Nat) (s : State) : Host.Outcome State Fault Refusal :=
  if op = 1 ∧ key = 0xF5 then execBlow who s
  else .next (s.completeFus op (firstStatus [(decide (op = 1) && s.debugUnlocked, .denied), (true, .badArgument)]))

/-- FLX_GRP_CMD (R91, R100): CANCEL and RETRY act in different states, so a write with both is ignored. -/
def flxWrite (who g v : Nat) (s : State) : Host.Outcome State Fault Refusal :=
  match field v 0 2 with
  | 0 => .next s
  | 1 => execCancel who g s
  | 2 => execRetry who g s
  | _ => .next (s.flexIgnored who)

/-- SCH_CH_CFG: GATE_EN with its own effect (R275), the other fields stored. -/
def schChWrite (e v : Nat) (s : State) : State :=
  (s.sets [(F.SCH_CH_CFG_MODE e, field v 0 1), (F.SCH_CH_CFG_LEN_MODE e, field v 1 1),
    (F.SCH_CH_CFG_OVERHEAD e, field v 2 6)]).gateEn e (field v 8 1 = 1)

/-- A write of bit 0 that starts an action. -/
def onBit (v : Nat) (act : State → Host.Outcome State Fault Refusal) (s : State) : Host.Outcome State Fault Refusal :=
  if field v 0 1 = 1 then act s else .next s

/-- A write that reaches a register of its requester: the operation of the register, or the store of its value. Of the
two bits of TBL_LOCK_CTL and of TIM_TRIG_CTL, RELEASE and DISARM govern. -/
def regWrite (who : Nat) (p : Place) (v : Nat) (dma : Bytes) (s : State) : Host.Outcome State Fault Refusal :=
  let e := p.elem
  match p.row.reg with
  | .PEL_CMD => pelWrite who (field v 0 4) s
  | .FLX_GRP_CMD => flxWrite who e v s
  | .TBL_LOCK_CTL => if field v 0 1 = 1 then execRelease who e s else if field v 1 1 = 1 then execRenew who e s else .next s
  | .TBL_CMD => tblWrite who (field v 0 4) s
  | .SWC_SNR_SIZE => execSnareRingResize who (field v 0 5) s
  | .DRM_CMD => drmWrite who (field v 0 4) (field v 4 4) s
  | .SAM_CMD => samWrite who (field v 0 8) s
  | .KEY_CMD => keyWrite who (field v 0 8) dma s
  | .SCH_P_RATE => execProtShaperWrite who e false v s
  | .SCH_P_BURST => execProtShaperWrite who e true v s
  | .SCH_CH_CFG => .next (schChWrite e v s)
  | .TIM_INC_NS => execTimIncCommit who v s
  | .TIM_CMD => if field v 0 4 = 1 then execStep who false s else .next (s.completeTim (field v 0 4) .badArgument)
  | .TIM_TXTS_POP => onBit v (execTimTxtsPop who) s
  | .TIM_CAP_POP => onBit v (execTimCapPop who e) s
  | .TIM_TRIG_CTL =>
    if field v 1 1 = 1 then execTriggerDisarm who e s else if field v 0 1 = 1 then execArm who e s else .next s
  | .TWN_CMD => twnWrite who (field v 0 4) s
  | .HIF_RS_CTL => .next (s.ringCtl who e v)
  | .CHM_OUT_DATA => .next (if (s.box (outBox (e / 64))).full then s.fullWrite who (e / 64) else s.plainWrite who p v)
  | .CHM_OUT_SEND => .next (s.chmSend who e (field v 0 6) (field v 6 1 = 1) (field v 8 16))
  | .CHM_OUT_CTL => onBit v (execWithdraw who (e % 8)) s
  | .CHM_IN_POP => onBit v (execPop who (e % 8)) s
  | .CHM_EVENT => .next (s.chmClear e (field v 0 5))
  | .CHM_MASK => .next (State.chmRefreshAll (s.set (F.CHM_MASK_MASK e) (field v 0 5)))
  | .JNL_CMD => jnlWrite who (field v 0 4) s
  | .TMP_CMD => tmpWrite who (field v 0 4) (field v 8 8) s
  | .PWR_CMD => pwrWrite who (field v 0 4) (field v 16 8) s
  | .PWR_WDOG => if field v 31 1 = 1 then execKick who (field v 0 16) s else .next (s.plainWrite who p v)
  | .CNT_SAMPLE_POP => onBit v (execCntSamplePop who) s
  | .CNT_PROG_SEL => execCntProgSelWrite who e v s
  | .FUS_CMD => fusWrite who (field v 0 4) (field v 16 8) s
  | _ => .next (s.plainWrite who p v)

/-! ### Accesses -/

/-- BAR2 of a function (R328, R345) as the rows of register accesses name it: their offset `bar2 + x` is its byte `x`
(DESIGN CHOICE, log entry 93). -/
def bar2 : Nat := 2 ^ 32

/-- The bytes of BAR0 as a requester sees it (R328, R437). -/
def bar0Bytes (who : Nat) : Nat := if isVf who then 0x40000 else 0x2000000

/-- The bytes of a function's BAR2; a core has none. -/
def bar2Bytes (who : Nat) : Nat := if isVf who then 0x100000 else if who = pf then 0x1000000 else 0

/-- An access of `size` bytes lies in BAR2. -/
def inBar2 (who off size : Nat) : Bool := decide (bar2 ≤ off) && decide (off + size ≤ bar2 + bar2Bytes who)

/-- UNMAPPED is posted, and the access latched (R442, R446). -/
def State.postUnmapped (s : State) (who off : Nat) (write : Bool) : State :=
  (s.sets [(F.TOP_UNMAPPED_OFFSET, off % 2 ^ 25), (F.TOP_UNMAPPED_REQUESTER, who),
    (F.TOP_UNMAPPED_WRITE, bit write)]).post F.TOP_EVENT_EVENTS 0

/-- An access to an unmapped address (R329, R442): a read returns 0. -/
def State.unmappedAccess (s : State) (who off : Nat) (write : Bool) : State :=
  let s := s.postUnmapped who off write
  if write then s else s.emit (.read who 0)

/-- An address belongs to a unit that the part does not have: a register of it, or any place of an absent block (R9, R442). -/
def State.absentAt (s : State) (who off : Nat) : Bool :=
  match targetOf who (off / 4 * 4) with
  | .reg p => unitAbsent s.fus.variant p
  | .view _ => false
  | .unmapped => !isVf who && ((decide (off / 0x40000 = 3) && !hasFlexe s.fus.variant) ||
      (decide (off / 0x40000 = 13 ∨ off / 0x40000 = 17) && !hasTwin s.fus.variant))

/-- A register write that is ignored in the block of its register. A write to a channel, queue, group or client that the bank
does not have would create it, which sets the flag of PEL as well (R40; DEDUCED, log entry 94). -/
def State.ignoredWrite (s : State) (who : Nat) (p : Place) : State :=
  let s := s.ignored who (blockFlag p.row.block)
  if s.notPresent p ∧ !isVf who then s.set F.PEL_STATUS_WRITE_IGNORED 1 else s

/-- A 4-byte write at a multiple of 4, in the order of R442. -/
def wordWrite (who off v : Nat) (dma : Bytes) (s : State) : Host.Outcome State Fault Refusal :=
  match targetOf who off with
  | .unmapped => .next (if s.absentAt who off then s else s.unmappedAccess who off true)
  | .view (.table _) => .next (s.ignored who F.TOP_STATUS_WRITE_IGNORED)
  | .view _ => .next s
  | .reg p =>
    if unitAbsent s.fus.variant p then .next s
    else if s.pwr.cpReset ∧ p.row.block ∈ cpBlocks then .next s
    else if s.notOwn who p ∨ s.notPresent p ∨ (isVf who ∧ p.row.block = 12) then .next (s.ignoredWrite who p)
    else regWrite who p v dma s

/-- One access after another; a fault or a refusal of the first stands. -/
def thenRun (o : Host.Outcome State Fault Refusal) (f : State → Host.Outcome State Fault Refusal) :
    Host.Outcome State Fault Refusal :=
  match o with
  | .next s => f s
  | .fault r => .fault r
  | .refused r => .refused r

/-- A write of 4 or 8 bytes (R438). An unaligned one is an access to an unmapped address; one to the counter window is
discarded (R345). -/
def execRegisterWrite (who off size : Nat) (val : BitVec 64) (dma : Bytes) (s : State) :
    Host.Outcome State Fault Refusal :=
  let v := val.toNat
  if 13 ≤ who ∨ (size ≠ 4 ∧ size ≠ 8) then .fault .operandRange
  else if inBar2 who off size then .next s
  else if bar0Bytes who < off + size then .fault .operandRange
  else if off % size ≠ 0 then .next (if s.absentAt who off then s else s.unmappedAccess who off true)
  else if size = 4 then wordWrite who off (v % 2 ^ 32) dma s
  else thenRun (wordWrite who off (v % 2 ^ 32) dma s) (wordWrite who (off + 4) (v / 2 ^ 32) dma)

/-- The register write meets a full mailbox, which R340 alone governs. -/
def State.fullMailbox (s : State) (who : Nat) (p : Place) : Option Nat :=
  match p.row.reg, p.view? with
  | .CHM_OUT_DATA, some v | .CHM_OUT_SEND, some v =>
    if !s.notOwn who p ∧ (s.box (outBox v)).full then some v else none
  | _, _ => none

/-- A write of 1 or 2 bytes: discarded (R438, R442). -/
def execSubwordWrite (who off size : Nat) (s : State) : Host.Outcome State Fault Refusal :=
  if 13 ≤ who ∨ (size ≠ 1 ∧ size ≠ 2) then .fault .operandRange
  else if inBar2 who off size then .next s
  else if bar0Bytes who < off + size then .fault .operandRange
  else if off % size ≠ 0 then .next (if s.absentAt who off then s else s.unmappedAccess who off true)
  else
    .next (match targetOf who (off / 4 * 4) with
      | .unmapped => if s.absentAt who off then s else s.unmappedAccess who off true
      | .view _ => s.post F.TOP_EVENT_EVENTS 1
      | .reg p =>
        if unitAbsent s.fus.variant p then s
        else match s.fullMailbox who p with
          | some v => s.fullWrite who v
          | none => s.post F.TOP_EVENT_EVENTS 1)

end Sys2Proof.Machine
end

