-- ==== Sys2Proof/Machine/View.lean ====
section
/-! DEFINITION. What the registers show: the value that a 4-byte read returns to a requester, apart from what the read
itself changes (RC fields and pops, which the table's read commands do). A field shows its cell of `regs` unless it is
computed from the records of the state. -/

namespace Sys2Proof.Machine
open Sys2Proof

/-- Bits `lo` up, `w` of them, of a number as a field shows it. -/
def shown (n w : Nat) : Nat := n % 2 ^ w

/-- A shaper's tokens in bits: signed, 32 bits, saturating (R281). -/
def State.tokenBits (s : State) (k : Nat) : Nat :=
  let b := s.tokens k / 1000
  let c := max (-2147483648) (min 2147483647 b)
  (c % 4294967296).toNat

/-- TOP (R7, R446): a block has a pending event when one of its event bits is set whose MASK bit is 1. -/
def State.summary (s : State) : Nat :=
  (List.range 22).foldl (fun n b =>
    let hit := s.regs.any (fun p => match eventMask p.1 with
      | some (m, _) => decide (p.2 &&& s.get m ≠ 0) && (blockTable b).any (fun r => r.reg = p.1.reg)
      | none => false)
    let chime := b = 15 && (List.range 16).any s.chmPending
    if hit || chime then setBit n b else n) 0

def State.viewTop (s : State) (k : FKey) : Option Nat :=
  match k.reg with
  | .TOP_CAP_UNITS => some (capUnits s.fus.variant >>> k.lo)
  | .TOP_ID => if k.lo = 0 then some (orderCode s.fus.variant) else none
  | .TOP_SERIAL_LO => some s.fus.serial
  | .TOP_SERIAL_HI => some (s.fus.serial / 2 ^ 32)
  | .TOP_SUMMARY => some s.summary
  | .VF_STATUS => if k.lo = 1 then some (5 + k.elem) else none
  | _ => none

/-- PEL, PRT, FLX and CLS (R54, R76, R100, R130). -/
def State.viewPort (s : State) (k : FKey) : Option Nat :=
  let img := fun (f : Image → Nat) => (s.pel.active.map f).getD 0
  match k.reg, k.lo with
  | .PEL_STATUS, 16 => some s.floorNow
  | .PRT_EP_STATUS, 0 => some (bit (s.bound k.elem))
  | .PRT_EP_STATUS, 2 => some (img (fun g => imgSpeed g k.elem))
  | .PRT_EP_TIMERS, _ | .PRT_EP_EVENT, _ | .PRT_EP_MASK, _ | .PRT_EP_CFG, 14 => if 64 ≤ k.elem then some 0 else none
  | .PRT_EP_STATUS, 5 => some (img (fun g => imgFec g k.elem))
  | .FLX_GRP_STATUS, 8 => some (((s.flexGroup k.elem).map (fun gr => gr.number)).getD 0)
  | .FLX_INST_STATUS, 0 => some (bit (s.instGroup k.elem).isSome)
  | .CLS_CH_CFG, 0 => some (img (fun g => ((programOf g k.elem).map Prod.fst).getD 0))
  | _, _ => none

/-- TBL and SWC (R131, R158). A lock shows its holder; a read of TBL_LOCK that acquires it is a command of its own. -/
def State.viewCore (s : State) (k : FKey) : Option Nat :=
  let owner := s.lockOwner k.elem
  match k.reg, k.lo with
  | .TBL_STATUS, 1 => some s.tbl.learn.length
  | .TBL_LOCK, 0 => some (bit owner.isSome)
  | .TBL_LOCK, 4 => some (owner.getD 0)
  | .TBL_LOCK_PEEK, 0 => some (bit owner.isSome + owner.getD 0 * 16)
  | .SWC_STATUS, 1 => some s.freeCells
  | .SWC_SNR_CTL, 7 => if hasTwin s.fus.variant then none else some (s.get k % 4)
  | .SWC_SHARED, 0 => some s.sharedCells
  | .SWC_CH_STATUS, 0 => some (s.ingressCells k.elem)
  | .SWC_CH_STATUS, 20 => some ((s.pel.active.map (fun g => headroomCells g k.elem)).getD 0 / 16)
  | .SWC_Q_CFG, 0 => some (s.minCells k.elem)
  | .SWC_Q_STATUS, 0 => some (s.qCells k.elem)
  | .DRM_STATUS, 1 => some s.inService.length
  | .DRM_STATUS, 6 => some s.ungated.length
  | .DRM_STATUS, 11 => some s.reserved.length
  | .DRM_ENG_STATUS, 3 => some (bit (k.elem ∈ s.reserved))
  | .DRM_ENG_STATUS, 4 => some (s.engFrames k.elem)
  | .SEQ_PORT_STATUS, 0 => some (if k.elem = 16 then s.engFrames 16 else s.fifoDepth k.elem)
  | .SEQ_PORT_STATUS, 9 => some (bit (decide (k.elem < 16) && s.stalled k.elem))
  | .SEQ_STATUS, 1 => some s.pool.slots.length
  | .SEQ_CH_INFLIGHT, 0 => some (s.inflight k.elem)
  | .SEQ_CH_PROT, 0 => some (bit ((s.pel.active.map (fun g => decide (k.elem ∈ (imgQueues g).pDecryptCt))).getD false))
  | _, _ => none

/-- SAM and KEY (R234, R256). -/
def State.viewKeys (s : State) (k : FKey) : Option Nat :=
  let valid := fun (t : NTab KeySlot) => (t.filter (fun p => p.2.state = .valid)).length
  match k.reg, k.lo with
  | .SAM_STATUS, 1 => some ((s.sam.sa.filter (fun p => p.2.state ≠ .free)).length)
  | .SAM_STORE, 0 => some s.storeTrim.sam.onDie.length
  | .SAM_STORE, 16 => some s.pinned
  | .SAM_COLD, 0 => some s.sam.fetch.length
  | .SAM_EVQ_HEAD, lo => some (s.evqHead / 2 ^ lo)
  | .KEY_STATUS, 3 => some (valid s.key.domain)
  | .KEY_STATUS, 8 => some ((s.key.hyb.filter (fun p => p.2.isSome)).length)
  | .KEY_STATUS, 15 => some (bit (s.key.sweeps ≠ []))
  | .KEY_COUNT, 0 => some (valid s.key.group)
  | .KEY_COUNT, 13 => some (valid s.key.cak)
  | _, _ => none

/-- A channel has a list: one that runs, or one that waits for its swap. -/
def State.hasGates (s : State) (ch : Nat) : Bool :=
  ((s.gate ch).listAt s.nowNs).isSome || (s.gate ch).pending.join.isSome

/-- The gates of a channel as they stand: class states, entry, and the list that runs (R281). -/
def State.viewGate (s : State) (ch lo : Nat) : Nat :=
  let g := s.gate ch
  let at' := if s.gated ch then g.stateAt s.nowNs else (0xFF, 0)
  match lo with
  | 0 => at'.1
  | 8 => at'.2
  | 18 => bit (g.listAt s.nowNs).isSome
  | _ => bit (g.pending.join.isSome && (match g.swapAt with
    | some t => decide (s.nowNs < t)
    | none => false))

/-- SCH (R281). -/
def State.viewSched (s : State) (k : FKey) : Option Nat :=
  let bind' := (s.pel.active.bind (fun g => (imgQueues g).pShapers.find? (fun p => p.index = k.elem))).bind (fun p => p.queue)
  match k.reg, k.lo with
  | .SCH_P_BIND, 0 => some (bind'.getD 0)
  | .SCH_P_BIND, 31 => some (bit bind'.isSome)
  | .SCH_P_TOKENS, 0 => some (s.tokenBits (pShaper k.elem))
  | .SCH_CH_TOKENS, 0 => some (s.tokenBits (chShaper k.elem))
  | .SCH_Q_TOKENS, 0 => some (s.tokenBits k.elem)
  | .SCH_Q_RATE, _ | .SCH_Q_BURST, _ => if k.elem % 8 = 7 then some 0 else none
  | .SCH_CH_CFG, 8 => if s.hasGates k.elem then none else some 0
  | .SCH_CH_GATE, lo => some (s.viewGate k.elem lo)
  | .SCH_CH_CYCLE, 0 => some ((((s.gate k.elem).listAt s.nowNs).map (fun l => l.cycleNs)).getD 0)
  | .SCH_CH_LEAD, 0 => some (s.lead k.elem)
  | _, _ => none

/-- A stamp's fields at the places of TIM_TXTS_NS and TIM_CAP_NS (R304). -/
def stampNs (t : Stamp) (lo : Nat) : Nat := if lo = 30 then t.qns else t.ns

/-- TIM (R287, R297, R302, R304): the time that the reader latched, and the heads of the FIFOs, 0 where one is empty. -/
def State.viewTime (s : State) (who : Nat) (k : FKey) : Option Nat :=
  let latched := Tab.get s.tim.latch 0 who
  let tx := fun (f : TxStamp → Nat) => (s.tim.txts.head?.map f).getD 0
  let fifo := s.capFifo k.elem
  let cap := fun (f : CapEntry → Nat) => (fifo.head?.map f).getD 0
  match k.reg, k.lo with
  | .TIM_NOW_SEC_LO, _ => some s.nowSec
  | .TIM_NOW_SEC_HI, _ => some (latched / second / 2 ^ 32)
  | .TIM_NOW_NS, _ => some (latched % second / 2 ^ 32)
  | .TIM_NOW_FRAC, _ => some latched
  | .TIM_TXTS_TAG, 0 => some (tx (fun t => t.tag))
  | .TIM_TXTS_TAG, 16 => some (tx (fun t => t.channel))
  | .TIM_TXTS_TAG, 24 => some s.tim.txts.length
  | .TIM_TXTS_TAG, _ => some (bit (s.tim.txts ≠ []))
  | .TIM_TXTS_SEC_LO, _ => some (tx (fun t => t.at'.sec))
  | .TIM_TXTS_SEC_HI, _ => some (tx (fun t => t.at'.sec / 2 ^ 32))
  | .TIM_TXTS_NS, lo => some (tx (fun t => stampNs t.at' lo))
  | .TIM_CAP_SEC_LO, _ => some (cap (fun c => c.at'.sec))
  | .TIM_CAP_SEC_HI, 0 => some (cap (fun c => c.at'.sec / 2 ^ 32))
  | .TIM_CAP_SEC_HI, 16 => some fifo.length
  | .TIM_CAP_SEC_HI, 21 => some (cap (fun c => bit c.rise))
  | .TIM_CAP_SEC_HI, _ => some (bit (fifo ≠ []))
  | .TIM_CAP_NS, lo => some (cap (fun c => stampNs c.at' lo))
  | _, _ => none

/-- TWN (R326). -/
def State.viewTwin (s : State) (k : FKey) : Option Nat :=
  let stream := fun (f : TwinStream → Nat) => ((s.twin?.bind (fun t => t.streams[k.elem]?)).map f).getD 0
  match k.reg, k.lo with
  | .TWN_STATUS, 4 => some (bit s.leaseMode)
  | .TWN_STATUS, 11 => some (bit s.solo)
  | .TWN_STATUS, 14 => some (match s.twinRole with
    | .standalone => 0
    | .preferred => 1
    | .nonPreferred => 2)
  | .TWN_STATUS, 16 => some (if s.twin?.isSome then s.ownNode else 0)
  | .TWN_STR_CFG, 0 => some (stream (fun x => x.id))
  | .TWN_STR_CFG, _ => some (stream (fun x => x.sc))
  | _, _ => none

/-- CHM (R351): the inbound words, which the other side's cells hold, and both mailboxes' state. -/
def State.viewChime (s : State) (k : FKey) : Option Nat :=
  let inb := s.box (inBox k.elem)
  match k.reg, k.lo with
  | .CHM_IN_DATA, _ =>
    let v := k.elem / 64
    some (if (s.box (inBox v)).full ∧ k.elem % 64 < (s.box (inBox v)).len then
      s.get (F.CHM_OUT_DATA_DATA (otherView v * 64 + k.elem % 64)) else 0)
  | .CHM_OUT_STATUS, _ => some (bit (s.box (outBox k.elem)).full)
  | .CHM_IN_HDR, 0 => some (if inb.full then inb.len else 0)
  | .CHM_IN_HDR, 6 => some (bit (inb.full && inb.ack))
  | .CHM_IN_HDR, 7 => some (bit inb.full)
  | .CHM_IN_HDR, 8 => some (if inb.full then inb.tag else 0)
  | .CHM_IN_HDR, _ => some (if inb.full then inb.sender else 0)
  | .CHM_NOTICE, lo => some (s.noticeHead k.elem / 2 ^ lo)
  | _, _ => none

/-- PWR_STATUS.STATE (R419). -/
def powerShown : PowerState → Nat
  | .active => 1
  | .doze => 2
  | .standby | .hibernate => 3
  | .startUp => 0

/-- TMP, PWR and CNT (R398, R419, R433, R435). -/
def State.viewPower (s : State) (k : FKey) : Option Nat :=
  let on := fun (lo n : Nat) => (List.range n).foldl (fun m i => if (lo + i) ∈ s.pwr.on then setBit m i else m) 0
  let src := k.elem
  match k.reg, k.lo with
  | .TMP_STATUS, 1 => some (bit s.pealPolicy)
  | .TMP_STATUS, 3 => some (bit (s.tmp.pend ≠ 0))
  | .TMP_SRC_CFG, 0 => some (s.effectiveMask src)
  | .TMP_SRC_CFG, 8 => some (bit (s.srcDisabled src))
  | .TMP_SRC_CFG, _ => some (bit (src ∈ batSources))
  | .TMP_SRC_LIMIT, _ => some (((if src = 0 then s.tHigh else if src = 1 then s.tLow else 0) % 65536).toNat)
  | .PWR_STATUS, 1 => some (powerShown s.pwr.state)
  | .PWR_STATUS, 3 => some (bit s.seqRunning)
  | .PWR_DOMAINS_LO, _ => some (on 0 32)
  | .PWR_DOMAINS_HI, _ => some (on 32 24)
  | .CNT_STATUS, 1 => some (bit s.cnt.roll.isSome)
  | .CNT_SAMPLE_DEPTH, _ => some s.cnt.sampleFifo.length
  | .CNT_SAMPLE_HEAD, _ => some ((s.cnt.sampleFifo.head?.map (fun r => leNat (slice r.bytes (4 * src) 4))).getD 0)
  | _, _ => none

/-- FUS (R448): the values that the last device reset loaded. -/
def State.viewFuses (s : State) (k : FKey) : Option Nat :=
  let word := fun (w : Nat) => field (s.fuse w) k.lo
  match k.reg, k.lo with
  | .FUS_VARIANT, _ => some (variantNumber s.fus.variant)
  | .FUS_FLOORS, 0 => some s.floorNow
  | .FUS_FLOORS, _ => some (countOnes (s.fuse 0x64))
  | .FUS_DEBUG, _ => some (word 0x65 7)
  | .FUS_SIG_ECDSA, _ => some (s.fuse (k.elem / 12 * 24 + k.elem % 12))
  | .FUS_SIG_MLDSA, _ => some (s.fuse (k.elem / 12 * 24 + 12 + k.elem % 12))
  | .FUS_SIG_REVOKE, _ => some (field (s.fuse (0x60 + k.elem)) 0 1)
  | .FUS_TMP, _ => some (word (0x66 + k.elem) 8)
  | _, _ => none

/-- The value that a field shows to a requester. -/
def State.view (s : State) (who : Nat) (k : FKey) : Nat :=
  match [s.viewTop k, s.viewPort k, s.viewCore k, s.viewKeys k, s.viewSched k, s.viewTime who k, s.viewTwin k,
      s.viewChime k, s.viewPower k, s.viewFuses k].findSome? id with
  | some n => n
  | none => s.get k

/-! ### The views (R444, R395, R396, R418) -/

/-- The 32 bits of an LPM trie entry (R121). -/
def lpmWord (child : Option Nat) (r : Option (Nat × Nat × Bool)) : Nat :=
  match child, r with
  | some i, _ => 2 * 2 ^ 30 + i
  | none, some (ch, sc, d) => 2 ^ 30 + ch * 2 ^ 22 + sc * 2 ^ 6 + bit d * 2 ^ 5
  | none, none => 0

/-- The entry of a trie at an address of `len` bits, whose children are the nodes of `level`. -/
def State.lpmEntry (s : State) (fam level a len : Nat) : Nat :=
  let t := s.lpm fam
  lpmWord ((t.nodes.find? (fun n => n.level = level ∧ n.head = a)).map (fun n => n.index)) (Sys2Proof.Machine.lpmResult (lpmWidth fam) t.prefixes a len)

/-- A word of the LPM view (R444): level 0, then the nodes by index. A node that no trie uses holds a free value. -/
def State.lpmView (s : State) (fam x : Nat) : Nat :=
  if x < 0x40000 then s.lpmEntry fam 1 (x / 4) 16
  else
    let i := (x - 0x40000) / 0x400
    let e := (x - 0x40000) % 0x400 / 4
    if s.lpmPool fam ≤ i then 0
    else match (s.lpm fam).nodes.find? (fun n => n.index = i) with
      | some n => s.lpmEntry fam (n.level + 1) (n.head * 256 + e) (lpmHeadLen n.level + 8)
      | none => Config.freeNode i e % 2 ^ 32

/-- A word of the table window at byte `x` of the memory's view (R444). -/
def State.tableWord (s : State) (mem x : Nat) : Nat :=
  match mem with
  | 0 => if x / 16 < s.macSize then leNat (slice (s.macEntry (x / 16)).bytes (x % 16) 4) else 0
  | 1 => s.lpmView 0 x
  | 2 => s.lpmView 1 x
  | _ => if x / 64 < 65536 then ((s.sc (x / 64)).words[x % 64 / 4]?).getD 0 else 0

/-- A word of a view. -/
def State.viewWord (s : State) : ViewWord → Nat
  | .table x => s.tableWord (s.get F.TOP_TBLWIN_MEM) (s.get F.TOP_TBLWIN_PAGE * 2 ^ 20 + x)
  | .log i w => ((Tab.get s.tmp.log none i).map (fun e => leNat (slice e.bytes (4 * w) 4))).getD 0
  | .battery i w => ((Tab.get s.tmp.bat none i).map (fun e => leNat (slice e.entry.bytes (4 * w) 4))).getD 0
  | .ledger i w => ((s.pwr.ledger[i]?).map (fun e => leNat (slice (e.body ++ List.replicate 24 0) (4 * w) 4))).getD 0

/-! ### Words -/

/-- A register's word: each field in its place; WO fields and reserved bits read 0. -/
def State.placeWord (s : State) (who : Nat) (p : Place) : Nat :=
  p.row.fields.foldl (fun n f =>
    if f.acc = .wo then n else n + shown (s.view who ⟨p.row.reg, p.elem, f.lo⟩) f.width * 2 ^ f.lo) 0

/-- A read reaches a register: of a unit that the part has, of the requester's own, of an object that is present (a port's
element shows PRESENT 0), and of no control-plane block in a control-plane reset (R9, R76, R125, R408, R443). -/
def State.readable (s : State) (who : Nat) (p : Place) : Bool :=
  !unitAbsent s.fus.variant p && !s.notOwn who p && !(s.notPresent p && decide (p.row.block ≠ 2)) &&
    !(s.pwr.cpReset && decide (p.row.block ∈ cpBlocks))

/-- What an aligned 4-byte read returns (R329, R437). -/
def State.readWord (s : State) (who off : Nat) : Nat :=
  match targetOf who off with
  | .unmapped => 0
  | .view v => s.viewWord v
  | .reg p =>
    if s.readable who p then (if p.row.reg = .TBL_LOCK then s.lockWord who p.elem else s.placeWord who p) else 0

end Sys2Proof.Machine
end

