-- ==== Sys2Proof/Machine/RegRead.lean ====
section
/-! DEFINITION. Reads (R15, R16, R345, R438): what an aligned 8-byte read returns and what it changes. The table of operations has
no row for a read of a register; an UNMAPPED access at a place where registers stand is one (DESIGN CHOICE, log entry 93). -/

namespace Sys2Proof.Machine
open Sys2Proof

/-- What a read changes: it clears RC fields (R15), latches the time (R287), acquires a free lock (R127) and pops the event queue
and the notices (R233, R351). -/
def State.readEffect (s : State) (who : Nat) (p : Place) : State :=
  match p.row.reg with
  | .TIM_NOW_SEC_LO => s.latchNow who
  | .TBL_LOCK => s.lockTake who p.elem
  | .SAM_EVQ_HEAD => s.evqPop
  | .CHM_NOTICE => s.noticePop p.elem
  | _ => p.row.fields.foldl (fun s f => if f.acc = .rc then s.set ⟨p.row.reg, p.elem, f.lo⟩ 0 else s) s

/-- The effect of a read of 4 bytes. -/
def State.wordRead (s : State) (who off : Nat) : State :=
  match targetOf who off with
  | .unmapped => if s.absentAt who off then s else s.postUnmapped who off false
  | .view _ => s
  | .reg p => if s.readable who p then s.readEffect who p else s

/-- The lower register of an 8-byte read is TIM_NOW_SEC_LO, whose read latches the upper word (R438). -/
def latchesUpper (who off : Nat) : Bool :=
  match targetOf who off with
  | .reg p => p.row.reg = .TIM_NOW_SEC_LO
  | _ => false

/-- An aligned 8-byte read: both words as they stood in the first of the two cycles, the lower word's effects first (R438). -/
def State.read8 (s : State) (who off : Nat) : State :=
  let low := s.readWord who off
  let s1 := s.wordRead who off
  let high := (if latchesUpper who off then s1 else s).readWord who (off + 4)
  (s1.wordRead who (off + 4)).emit (.read who (low + high * 2 ^ 32))

/-- A read of 4, 2 or 1 bytes: the addressed bytes of the register that contains them, with every effect of a full read (R438). -/
def State.readPart (s : State) (who off size : Nat) : State :=
  let w := off / 4 * 4
  (s.wordRead who w).emit (.read who ((s.readWord who w >>> (8 * (off % 4))) % 2 ^ (8 * size)))

/-- A read of the counter window of a function: an aligned one of 8 bytes returns a counter (R345); what another returns the manual
does not say, and it is a free value. -/
def State.counterRead (s : State) (who x size : Nat) : State :=
  if size ≠ 8 ∨ x % 8 ≠ 0 then s.drew.emit (.read who (s.draw (8 * size)))
  else s.emit (.read who (if isVf who then s.vfCounterWord who x else s.counterWord x))

/-- An access that R438 treats as one to an unmapped address, or that meets no register: it is unaligned, or no word of it is
mapped. -/
def noRegister (who off size : Nat) : Bool :=
  decide (off % size ≠ 0) || (decide (targetOf who (off / 4 * 4) = .unmapped) && (size ≠ 8 || decide (targetOf who (off + 4) = .unmapped)))

/-- An access to an address that no register occupies, or an unaligned one (R442). Where a register stands it is a
read, and it writes nothing; in BAR2 it is an access to the counter window. -/
def execUnmapped (who off : Nat) (acc : Access) (s : State) : Host.Outcome State Fault Refusal :=
  let size := acc.size
  let write := acc.write
  if 13 ≤ who ∨ size ∉ [1, 2, 4, 8] then .fault .operandRange
  else if inBar2 who off size then .next (if write then s else s.counterRead who (off - bar2) size)
  else if bar0Bytes who < off + size then .fault .operandRange
  else if noRegister who off size then
    .next (if s.absentAt who off then (if write then s else s.emit (.read who 0)) else s.unmappedAccess who off write)
  else .next (if write then s else if size = 8 then s.read8 who off else s.readPart who off size)

end Sys2Proof.Machine
end

