-- ==== Sys2Proof/Machine/Dispatch.lean ====
section
/-! DEFINITION. The meaning of every command, one arm per row of the table. -/

namespace Sys2Proof.Machine
open Sys2Proof

/-- The effect of a command on everything but the queue. -/
def exec (i : Instr) (s : State) : Host.Outcome State Fault Refusal :=
  match i with
  | .registerWrite who off size val dma => Sys2Proof.Machine.execRegisterWrite who off size val dma s
  | .subwordWrite who off size => Sys2Proof.Machine.execSubwordWrite who off size s
  | .unmapped who off acc => Sys2Proof.Machine.execUnmapped who off acc s
  | .load who => Sys2Proof.Machine.execLoad who s
  | .verificationDone copy => Sys2Proof.Machine.execVerificationDone copy s
  | .armNow who alarm => Sys2Proof.Machine.execArmNow who alarm s
  | .armAt who => Sys2Proof.Machine.execArmAt who s
  | .disarm who => Sys2Proof.Machine.execDisarm who s
  | .clearShadow who => Sys2Proof.Machine.execClearShadow who s
  | .advanceFloor who => Sys2Proof.Machine.execAdvanceFloor who s
  | .timedStrike => Sys2Proof.Machine.execTimedStrike s
  | .drainComplete => Sys2Proof.Machine.execDrainComplete s
  | .dataPlaneStart => Sys2Proof.Machine.execDataPlaneStart s
  | .powerSequenceSlot => Sys2Proof.Machine.execPowerSequenceSlot s
  | .lossConditionDetected ch kind => Sys2Proof.Machine.execLossConditionDetected ch kind s
  | .lossConditionCleared ch kind => Sys2Proof.Machine.execLossConditionCleared ch kind s
  | .linkDown ch => Sys2Proof.Machine.execLinkDown ch s
  | .linkUp ch rxDelay txDelay => Sys2Proof.Machine.execLinkUp ch rxDelay txDelay s
  | .serdesRefLost grp => Sys2Proof.Machine.execSerdesRefLost grp s
  | .fecDegrade ch symbols => Sys2Proof.Machine.execFecDegrade ch symbols s
  | .lpiEnter ch => Sys2Proof.Machine.execLpiEnter ch s
  | .lpiExit ch => Sys2Proof.Machine.execLpiExit ch s
  | .lpiWakeDone ch => Sys2Proof.Machine.execLpiWakeDone ch s
  | .frameReceived ch f => Sys2Proof.Machine.execFrameReceived ch f s
  | .pauseRepeat ch => Sys2Proof.Machine.execPauseRepeat ch s
  | .pauseReceived ch quanta => Sys2Proof.Machine.execPauseReceived ch quanta s
  | .pauseExpiry ch => Sys2Proof.Machine.execPauseExpiry ch s
  | .schedulerMatch => Sys2Proof.Machine.execSchedulerMatch s
  | .dispatch q => Sys2Proof.Machine.execDispatch q s
  | .chunkCommit port => Sys2Proof.Machine.execChunkCommit port s
  | .engineFault e cause => Sys2Proof.Machine.execEngineFault e cause s
  | .fence who e => Sys2Proof.Machine.execFence who e s
  | .restore who e => Sys2Proof.Machine.execRestore who e s
  | .restoreTestsDone e pass => Sys2Proof.Machine.execRestoreTestsDone e pass s
  | .engineGate e => Sys2Proof.Machine.execEngineGate e s
  | .holdTimerExpiry q => Sys2Proof.Machine.execHoldTimerExpiry q s
  | .overheadBlockReceived inst b => Sys2Proof.Machine.execOverheadBlockReceived inst b s
  | .overheadFrameReceived inst f => Sys2Proof.Machine.execOverheadFrameReceived inst f s
  | .groupDown g => Sys2Proof.Machine.execGroupDown g s
  | .groupUp g => Sys2Proof.Machine.execGroupUp g s
  | .txSwapped g => Sys2Proof.Machine.execTxSwapped g s
  | .calSwStall g => Sys2Proof.Machine.execCalSwStall g s
  | .cancel who g => Sys2Proof.Machine.execCancel who g s
  | .retry who g => Sys2Proof.Machine.execRetry who g s
  | .secondsRollover => Sys2Proof.Machine.execSecondsRollover s
  | .macInsert who => Sys2Proof.Machine.execMacInsert who s
  | .macDelete who => Sys2Proof.Machine.execMacDelete who s
  | .macDump who => Sys2Proof.Machine.execMacDump who s
  | .lpmAdd who => Sys2Proof.Machine.execLpmAdd who s
  | .lpmDel who => Sys2Proof.Machine.execLpmDel who s
  | .lpmDump who => Sys2Proof.Machine.execLpmDump who s
  | .lpmNodeReturn => Sys2Proof.Machine.execLpmNodeReturn s
  | .tblLockRead who part => Sys2Proof.Machine.execTblLockRead who part s
  | .release who part => Sys2Proof.Machine.execRelease who part s
  | .renew who part => Sys2Proof.Machine.execRenew who part s
  | .lockExpired part => Sys2Proof.Machine.execLockExpired part s
  | .learnEventApply => Sys2Proof.Machine.execLearnEventApply s
  | .brushVisit => Sys2Proof.Machine.execBrushVisit s
  | .snareRecordWrite => Sys2Proof.Machine.execSnareRecordWrite s
  | .snareRingResize who log2 => Sys2Proof.Machine.execSnareRingResize who log2 s
  | .scCreate who => Sys2Proof.Machine.execScCreate who s
  | .scModify who => Sys2Proof.Machine.execScModify who s
  | .scDelete who => Sys2Proof.Machine.execScDelete who s
  | .scRead who => Sys2Proof.Machine.execScRead who s
  | .saStage who => Sys2Proof.Machine.execSaStage who s
  | .saInstall who => Sys2Proof.Machine.execSaInstall who s
  | .saActivate who => Sys2Proof.Machine.execSaActivate who s
  | .saRetire who => Sys2Proof.Machine.execSaRetire who s
  | .saDelete who => Sys2Proof.Machine.execSaDelete who s
  | .saSetPn who => Sys2Proof.Machine.execSaSetPn who s
  | .saSetThreshold who => Sys2Proof.Machine.execSaSetThreshold who s
  | .saPin who => Sys2Proof.Machine.execSaPin who s
  | .saUnpin who => Sys2Proof.Machine.execSaUnpin who s
  | .saRead who => Sys2Proof.Machine.execSaRead who s
  | .rollArm who => Sys2Proof.Machine.execRollArm who s
  | .rollNow who => Sys2Proof.Machine.execRollNow who s
  | .rollDisarm who => Sys2Proof.Machine.execRollDisarm who s
  | .rollTimeReached sc => Sys2Proof.Machine.execRollTimeReached sc s
  | .retireAtReached sa => Sys2Proof.Machine.execRetireAtReached sa s
  | .coldFetchDone sa ok => Sys2Proof.Machine.execColdFetchDone sa ok s
  | .samEvqPop who => Sys2Proof.Machine.execSamEvqPop who s
  | .challenge who => Sys2Proof.Machine.execChallenge who s
  | .domainImport who pkg => Sys2Proof.Machine.execDomainImport who pkg s
  | .groupDerive who => Sys2Proof.Machine.execGroupDerive who s
  | .cakDerive who => Sys2Proof.Machine.execCakDerive who s
  | .keyImport who => Sys2Proof.Machine.execKeyImport who s
  | .keyExport who => Sys2Proof.Machine.execKeyExport who s
  | .keyInvalidate who => Sys2Proof.Machine.execKeyInvalidate who s
  | .sweepDone => Sys2Proof.Machine.execSweepDone s
  | .keyRead who => Sys2Proof.Machine.execKeyRead who s
  | .mkaIcv who data => Sys2Proof.Machine.execMkaIcv who data s
  | .hybStart who => Sys2Proof.Machine.execHybStart who s
  | .hybRespond who msg => Sys2Proof.Machine.execHybRespond who msg s
  | .hybFinish who msg => Sys2Proof.Machine.execHybFinish who msg s
  | .hybCancel who => Sys2Proof.Machine.execHybCancel who s
  | .hybExpired session => Sys2Proof.Machine.execHybExpired session s
  | .idGet who => Sys2Proof.Machine.execIdGet who s
  | .attest who => Sys2Proof.Machine.execAttest who s
  | .shaperRefill => Sys2Proof.Machine.execShaperRefill s
  | .protShaperWrite who shaper burst val => Sys2Proof.Machine.execProtShaperWrite who shaper burst val s
  | .gateEvent ch => Sys2Proof.Machine.execGateEvent ch s
  | .gateEnWrite who ch en => Sys2Proof.Machine.execGateEnWrite who ch en s
  | .timIncCommit who val => Sys2Proof.Machine.execTimIncCommit who val s
  | .step who pending => Sys2Proof.Machine.execStep who pending s
  | .timNowLatch who => Sys2Proof.Machine.execTimNowLatch who s
  | .refLost => Sys2Proof.Machine.execRefLost s
  | .refLocked => Sys2Proof.Machine.execRefLocked s
  | .ppsOutPulse => Sys2Proof.Machine.execPpsOutPulse s
  | .captureEdge input rising => Sys2Proof.Machine.execCaptureEdge input rising s
  | .timCapPop who fifo => Sys2Proof.Machine.execTimCapPop who fifo s
  | .timTxtsPop who => Sys2Proof.Machine.execTimTxtsPop who s
  | .arm who t => Sys2Proof.Machine.execArm who t s
  | .triggerDisarm who t => Sys2Proof.Machine.execTriggerDisarm who t s
  | .triggerEdge t => Sys2Proof.Machine.execTriggerEdge t s
  | .ptpTxRequest req => Sys2Proof.Machine.execPtpTxRequest req s
  | .hello h m skewNs => Sys2Proof.Machine.execHello h m skewNs s
  | .heartbeat h state synced clap => Sys2Proof.Machine.execHeartbeat h state synced clap s
  | .mirror h r => Sys2Proof.Machine.execMirror h r s
  | .reserve h sa newEnd => Sys2Proof.Machine.execReserve h sa newEnd s
  | .ack h seq => Sys2Proof.Machine.execAck h seq s
  | .lease h kind epoch holder ms test => Sys2Proof.Machine.execLease h kind epoch holder ms test s
  | .role h kind => Sys2Proof.Machine.execRole h kind s
  | .sync h r => Sys2Proof.Machine.execSync h r s
  | .dual h stream seqNo tIn frame => Sys2Proof.Machine.execDual h stream seqNo tIn frame s
  | .notice h source mask => Sys2Proof.Machine.execNotice h source mask s
  | .twinRetransmit => Sys2Proof.Machine.execTwinRetransmit s
  | .twinLinkDown => Sys2Proof.Machine.execTwinLinkDown s
  | .helloTimer => Sys2Proof.Machine.execHelloTimer s
  | .heartbeatTimer => Sys2Proof.Machine.execHeartbeatTimer s
  | .clapperInputChange v => Sys2Proof.Machine.execClapperInputChange v s
  | .takeover => Sys2Proof.Machine.execTakeover s
  | .bulkPermit => Sys2Proof.Machine.execBulkPermit s
  | .clapperFault => Sys2Proof.Machine.execClapperFault s
  | .clapperFaultClear => Sys2Proof.Machine.execClapperFaultClear s
  | .seekTimeout => Sys2Proof.Machine.execSeekTimeout s
  | .leaseRenewTimer => Sys2Proof.Machine.execLeaseRenewTimer s
  | .leaseLapsed => Sys2Proof.Machine.execLeaseLapsed s
  | .revertHoldoffExpiry => Sys2Proof.Machine.execRevertHoldoffExpiry s
  | .handoverGrant => Sys2Proof.Machine.execHandoverGrant s
  | .yield who => Sys2Proof.Machine.execYield who s
  | .take who => Sys2Proof.Machine.execTake who s
  | .testEnter who => Sys2Proof.Machine.execTestEnter who s
  | .testExit who => Sys2Proof.Machine.execTestExit who s
  | .vfFlr vf => Sys2Proof.Machine.execVfFlr vf s
  | .pfFlr => Sys2Proof.Machine.execPfFlr s
  | .pcieHotReset => Sys2Proof.Machine.execPcieHotReset s
  | .sendDescriptorFetch rs chain => Sys2Proof.Machine.execSendDescriptorFetch rs chain s
  | .puntDelivery cls bufs => Sys2Proof.Machine.execPuntDelivery cls bufs s
  | .ringSetEnable who rs val => Sys2Proof.Machine.execRingSetEnable who rs val s
  | .dmaError rs => Sys2Proof.Machine.execDmaError rs s
  | .ringIrqHoldoff rs => Sys2Proof.Machine.execRingIrqHoldoff rs s
  | .send who pair len ackReq tag => Sys2Proof.Machine.execSend who pair len ackReq tag s
  | .fullWrite who pair => Sys2Proof.Machine.execFullWrite who pair s
  | .pop who pair => Sys2Proof.Machine.execPop who pair s
  | .withdraw who pair => Sys2Proof.Machine.execWithdraw who pair s
  | .chmNoticeRead who pair => Sys2Proof.Machine.execChmNoticeRead who pair s
  | .crossed pair => Sys2Proof.Machine.execCrossed pair s
  | .credit typ rest => Sys2Proof.Machine.execCredit typ rest s
  | .taborBurst => Sys2Proof.Machine.execTaborBurst s
  | .taborTime => Sys2Proof.Machine.execTaborTime s
  | .taborLinkUp lane => Sys2Proof.Machine.execTaborLinkUp lane s
  | .taborLinkDown => Sys2Proof.Machine.execTaborLinkDown s
  | .creditLost => Sys2Proof.Machine.execCreditLost s
  | .taborRefLost => Sys2Proof.Machine.execTaborRefLost s
  | .format who => Sys2Proof.Machine.execFormat who s
  | .read who bad => Sys2Proof.Machine.execRead who bad s
  | .flush who => Sys2Proof.Machine.execFlush who s
  | .setLife who gaps => Sys2Proof.Machine.execSetLife who gaps s
  | .planNow who gaps => Sys2Proof.Machine.execPlanNow who gaps s
  | .journalMount scan gaps => Sys2Proof.Machine.execJournalMount scan gaps s
  | .journalRecordAccept cls payload => Sys2Proof.Machine.execJournalRecordAccept cls payload s
  | .journalFlushTimer => Sys2Proof.Machine.execJournalFlushTimer s
  | .programDone system place page bad gaps => Sys2Proof.Machine.execProgramDone system place page bad gaps s
  | .patrolRead blk page corrected level recovered recs testOk gaps => Sys2Proof.Machine.execPatrolRead blk page corrected level recovered recs testOk gaps s
  | .journalPlan gaps => Sys2Proof.Machine.execJournalPlan gaps s
  | .tamperAssert alarms => Sys2Proof.Machine.execTamperAssert alarms s
  | .tamperClear src => Sys2Proof.Machine.execTamperClear src s
  | .soft who code => Sys2Proof.Machine.execSoft who code s
  | .releaseHold who => Sys2Proof.Machine.execReleaseHold who s
  | .batteryOnly => Sys2Proof.Machine.execBatteryOnly s
  | .active who => Sys2Proof.Machine.execActive who s
  | .doze who => Sys2Proof.Machine.execDoze who s
  | .standby who => Sys2Proof.Machine.execStandby who s
  | .hibernate who => Sys2Proof.Machine.execHibernate who s
  | .dpReset who => Sys2Proof.Machine.execDpReset who s
  | .cpReset who => Sys2Proof.Machine.execCpReset who s
  | .deviceReset who => Sys2Proof.Machine.execDeviceReset who s
  | .avsPlan who inp => Sys2Proof.Machine.execAvsPlan who inp s
  | .recover who img => Sys2Proof.Machine.execRecover who img s
  | .dataPlaneResetEnd => Sys2Proof.Machine.execDataPlaneResetEnd s
  | .controlPlaneResetEnd => Sys2Proof.Machine.execControlPlaneResetEnd s
  | .wake cause => Sys2Proof.Machine.execWake cause s
  | .resetN => Sys2Proof.Machine.execResetN s
  | .powerOn how => Sys2Proof.Machine.execPowerOn how s
  | .railFault rail => Sys2Proof.Machine.execRailFault rail s
  | .boot flash => Sys2Proof.Machine.execBoot flash s
  | .kick who timeout => Sys2Proof.Machine.execKick who timeout s
  | .wdog => Sys2Proof.Machine.execWdog s
  | .avsPlanTimer inp => Sys2Proof.Machine.execAvsPlanTimer inp s
  | .lowMargin => Sys2Proof.Machine.execLowMargin s
  | .dbgTokenWrite who token => Sys2Proof.Machine.execDbgTokenWrite who token s
  | .cntProgSelWrite who n val => Sys2Proof.Machine.execCntProgSelWrite who n val s
  | .rollLatch => Sys2Proof.Machine.execRollLatch s
  | .rollDumpWritten => Sys2Proof.Machine.execRollDumpWritten s
  | .cntSamplePop who => Sys2Proof.Machine.execCntSamplePop who s
  | .blow who => Sys2Proof.Machine.execBlow who s
  | .pcieLinkUp gen width => Sys2Proof.Machine.execPcieLinkUp gen width s
  | .eraseDone system place bad gaps => Sys2Proof.Machine.execEraseDone system place bad gaps s

end Sys2Proof.Machine
end

