-- ==== Sys2Proof/Machine/Step.lean ====
section
/-! DEFINITION. A step of the device: the command at the front of the queue, or one tick of the time clock. -/

namespace Sys2Proof.Machine
open Sys2Proof

/-- One step: the command at the front of the queue runs on the state with the queue's rest; with an empty queue the time
base moves by one tick of 500 MHz (R282; DESIGN CHOICE, the table has no row for a tick). -/
def step (s : State) : Host.Outcome State Fault Refusal :=
  match s.pending with
  | [] => .next s.tick
  | c :: rest => exec c { s with pending := rest }

/-- The state with the command that a word spells at the front of its queue. -/
def State.withFetchWord (s : State) (nbits w : Nat) : State :=
  match decodeTableWord nbits w with
  | some c => { s with pending := c :: s.pending }
  | none => s

end Sys2Proof.Machine
end

