-- ==== Sys2Proof/Safety.lean ====
section
/-! DEFINITION. What a command leaves as it was, in the terms in which statements say it, and the canonical form of the
register file. -/

namespace Sys2Proof.Machine
open Sys2Proof

/-- The parts of the state beside the register fields and the queue of commands. -/
inductive Part where
  | fus | irq | tim | cnt | pel | prt | flx | tbl | buf | sch | pool | sam | key | twn | hif | chm | tab | jnl | tmp | pwr
  | out | free
deriving DecidableEq, Repr

/-- A part reads in `t` as it did in `s`. -/
def Part.same (s t : State) : Part → Prop
  | .fus => t.fus = s.fus
  | .irq => t.irq = s.irq
  | .tim => t.tim = s.tim
  | .cnt => t.cnt = s.cnt
  | .pel => t.pel = s.pel
  | .prt => t.prt = s.prt
  | .flx => t.flx = s.flx
  | .tbl => t.tbl = s.tbl
  | .buf => t.buf = s.buf
  | .sch => t.sch = s.sch
  | .pool => t.pool = s.pool
  | .sam => t.sam = s.sam
  | .key => t.key = s.key
  | .twn => t.twn = s.twn
  | .hif => t.hif = s.hif
  | .chm => t.chm = s.chm
  | .tab => t.tab = s.tab
  | .jnl => t.jnl = s.jnl
  | .tmp => t.tmp = s.tmp
  | .pwr => t.pwr = s.pwr
  | .out => t.out = s.out
  | .free => t.free = s.free

/-- Every register field of which `K` does not hold, every part of the state that `ps` does not list and the queue of
commands are in `t` as they were in `s`. -/
def OnlyWhere (K : FKey → Prop) (ps : List Part) (s t : State) : Prop :=
  (∀ k, ¬ K k → t.get k = s.get k) ∧ (∀ p, p ∉ ps → p.same s t) ∧ t.pending = s.pending

/-- At most the register fields `ks` and the parts `ps` of the state differ. -/
def Only (ks : List FKey) (ps : List Part) (s t : State) : Prop := OnlyWhere (· ∈ ks) ps s t

/-- At most fields of the registers `rs`, and the parts `ps` of the state, differ. -/
def OnlyIn (rs : List Reg) (ps : List Part) (s t : State) : Prop := OnlyWhere (fun k => k.reg ∈ rs) ps s t

/-- The register file is in its canonical form: fields in rising order, none listed at its reset value, so that equal
register files are equal data. -/
def registersCanonical (s : State) : Prop := Tab.wf FKey.code FKey.reset s.regs = true

/-! ### The words of the statements -/

/-- The fixed counter of a channel (R421, R422). -/
def chCounter (s : State) (ch : Nat) (c : ChCnt) : Nat := Tab.get s.cnt.fixed 0 (chOff ch c.ctorIdx)

/-- The fixed counter of a queue (R421, R422). -/
def qCounter (s : State) (q : Nat) (c : QCnt) : Nat := Tab.get s.cnt.fixed 0 (qOff q c.ctorIdx)

/-- The fields that the completion of a PEL command writes. -/
def pelFields : List FKey :=
  [F.PEL_RESULT_STATUS, F.PEL_RESULT_OP, F.PEL_RESULT_FAIL_STEP, F.PEL_RESULT_FAIL_SECTION, F.PEL_EVENT_DONE]

/-- The banks are exchanged by command `op`: image `g` is Active, the old one drains, and keys, SAs, SCs and fuses are
as they were (R49, R52, R53). -/
def Struck (g : Image) (op : Nat) (s t : State) : Prop :=
  t.pel.active = some g ∧ t.pel.old = s.pel.active ∧ t.pel.shadow = none ∧ t.get F.PEL_STATUS_SHADOW = 4 ∧
    t.get F.PEL_STATUS_ACTIVE = 1 ∧ t.get F.PEL_STATUS_BANK = 1 - s.get F.PEL_STATUS_BANK ∧
    t.get F.PEL_STRIKE_COUNT_COUNT = (s.get F.PEL_STRIKE_COUNT_COUNT + 1) % 2 ^ 32 ∧
    t.get F.PEL_RESULT_OP = op ∧ t.get F.PEL_RESULT_STATUS = 0 ∧ t.key = s.key ∧ t.sam.sa = s.sam.sa ∧ t.sam.sc = s.sam.sc ∧ t.fus = s.fus

/-- The registers whose write is an operation of the table, or starts one. -/
def operationRegs : List Reg :=
  [.PEL_CMD, .FLX_GRP_CMD, .TBL_LOCK_CTL, .TBL_CMD, .SWC_SNR_SIZE, .DRM_CMD, .SAM_CMD, .KEY_CMD, .SCH_P_RATE, .SCH_P_BURST,
    .SCH_CH_CFG, .TIM_INC_NS, .TIM_CMD, .TIM_TXTS_POP, .TIM_CAP_POP, .TIM_TRIG_CTL, .TWN_CMD, .HIF_RS_CTL, .CHM_OUT_DATA,
    .CHM_OUT_SEND, .CHM_OUT_CTL, .CHM_IN_POP, .CHM_EVENT, .CHM_MASK, .JNL_CMD, .TMP_CMD, .PWR_CMD, .PWR_WDOG,
    .CNT_SAMPLE_POP, .CNT_PROG_SEL, .FUS_CMD]

/-- The registers whose write does more than to store its fields. -/
def furtherRegs : List Reg :=
  [.TOP_SCRATCH_SH, .TIM_CFG, .TIM_PPS_OUT, .TIM_EVENT, .CNT_EVENT, .SWC_CH_CFG, .SWC_CH_PAUSE, .DRM_POOL_CFG, .SEQ_DUP_CFG, .TAB_CFG,
    .CNT_ROLL_CFG, .CHM_PAIR_CFG, .SWC_SNR_BASE_LO, .CLS_CH_CFG, .SEQ_CH_PROT]

/-- A write of `who` at an offset reaches a register (R9, R125, R408, R440, R442). -/
def Reaches (who off : Nat) (s : State) (p : Place) : Prop :=
  who < 13 ∧ off % 4 = 0 ∧ off + 4 ≤ bar0Bytes who ∧ targetOf who off = .reg p ∧ unitAbsent s.fus.variant p = false ∧
    ¬ (s.pwr.cpReset = true ∧ p.row.block ∈ cpBlocks) ∧ s.notOwn who p = false ∧ s.notPresent p = false ∧
    ¬ (isVf who = true ∧ p.row.block = 12)

/-- What a field holds after the word `v` was written to its register (R15). -/
def writtenField (s : State) (p : Place) (v : Nat) (f : FieldRow) : Nat :=
  let old := s.get ⟨p.row.reg, p.elem, f.lo⟩
  let n := field v f.lo f.width
  match f.acc with
  | .rw | .sh | .rwl => n
  | .w1c => clearBits old n
  | .w1s => old ||| n
  | .ro | .rc | .wo => old

/-- An access that R438 treats as one to an unmapped address, or that meets no register. -/
def NoRegister (who off size : Nat) : Prop :=
  off % size ≠ 0 ∨ (targetOf who (off / 4 * 4) = .unmapped ∧ (size = 8 → targetOf who (off + 4) = .unmapped))

/-- What an access to an unmapped address leaves (R329, R438). -/
def Unmapped (who off : Nat) (write : Bool) (s t : State) : Prop :=
  t.get F.TOP_UNMAPPED_OFFSET = off % 2 ^ 25 ∧ t.get F.TOP_UNMAPPED_REQUESTER = who ∧
    t.get F.TOP_UNMAPPED_WRITE = (if write then 1 else 0) ∧ t.get F.TOP_EVENT_EVENTS = setBit (s.get F.TOP_EVENT_EVENTS) 0 ∧
    (write = false → t.out.head? = some (.read who 0)) ∧
    Only [F.TOP_UNMAPPED_OFFSET, F.TOP_UNMAPPED_REQUESTER, F.TOP_UNMAPPED_WRITE, F.TOP_EVENT_EVENTS] [.irq, .out] s t

/-- FAULT of an endpoint as its conditions give it (R76). -/
def faultOf (c : List Nat) : Nat := if 2 ∈ c then 1 else if 3 ∈ c then 2 else 0

/-- The head `f` of queue `q` has been dispatched as slot `x`: the next DSN of its channel, no chunk committed, and the queue goes
on with the rest (R189, R193). -/
def Dispatched (s t : State) (q : Nat) (f : Frame) (rest : List Frame) (x : Slot) : Prop :=
  t.pool.slots = s.pool.slots ++ [x] ∧ x.ch = f.outCh ∧ x.frame = f ∧ x.dsn = s.get (F.SEQ_CH_DSN_NEXT_DSN f.outCh) ∧ x.committed = 0 ∧
    t.get (F.SEQ_CH_DSN_NEXT_DSN f.outCh) = (s.get (F.SEQ_CH_DSN_NEXT_DSN f.outCh) + 1) % 65536 ∧ t.queue q = rest ∧ q ∉ t.buf.ready

/-- The fields that the completion of a table command of `who` writes. -/
def tblFields (who : Nat) : List FKey :=
  [F.TBL_CMD_RESULT_STATUS who, F.TBL_CMD_RESULT_OP who] ++ (if isVf who then [F.VF_EVENT_EVENTS (who - 5)] else [])

/-- The lock of a partition lets `who` act on it. -/
def Unlocked (s : State) (who p : Nat) : Prop := s.lockOwner p = none ∨ s.lockOwner p = some who

/-- The fields that the completion of an SA-manager command of a core or the PF writes. -/
def samFields (who : Nat) : List FKey := [F.SAM_CMD_RESULT_STATUS who, F.SAM_CMD_RESULT_OP who, F.SAM_CMD_RESULT_RUNNING who]

/-- The SA manager takes a command of `who` at once: no control-plane reset, no roll due, a store within its size, no command of
the window running and no ROLL_NOW that waits (R218, R220, R229, R408). -/
def SamReady (s : State) (who : Nat) : Prop :=
  s.pwr.cpReset = false ∧ (∀ k, s.rollDue k = false) ∧ s.sam.onDie.length ≤ s.storeSize ∧ s.rollNowWaits = false ∧
    s.samRunning who = false ∧ who ∉ s.sam.flr

/-- No command that waits for an SA could go on: none names `a`, and the SAs of the rest are neither on die nor FREE. -/
def OthersWait (s : State) (a : Nat) : Prop :=
  ∀ w ∈ s.sam.waits, w.sa ≠ a ∧ s.onDie w.sa = false ∧ (s.sa w.sa).state ≠ .free

/-- The twin lets a change of an entry be made, mirrored or not (R316). -/
def TwinAllows (s : State) (mirrored : Bool) : Prop := ∀ c ∈ s.twinBars mirrored ++ s.twinBusy mirrored, c.1 = false

/-- The completion of SA-manager command `op` of `who`, OK, with the parts of the state that it may change. -/
def SamOk (s t : State) (who op : Nat) (ps : List Part) : Prop :=
  t.get (F.SAM_CMD_RESULT_STATUS who) = 0 ∧ t.get (F.SAM_CMD_RESULT_OP who) = op ∧ Only (samFields who) ps s t

/-- The fields that the completion of a KEY command of a core or the PF writes. -/
def keyFields (who : Nat) : List FKey :=
  [F.KEY_CMD_RESULT_STATUS who, F.KEY_CMD_RESULT_OP who] ++ (List.range 12).map (fun i => F.KEY_RES_RES (who * 12 + i))

/-- The completion of KEY command `op` of `who` with its status and its result words, the others zero (R255, R256), and the
parts of the state that it may change. -/
def KeyDone (s t : State) (who op st : Nat) (res : List Nat) (ps : List Part) : Prop :=
  t.get (F.KEY_CMD_RESULT_STATUS who) = st ∧ t.get (F.KEY_CMD_RESULT_OP who) = op ∧
    (∀ i < 12, t.get (F.KEY_RES_RES (who * 12 + i)) = (res[i]?).getD 0) ∧ Only (keyFields who) ps s t

/-- The slot of a level that becomes `k`, every other slot as it was. -/
def SlotSet (s t : State) (level i : Nat) (k : KeySlot) : Prop :=
  t.slot level i = k ∧ (∀ l j, l < 3 → (l, j) ≠ (level, i) → t.slot l j = s.slot l j)

/-- The row that a message of the session brings, and the epoch that it is held against (R308, R321). -/
def sessionRow (s : State) (h : TwinHdr) : TwinMsg → Option (Instr × Nat)
  | .hello _ => none
  | .heartbeat st synced clap => some (.heartbeat h st synced clap, s.epoch)
  | .mirror r => some (.mirror h r, s.epoch)
  | .reserve a e => some (.reserve h a e, s.epoch)
  | .ack n => some (.ack h n, s.epoch)
  | .lease k e holder ms test => some (.lease h k e holder ms test, if k = .claim then s.epoch + 1 else s.epoch)
  | .role k => some (.role h k, s.epoch)
  | .sync r => some (.sync h r, s.epoch)
  | .dual st q tIn bs => some (.dual h st q tIn bs, s.epoch)
  | .notice src mask => some (.notice h src mask, s.epoch)

/-- An ACTIVE twin with a STANDBY peer and no Clapper fault sees the peer's output DRIVE: but for TEST, a collision (R312, R313). -/
def Meets (s : State) : Prop :=
  s.get F.TWN_STATUS_STATE = 4 ∧ s.peerStandby = true ∧ s.get F.TWN_STATUS_CLAPPER_FAULT = 0 ∧ s.get F.TWN_STATUS_CLAP_IN = 2

/-- A frame of the session that passes the checks of R308. -/
def Passes (s : State) (h : TwinHdr) (m : TwinMsg) (epoch : Nat) : Prop :=
  s.get F.TWN_STATUS_LINK_UP = 1 ∧ s.twinAuth h m = true ∧ h.epoch % 65536 = epoch % 65536

/-- The acknowledgement that leaves for the highest MSG_SEQ taken (R309). -/
def Acked (s t : State) (n : Nat) : Prop :=
  t.twn.rxSeq = n ∧ ∃ h f l, t.out = .twin h (.ack n) f :: l ∧ ∀ o ∈ s.out, o ∈ l

/-- The function `who` is reset: its ring sets, its locks and the mailboxes of its pairs (R330, R343). -/
def FunctionIsReset (who : Nat) (s t : State) : Prop :=
  (∀ r ∈ ringSetsOf who, t.get (F.HIF_RS_CTL_ENABLE r) = 0 ∧ t.get (F.HIF_TX_PROD_INDEX r) = 0 ∧ t.get (F.HIF_TX_CONS_INDEX r) = 0 ∧
      t.get (F.HIF_RX_PROD_INDEX r) = 0 ∧ t.get (F.HIF_CQ_PROD_INDEX r) = 0 ∧ t.ring r = {}) ∧
    (∀ p < 3, s.lockOwner p = some who → t.lockOwner p = none) ∧
    (∀ p < 8, s.get (F.CHM_PAIR_CFG_OWNER p) = who → (t.box (2 * p)).full = false ∧ (t.box (2 * p + 1)).full = false ∧
      t.notices p = [] ∧ t.get (F.CHM_MASK_MASK p) = 0 ∧ t.get (F.CHM_EVENT_EVENTS p) = 0)

/-- The fields of a requester's journal window that a completion writes. -/
def jnlFields (who : Nat) : List FKey := [F.JNL_CMD_RESULT_STATUS who, F.JNL_CMD_RESULT_OP who, F.JNL_CMD_RESULT_RUNNING who]

/-- A journal command has completed in its requester's window. -/
def JnlDone (t : State) (who op st : Nat) : Prop :=
  t.get (F.JNL_CMD_RESULT_STATUS who) = st ∧ t.get (F.JNL_CMD_RESULT_OP who) = op ∧ t.get (F.JNL_CMD_RESULT_RUNNING who) = 0

/-- The registers that a plan of the journal writes. -/
def planRegs : List Reg :=
  [.SWC_SNR_LOST, .JNL_DISCARDED, .JNL_EVENT, .JNL_PLAN_RATE, .JNL_PLAN_WEAR, .JNL_PLAN_HEALTH, .JNL_PLAN_MISC]

/-- The registers of a plan show its inputs and results. -/
def PlanShown (s t : State) (years : Nat) (i : PlanInputs) : Prop :=
  let p := planOf (s.get F.JNL_LIFE_RATED_PE) years (s.get F.JNL_CFG_ROLL_EVERY_MIN) s.elapsed
    (if s.jnl.planned then some s.jnl.rSnare else none) i
  t.get F.JNL_PLAN_RATE_R_SNARE = kbs p.rSnare ∧ t.get F.JNL_PLAN_RATE_R_REC = kbs p.rRec ∧
  t.get F.JNL_PLAN_WEAR_E_EFF = min p.eEff 0x3FFF ∧ t.get F.JNL_PLAN_WEAR_E_USED = min i.eUsed 0x3FFF ∧
  t.get F.JNL_PLAN_HEALTH_H = min i.h 255 ∧ t.get F.JNL_PLAN_HEALTH_H0 = min i.h0 255 ∧ t.get F.JNL_PLAN_MISC_WA = min i.wa 0xFFFF ∧
  t.get F.JNL_PLAN_HEALTH_GOOD_PERMILLE = min i.goodPermille 1023 ∧
  t.get F.JNL_PLAN_MISC_ROLL_EVERY = p.rollEvery ∧ (t.get F.JNL_EVENT_EVENTS).testBit 0 = true ∧
  (p.lifeEnd = true → (t.get F.JNL_EVENT_EVENTS).testBit 3 = true) ∧ t.jnl.rSnare = p.rSnare ∧ t.jnl.planned = true

/-- The registers that show how far the journal is durable and how far back it reaches. -/
def markRegs : List Reg := [.JNL_DURABLE_LO, .JNL_DURABLE_HI, .JNL_OLDEST_LO, .JNL_OLDEST_HI]

/-- One alarm of a monitored source asserts in a device that is awake and starts no sequence that would keep it. -/
def AlarmTaken (s : State) (src : Nat) : Prop :=
  src < 16 ∧ s.monitored src = true ∧ (isCondition src = false ∨ s.asserted src = false) ∧ s.tmp.onBattery = false ∧
  s.tmp.held = false ∧ s.pwr.state ≠ .hibernate ∧ s.pwr.goal ≠ some (.stop .hibernate)

/-- What LOG shows of an alarm: its count and value, the event, and an entry of kind 0 in the on-die log. -/
def AlarmShown (s t : State) (src value : Nat) : Prop :=
  t.get (F.TMP_SRC_COUNT_COUNT src) = min (s.get (F.TMP_SRC_COUNT_COUNT src) + 1) (2 ^ 32 - 1) ∧
  t.get (F.TMP_SRC_VALUE_VALUE src) = value % 2 ^ 32 ∧ (t.get F.TMP_EVENT_EVENTS).testBit src = true ∧
  (isCondition src = true → t.asserted src = true)

/-- The entry of an alarm stands in the log where its head was. -/
def EntryWritten (s t : State) (source kind mask value : Nat) : Prop :=
  t.get F.TMP_LOG_SEQ_NEXT_SEQ = (s.get F.TMP_LOG_SEQ_NEXT_SEQ + 1) % 2 ^ 32 ∧
  ∃ e, Tab.get t.tmp.log none (s.get F.TMP_LOG_INFO_HEAD) = some e ∧ e.source = source ∧ e.kind = kind ∧ e.mask = mask ∧
    e.value = value ∧ e.seq = s.get F.TMP_LOG_SEQ_NEXT_SEQ ∧ e.sec = s.nowSec ∧ e.ns = s.nowSubNs

/-- The registers that a log entry and an alarm without further response write. -/
def logRegs : List Reg := [.SWC_SNR_LOST, .JNL_DISCARDED, .TMP_EVENT, .TMP_LOG_INFO, .TMP_LOG_SEQ]

/-- The device has entered a reset of a cause: everything that the battery, AON and flash do not hold is at its reset value. -/
def DeviceWasReset (s t : State) (cause : Nat) : Prop :=
  t.get F.PWR_STATUS_RESET_CAUSE = cause ∧
  (∀ k, k ∉ keptFields → k.reg ∉ [Reg.PWR_STATUS, .KEY_STATUS, .FUS_STATUS, .DRM_ENG_STATUS] → t.get k = k.reset) ∧
  (∀ k ∈ keptFields, k ≠ F.TMP_STATUS_ASSERTED → t.get k = s.get k) ∧
  (∀ e, e < enginesPresent s.fus.variant → t.get (F.DRM_ENG_STATUS_STATE e) = 1) ∧
  t.irq = [] ∧ t.tim = {} ∧ t.cnt = {} ∧ t.pel = {} ∧ t.prt = {} ∧ t.flx = {} ∧ t.tbl = {} ∧ t.buf = {} ∧ t.sch = {} ∧ t.pool = {} ∧
  t.twn = {} ∧ t.chm = {} ∧ t.tab = {} ∧ t.sam = { seed0 := s.free, seed1 := s.free + 1 } ∧ t.key.root = none ∧ t.key.group = [] ∧ t.key.cak = [] ∧
  t.fus.loaded = s.fusesLoad ∧ t.fus.words = s.fus.words ∧
  t.tmp.log = s.tmp.log ∧ t.tmp.bat = s.tmp.bat ∧ t.tmp.batMask = s.tmp.batMask ∧ t.tmp.held = false ∧
  t.jnl.recs = s.jnl.recs.filter (fun r => r.durable) ∧ t.jnl.staged = 0 ∧
  t.pwr.state = .startUp ∧ t.pwr.goal = some .boot ∧ t.pwr.on = [] ∧ t.pwr.token = none ∧ t.pwr.booted = false ∧
  t.pending = s.pending

/-- The header of the boot flash names a slot: its CRC fails, which names slot A, or it is whole and names it (R410, R411). -/
def HeaderNames (h : Bytes) (slotB : Bool) : Prop :=
  let crcOk := 11 ≤ h.length ∧ beNat ((h.drop 7).take 4) = crc32c (h.take 7)
  (¬ crcOk ∧ slotB = false) ∨ (crcOk ∧ h.take 4 = [0x47, 0x42, 0x4F, 0x54] ∧ h.getD 4 0 = (if slotB then 1 else 0))

/-- A PWR command has completed. -/
def PwrDone (t : State) (op st : Nat) : Prop := t.get F.PWR_CMD_RESULT_STATUS = st ∧ t.get F.PWR_CMD_RESULT_OP = op

/-- The fields that a completion of a PWR command writes. -/
def pwrFields : List FKey := [F.PWR_CMD_RESULT_STATUS, F.PWR_CMD_RESULT_OP, F.PWR_CMD_RESULT_RUNNING]

end Sys2Proof.Machine
end

