-- ==== Sys2Proof/WellFormed.lean ====
section
/-! DEFINITION. Well-formed commands: operands within the numbers that the manual gives them (R63, R99, R125, R136, R211,
R248, R330, R436). -/

namespace Sys2Proof

/-- A requester (R125). -/
def requesterOk (who : Nat) : Bool := decide (who < 13)

/-- A channel (R63). -/
def channelOk (ch : Nat) : Bool := decide (ch < 192)

/-- A queue (R136). -/
def queueOk (q : Nat) : Bool := decide (q < 1568)

/-- An engine (R1). -/
def engineOk (e : Nat) : Bool := decide (e < 16)

/-- A FlexE group, and an instance (R99). -/
def groupOk (g : Nat) : Bool := decide (g < 4)

def instanceOk (i : Nat) : Bool := decide (i < 32)

/-- A table partition (R127). -/
def partOk (p : Nat) : Bool := decide (p < 3)

/-- An SA and an SC (R211). -/
def saOk (a : Nat) : Bool := decide (a < 131072)

def scOk (k : Nat) : Bool := decide (k < 65536)

/-- A Chime pair (R338). -/
def pairOk (p : Nat) : Bool := decide (p < 8)

/-- A ring set by its element: the PF's, the VFs' and the cores' (R332). -/
def ringOk (r : Nat) : Bool := decide (r < 28)

/-- A tamper source (R376). -/
def sourceOk (src : Nat) : Bool := decide (src < 16)

/-- An offset of BAR0 with the bytes of an access (R328, R437). -/
def bar0Ok (who off size : Nat) : Bool :=
  decide (off + size ≤ (if 5 ≤ who ∧ who ≤ 12 then 0x40000 else 0x2000000))

/-- A place of BAR2 with the bytes of an access, its byte `x` named as offset 2^32 + `x` (R328, R345; log entry 93). -/
def bar2Ok (who off size : Nat) : Bool :=
  decide (2 ^ 32 ≤ off) &&
    decide (off + size ≤ 2 ^ 32 + (if 5 ≤ who ∧ who ≤ 12 then 0x100000 else if who = 4 then 0x1000000 else 0))

/-- A place at which an access of some bytes may stand. -/
def offsetOk (who off size : Nat) : Bool := bar0Ok who off size || bar2Ok who off size

/-- A command whose operands are within their numbers. -/
def Instr.wellFormed : Instr → Bool
  | .registerWrite who off size _ _ => requesterOk who && (size = 4 || size = 8) && offsetOk who off size
  | .subwordWrite who off size => requesterOk who && (size = 1 || size = 2) && offsetOk who off size
  | .unmapped who off acc =>
    requesterOk who && (acc.size = 1 || acc.size = 2 || acc.size = 4 || acc.size = 8) && offsetOk who off acc.size
  | .load who | .armNow who _ | .armAt who | .disarm who | .clearShadow who | .advanceFloor who => requesterOk who
  | .verificationDone _ | .timedStrike | .drainComplete | .dataPlaneStart | .powerSequenceSlot => true
  | .lossConditionDetected ch kind | .lossConditionCleared ch kind => channelOk ch && decide (kind < 4)
  | .linkDown ch | .linkUp ch _ _ | .fecDegrade ch _ | .lpiEnter ch | .lpiExit ch | .lpiWakeDone ch => channelOk ch
  | .serdesRefLost grp => groupOk grp
  | .frameReceived ch f => channelOk ch && decide (f.qns < 4)
  | .pauseRepeat ch | .pauseExpiry ch => channelOk ch
  | .pauseReceived ch quanta => channelOk ch && decide (quanta < 65536)
  | .schedulerMatch => true
  | .dispatch q | .holdTimerExpiry q => queueOk q
  | .chunkCommit port => decide (port < 17)
  | .engineFault e _ | .restoreTestsDone e _ | .engineGate e => engineOk e
  | .fence who e | .restore who e => requesterOk who && engineOk e
  | .overheadBlockReceived inst b => instanceOk inst && decide (b.phase < 20461)
  | .overheadFrameReceived inst _ => instanceOk inst
  | .groupDown g | .groupUp g | .txSwapped g | .calSwStall g => groupOk g
  | .cancel who g | .retry who g => requesterOk who && groupOk g
  | .secondsRollover | .lpmNodeReturn | .learnEventApply | .brushVisit | .snareRecordWrite => true
  | .macInsert who | .macDelete who | .macDump who | .lpmAdd who | .lpmDel who | .lpmDump who => requesterOk who
  | .tblLockRead who part | .release who part | .renew who part => requesterOk who && partOk part
  | .lockExpired part => partOk part
  | .snareRingResize who log2 => requesterOk who && decide (log2 < 32)
  | .scCreate who | .scModify who | .scDelete who | .scRead who | .saStage who | .saInstall who | .saActivate who
  | .saRetire who | .saDelete who | .saSetPn who | .saSetThreshold who | .saPin who | .saUnpin who | .saRead who
  | .rollArm who | .rollNow who | .rollDisarm who | .samEvqPop who => requesterOk who
  | .rollTimeReached sc => scOk sc
  | .retireAtReached sa | .coldFetchDone sa _ => saOk sa
  | .challenge who | .domainImport who _ | .groupDerive who | .cakDerive who | .keyImport who | .keyExport who
  | .keyInvalidate who | .keyRead who | .mkaIcv who _ | .hybStart who | .hybRespond who _ | .hybFinish who _
  | .hybCancel who | .idGet who | .attest who => requesterOk who
  | .sweepDone | .shaperRefill => true
  | .hybExpired session => decide (session < 64)
  | .protShaperWrite who shaper _ val => requesterOk who && decide (shaper < 64) && decide (val < 2 ^ 32)
  | .gateEvent ch => channelOk ch
  | .gateEnWrite who ch _ => requesterOk who && channelOk ch
  | .timIncCommit who val => requesterOk who && decide (val < 2 ^ 32)
  | .step who _ | .timNowLatch who | .timTxtsPop who => requesterOk who
  | .refLost | .refLocked | .ppsOutPulse => true
  | .captureEdge input _ => decide (input < 3)
  | .timCapPop who fifo => requesterOk who && decide (fifo < 3)
  | .arm who t | .triggerDisarm who t => requesterOk who && decide (t < 2)
  | .triggerEdge t => decide (t < 2)
  | .ptpTxRequest req => channelOk req.channel && decide (req.cls < 8) && decide (req.action < 4)
  | .hello h _ _ | .heartbeat h _ _ _ | .mirror h _ | .reserve h _ _ | .ack h _ | .lease h _ _ _ _ _ | .role h _
  | .sync h _ | .dual h _ _ _ _ | .notice h _ _ => decide (h.node < 65536)
  | .twinRetransmit | .twinLinkDown | .helloTimer | .heartbeatTimer | .clapperInputChange _ | .takeover | .bulkPermit
  | .clapperFault | .clapperFaultClear | .seekTimeout | .leaseRenewTimer | .leaseLapsed | .revertHoldoffExpiry
  | .handoverGrant => true
  | .yield who | .take who | .testEnter who | .testExit who => requesterOk who
  | .vfFlr vf => decide (1 ≤ vf) && decide (vf ≤ 8)
  | .pfFlr | .pcieHotReset => true
  | .sendDescriptorFetch rs chain => ringOk rs && chain.descs.all (fun d => decide (d.length = 32))
  | .puntDelivery cls descs => decide (cls < 8) && descs.all (fun d => decide (d.length = 16))
  | .ringSetEnable who rs val => requesterOk who && decide (rs < 8) && decide (val < 2 ^ 32)
  | .dmaError rs | .ringIrqHoldoff rs => ringOk rs
  | .send who pair len _ tag => requesterOk who && pairOk pair && decide (len < 64) && decide (tag < 65536)
  | .fullWrite who pair | .pop who pair | .withdraw who pair | .chmNoticeRead who pair => requesterOk who && pairOk pair
  | .crossed pair => pairOk pair
  | .credit _ rest => decide (rest.length = 7)
  | .taborBurst | .taborTime | .taborLinkDown | .creditLost | .taborRefLost => true
  | .taborLinkUp lane => decide (lane < 4)
  | .format who | .read who _ | .flush who | .setLife who _ | .planNow who _ => requesterOk who
  | .journalMount _ _ | .journalFlushTimer | .journalPlan _ => true
  | .journalRecordAccept _ payload => decide (payload.length ≤ 16352)
  | .programDone _ _ _ _ _ | .eraseDone _ _ _ _ => true
  | .patrolRead _ _ _ level _ _ _ _ => decide (level < 16)
  | .tamperAssert alarms => alarms.all (fun a => sourceOk a.1)
  | .tamperClear src => sourceOk src
  | .soft who code => requesterOk who && decide (code < 256)
  | .releaseHold who => requesterOk who
  | .batteryOnly => true
  | .active who | .doze who | .standby who | .hibernate who | .dpReset who | .cpReset who | .deviceReset who
  | .avsPlan who _ | .recover who _ => requesterOk who
  | .dataPlaneResetEnd | .controlPlaneResetEnd | .resetN | .powerOn _ | .railFault _ | .boot _ | .wdog | .avsPlanTimer _
  | .lowMargin => true
  | .wake cause => decide (cause < 4)
  | .kick who timeout => requesterOk who && decide (timeout < 65536)
  | .dbgTokenWrite who _ | .blow who => requesterOk who
  | .cntProgSelWrite who n val => requesterOk who && decide (n < 512) && decide (val < 2 ^ 32)
  | .rollLatch | .rollDumpWritten => true
  | .cntSamplePop who => requesterOk who
  | .pcieLinkUp gen width => decide (1 ≤ gen) && decide (gen ≤ 5) && decide (width ≤ 2)

/-- The requester of a command, and none of an event of the device (R125). -/
def Instr.requester : Instr → Option Nat
  | .registerWrite who _ _ _ _ | .subwordWrite who _ _ | .unmapped who _ _ | .load who | .armNow who _ | .armAt who
    | .disarm who | .clearShadow who | .advanceFloor who | .fence who _ | .restore who _ | .cancel who _
    | .retry who _ | .macInsert who | .macDelete who | .macDump who | .lpmAdd who | .lpmDel who | .lpmDump who
    | .tblLockRead who _ | .release who _ | .renew who _ | .snareRingResize who _ | .scCreate who | .scModify who
    | .scDelete who | .scRead who | .saStage who | .saInstall who | .saActivate who | .saRetire who | .saDelete who
    | .saSetPn who | .saSetThreshold who | .saPin who | .saUnpin who | .saRead who | .rollArm who | .rollNow who
    | .rollDisarm who | .samEvqPop who | .challenge who | .domainImport who _ | .groupDerive who | .cakDerive who
    | .keyImport who | .keyExport who | .keyInvalidate who | .keyRead who | .mkaIcv who _ | .hybStart who
    | .hybRespond who _ | .hybFinish who _ | .hybCancel who | .idGet who | .attest who | .protShaperWrite who _ _ _
    | .gateEnWrite who _ _ | .timIncCommit who _ | .step who _ | .timNowLatch who | .timCapPop who _
    | .timTxtsPop who | .arm who _ | .triggerDisarm who _ | .yield who | .take who | .testEnter who | .testExit who
    | .ringSetEnable who _ _ | .send who _ _ _ _ | .fullWrite who _ | .pop who _ | .withdraw who _
    | .chmNoticeRead who _ | .format who | .read who _ | .flush who | .setLife who _ | .planNow who _ | .soft who _
    | .releaseHold who | .active who | .doze who | .standby who | .hibernate who | .dpReset who | .cpReset who
    | .deviceReset who | .avsPlan who _ | .recover who _ | .kick who _ | .dbgTokenWrite who _
    | .cntProgSelWrite who _ _ | .cntSamplePop who | .blow who => some who
  | .verificationDone _ | .timedStrike | .drainComplete | .dataPlaneStart | .powerSequenceSlot
    | .lossConditionDetected _ _ | .lossConditionCleared _ _ | .linkDown _ | .linkUp _ _ _ | .serdesRefLost _
    | .fecDegrade _ _ | .lpiEnter _ | .lpiExit _ | .lpiWakeDone _ | .frameReceived _ _ | .pauseRepeat _
    | .pauseReceived _ _ | .pauseExpiry _ | .schedulerMatch | .dispatch _ | .chunkCommit _ | .engineFault _ _
    | .restoreTestsDone _ _ | .engineGate _ | .holdTimerExpiry _ | .overheadBlockReceived _ _
    | .overheadFrameReceived _ _ | .groupDown _ | .groupUp _ | .txSwapped _ | .calSwStall _ | .secondsRollover
    | .lpmNodeReturn | .lockExpired _ | .learnEventApply | .brushVisit | .snareRecordWrite | .rollTimeReached _
    | .retireAtReached _ | .coldFetchDone _ _ | .sweepDone | .hybExpired _ | .shaperRefill | .gateEvent _
    | .refLost | .refLocked | .ppsOutPulse | .captureEdge _ _ | .triggerEdge _ | .ptpTxRequest _ | .hello _ _ _
    | .heartbeat _ _ _ _ | .mirror _ _ | .reserve _ _ _ | .ack _ _ | .lease _ _ _ _ _ _ | .role _ _ | .sync _ _
    | .dual _ _ _ _ _ | .notice _ _ _ | .twinRetransmit | .twinLinkDown | .helloTimer | .heartbeatTimer
    | .clapperInputChange _ | .takeover | .bulkPermit | .clapperFault | .clapperFaultClear | .seekTimeout
    | .leaseRenewTimer | .leaseLapsed | .revertHoldoffExpiry | .handoverGrant | .vfFlr _ | .pfFlr | .pcieHotReset
    | .sendDescriptorFetch _ _ | .puntDelivery _ _ | .dmaError _ | .ringIrqHoldoff _ | .crossed _ | .credit _ _
    | .taborBurst | .taborTime | .taborLinkUp _ | .taborLinkDown | .creditLost | .taborRefLost | .journalMount _ _
    | .journalRecordAccept _ _ | .journalFlushTimer | .programDone _ _ _ _ _ | .patrolRead _ _ _ _ _ _ _ _
    | .journalPlan _ | .tamperAssert _ | .tamperClear _ | .batteryOnly | .dataPlaneResetEnd | .controlPlaneResetEnd
    | .wake _ | .resetN | .powerOn _ | .railFault _ | .boot _ | .wdog | .avsPlanTimer _ | .lowMargin | .rollLatch
    | .rollDumpWritten | .pcieLinkUp _ _ | .eraseDone _ _ _ _ => none

end Sys2Proof
end

