-- ==== Sys2Proof/Certificates/Slice0/Obligations.lean ====
section
/-! DEFINITION. The statements of this model. -/

open Sys2Proof Sys2Proof.Machine

/-- A step with a command at the front of the queue is that command on the state with the queue's rest (log entry 3:
the order of the queue is the model's). -/
def Obligations.StepRunsFrontCommand : Prop :=
  ∀ (s : State) (c : Instr) (rest : List Instr), s.pending = c :: rest → step s = exec c { s with pending := rest }

/-- The completion of every form: R1 to R472 give each row of the table an effect, and none of them ends the machine.
Every well-formed command answers a next state from every state, with no condition on the state (well-formedness:
requesters, element numbers and offsets within the numbers of R63, R125, R211, R328, R436); a register access of no
requester or outside every BAR is a fault (log entries 5, 93). What each form does is said by the other statements. -/
def Obligations.WellFormedCommandsComplete : Prop :=
  (∀ (c : Instr) (s : State), c.wellFormed = true → ∃ t : State, exec c s = .next t) ∧
  (∀ (who off size : Nat) (val : BitVec 64) (dma : Bytes) (write : Bool) (s : State), 13 ≤ who →
    exec (.registerWrite who off size val dma) s = .fault .operandRange ∧ exec (.subwordWrite who off size) s = .fault .operandRange ∧
    exec (.unmapped who off ⟨size, write⟩) s = .fault .operandRange)

/-- R46: a LOAD of a core or the PF outside a control-plane reset is rejected with BAD_ARGUMENT before any side effect
if the length is 0 or above 8,388,608 or the address is no multiple of 4,096, and else takes an EMPTY Shadow bank to
LOADING. -/
def Obligations.LoadStartsOrIsRejected : Prop :=
  ∀ (who : Nat) (s : State), who ≤ 4 → s.pwr.cpReset = false →
    let bad := s.get F.PEL_LOAD_LEN_LEN = 0 ∨ 8388608 < s.get F.PEL_LOAD_LEN_LEN ∨ s.loadAddr % 4096 ≠ 0
    (bad → ∃ t : State, exec (.load who) s = .next t ∧ t.get F.PEL_RESULT_STATUS = 2 ∧ t.get F.PEL_RESULT_OP = 1 ∧
      Only [F.PEL_RESULT_STATUS, F.PEL_RESULT_OP, F.PEL_RESULT_FAIL_STEP, F.PEL_RESULT_FAIL_SECTION, F.PEL_EVENT_DONE] [.irq, .out] s t) ∧
    (¬ bad → s.get F.PEL_STATUS_SHADOW = 0 → ∃ t : State, exec (.load who) s = .next t ∧ t.get F.PEL_STATUS_SHADOW = 1 ∧
      t.pel = { s.pel with loadAddr := s.loadAddr, loadLen := s.get F.PEL_LOAD_LEN_LEN } ∧ Only [F.PEL_STATUS_SHADOW] [.pel] s t)

/-- R47 to R49, R28, R45: the end of a verification takes LOADING to VERIFIED or, for a failure of any step but 4 (a
signature failure, which also raises its alarm), to EMPTY with the failed step and section; ARM_AT, DISARM,
CLEAR_SHADOW and ADVANCE_FLOOR do what the state table gives them, and a drain ends in EMPTY. The order of checks
inside a step is log entry 20, coinciding commands are log entry 22. -/
def Obligations.VerificationAndBankCommands : Prop :=
  (∀ (copy : PealCopy) (s : State), let img := imageOf copy
    s.get F.PEL_STATUS_SHADOW = 1 →
    ∃ t : State, exec (.verificationDone copy) s = .next t ∧
      ((s.verify img).status = .ok → t.get F.PEL_STATUS_SHADOW = 2 ∧
        t.get F.PEL_RESULT_STATUS = 0 ∧ t.get F.PEL_RESULT_OP = 1 ∧ t.pel = { s.pel with shadow := some img } ∧
        Only (F.PEL_STATUS_SHADOW :: pelFields) [.pel, .irq, .out] s t) ∧
      ((s.verify img).status ≠ .ok → (s.verify img).step ≠ 4 →
        t.get F.PEL_STATUS_SHADOW = 0 ∧ t.get F.PEL_RESULT_STATUS = (s.verify img).status.code ∧ t.get F.PEL_RESULT_OP = 1 ∧
        t.get F.PEL_RESULT_FAIL_STEP = (s.verify img).step ∧ t.get F.PEL_RESULT_FAIL_SECTION = (s.verify img).sec ∧
        t.pel = { s.pel with shadow := none } ∧ Only (F.PEL_STATUS_SHADOW :: pelFields) [.pel, .irq, .out] s t)) ∧
  (∀ (who : Nat) (s : State), who ≤ 4 → s.pwr.cpReset = false →
    (s.get F.PEL_STATUS_SHADOW = 2 → s.roleBarred = false → s.get F.PEL_STRIKE_NS_NS ≤ 999999999 →
      ∃ t : State, exec (.armAt who) s = .next t ∧ t.get F.PEL_STATUS_SHADOW = 3 ∧
        t.pel = { s.pel with armAt := ((s.get F.PEL_STRIKE_SEC_LO_SEC + s.get F.PEL_STRIKE_SEC_HI_SEC * 2 ^ 32) * 1000000000 +
          s.get F.PEL_STRIKE_NS_NS) } ∧ Only [F.PEL_STATUS_SHADOW] [.pel] s t) ∧
    (s.get F.PEL_STATUS_SHADOW = 3 → s.nowNs < s.pel.armAt →
      ∃ t : State, exec (.disarm who) s = .next t ∧ t.get F.PEL_STATUS_SHADOW = 2 ∧ t.get F.PEL_RESULT_OP = 3 ∧
        t.get F.PEL_RESULT_STATUS = 5 ∧ Only (F.PEL_STATUS_SHADOW :: pelFields) [.irq, .out] s t) ∧
    (s.get F.PEL_STATUS_SHADOW = 2 →
      ∃ t : State, exec (.clearShadow who) s = .next t ∧ t.get F.PEL_STATUS_SHADOW = 0 ∧ t.pel = { s.pel with shadow := none } ∧
        t.get F.PEL_RESULT_OP = 5 ∧ t.get F.PEL_RESULT_STATUS = 0 ∧
        Only (F.PEL_STATUS_SHADOW :: pelFields) [.pel, .irq, .out] s t) ∧
    (∀ g, s.pel.active = some g → s.fus.floor < g.svn →
      ∃ t : State, exec (.advanceFloor who) s = .next t ∧ t.fus = { s.fus with floor := g.svn } ∧ t.get F.FUS_STATUS_PENDING = 1 ∧
        t.get F.PEL_RESULT_OP = 6 ∧ t.get F.PEL_RESULT_STATUS = 0 ∧
        Only (F.FUS_STATUS_PENDING :: pelFields) [.fus, .irq, .out] s t) ∧
    (∀ g, s.pel.active = some g → g.svn ≤ s.fus.floor →
      ∃ t : State, exec (.advanceFloor who) s = .next t ∧ t.get F.PEL_RESULT_OP = 6 ∧ t.get F.PEL_RESULT_STATUS = 1 ∧
        Only pelFields [.irq, .out] s t) ∧
    (s.get F.PEL_STATUS_SHADOW = 4 → s.oldFrames = false →
      ∃ t : State, exec .drainComplete s = .next t ∧ t.get F.PEL_STATUS_SHADOW = 0 ∧ t.pel = { s.pel with old := none } ∧
        Only [F.PEL_STATUS_SHADOW] [.pel] s t))

/-- R49, R52, R53: ARM_NOW on a VERIFIED bank and the Strike time of an ARMED one exchange the banks: the image
becomes Active, the old one drains, BANK toggles, STRIKE_COUNT increments and the command completes OK; keys, SAs, SCs
and fuses stay. With no tamper step pending and images whose REG_INIT rows are allowed (log entries 22, 23). -/
def Obligations.StrikeExchangesTheBanks : Prop :=
  ∀ (who : Nat) (g : Image) (s : State), who ≤ 4 → s.pel.shadow = some g → (∀ r ∈ imgRegInit g, s.regInitOk g (imgRegInit g) r = true) → s.tmp.pend = 0 →
    (s.pwr.cpReset = false → s.get F.PEL_STATUS_SHADOW = 2 → s.roleBarred = false →
      ∃ t : State, exec (.armNow who false) s = .next t ∧ Struck g 2 s t) ∧
    (s.get F.PEL_STATUS_SHADOW = 3 → s.pel.armAt ≤ s.nowNs → s.pwr.dpReset = false →
      ∃ t : State, exec .timedStrike s = .next t ∧ Struck g 3 s t)

/-- R15, R438, R440, R442: a write of one word to a register that neither starts an operation nor has a rule of its
own beyond its fields stores each field as its access code says, and changes nothing but that register element and
interrupt lines. An aligned 8-byte write is the write of the low word and then that of the high word. Which registers
those are is listed in operationRegs and furtherRegs (log entries 12 to 15). -/
def Obligations.RegisterWriteStoresItsFields : Prop :=
  (∀ (who off : Nat) (val : BitVec 64) (dma : Bytes) (s : State) (p : Place), Reaches who off s p →
    p.row.reg ∉ operationRegs → p.row.reg ∉ furtherRegs → s.forbids who p (val.toNat % 2 ^ 32) = false →
    ∃ t : State, exec (.registerWrite who off 4 val dma) s = .next t ∧
      (∀ f ∈ p.row.fields, t.get ⟨p.row.reg, p.elem, f.lo⟩ = writtenField s p (val.toNat % 2 ^ 32) f) ∧
      OnlyWhere (fun k => k.reg = p.row.reg ∧ k.elem = p.elem) [.irq, .out] s t) ∧
  (∀ (who off : Nat) (val : BitVec 64) (dma : Bytes) (s t : State), who < 13 → off % 8 = 0 → off + 8 ≤ bar0Bytes who →
    exec (.registerWrite who off 4 (BitVec.ofNat 64 (val.toNat % 2 ^ 32)) dma) s = .next t →
    exec (.registerWrite who off 8 val dma) s =
      exec (.registerWrite who (off + 4) 4 (BitVec.ofNat 64 (val.toNat / 2 ^ 32)) dma) t)

/-- R9: a register of an absent unit reads as zero, and a write to it, whole or of a part of a word, changes nothing
at all, flags included. -/
def Obligations.AbsentUnitRegisters : Prop :=
  ∀ (who off : Nat) (val : BitVec 64) (dma : Bytes) (s : State) (p : Place), who < 13 → off % 4 = 0 → off + 4 ≤ bar0Bytes who →
    targetOf who off = .reg p → unitAbsent s.fus.variant p = true →
    s.readWord who off = 0 ∧ exec (.registerWrite who off 4 val dma) s = .next s ∧
    (∀ size b, size = 1 ∨ size = 2 → b % size = 0 → off ≤ b → b + size ≤ off + 4 → exec (.subwordWrite who b size) s = .next s)

/-- R9, R329, R345, R438, R440 to R442: an unmapped access posts UNMAPPED and latches offset, requester and direction,
and a read returns 0; the row at a register is a read, which clears RC fields (R15, log entry 93); a sub-word write to
a register is discarded with SUBWORD_WRITE posted; a write that a rule forbids is ignored whole with WRITE_IGNORED of
the block, or of the VF. At a place of an absent unit nothing is reported, and BAR2 is a read-only window of counters
(log entry 93). Which requester and which width name no access is log entries 5, 11 and 16; which values are forbidden
beyond R440 is log entry 13. -/
def Obligations.AccessesThatAreTurnedAway : Prop :=
  (∀ (who off : Nat) (s : State), who < 13 →
    (s.absentAt who off = false →
      (∀ (size : Nat) (write : Bool), size ∈ [1, 2, 4, 8] → off + size ≤ bar0Bytes who → NoRegister who off size →
        ∃ t : State, exec (.unmapped who off ⟨size, write⟩) s = .next t ∧ Unmapped who off write s t) ∧
      (∀ (size : Nat) (val : BitVec 64) (dma : Bytes), off + size ≤ bar0Bytes who → off % size ≠ 0 →
        (size = 4 ∨ size = 8 → ∃ t : State, exec (.registerWrite who off size val dma) s = .next t ∧ Unmapped who off true s t) ∧
        (size = 2 → ∃ t : State, exec (.subwordWrite who off size) s = .next t ∧ Unmapped who off true s t)) ∧
      (∀ (val : BitVec 64) (dma : Bytes), off + 4 ≤ bar0Bytes who → off % 4 = 0 → targetOf who off = .unmapped →
        ∃ t : State, exec (.registerWrite who off 4 val dma) s = .next t ∧ Unmapped who off true s t)) ∧
    (∀ size : Nat, s.absentAt who off = true → size ∈ [1, 2, 4, 8] → off + size ≤ bar0Bytes who → NoRegister who off size →
      exec (.unmapped who off ⟨size, true⟩) s = .next s ∧ exec (.unmapped who off ⟨size, false⟩) s = .next (s.emit (.read who 0))) ∧
    (off + 8 ≤ bar2Bytes who →
      (∀ (size : Nat) (val : BitVec 64) (dma : Bytes), size = 4 ∨ size = 8 →
        exec (.registerWrite who (bar2 + off) size val dma) s = .next s) ∧
      exec (.unmapped who (bar2 + off) ⟨8, true⟩) s = .next s ∧
      (off % 8 = 0 → exec (.unmapped who (bar2 + off) ⟨8, false⟩) s =
        .next (s.emit (.read who (if isVf who then s.vfCounterWord who off else s.counterWord off))))) ∧
    (∀ p, off % 4 = 0 → off + 4 ≤ bar0Bytes who → targetOf who off = .reg p → exec (.unmapped who off ⟨4, true⟩) s = .next s ∧
      ∃ t : State, exec (.unmapped who off ⟨4, false⟩) s = .next t ∧ t.out.head? = some (.read who (s.readWord who off % 2 ^ 32)) ∧
        (s.readable who p = true → p.row.reg ∉ [.TIM_NOW_SEC_LO, .TBL_LOCK, .SAM_EVQ_HEAD, .CHM_NOTICE] →
          ∀ f ∈ p.row.fields, f.acc = .rc → t.get ⟨p.row.reg, p.elem, f.lo⟩ = 0))) ∧
  (∀ (who off size : Nat) (s : State) (p : Place), who < 13 → size = 1 ∨ size = 2 → off % size = 0 → off + size ≤ bar0Bytes who →
    targetOf who (off / 4 * 4) = .reg p →
    unitAbsent s.fus.variant p = false → p.row.reg ≠ .CHM_OUT_DATA → p.row.reg ≠ .CHM_OUT_SEND →
    ∃ t : State, exec (.subwordWrite who off size) s = .next t ∧ t.get F.TOP_EVENT_EVENTS = setBit (s.get F.TOP_EVENT_EVENTS) 1 ∧
      Only [F.TOP_EVENT_EVENTS] [.irq, .out] s t) ∧
  (∀ (who off : Nat) (val : BitVec 64) (dma : Bytes) (s : State) (p : Place), Reaches who off s p →
    p.row.reg ∉ operationRegs → s.forbids who p (val.toNat % 2 ^ 32) = true →
    ∃ t : State, exec (.registerWrite who off 4 val dma) s = .next t ∧
      (isVf who = false → t.get (blockFlag p.row.block) = 1 ∧ Only [blockFlag p.row.block] [] s t) ∧
      (isVf who = true → t.get (F.VF_STATUS_WRITE_IGNORED (who - 5)) = 1 ∧ Only [F.VF_STATUS_WRITE_IGNORED (who - 5)] [] s t))

/-- R73 to R76: loss conditions are kept per lane and FAULT shows them; LINK_DOWN clears LINK_UP, posts DOWN and drops
every dispatched frame of the channel, LINK_UP sets it, posts UP, stores the measured delays and takes waiting queues
to NORMAL. When LINK_DOWN comes with a hold-off of 0 is log entry 26, the precedence of FAULT log entry 95. -/
def Obligations.LossesAndLinkState : Prop :=
  (∀ (l kind : Nat) (s : State),
    (s.hasPort l = true → kind < 4 → kind ∉ s.losses l → s.get (F.PRT_EP_TIMERS_DOWN_HOLDOFF l) ≠ 0 →
      ∃ t : State, exec (.lossConditionDetected l kind) s = .next t ∧ t.losses l = s.losses l ++ [kind] ∧
        (∀ m, m ≠ l → t.losses m = s.losses m) ∧ t.prt = { s.prt with loss := t.prt.loss } ∧
        (kind = 1 → s.bound l = true → t.get (F.PRT_EP_EVENT_EVENTS l) = setBit (s.get (F.PRT_EP_EVENT_EVENTS l)) 5) ∧
        (s.bound l = true → t.get (F.PRT_EP_STATUS_FAULT l) = faultOf (t.losses l)) ∧
        Only [F.PRT_EP_STATUS_FAULT l, F.PRT_EP_EVENT_EVENTS l] [.prt, .irq, .out] s t) ∧
    (∃ t : State, exec (.lossConditionCleared l kind) s = .next t ∧ t.losses l = (s.losses l).filter (· ≠ kind) ∧
        (∀ m, m ≠ l → t.losses m = s.losses m) ∧ t.prt = { s.prt with loss := t.prt.loss } ∧
        (s.bound l = true → t.get (F.PRT_EP_STATUS_FAULT l) = faultOf (t.losses l)) ∧
        Only [F.PRT_EP_STATUS_FAULT l] [.prt] s t)) ∧
  (∀ (ch : Nat) (s : State), s.bound ch = true → ch < 64 →
    (s.losses ch ≠ [] → s.get (F.PRT_EP_STATUS_LINK_UP ch) = 1 →
      ∃ t : State, exec (.linkDown ch) s = .next t ∧ t.get (F.PRT_EP_STATUS_LINK_UP ch) = 0 ∧
        t.get (F.PRT_EP_EVENT_EVENTS ch) = setBit (s.get (F.PRT_EP_EVENT_EVENTS ch)) 0 ∧
        (∀ x ∈ t.pool.slots, x.ch ≠ ch) ∧ ch ∉ t.prt.waking ∧
        OnlyIn [.PRT_EP_STATUS, .PRT_EP_EVENT, .SWC_SNR_LOST, .SWC_CH_STATUS, .SWC_Q_STATUS, .DRM_ENG_STATUS, .SEQ_CH_DSN,
          .HIF_CQ_PROD, .CNT_EVENT, .CNT_PROG_SEL] [.irq, .cnt, .prt, .buf, .sch, .pool, .hif, .out, .free] s t) ∧
    (∀ rx tx, s.losses ch = [] → s.dataUp = true → s.unitOff (16 + ch / 4) = false → s.get (F.PRT_EP_STATUS_LINK_UP ch) = 0 →
      ∃ t : State, exec (.linkUp ch rx tx) s = .next t ∧ t.get (F.PRT_EP_STATUS_LINK_UP ch) = 1 ∧
        t.get (F.PRT_EP_EVENT_EVENTS ch) = setBit (s.get (F.PRT_EP_EVENT_EVENTS ch)) 1 ∧
        t.get (F.TIM_CH_RX_DLY_RX_DLY ch) = rx % 65536 ∧ t.get (F.TIM_CH_TX_DLY_TX_DLY ch) = tx % 65536 ∧
        (∀ k < 8, s.get (F.SWC_Q_STATUS_STATE (8 * ch + k)) = 2 ∨ s.get (F.SWC_Q_STATUS_STATE (8 * ch + k)) = 3 →
          t.get (F.SWC_Q_STATUS_STATE (8 * ch + k)) = 1) ∧
        OnlyIn [.PRT_EP_STATUS, .PRT_EP_EVENT, .SWC_Q_STATUS, .DRM_ENG_STATUS, .TIM_CH_RX_DLY, .TIM_CH_TX_DLY] [.irq, .out] s t))

/-- R70, R71, R73, R76, R405: entry to and exit from low-power idle, the end of the wake time, FEC degrade above its
limit, and the loss of a SerDes reference, which raises the loss conditions of the 16 lanes of its group and of no
other. Timer rows act where their condition is in force (log entry 4); the receiver's idle has no row (log entry 27).
-/
def Obligations.IdleFecAndSerdesReference : Prop :=
  (∀ (ch : Nat) (s : State),
    (s.get (F.PRT_EP_CFG_LPI_EN ch) = 1 → s.get (F.PRT_EP_STATUS_LINK_UP ch) = 1 → s.get (F.PRT_EP_STATUS_LPI_TX ch) = 0 →
      s.channelIdle ch = true → ∃ t : State, exec (.lpiEnter ch) s = .next t ∧ t.get (F.PRT_EP_STATUS_LPI_TX ch) = 1 ∧
        t.out = .lpi ch true :: s.out ∧ Only [F.PRT_EP_STATUS_LPI_TX ch] [.out] s t) ∧
    (s.get (F.PRT_EP_STATUS_LPI_TX ch) = 1 → s.channelIdle ch = false →
      ∃ t : State, exec (.lpiExit ch) s = .next t ∧ t.get (F.PRT_EP_STATUS_LPI_TX ch) = 0 ∧ t.out = .lpi ch false :: s.out ∧
        t.prt = { s.prt with waking := s.prt.waking ++ [ch] } ∧
        OnlyWhere (fun k => k = F.PRT_EP_STATUS_LPI_TX ch ∨ k.reg = .DRM_ENG_STATUS) [.prt, .out] s t) ∧
    (∃ t : State, exec (.lpiWakeDone ch) s = .next t ∧ t.prt = { s.prt with waking := s.prt.waking.filter (· ≠ ch) } ∧ Only [] [.prt] s t) ∧
    (∀ symbols, s.bound ch = true → ch < 64 → s.get (F.PRT_EP_TIMERS_SER_LIMIT ch) ≠ 0 →
      s.get (F.PRT_EP_TIMERS_SER_LIMIT ch) * 1000 < symbols → ∃ t : State, exec (.fecDegrade ch symbols) s = .next t ∧
        t.get (F.PRT_EP_EVENT_EVENTS ch) = setBit (s.get (F.PRT_EP_EVENT_EVENTS ch)) 3 ∧
        Only [F.PRT_EP_EVENT_EVENTS ch] [.irq, .out] s t)) ∧
  (∀ (grp : Nat) (s : State), grp < 4 → ∃ t : State, exec (.serdesRefLost grp) s = .next t ∧
    (∀ l, 16 * grp ≤ l → l < 16 * grp + 16 → s.hasPort l = true → 0 ∈ t.losses l ∧ 2 ∈ t.losses l) ∧
    (∀ l, l < 16 * grp ∨ 16 * grp + 16 ≤ l → t.losses l = s.losses l) ∧ t.pel = s.pel ∧
    OnlyIn [.PRT_EP_STATUS, .PRT_EP_EVENT, .FLX_GRP_STATUS, .FLX_GRP_EVENT, .FLX_INST_STATUS, .SWC_SNR_LOST, .SWC_CH_STATUS,
      .SWC_Q_STATUS, .DRM_ENG_STATUS, .SEQ_CH_DSN, .HIF_CQ_PROD, .CNT_EVENT, .CNT_PROG_SEL]
      [.irq, .cnt, .prt, .flx, .buf, .sch, .pool, .hif, .out, .free] s t)

/-- R66 to R68, R80, R90, R96, R139, R155, R422: a received frame counts on its channel, an undersized one goes no
further, a frame on a channel that is down counts as RX_LINK_DOWN only; PAUSE is sent again while XOFF lasts, a
received PAUSE stops and an expiry frees the channel; a queue whose hold ends is DOWN and empty. Where errors are
counted is log entry 28, PAUSE of 0 quanta log entry 40, timer rows log entry 4. -/
def Obligations.ReceivedFramesPausesAndHolds : Prop :=
  (∀ (ch : Nat) (f : RxFrame) (g : Image) (s : State), s.planeOn = true → s.pel.active = some g → imgBinds g ch = true → ch < 192 →
    (s.get (F.PRT_EP_STATUS_LINK_UP ch) = 1 → s.losses ch = [] →
      (clientOf g ch = none ∨ ∃ (gr : FlexGroup) (c : FlexClient), clientOf g ch = some (gr, c) ∧ c.transit = false ∧ s.takesClient gr ch = true ∧
        s.groupBad gr = false) →
      ∃ t : State, exec (.frameReceived ch f) s = .next t ∧ chCounter t ch .rxFrames = (chCounter s ch .rxFrames + 1) % 2 ^ 64 ∧
        chCounter t ch .rxOctets = (chCounter s ch .rxOctets + (f.bytes.length + 4)) % 2 ^ 64 ∧
        (f.bytes.length + 4 < 64 → chCounter t ch .rxUndersize = (chCounter s ch .rxUndersize + 1) % 2 ^ 64 ∧
          t.buf = s.buf) ∧
        OnlyIn [.PRT_EP_EVENT, .TBL_EVENT, .SWC_SNR_LOST, .SWC_CH_STATUS, .SCH_EVENT, .HIF_CQ_PROD, .CNT_EVENT, .CNT_PROG_SEL]
          [.irq, .cnt, .flx, .tbl, .buf, .sch, .sam, .hif, .out, .free] s t) ∧
    (s.get (F.PRT_EP_STATUS_LINK_UP ch) = 0 → clientOf g ch = none → f.fcsOk = true → f.fecOk = true →
      ∃ t : State, exec (.frameReceived ch f) s = .next t ∧ chCounter t ch .rxLinkDown = (chCounter s ch .rxLinkDown + 1) % 2 ^ 64 ∧
        (∀ c i, (c, i) ≠ (ch, ChCnt.rxLinkDown) → c < 192 → chCounter t c i = chCounter s c i) ∧ Only [] [.cnt] s t) ∧
    (∀ (gr : FlexGroup) (c : FlexClient) (out : FlexGroup), clientOf g ch = some (gr, c) →
      (s.takesClient gr ch = false → exec (.frameReceived ch f) s = .next s) ∧
      (s.takesClient gr ch = true → s.groupBad gr = false → c.transit = true → s.get (F.PRT_EP_STATUS_LINK_UP ch) = 1 →
        s.flexGroup c.txGroup = some out → s.sendsClient out ch = true →
        ∃ t : State, exec (.frameReceived ch f) s = .next t ∧
          t.out = .frame ch f.bytes (!(f.fcsOk && f.fecOk))
            (s.nowNs * 4 + f.qns % 4 + 4 * (fecRx g ch + s.clientDeskew g ch + 180 + fecTx g ch)) :: s.out ∧
          Only [] [.flx, .out] s t))) ∧
  (∀ (ch q quanta : Nat) (s : State),
    (s.get (F.SWC_CH_STATUS_XOFF_SENT ch) = 1 → s.get (F.SWC_CH_CFG_PAUSE_TX_EN ch) = 1 →
      ∃ t : State, exec (.pauseRepeat ch) s = .next t ∧ t.out = .pause ch 0xFFFF :: s.out ∧ Only [] [.out] s t) ∧
    (s.bound ch = true → ch < 64 → s.get (F.SWC_CH_CFG_PAUSE_RX_EN ch) = 1 →
      ∃ t : State, exec (.pauseReceived ch quanta) s = .next t ∧
        t.buf = { s.buf with paused := s.buf.paused.filter (· ≠ ch) ++ (if quanta = 0 then [] else [ch]) } ∧ Only [] [.buf] s t) ∧
    (∃ t : State, exec (.pauseExpiry ch) s = .next t ∧ t.buf = { s.buf with paused := s.buf.paused.filter (· ≠ ch) } ∧ Only [] [.buf] s t) ∧
    (s.get (F.SWC_Q_STATUS_STATE q) = 2 →
      ∃ t : State, exec (.holdTimerExpiry q) s = .next t ∧ t.get (F.SWC_Q_STATUS_STATE q) = 3 ∧ t.queue q = [] ∧
        (∀ r, r ≠ q → t.queue r = s.queue r) ∧
        OnlyWhere (fun k => k = F.SWC_Q_STATUS_STATE q ∨ k.reg ∈ [.SWC_SNR_LOST, .SWC_CH_STATUS, .HIF_CQ_PROD, .CNT_EVENT,
          .CNT_PROG_SEL]) [.irq, .cnt, .buf, .sch, .hif, .out, .free] s t))

/-- R134, R137, R138, R296, R422: a PTP message in clear for a bound channel, without launch time, enters the queue of
its channel and class at the tail with its cells taken and is counted. For the twin-free bank; cells are taken in the
order of log entry 39. -/
def Obligations.GeneratedMessagesAreQueued : Prop :=
  ∀ (r : PtpRequest) (s : State), s.bound r.channel = true → r.channel < 192 → r.cls < 8 → r.action = 1 → r.launch = none →
    s.twin? = none → lineSide r.channel = false ∨ s.get (F.CLS_CH_CFG_CLEAR_OK r.channel) = 1 →
    (let q := 8 * r.channel + r.cls
     s.qState q ≠ 0 → s.qState q ≠ 3 → s.withinMax q = true → s.belowMin q = false → s.belowAlpha q = true → 0 < s.sharedFree →
     ∃ (t : State) (f : Frame), exec (.ptpTxRequest r) s = .next t ∧ t.queue q = s.queue q ++ [f] ∧ f.bytes = r.message ∧
       f.len = r.message.length + 4 ∧ f.outCh = r.channel ∧ f.cls = r.cls ∧ f.action = .clear ∧ f.queuedAt = s.nowQns ∧
       f.cellsMin + f.cellsShared + f.cellsProg + f.cellsHead = ceilDiv f.len 256 ∧
       (∀ p, p ≠ q → t.queue p = s.queue p) ∧ qCounter t q .enqFrames = (qCounter s q .enqFrames + 1) % 2 ^ 64 ∧
       OnlyIn [.SWC_SNR_LOST, .SWC_CH_STATUS, .SCH_EVENT, .HIF_CQ_PROD, .CNT_EVENT, .CNT_PROG_SEL]
         [.irq, .cnt, .buf, .sam, .hif, .out, .free] s t)

/-- R33, R189, R193, R194, R224: a dispatched frame takes the next DSN of its channel, an engine and, to be protected,
the next PN of the current SA; chunks leave a channel in DSN order, the last one frees the tracking slot and puts the
frame on the wire. Timing inside the engines is log entry 45. -/
def Obligations.DispatchAndCommit : Prop :=
  (∀ (q e : Nat) (f : Frame) (rest : List Frame) (s : State), s.get F.TMP_STATUS_HOLD = 0 → q < 1536 → f.outCh = q / 8 →
    (∀ x ∈ s.pool.slots, x.ch = q / 8 → x.engine ≠ none ∨ x.dropped = true) → s.queue q = f :: rest → q ∈ s.buf.ready →
    (f.action ≠ .protect → s.twin? = none → s.inflightOpen f.outCh = true → s.bypassFrames < 256 →
      ∃ (t : State) (x : Slot), exec (.dispatch q) s = .next t ∧ Dispatched s t q f rest x ∧ x.engine = some 16 ∧ x.out = f.bytes ∧
        OnlyIn [.SEQ_CH_DSN, .CNT_EVENT, .CNT_PROG_SEL] [.irq, .cnt, .buf, .sch, .pool, .out] s t) ∧
    (∀ k a, f.action = .protect → f.sc = some k → f.secTag = none → s.twin? = none → s.inflightOpen f.outCh = true →
      s.chooseEngine f.cls = some e → (s.sc k).created = true → (s.sc k).enable = true → (s.sc k).rollMode = 0 →
      (s.sc k).twinTagged = false → (s.sc k).current = some a → s.saState a ≠ .orphaned → (s.sa a).exhausted = false →
      (s.sa a).nextPn ≤ suiteMax (s.sa a).suite → (s.sa a).nextPn ≤ (s.sa a).blockEnd →
      ∃ (t : State) (x : Slot), exec (.dispatch q) s = .next t ∧ Dispatched s t q f rest x ∧ x.engine = some e ∧ x.sa = some a ∧
        x.pn = (s.sa a).nextPn ∧ (t.sa a).nextPn = (s.sa a).nextPn + 1 ∧
        x.out = (sealFrame (s.sc k) (s.sa a) (s.sa a).nextPn [] f.bytes).1 ∧
        OnlyIn [.SEQ_CH_DSN, .SAM_EVENT, .SAM_EVQ_LOST, .CNT_EVENT, .CNT_PROG_SEL]
          [.irq, .cnt, .buf, .sch, .pool, .sam, .twn, .out] s t) ∧
    (∀ u, s.frameGate f = .go u → u.inflightOpen f.outCh = true → u.laneFor f = some e →
      ∃ (t : State) (x : Slot), exec (.dispatch q) s = .next t ∧ Dispatched s t q f rest x ∧ x.engine = some e ∧
        (∀ k a, f.action = .protect → f.sc = some k → f.secTag = none → (u.sc k).current = some a →
          x.pn = (u.sa a).nextPn ∧ x.sa = some a ∧ (t.sa a).nextPn = (u.sa a).nextPn + 1) ∧
        OnlyIn [.SWC_SNR_LOST, .SWC_CH_STATUS, .DRM_EVENT, .SEQ_CH_DSN, .SAM_EVENT, .SAM_EVQ_LOST, .TWN_EVENT, .TWN_STR_SEQ,
          .TWN_STR_LAST, .HIF_CQ_PROD, .CNT_EVENT, .CNT_PROG_SEL] [.irq, .cnt, .buf, .sch, .pool, .sam, .twn, .hif, .out, .free] s t)) ∧
  (∀ (p : Nat) (x : Slot) (s : State), s.pool.slots.find? (fun t => t.engine = some p) = some x → s.losses x.ch = [] →
    (x.dsn ≠ s.commitDsn x.ch → exec (.chunkCommit p) s = .next s) ∧
    (x.dsn = s.commitDsn x.ch → x.committed = 0 → 1 < x.chunks → x.opened = none → x.frame.ptp = none →
      s.get (F.SEQ_CH_PROT_TC_EN x.ch) = 0 → ∃ (t : State) (y : Slot), exec (.chunkCommit p) s = .next t ∧ y ∈ t.pool.slots ∧ y.ch = x.ch ∧
        y.dsn = x.dsn ∧ y.committed = 1 ∧ y.headGone = true ∧ y.out = x.out ∧ Only [] [.cnt, .pool] s t) ∧
    (x.dsn = s.commitDsn x.ch → 0 < x.committed → x.committed + 1 < x.chunks →
      ∃ t : State, exec (.chunkCommit p) s = .next t ∧
        t.pool = { s.pool with slots := s.pool.slots.map (fun y => if y.ch = x.ch ∧ y.dsn = x.dsn then { x with committed := x.committed + 1 } else y) } ∧
        Only [] [.pool] s t) ∧
    (x.dsn = s.commitDsn x.ch → 0 < x.committed → x.chunks ≤ x.committed + 1 →
      ∃ (t : State) (bs : Bytes) (bad : Bool), exec (.chunkCommit p) s = .next t ∧ .frame x.ch bs bad x.frame.td ∈ t.out ∧
        (bad = false → bs = x.out) ∧ (∀ y ∈ t.pool.slots, ¬ (y.ch = x.ch ∧ y.dsn = x.dsn)) ∧
        OnlyIn [.TBL_EVENT, .SWC_SNR_LOST, .SWC_CH_STATUS, .SEQ_CH_DSN, .SEQ_DUP_SMAX, .SEQ_DUP_STATUS, .SAM_EVENT, .SAM_EVQ_LOST,
          .TIM_EVENT, .HIF_CQ_PROD, .CNT_EVENT, .CNT_PROG_SEL]
          [.irq, .tim, .cnt, .flx, .tbl, .buf, .sch, .pool, .sam, .twn, .hif, .out, .free] s t))

/-- R142 to R144, R258 to R261: with nothing selected and nothing being sent, a match changes nothing beyond the
settled rounds; with one selection it sends that head and no other; it always completes. The rotation of pointers is
log entry 42. -/
def Obligations.MatchSendsTheEligibleHead : Prop :=
  ∀ (c i o : Nat) (p : Pick) (g : Image) (s : State), let u := s.settleAll
    ((∀ x < 20, ∀ k < 8, 16 ≤ x → u.internalHead x k = none) → u.buf.sending = [] →
      (u.selections = [] → exec .schedulerMatch s = .next u) ∧
      (u.selections = [(c, p, i)] → u.pel.active = some g → imgBinds g c = true → o ∈ bundleOf g c →
        o < 16 → c < 192 → p.cls < 8 → i < 20 →
        ∃ t : State, exec .schedulerMatch s = .next t ∧ t.buf.ready = u.buf.ready ++ [8 * c + p.cls] ∧
          (∀ q, q ≠ 8 * c + p.cls → t.queue q = u.queue q) ∧ (t.queue (8 * c + p.cls)).length = (u.queue (8 * c + p.cls)).length ∧
          Only [] [.buf, .sch] u t)) ∧
    (∃ t : State, exec .schedulerMatch s = .next t ∧
      OnlyIn [.TBL_EVENT, .SWC_SNR_LOST, .SWC_CH_STATUS, .SCH_EVENT, .HIF_CQ_PROD, .CNT_EVENT, .CNT_PROG_SEL]
        [.irq, .cnt, .tbl, .buf, .sch, .sam, .twn, .hif, .out, .free] s t)

/-- R199 to R204, R207: a corrected key error only counts; a faulty or fenced engine is FENCED, its keys are erased
and its frames go to other engines; the last engine in service is not fenced; RESTORE starts the tests, whose outcome
decides between IN_SERVICE and FAILED; an idle engine is gated in DOZE. The order of checks is log entry 47. -/
def Obligations.EnginesFenceAndReturn : Prop :=
  (∀ (who e : Nat) (s : State), s.get (F.DRM_ENG_STATUS_STATE e) = 1 → e < 16 →
    (∀ cause : EngineCause, cause ≠ .keyEccCorrected → ∃ t : State, exec (.engineFault e cause) s = .next t ∧ t.get (F.DRM_ENG_STATUS_STATE e) = 3 ∧
      t.get (F.DRM_ENG_FAULT_CAUSE e) = EngineCause.code' cause ∧ t.get (F.DRM_ENG_FAULT_NS_NS e) = s.now32 ∧
      Tab.get t.pool.keys [] e = [] ∧
      (∀ x ∈ t.pool.slots, x.engine ≠ some e) ∧ t.get F.DRM_EVENT_EVENTS % 2 = 1 ∧
      OnlyIn [.SWC_SNR_LOST, .DRM_EVENT, .DRM_ENG_STATUS, .DRM_ENG_FAULT, .DRM_ENG_FAULT_NS, .SEQ_CH_RECALL, .JNL_DISCARDED,
        .TMP_EVENT, .TMP_LOG_INFO, .TMP_LOG_SEQ] [.irq, .cnt, .buf, .pool, .jnl, .tmp, .out] s t) ∧
    (∃ t : State, exec (.engineFault e .keyEccCorrected) s = .next t ∧
      t.get (F.DRM_ENG_ECC_CORRECTED e) = min (s.get (F.DRM_ENG_ECC_CORRECTED e) + 1) (2 ^ 32 - 1) ∧
      Only [F.DRM_ENG_ECC_CORRECTED e] [] s t) ∧
    (who ≤ 4 → e < enginesPresent s.fus.variant → 1 < s.ungated.length → s.pool.testing = none →
      ∃ t : State, exec (.fence who e) s = .next t ∧ t.get (F.DRM_ENG_STATUS_STATE e) = 3 ∧ t.get (F.DRM_ENG_FAULT_CAUSE e) = 6 ∧
        Tab.get t.pool.keys [] e = [] ∧ (∀ x ∈ t.pool.slots, x.engine ≠ some e) ∧ t.get F.DRM_CMD_RESULT_OP = 1 ∧
        t.get F.DRM_CMD_RESULT_ENGINE = e ∧ t.get F.DRM_CMD_RESULT_STATUS = 0 ∧
        OnlyIn [.SWC_SNR_LOST, .DRM_CMD_RESULT, .DRM_EVENT, .DRM_ENG_STATUS, .DRM_ENG_FAULT, .DRM_ENG_FAULT_NS, .SEQ_CH_RECALL,
          .JNL_DISCARDED, .TMP_EVENT, .TMP_LOG_INFO, .TMP_LOG_SEQ] [.irq, .cnt, .buf, .pool, .jnl, .tmp, .out] s t) ∧
    (who ≤ 4 → e < enginesPresent s.fus.variant → s.ungated.length ≤ 1 →
      ∃ t : State, exec (.fence who e) s = .next t ∧ t.get F.DRM_CMD_RESULT_STATUS = 1 ∧ t.get F.DRM_CMD_RESULT_OP = 1 ∧
        t.get F.DRM_CMD_RESULT_ENGINE = e ∧
        Only [F.DRM_CMD_RESULT_STATUS, F.DRM_CMD_RESULT_OP, F.DRM_CMD_RESULT_ENGINE] [] s t)) ∧
  (∀ (who e : Nat) (s : State),
    (who ≤ 4 → e < enginesPresent s.fus.variant → s.get (F.DRM_ENG_STATUS_STATE e) = 3 → s.pool.testing = none →
      ∃ t : State, exec (.restore who e) s = .next t ∧ t.get (F.DRM_ENG_STATUS_STATE e) = 4 ∧ t.get F.DRM_CMD_RESULT_RUNNING = 1 ∧
        t.pool = { s.pool with testing := some e } ∧
        Only [F.DRM_ENG_STATUS_STATE e, F.DRM_CMD_RESULT_RUNNING] [.pool] s t) ∧
    (∀ pass, s.pool.testing = some e →
      ∃ t : State, exec (.restoreTestsDone e pass) s = .next t ∧ t.get (F.DRM_ENG_STATUS_STATE e) = (if pass then 1 else 5) ∧
        t.get F.DRM_EVENT_EVENTS = setBit (s.get F.DRM_EVENT_EVENTS) (if pass then 1 else 2) ∧
        t.get F.DRM_CMD_RESULT_RUNNING = 0 ∧ t.get F.DRM_CMD_RESULT_OP = 2 ∧ t.get F.DRM_CMD_RESULT_ENGINE = e ∧
        t.get F.DRM_CMD_RESULT_STATUS = 0 ∧ t.pool = { s.pool with testing := none } ∧
        Only [F.DRM_ENG_STATUS_STATE e, F.DRM_EVENT_EVENTS, F.DRM_CMD_RESULT_RUNNING, F.DRM_CMD_RESULT_OP,
          F.DRM_CMD_RESULT_ENGINE, F.DRM_CMD_RESULT_STATUS] [.pool, .irq, .out] s t) ∧
    (s.pwr.state = .doze → (s.ungated.filter (fun x => decide (x ∉ s.reserved))).getLast? = some e →
      s.engFrames e = 0 → s.ungatedTarget < s.ungated.length →
      ∃ t : State, exec (.engineGate e) s = .next t ∧ t.get (F.DRM_ENG_STATUS_STATE e) = 2 ∧ Tab.get t.pool.keys [] e = [] ∧
        t.pool.slots = s.pool.slots ∧ Only [F.DRM_ENG_STATUS_STATE e] [.pool] s t))

/-- R81, R82, R84 to R87: overhead markers take a FlexE instance from search through its confirmation to lock and, at
the fifth miss, back; a frame with a bad CRC counts and gives nothing; a good frame shows RPF, the instance number and
the calendar bits. Candidates and misses are read as log entry 29 says. -/
def Obligations.FlexEOverheadIsFollowed : Prop :=
  (∀ (i num : Nat) (gr : FlexGroup) (b : OhBlock) (s : State), s.instGroup i = some (gr, num) → s.dataUp = true →
    s.get (F.FLX_GRP_STATUS_STATE gr.index) ≠ 4 → s.allLocked gr = false →
    ((s.inst i).lock = none → (s.inst i).cands = [] → b.marker = true →
      ∃ t : State, exec (.overheadBlockReceived i b) s = .next t ∧ t.get (F.FLX_INST_STATUS_FRAME i) = 1 ∧
        t.inst i = { s.inst i with cands := [⟨b.phase, 1, b.groupNumber, b.instNumber, b.omf⟩] } ∧
        (∀ j, j ≠ i → t.inst j = s.inst j) ∧ Only [F.FLX_INST_STATUS_FRAME i] [.flx] s t) ∧
    (∀ c : FlexCand, (s.inst i).lock = none → (s.inst i).cands = [c] → c.pos = 8 → c.phase = b.phase → b.marker = true →
      b.groupNumber = c.group → b.instNumber = c.inst → b.omf = c.omf →
      ∃ t : State, exec (.overheadBlockReceived i b) s = .next t ∧ t.get (F.FLX_INST_STATUS_FRAME i) = 2 ∧
        (t.inst i).lock = some { c with pos := 1 } ∧ (t.inst i).cands = [] ∧ (t.inst i).rpfTx = false ∧
        Only [F.FLX_INST_STATUS_FRAME i] [.flx] s t) ∧
    (∀ c : FlexCand, (s.inst i).lock = some c → c.pos = 8 → c.phase = b.phase → (s.inst i).miss = 4 →
      b.marker = false → ∃ t : State, exec (.overheadBlockReceived i b) s = .next t ∧ t.get (F.FLX_INST_STATUS_FRAME i) = 0 ∧
        t.get (F.FLX_INST_STATUS_MF_LOCK i) = 0 ∧ (t.inst i).lock = none ∧ (t.inst i).rpfTx = true ∧
        t.get (F.FLX_GRP_EVENT_EVENTS gr.index) = setBit (s.get (F.FLX_GRP_EVENT_EVENTS gr.index)) 10 ∧
        Only [F.FLX_INST_STATUS_FRAME i, F.FLX_INST_STATUS_MF_LOCK i, F.FLX_GRP_EVENT_EVENTS gr.index] [.flx, .irq, .out] s t) ∧
    (∀ (f : OhFrame) (c : FlexCand), (s.inst i).lock = some c → f.crcOk = false →
      ∃ t : State, exec (.overheadFrameReceived i f) s = .next t ∧
        t.inst i = { t.inst i with crcErr := (s.inst i).crcErr + 1, cAt := none, c := (s.inst i).c, cr := (s.inst i).cr, ca := (s.inst i).ca,
                                   lock := some c } ∧
        (s.get (F.FLX_INST_STATUS_MF_LOCK i) = 0 → t.inst i = { s.inst i with crcErr := (s.inst i).crcErr + 1, cAt := none }) ∧
        (∀ j, j ≠ i → t.inst j = s.inst j) ∧
        Only [] [.flx] s t) ∧
    (∀ (f : OhFrame) (c : FlexCand), (s.inst i).lock = some c → f.crcOk = true → s.get (F.FLX_INST_STATUS_MF_LOCK i) = 0 →
      ∃ t : State, exec (.overheadFrameReceived i f) s = .next t ∧ t.get (F.FLX_INST_STATUS_RPF_RX i) = bit f.rpf ∧
        t.get (F.FLX_INST_STATUS_INST_NUMBER i) = f.instNumber % 256 ∧ (t.inst i).c = some (bit f.c) ∧
        (t.inst i).cr = some (bit f.cr) ∧ (t.inst i).ca = some (bit f.ca) ∧
        t.get (F.FLX_INST_STATUS_RX_PAGE i) = bit f.c ∧
        OnlyIn [.PRT_EP_STATUS, .PRT_EP_EVENT, .FLX_GRP_STATUS, .FLX_GRP_EVENT, .FLX_INST_STATUS, .SWC_SNR_LOST, .SWC_CH_STATUS,
          .SWC_Q_STATUS, .DRM_ENG_STATUS, .SEQ_CH_DSN, .HIF_CQ_PROD, .CNT_EVENT, .CNT_PROG_SEL]
          [.irq, .cnt, .prt, .flx, .buf, .sch, .pool, .hif, .out, .free] s t))

/-- R88, R89, R91, R92, R95: GROUP_DOWN takes every client of a group down, GROUP_UP takes them up; TX_SWAPPED,
CAL_SW_STALL, CANCEL and RETRY do what the calendar switch gives them in its states. Readings of log entry 30. -/
def Obligations.FlexEGroupsAndCalendars : Prop :=
  (∀ (g : Nat) (gr : FlexGroup) (s : State), s.flexGroup g = some gr → s.get (F.FLX_GRP_STATUS_STATE g) = 4 →
    (s.groupBad gr = true → ∃ t : State, exec (.groupDown g) s = .next t ∧
      t.get (F.FLX_GRP_STATUS_STATE g) = (if ∀ l ∈ s.physOf gr, l ∈ s.prt.phyUp then 2 else 1) ∧
      t.get (F.FLX_GRP_EVENT_EVENTS g) = setBit (s.get (F.FLX_GRP_EVENT_EVENTS g)) 0 ∧
      (∀ c ∈ gr.clients, t.get (F.PRT_EP_STATUS_LINK_UP c.channel) ≠ 1) ∧
      OnlyIn [.PRT_EP_STATUS, .PRT_EP_EVENT, .FLX_GRP_STATUS, .FLX_GRP_EVENT, .SWC_SNR_LOST, .SWC_CH_STATUS, .SWC_Q_STATUS,
        .DRM_ENG_STATUS, .SEQ_CH_DSN, .HIF_CQ_PROD, .CNT_EVENT, .CNT_PROG_SEL]
        [.irq, .cnt, .prt, .flx, .buf, .sch, .pool, .hif, .out, .free] s t) ∧
    (s.groupBad gr = false → s.dataUp = true → (∀ c ∈ gr.clients, s.get (F.PRT_EP_STATUS_LINK_UP c.channel) ≠ 1) →
      ∃ t : State, exec (.groupUp g) s = .next t ∧
        t.get (F.FLX_GRP_EVENT_EVENTS g) = setBit (s.get (F.FLX_GRP_EVENT_EVENTS g)) 1 ∧
        (∀ c ∈ gr.clients, c.channel ∉ (s.grp g).calDown → t.get (F.PRT_EP_STATUS_LINK_UP c.channel) = 1) ∧
        OnlyIn [.PRT_EP_STATUS, .PRT_EP_EVENT, .FLX_GRP_EVENT, .SWC_Q_STATUS, .DRM_ENG_STATUS] [.irq, .flx, .out] s t)) ∧
  (∀ (who g : Nat) (gr : FlexGroup) (s : State), s.flexGroup g = some gr →
    (s.get (F.FLX_GRP_STATUS_SWITCH g) = 2 → (s.grp g).waiting = none → ∃ t : State, exec (.txSwapped g) s = .next t ∧
      t.get (F.FLX_GRP_STATUS_TX_PAGE g) = (s.grp g).cr ∧
      ((s.grp g).txA = (s.grp g).txB → t.get (F.FLX_GRP_STATUS_SWITCH g) = 0) ∧
      t.get (F.FLX_GRP_EVENT_EVENTS g) = setBit (s.get (F.FLX_GRP_EVENT_EVENTS g)) 2 ∧
      OnlyWhere (fun k => k = F.PEL_STATUS_TUNE_CLIPPED ∨ k.reg ∈ [.PRT_EP_CFG, .FLX_GRP_STATUS, .FLX_GRP_EVENT, .SCH_CH_RATE,
        .SCH_P_RATE, .SCH_Q_RATE, .DRM_ENG_STATUS]) [.irq, .flx, .out] s t) ∧
    (s.get (F.FLX_GRP_STATUS_SWITCH g) = 1 → s.get (F.FLX_GRP_CFG_CAL_REQ_TIMEOUT g) ≠ 0 →
      ∃ t : State, exec (.calSwStall g) s = .next t ∧
        t.get (F.FLX_GRP_EVENT_EVENTS g) = setBit (s.get (F.FLX_GRP_EVENT_EVENTS g)) 4 ∧
        Only [F.FLX_GRP_EVENT_EVENTS g] [.irq, .flx, .out] s t) ∧
    (who ≤ 4 → s.get (F.FLX_GRP_STATUS_SWITCH g) = 1 → ∃ t : State, exec (.cancel who g) s = .next t ∧
      t.get (F.FLX_GRP_STATUS_SWITCH g) = 3 ∧ t.grp g = { s.grp g with cr := s.get (F.FLX_GRP_STATUS_TX_PAGE g) } ∧
      (∀ h, h ≠ g → t.grp h = s.grp h) ∧ t.flx = { s.flx with grp := t.flx.grp } ∧
      Only [F.FLX_GRP_STATUS_SWITCH g] [.flx] s t) ∧
    (who ≤ 4 → s.get (F.FLX_GRP_STATUS_SWITCH g) = 3 → (s.grp g).txA ≠ (s.grp g).txB →
      ∃ t : State, exec (.retry who g) s = .next t ∧ t.get (F.FLX_GRP_STATUS_SWITCH g) = 1 ∧
        t.grp g = { s.grp g with cr := 1 - s.get (F.FLX_GRP_STATUS_TX_PAGE g) } ∧ (∀ h, h ≠ g → t.grp h = s.grp h) ∧
        t.flx = { s.flx with grp := t.flx.grp } ∧ Only [F.FLX_GRP_STATUS_SWITCH g] [.flx] s t) ∧
    (who ≤ 4 → s.get (F.FLX_GRP_STATUS_SWITCH g) = 3 → (s.grp g).txA = (s.grp g).txB →
      ∃ t : State, exec (.retry who g) s = .next t ∧ t.get (F.FLX_GRP_STATUS_SWITCH g) = 0 ∧ Only [F.FLX_GRP_STATUS_SWITCH g] [] s t))

/-- R112, R115, R126: MAC_INSERT replaces the entry of the key or places a new one and answers NO_RESOURCE where none
can be placed; MAC_DELETE clears the entry of the key alone or answers STATE_CONFLICT; MAC_DUMP writes the entries in
index order (log entry 34). -/
def Obligations.MacTableCommands : Prop :=
  ∀ (who : Nat) (s : State), s.pel.active ≠ none → Unlocked s who 0 →
    let mac := (s.macArg who).1
    let bd := (s.macArg who).2
    let r := s.tblArg who 2
    let e : MacEntry := { valid := true, static := field r 25 1 = 1, bd := bd, mac := mac, channel := field r 0 8,
                          sc := field r 8 16, scDefault := field r 24 1 = 1 }
    let Done := fun (t : State) (op st : Nat) (ps : List Part) => t.get (F.TBL_CMD_RESULT_STATUS who) = st ∧
      t.get (F.TBL_CMD_RESULT_OP who) = op ∧ Only (tblFields who) ps s t
    (s.channelAbsent (field r 0 8) = false → s.bound (field r 0 8) = true →
      (∀ i, s.macFind bd mac = some i → ∃ t : State, exec (.macInsert who) s = .next t ∧ Done t 1 0 [.tbl, .irq, .out] ∧
        t.macEntry i = e ∧ (∀ j, j ≠ i → t.macEntry j = s.macEntry j) ∧ t.tbl = { s.tbl with mac := t.tbl.mac }) ∧
      (∀ u, s.macFind bd mac = none → s.macPlace e = some u →
        ∃ t : State, exec (.macInsert who) s = .next t ∧ Done t 1 0 [.tbl, .irq, .out] ∧ t.tbl = u.tbl) ∧
      (s.macFind bd mac = none → s.macPlace e = none →
        ∃ t : State, exec (.macInsert who) s = .next t ∧ Done t 1 3 [.irq, .out])) ∧
    (∀ i, s.macFind bd mac = some i → ∃ t : State, exec (.macDelete who) s = .next t ∧ Done t 2 0 [.tbl, .irq, .out] ∧
        t.macEntry i = {} ∧ (∀ j, j ≠ i → t.macEntry j = s.macEntry j) ∧ t.tbl = { s.tbl with mac := t.tbl.mac }) ∧
    (s.macFind bd mac = none → ∃ t : State, exec (.macDelete who) s = .next t ∧ Done t 2 1 [.irq, .out]) ∧
    (let n := field (s.tblArg who 1) 0 18
     n ≠ 0 → s.tblArg who 0 + n ≤ s.macSize → ∃ t : State, exec (.macDump who) s = .next t ∧ Done t 3 0 [.irq, .out] ∧
        .dma (s.tblArg who 2 + s.tblArg who 3 * 2 ^ 32)
          ((List.range n).flatMap (fun i => (s.macEntry (s.tblArg who 0 + i)).bytes)) ∈ t.out)

/-- R120 to R123, R126: LPM_ADD and LPM_DEL replace the set of prefixes of the family, rebuilt in the free nodes or
refused with NO_RESOURCE, LPM_DUMP writes the prefixes in order, and a batch of nodes returns. Which free nodes are
taken is log entry 33. -/
def Obligations.LpmCommands : Prop :=
  ∀ (who : Nat) (s : State), s.pel.active ≠ none →
    let fam := (s.lpmArg who).1
    let len := (s.lpmArg who).2.1
    let addr := (s.lpmArg who).2.2
    let r := s.tblArg who 5
    let p : Prefix := ⟨addr, len, field r 0 8, field r 8 16, field r 24 1 = 1⟩
    let rest := (s.lpm fam).prefixes.filter (fun q => !(decide (q.addr = addr) && decide (q.len = len)))
    let Done := fun (t : State) (op st : Nat) (ps : List Part) => t.get (F.TBL_CMD_RESULT_STATUS who) = st ∧
      t.get (F.TBL_CMD_RESULT_OP who) = op ∧ Only (tblFields who) ps s t
    (Unlocked s who (1 + fam) → prefixArgOk fam len addr = true →
      (s.channelAbsent (field r 0 8) = false → s.bound (field r 0 8) = true → (prefixInsert p rest).length ≤ lpmLimit fam →
        (∀ m, lpmMove (lpmWidth fam) (s.lpmPool fam) (s.lpm fam) (prefixInsert p rest) = some m →
          ∃ t : State, exec (.lpmAdd who) s = .next t ∧ Done t 4 0 [.tbl, .irq, .out] ∧ t.lpm fam = m ∧
            (t.lpm fam).prefixes = prefixInsert p rest ∧ t.lpm (1 - fam) = s.lpm (1 - fam) ∧
            t.tbl = { s.tbl with lpm4 := t.tbl.lpm4, lpm6 := t.tbl.lpm6 }) ∧
        (lpmMove (lpmWidth fam) (s.lpmPool fam) (s.lpm fam) (prefixInsert p rest) = none →
          ∃ t : State, exec (.lpmAdd who) s = .next t ∧ Done t 4 3 [.irq, .out])) ∧
      (∀ m, rest.length ≠ (s.lpm fam).prefixes.length →
        lpmMove (lpmWidth fam) (s.lpmPool fam) (s.lpm fam) rest = some m →
          ∃ t : State, exec (.lpmDel who) s = .next t ∧ Done t 5 0 [.tbl, .irq, .out] ∧ t.lpm fam = m ∧
            (t.lpm fam).prefixes = rest ∧ t.lpm (1 - fam) = s.lpm (1 - fam) ∧
            t.tbl = { s.tbl with lpm4 := t.tbl.lpm4, lpm6 := t.tbl.lpm6 }) ∧
      (rest.length = (s.lpm fam).prefixes.length → ∃ t : State, exec (.lpmDel who) s = .next t ∧ Done t 5 1 [.irq, .out])) ∧
    (Unlocked s who (1 + fam) → prefixArgOk fam len addr = false →
      ∃ t : State, exec (.lpmDel who) s = .next t ∧ Done t 5 2 [.irq, .out]) ∧
    (let n := field (s.tblArg who 1) 0 18
     Unlocked s who (1 + fam) → n ≠ 0 → s.tblArg who 0 + n ≤ (s.lpm fam).prefixes.length →
      ∃ t : State, exec (.lpmDump who) s = .next t ∧ Done t 6 0 [.irq, .out] ∧
        .dma (s.tblArg who 2 + s.tblArg who 3 * 2 ^ 32)
          ((((s.lpm fam).prefixes.drop (s.tblArg who 0)).take n).flatMap (prefixRecord fam)) ∈ t.out) ∧
    (∃ t : State, exec .lpmNodeReturn s = .next t ∧ t.tbl.lpm4 = { s.tbl.lpm4 with returning := s.tbl.lpm4.returning.tail } ∧
      (s.tbl.lpm4.returning = [] → t.tbl.lpm6 = { s.tbl.lpm6 with returning := s.tbl.lpm6.returning.tail }) ∧
      Only [] [.tbl] s t)

/-- R126 to R128: a read of a free lock takes it and of a held one names its holder; only the holder releases or
renews it; an expired lease frees it with its event; another requester's command is denied. The expiry row acts where
the lease is over (log entry 4). -/
def Obligations.PartitionLocks : Prop :=
  ∀ (who p o : Nat) (s : State), p < 3 →
    (s.lockOwner p = none → ∃ t : State, exec (.tblLockRead who p) s = .next t ∧ t.lockOwner p = some who ∧
      (∀ x, x ≠ p → t.lockOwner x = s.lockOwner x) ∧ t.out = .read who (who * 16) :: s.out ∧
      t.tbl = { s.tbl with owner := t.tbl.owner, lease := t.tbl.lease } ∧ Only [] [.tbl, .out] s t) ∧
    (s.lockOwner p = some o → ∃ t : State, exec (.tblLockRead who p) s = .next t ∧ t.out = .read who (1 + o * 16) :: s.out ∧
      Only [] [.out] s t) ∧
    (s.lockOwner p = some who → ∃ t : State, exec (.release who p) s = .next t ∧ t.lockOwner p = none ∧
      (∀ x, x ≠ p → t.lockOwner x = s.lockOwner x) ∧ (p = 0 → t.tbl.learn = []) ∧
      Only [F.TBL_EVENT_EVENTS] [.tbl, .irq, .out] s t) ∧
    (s.lockOwner p ≠ some who → who ≤ 4 →
      (∃ t : State, exec (.release who p) s = .next t ∧ t.get F.TBL_STATUS_WRITE_IGNORED = 1 ∧ Only [F.TBL_STATUS_WRITE_IGNORED] [] s t) ∧
      (∃ t : State, exec (.renew who p) s = .next t ∧ t.get F.TBL_STATUS_WRITE_IGNORED = 1 ∧ Only [F.TBL_STATUS_WRITE_IGNORED] [] s t)) ∧
    (s.lockOwner p = some who → (Tab.get s.tbl.lease (0, 0) p).1 ≠ 0 → ∃ t : State, exec (.renew who p) s = .next t ∧
      Tab.get t.tbl.lease (0, 0) p = ((Tab.get s.tbl.lease (0, 0) p).1, s.nowNs) ∧ t.tbl = { s.tbl with lease := t.tbl.lease } ∧
      Only [] [.tbl] s t) ∧
    (s.lockOwner p = some o → s.leaseOver p = false → exec (.lockExpired p) s = .next s) ∧
    (s.lockOwner p = some o → s.leaseOver p = true → ∃ t : State, exec (.lockExpired p) s = .next t ∧ t.lockOwner p = none ∧
      t.get F.TBL_EVENT_EVENTS % 2 = 1 ∧
      (isVf o = true → t.get (F.VF_EVENT_EVENTS (o - 5)) = setBit (s.get (F.VF_EVENT_EVENTS (o - 5))) 0) ∧
      Only (F.TBL_EVENT_EVENTS :: if isVf o then [F.VF_EVENT_EVENTS (o - 5)] else []) [.tbl, .irq, .out] s t) ∧
    (s.lockOwner 0 = some o → o ≠ who → s.pel.active ≠ none → ∃ t : State, exec (.macDelete who) s = .next t ∧
      t.get (F.TBL_CMD_RESULT_STATUS who) = 6 ∧ t.get (F.TBL_CMD_RESULT_OP who) = 2 ∧ Only (tblFields who) [.irq, .out] s t)

/-- R116 to R118: with the MAC partition free a learning event places a new entry, moves a dynamic one or reports a
static move; a brush visit ages exactly one entry. The hold of STATIC_MOVE is log entry 34, the brush row log entry 4.
-/
def Obligations.LearningAndAging : Prop :=
  ∀ (ev : LearnEv) (rest : List LearnEv) (s : State), s.lockOwner 0 = none →
    let e := s.macEntry (s.tbl.brush % s.macSize)
    let i := s.tbl.brush % s.macSize
    (s.tbl.learn = ev :: rest →
      (∀ u, s.macFind ev.bd ev.mac = none →
        s.macPlace { valid := true, hit := true, bd := ev.bd, mac := ev.mac, channel := ev.channel, scDefault := true } = some u →
        ∃ t : State, exec .learnEventApply s = .next t ∧ t.tbl = { u.tbl with learn := rest } ∧ Only [] [.tbl] s t) ∧
      (∀ k, s.macFind ev.bd ev.mac = some k → (s.macEntry k).static = false → (s.macEntry k).channel ≠ ev.channel →
        ∃ t : State, exec .learnEventApply s = .next t ∧ t.macEntry k = { s.macEntry k with channel := ev.channel, hit := true } ∧
          (∀ j, j ≠ k → t.macEntry j = s.macEntry j) ∧ t.tbl.learn = rest ∧
          t.get F.TBL_EVENT_EVENTS = setBit (s.get F.TBL_EVENT_EVENTS) 3 ∧ Only [F.TBL_EVENT_EVENTS] [.tbl, .irq, .out] s t) ∧
      (∀ k, s.macFind ev.bd ev.mac = some k → (s.macEntry k).static = true → (s.macEntry k).channel ≠ ev.channel →
        ∃ t : State, exec .learnEventApply s = .next t ∧ t.tbl.mac = s.tbl.mac ∧ t.tbl.learn = rest ∧ ev ∈ t.tbl.guarded ∧
          t.get F.TBL_EVENT_EVENTS = setBit (s.get F.TBL_EVENT_EVENTS) 4 ∧ Only [F.TBL_EVENT_EVENTS] [.tbl, .irq, .out] s t)) ∧
    (s.get F.TBL_BRUSH_AGE_PERIOD ≠ 0 → s.macSize ≠ 0 →
      ∃ t : State, exec .brushVisit s = .next t ∧ t.tbl.brush = (i + 1) % s.macSize ∧
        t.macEntry i = (if e.valid = true ∧ e.static = false then
          (if e.hit then { e with hit := false, stale := false } else if e.stale then {} else { e with stale := true }) else e) ∧
        (∀ j, j ≠ i → t.macEntry j = s.macEntry j) ∧
        t.tbl = { s.tbl with brush := t.tbl.brush, mac := t.tbl.mac } ∧ Only [] [.tbl] s t)

/-- R212, R213, R218, R219: SC_CREATE, SC_MODIFY, SC_DELETE and SC_READ of a core or the PF outside a control-plane
reset (log entry 51). -/
def Obligations.SecureChannelCommands : Prop :=
  ∀ (who : Nat) (s : State), who ≤ 4 → SamReady s who →
    (let k := (s.scArgs who).1
     let c := (s.scArgs who).2
     s.channelAbsent c.channel = false → lineSide c.channel = true → c.offset ≠ 3 → c.clearTags ≠ 3 → 4 ≤ c.owner →
     c.owner ≤ 12 → c.window ≤ 2 ^ 30 → c.overlapMs ≤ 10000 → (s.sc k).created = false → s.bound c.channel = true →
     s.transit c.channel = false → TwinAllows s (s.mirrors k c.channel) →
      (c.rx = false → ∃ t : State, exec (.scCreate who) s = .next t ∧ SamOk s t who 1 [.sam, .cnt, .twn, .out] ∧ t.sc k = c ∧
        (∀ j, j ≠ k → t.sc j = s.sc j) ∧ t.sam = { s.sam with sc := t.sam.sc } ∧ t.cnt = { s.cnt with vfSlot := t.cnt.vfSlot }) ∧
      (∀ u, c.rx = true → s.channelAbsent c.egress = false → c.egress < 32 → s.bound c.egress = true →
        s.transit c.egress = false →
        s.sciFind c.sci = none → s.sciPlace k c.sci = some u →
        ∃ t : State, exec (.scCreate who) s = .next t ∧ SamOk s t who 1 [.sam, .cnt, .twn, .out] ∧ t.sc k = c ∧
          (∀ j, j ≠ k → t.sc j = s.sc j) ∧ t.sam = { s.sam with sc := t.sam.sc, sciMap := u.sam.sciMap } ∧
          t.cnt = { s.cnt with vfSlot := t.cnt.vfSlot })) ∧
    (let k := field (s.samArg who 0) 0 16
     let c := s.sc k
     (c.created = true → TwinAllows s (s.scMirrored k) →
       let sel := s.samArg who 1
       let win := field (s.samArg who 2) 0 31
       let eg := field (s.samArg who 3) 0 8
       let ov := field (s.samArg who 3) 8 14
       (field sel 0 1 = 1 → win ≤ 2 ^ 30) → (field sel 2 1 = 1 → ov ≤ 10000) →
       (field sel 1 1 = 1 → c.rx = true → s.channelAbsent eg = false ∧ eg < 32 ∧ s.bound eg = true ∧ s.transit eg = false) →
       ∃ t : State, exec (.scModify who) s = .next t ∧ SamOk s t who 2 [.sam, .twn, .out] ∧
         t.sc k = { c with window := if field sel 0 1 = 1 then win else c.window
                           egress := if field sel 1 1 = 1 ∧ c.rx = true then eg else c.egress
                           overlapMs := if field sel 2 1 = 1 then ov else c.overlapMs
                           enable := if field sel 3 1 = 1 then field (s.samArg who 3) 22 1 = 1 else c.enable } ∧
         (∀ j, j ≠ k → t.sc j = s.sc j) ∧ t.sam = { s.sam with sc := t.sam.sc }) ∧
     (c.created = true → c.slots.any Option.isSome = false → c.rollMode = 0 → TwinAllows s (s.scMirrored k) →
       ∃ t : State, exec (.scDelete who) s = .next t ∧ SamOk s t who 3 [.sam, .cnt, .twn, .out] ∧ t.sc k = {} ∧
         (∀ j, j ≠ k → t.sc j = s.sc j) ∧ t.sam = { s.sam with sc := t.sam.sc, sciMap := t.sam.sciMap } ∧
         (∀ i, c.rx = true → s.sciFind c.sci = some i → t.sciEntry i = none) ∧ (∀ p ∈ t.cnt.vfSlot, p.2.2 ≠ k) ∧
         t.cnt = { s.cnt with vfSlot := t.cnt.vfSlot }) ∧
     (∃ t : State, exec (.scRead who) s = .next t ∧ t.get (F.SAM_CMD_RESULT_STATUS who) = 0 ∧ t.get (F.SAM_CMD_RESULT_OP who) = 4 ∧
       (∀ i w, c.words[i]? = some w → t.get (F.SAM_RES_RES (who * 12 + i)) = w) ∧
       OnlyWhere (fun f => f ∈ samFields who ∨ f.reg = .SAM_RES) [] s t))

/-- R214, R216, R218, R220: SA_STAGE brings a generated, unwrapped or, unlocked, plain key under a live parent;
SA_INSTALL, SA_ACTIVATE, SA_RETIRE and SA_DELETE move an SA through its states. Commands that fetch wait for it (log
entry 108); generated keys are draws (log entry 9). -/
def Obligations.SaStagingAndLifeCycle : Prop :=
  (∀ (who : Nat) (key : Bytes) (s : State), who ≤ 4 → SamReady s who →
    let a := s.saArg who
    let w := s.samArg who 1
    let suite := field w 0 2
    let parent := field w 4 14
    let pn := s.samArg64 who 6
    let th := s.samArg64 who 8
    let n := suiteBits suite / 8
    (s.sa a).state = .free → s.slotLive 2 parent = true → pn ≠ 0 → pn ≤ suiteMax suite → th ≤ suiteMax suite →
    (field w 18 1 = 1 → th = 0) →
    ((field w 2 2 = 0 ∧ key = beBytes n (s.draw (8 * n))) ∨
     (field w 2 2 = 1 ∧ kwUnwrap (s.slot 2 parent).kek (s.samBytes who 10 (n + 8)) = some key) ∨
     (field w 2 2 = 2 ∧ s.debugUnlocked = true ∧ key = s.samBytes who 10 n)) →
    ∃ t : State, exec (.saStage who) s = .next t ∧ t.get (F.SAM_CMD_RESULT_STATUS who) = 0 ∧
      t.get (F.SAM_CMD_RESULT_OP who) = 0x10 ∧ (t.sa a).state = .staged ∧ (t.sa a).rx = decide (field w 18 1 = 1) ∧
      (t.sa a).suite = suite ∧ (t.sa a).key = toKey key ∧ (t.sa a).nextPn = pn ∧ (t.sa a).threshold = th ∧
      (t.sa a).salt = (if xpn suite then beNat (s.samBytes who 3 12) else 0) ∧ (t.sa a).ssci = (if xpn suite then s.samArg who 2 else 0) ∧
      (t.sa a).parent = parent ∧ (t.sa a).parentGen = (s.slot 2 parent).gen ∧ (∀ b, b ≠ a → t.sa b = s.sa b) ∧
      (field w 2 2 = 0 → ∀ i x, (words ((n + 8) / 4) (kwWrap (s.slot 2 parent).kek key))[i]? = some x →
        t.get (F.SAM_RES_RES (who * 12 + i)) = x) ∧
      t.sam = { s.sam with sa := t.sam.sa, onDie := t.sam.onDie } ∧
      OnlyWhere (fun f => f ∈ samFields who ∨ (field w 2 2 = 0 ∧ f.reg = .SAM_RES)) [.sam, .cnt, .out, .free] s t) ∧
  (∀ (who : Nat) (s : State), who ≤ 4 → SamReady s who →
    let a := s.saArg who
    let e := s.sa a
    let c := s.sc e.sc
    (let k := field (s.samArg who 1) 0 16
     let an := field (s.samArg who 1) 16 2
     let d := s.sc k
     s.saState a = .staged → d.created = true → d.rx = e.rx → d.at an = none → TwinAllows s (s.scMirrored k) →
       ∃ t : State, exec (.saInstall who) s = .next t ∧ SamOk s t who 0x11 [.sam, .twn, .out] ∧
         t.sc k = { d with slots := d.slots.set an (some a) } ∧ (∀ j, j ≠ k → t.sc j = s.sc j) ∧
         t.sa a = { e with state := .installed, sc := k, an := an, blockEnd := (t.sa a).blockEnd } ∧
         (∀ b, b ≠ a → t.sa b = s.sa b) ∧ t.sam = { s.sam with sc := t.sam.sc, sa := t.sam.sa }) ∧
    (s.saState a = .installed → (e.rx = false → s.hasActiveTx c = false ∧ c.rollMode = 0) → TwinAllows s (s.saMirrored a) →
       (e.rx = false → s.onDie a = true) → ∃ t : State, exec (.saActivate who) s = .next t ∧ SamOk s t who 0x12 [.sam, .twn, .out] ∧
         t.sa a = { e with state := .active, accepting := e.rx, actSeq := (s.sam.actSeq + 1) % 2 ^ 32 } ∧
         (∀ b, b ≠ a → t.sa b = s.sa b) ∧ t.sc e.sc = (if e.rx then c else { c with txAn := e.an, txValid := true }) ∧
         (∀ j, j ≠ e.sc → t.sc j = s.sc j)) ∧
    (s.saState a = .installed → e.rx = false → s.hasActiveTx c = false → c.rollMode = 0 → TwinAllows s (s.saMirrored a) →
       s.onDie a = false → s.sam.waits = [] → a ∉ s.sam.fetch → s.sam.fetch.length < 1024 →
       ∃ t : State, exec (.saActivate who) s = .next t ∧ t.get (F.SAM_CMD_RESULT_RUNNING who) = 1 ∧ t.sa a = e ∧
         t.sam = { s.sam with waits := [⟨who, 0x12, a, s.samWords who⟩], fetch := s.sam.fetch ++ [a] } ∧
         OnlyWhere (fun f => f = F.SAM_CMD_RESULT_RUNNING who ∨ f.reg = .CNT_EVENT ∨ f.reg = .CNT_PROG_SEL) [.irq, .cnt, .sam, .out] s t) ∧
    (s.saState a = .active → c.rollMode = 0 → TwinAllows s (s.saMirrored a) →
       ∃ t : State, exec (.saRetire who) s = .next t ∧ SamOk s t who 0x13 [.sam, .twn, .out] ∧
         t.sa a = { e with state := .retiring, retireAt := if e.rx then s.nowNs + c.overlapMs * 1000000 else e.retireAt } ∧
         (∀ b, b ≠ a → t.sa b = s.sa b) ∧ t.sc e.sc = (if e.rx then c else { c with txValid := false }) ∧
         (∀ j, j ≠ e.sc → t.sc j = s.sc j) ∧ t.sam = { s.sam with sc := t.sam.sc, sa := t.sam.sa }) ∧
    (s.saState a ≠ .free → s.saState a ≠ .active → s.armedSa a = false → s.framesOf a = false →
      TwinAllows s (s.saMirrored a) → OthersWait s a → ∃ t : State, exec (.saDelete who) s = .next t ∧
         SamOk s t who 0x14 [.sam, .cnt, .pool, .twn, .out] ∧ t.sa a = {} ∧ (∀ b, b ≠ a → t.sa b = s.sa b) ∧
         t.onDie a = false ∧ (∀ p ∈ t.pool.keys, a ∉ p.2) ∧ t.pool.slots = s.pool.slots))

/-- R216, R218, R220, R222, R229, R230: SA_SET_PN, SA_SET_THRESHOLD, SA_PIN, SA_UNPIN, SA_READ, and ROLL_ARM,
ROLL_NOW, ROLL_DISARM and the arrival of an armed roll. These SAs are on die; commands that fetch wait (log entry
108). -/
def Obligations.SaSettingsAndKeyRolls : Prop :=
  (∀ (who : Nat) (s : State), who ≤ 4 → SamReady s who →
    let a := s.saArg who
    let e := s.sa a
    let v := s.samArg64 who 1
    let Sets := fun (t : State) (x : Sa) => t.sa a = x ∧ (∀ b, b ≠ a → t.sa b = s.sa b)
    (s.saState a ≠ .free → s.saState a ≠ .orphaned → v ≤ suiteMax e.suite → TwinAllows s (s.saMirrored a) →
      (v ≠ 0 → ∃ t : State, exec (.saSetPn who) s = .next t ∧ SamOk s t who 0x15 [.sam, .twn, .out] ∧
        Sets t { e with nextPn := max e.nextPn v } ∧ t.sam = { s.sam with sa := t.sam.sa }) ∧
      (e.rx = false → ∃ t : State, exec (.saSetThreshold who) s = .next t ∧ SamOk s t who 0x16 [.sam, .twn, .out] ∧
        Sets t { e with threshold := v, posted := false } ∧ t.sam = { s.sam with sa := t.sam.sa })) ∧
    (e.state ≠ .free → (e.pinned = false → s.pinned < s.pinLimit) → s.onDie a = true → ∃ t : State, exec (.saPin who) s = .next t ∧
      SamOk s t who 0x17 [.sam] ∧ Sets t { e with pinned := true } ∧
      t.sam = { s.sam with sa := t.sam.sa, onDie := t.sam.onDie }) ∧
    (e.pinned = true → ∃ t : State, exec (.saUnpin who) s = .next t ∧ SamOk s t who 0x18 [.sam] ∧
      Sets t { e with pinned := false } ∧ t.sam = { s.sam with sa := t.sam.sa }) ∧
    (∃ t : State, exec (.saRead who) s = .next t ∧ t.get (F.SAM_CMD_RESULT_STATUS who) = 0 ∧ t.get (F.SAM_CMD_RESULT_OP who) = 0x19 ∧
      (e.state = .free → ∀ i < 9, t.get (F.SAM_RES_RES (who * 12 + i)) = 0) ∧
      (e.state ≠ .free → t.get (F.SAM_RES_RES (who * 12)) = saCtrl e (s.saState a) ∧
        t.get (F.SAM_RES_RES (who * 12 + 2)) = e.nextPn % 2 ^ 32 ∧
        t.get (F.SAM_RES_RES (who * 12 + 4)) = e.threshold % 2 ^ 32 ∧ t.get (F.SAM_RES_RES (who * 12 + 8)) = bit (s.onDie a)) ∧
      OnlyWhere (fun f => f ∈ samFields who ∨ f.reg = .SAM_RES) [] s t) ∧
    (∀ vf, isVf vf = true → SamReady s vf → ∃ t : State, exec (.saSetPn vf) s = .next t ∧ t.get (F.SAM_CMD_RESULT_STATUS vf) = 6 ∧
      t.get (F.SAM_CMD_RESULT_OP vf) = 0x15 ∧ t.get (F.VF_EVENT_EVENTS (vf - 5)) = setBit (s.get (F.VF_EVENT_EVENTS (vf - 5))) 2 ∧
      Only (F.VF_EVENT_EVENTS (vf - 5) :: samFields vf) [.irq, .out] s t)) ∧
  ((∀ (who : Nat) (s : State), who ≤ 4 → SamReady s who →
    let k := field (s.samArg who 0) 0 16
    let an := field (s.samArg who 1) 0 2
    let c := s.sc k
    (TwinAllows s (s.scMirrored k) → s.rollConflict k an = false → field (s.samArg who 1) 2 2 ≠ 0 →
      field (s.samArg who 2) 0 30 ≤ 999999999 →
      s.onDie (s.rollSa k an) = true → ∃ t : State, exec (.rollArm who) s = .next t ∧ SamOk s t who 0x20 [.sam, .twn, .out] ∧
        t.sc k = { c with nextAn := an, rollMode := field (s.samArg who 1) 2 2, rollNs := field (s.samArg who 2) 0 30
                          rollSec := s.samArg who 3 + field (s.samArg who 4) 0 16 * 2 ^ 32 } ∧
        (∀ j, j ≠ k → t.sc j = s.sc j) ∧ t.sam = { s.sam with sc := t.sam.sc, onDie := t.sam.onDie }) ∧
    (∀ b, TwinAllows s (s.scMirrored k) → s.rollConflict k an = false → c.at an = some b → s.onDie b = true → ∃ t : State,
      exec (.rollNow who) s = .next t ∧ t.get (F.SAM_CMD_RESULT_STATUS who) = 0 ∧ t.get (F.SAM_CMD_RESULT_OP who) = 0x21 ∧
        t.sc k = { c with nextAn := an, txAn := an, txValid := true, rollMode := 0 } ∧ (t.sa b).state = .active ∧
        (∀ o, c.current = some o → o ≠ b → s.saState o = .active → (t.sa o).state = .retiring) ∧
        t.get F.SAM_EVENT_EVENTS = setBit (s.get F.SAM_EVENT_EVENTS) 2 ∧
        OnlyWhere (fun f => f ∈ samFields who ∨ f = F.SAM_EVENT_EVENTS ∨ f = F.SAM_EVQ_LOST_LOST) [.irq, .cnt, .sam, .twn, .out] s t) ∧
    (TwinAllows s (s.scMirrored k) → c.created = true → c.rollMode ≠ 0 → ∃ t : State, exec (.rollDisarm who) s = .next t ∧
        SamOk s t who 0x22 [.sam, .twn, .out] ∧ t.sc k = { c with rollMode := 0 } ∧ (∀ j, j ≠ k → t.sc j = s.sc j) ∧
        t.sam = { s.sam with sc := t.sam.sc })) ∧
  (∀ (s : State) (k b : Nat), s.rollDue k = true → (s.sc k).at (s.sc k).nextAn = some b → s.saState b = .installed →
    ∃ t : State, exec (.rollTimeReached k) s = .next t ∧
        t.sc k = { s.sc k with txAn := (s.sc k).nextAn, txValid := true, rollMode := 0 } ∧ (t.sa b).state = .active ∧ t.get F.SAM_EVENT_EVENTS = setBit (s.get F.SAM_EVENT_EVENTS) 2 ∧
        OnlyWhere (fun f => f = F.SAM_EVENT_EVENTS ∨ f = F.SAM_EVQ_LOST_LOST) [.irq, .cnt, .sam, .twn, .out] s t))

/-- R215, R217, R223, R233: a RETIRING receive SA stops accepting at its instant; a cold fetch brings its entry or
drops the frames that wait for it and logs; the event queue is read in order (log entries 51, 57); a command behind a
ROLL_NOW that waits is queued, a window with a command running answers BUSY, and a due roll fires before ROLL_DISARM
(R218, R220, R229, R230; log entry 108). -/
def Obligations.SaFetchAndEventQueue : Prop :=
  (∀ (who a : Nat) (s : State),
    ((s.sa a).state = .retiring → (s.sa a).rx = true → (s.sa a).accepting = true → (s.sa a).retireAt ≤ s.nowNs →
      ∃ t : State, exec (.retireAtReached a) s = .next t ∧ t.sa a = { s.sa a with accepting := false } ∧
        (∀ b, b ≠ a → t.sa b = s.sa b) ∧ t.sam = { s.sam with sa := t.sam.sa } ∧ Only [] [.sam, .twn, .out] s t) ∧
    (a ∈ s.sam.fetch → s.sam.waits = [] →
      ((s.toDie a).onDie a = true → ∃ t : State, exec (.coldFetchDone a true) s = .next t ∧ t.onDie a = true ∧
        (∀ f ∈ t.queuedFrames, f.cold ≠ some a) ∧
        t.sam = { s.sam with fetch := s.sam.fetch.filter (· ≠ a), onDie := (s.toDie a).sam.onDie } ∧
        t.buf = { s.buf with queues := t.buf.queues } ∧ Only [] [.sam, .buf, .out] s t) ∧
      ((s.toDie a).onDie a = false → exec (.coldFetchDone a true) s = .next s) ∧
      (s.accepted [(12, 0)] = [(12, 0)] → s.tmp.onBattery = false → s.maskOf 12 / 4 = 0 → s.pwr.state ≠ .hibernate →
        s.pwr.goal = none → ∃ t : State, exec (.coldFetchDone a false) s = .next t ∧ a ∉ t.sam.fetch ∧
        (∀ f ∈ t.queuedFrames, f.cold ≠ some a) ∧ t.sam.sa = s.sam.sa ∧ t.sam.onDie = s.sam.onDie ∧
        t.get F.TMP_EVENT_EVENTS = setBit (s.get F.TMP_EVENT_EVENTS) 12)) ∧
    (∀ w, a ∈ s.sam.fetch → (s.toDie a).onDie a = true → s.sam.waits = [w] → s.sam.queue = [] → w.sa = a → w.op = 0x17 →
      w.who = who → who ≤ 4 → who ∉ s.sam.flr → field (argAt w.args 0) 0 17 = a → (s.sa a).state ≠ .free →
      ((s.sa a).pinned = false → s.pinned < s.pinLimit) → ∃ t : State, exec (.coldFetchDone a true) s = .next t ∧
        t.get (F.SAM_CMD_RESULT_STATUS who) = 0 ∧ t.get (F.SAM_CMD_RESULT_OP who) = 0x17 ∧
        t.get (F.SAM_CMD_RESULT_RUNNING who) = 0 ∧ t.sa a = { s.sa a with pinned := true } ∧ t.onDie a = true ∧ t.sam.waits = []) ∧
    (a ∉ s.sam.fetch → ∀ ok, exec (.coldFetchDone a ok) s = .next s) ∧
    (∀ code b rest, s.sam.evq = (code, b) :: rest → who ≤ 4 → s.pwr.cpReset = false →
      ∃ t : State, exec (.samEvqPop who) s = .next t ∧ t.sam = { s.sam with evq := rest } ∧
        t.out = .read who (b + code * 2 ^ 27 + 2 ^ 31) :: s.out ∧ Only [] [.sam, .out] s t) ∧
    (s.sam.evq = [] ∨ isVf who = true ∨ s.pwr.cpReset = true → ∃ t : State, exec (.samEvqPop who) s = .next t ∧ t.out = .read who 0 :: s.out ∧ Only [] [.out] s t)) ∧
  (∀ (who : Nat) (s : State), who ≤ 4 → s.pwr.cpReset = false → s.sam.onDie.length ≤ s.storeSize →
    ((∀ k, s.rollDue k = false) → s.rollNowWaits = true → s.samRunning who = false →
      ∃ t : State, exec (.saInstall who) s = .next t ∧ t.get (F.SAM_CMD_RESULT_RUNNING who) = 1 ∧
        t.sam = { s.sam with queue := s.sam.queue ++ [(who, 0x11)] } ∧ Only [F.SAM_CMD_RESULT_RUNNING who] [.sam] s t) ∧
    ((∀ k, s.rollDue k = false) → s.samRunning who = true → who ∉ s.sam.flr → ∃ t : State, exec (.saRead who) s = .next t ∧
        t.get (F.SAM_CMD_RESULT_STATUS who) = 4 ∧ t.get (F.SAM_CMD_RESULT_OP who) = 0x19 ∧
        t.get (F.SAM_CMD_RESULT_RUNNING who) = 1 ∧ Only (samFields who) [] s t) ∧
    (∀ k c b, s.sam.sc = [(k, c)] → s.rollDue k = true → (s.sc k).at (s.sc k).nextAn = some b → s.saState b = .installed →
        s.onDie b = true → s.sam.waits = [] → s.sam.queue = [] → s.sam.flr = [] → field (s.samArg who 0) 0 16 = k →
        TwinAllows s (s.scMirrored k) → ∃ t : State, exec (.rollDisarm who) s = .next t ∧ t.get (F.SAM_CMD_RESULT_STATUS who) = 1 ∧
        t.get (F.SAM_CMD_RESULT_OP who) = 0x22 ∧ (t.sa b).state = .active ∧
        t.sc k = { s.sc k with txAn := (s.sc k).nextAn, txValid := true, rollMode := 0 }))

/-- R238 to R242, R244, R254, R255: CHALLENGE draws a nonce; DOMAIN_IMPORT takes a package that passes every check and
consumes the challenge, and else changes nothing; GROUP_DERIVE and CAK_DERIVE fill an EMPTY slot under a live parent.
The KDF is laid out as log entry 54 says; primitives are log entry 9. -/
def Obligations.DomainKeysAndDerivation : Prop :=
  (∀ (who : Nat) (p : DomainPackage) (s : State), who ≤ 4 → s.pwr.cpReset = false →
    let d := field (s.keyArg who 0) 0 4
    (∃ t : State, exec (.challenge who) s = .next t ∧ KeyDone s t who 1 0 (words 4 (beBytes 16 (s.draw 128))) [.key, .free] ∧
      t.key = { s.key with challenge := some (BitVec.ofNat 128 (s.draw 128), s.nowNs) }) ∧
    (∃ t : State, exec (.domainImport who p) s = .next t ∧
      (if s.signerOk p.signerSlot p.sig = true ∧ sigsOk p.sig (Config.sha384 (packageSigned p)) = true ∧ 9160 ≤ s.keyArg who 3 ∧
          p.serial = s.fus.serial ∧ (s.packageKey p).isSome = true ∧ s.identityReady = true ∧ (s.slot 0 d).state = .empty ∧
          s.challengeOk p = true ∧ s.domainTaken d p.domainId = false then
        KeyDone s t who 2 0 [] [.key] ∧ SlotSet s t 0 d (t.slot 0 d) ∧ (t.slot 0 d).state = .valid ∧
          (t.slot 0 d).gen = (s.slot 0 d).gen ∧ (t.slot 0 d).id = p.domainId % 2 ^ 16 + p.nodeId % 2 ^ 16 * 2 ^ 16 ∧
          (∀ k, s.packageKey p = some k → (t.slot 0 d).key = toKey k) ∧ t.key.challenge = none
      else (∃ st : Nat, (st = 6 ∨ st = 2 ∨ st = 1) ∧ KeyDone s t who 2 st [] []))) ∧
    (∀ vf, isVf vf = true → ∃ t : State, exec (.challenge vf) s = .next t ∧ t.get (F.VF_STATUS_WRITE_IGNORED (vf - 5)) = 1 ∧
      Only [F.VF_STATUS_WRITE_IGNORED (vf - 5)] [] s t)) ∧
  (∀ (who : Nat) (s : State), who ≤ 4 → s.pwr.cpReset = false →
    (let g := field (s.keyArg who 0) 0 12
     let d := field (s.keyArg who 0) 12 4
     (s.slot 1 g).state = .empty → s.slotLive 0 d = true → ∃ t : State, exec (.groupDerive who) s = .next t ∧
       KeyDone s t who 3 0 [] [.key] ∧ SlotSet s t 1 g (t.slot 1 g) ∧ (t.slot 1 g).state = .valid ∧
       (t.slot 1 g).gen = (s.slot 1 g).gen ∧ (t.slot 1 g).parentLevel = 0 ∧ (t.slot 1 g).parentIndex = d ∧
       (t.slot 1 g).parentGen = (s.slot 0 d).gen ∧ (t.slot 1 g).id = s.keyArg who 1 ∧
       (t.slot 1 g).key = s.groupKek d (s.keyArg who 1)) ∧
    (let c := field (s.keyArg who 0) 0 14
     let g := field (s.keyArg who 0) 14 12
     let wide := decide (field (s.keyArg who 0) 26 1 = 1)
     let peer := field (s.keyArg who 1) 0 16
     let ckn := s.keyCkn who 2
     (s.slot 2 c).state = .empty → s.slotLive 1 g = true →
     (wide = false → peer ≠ s.nodeId (s.slot 1 g).parentIndex) → ∃ t : State, exec (.cakDerive who) s = .next t ∧
       KeyDone s t who 4 0 [] [.key] ∧ SlotSet s t 2 c (t.slot 2 c) ∧ (t.slot 2 c).state = .valid ∧
       (t.slot 2 c).gen = (s.slot 2 c).gen ∧ (t.slot 2 c).parentLevel = 1 ∧ (t.slot 2 c).parentIndex = g ∧
       (t.slot 2 c).parentGen = (s.slot 1 g).gen ∧ (t.slot 2 c).ckn = ckn ∧ (t.slot 2 c).key = s.cakOf g wide peer ckn ∧
       (t.slot 2 c).ick = kdfDot1x (s.cakOf g wide peer ckn) "IEEE8021 ICK" ckn ∧
       (t.slot 2 c).kek = kdfDot1x (s.cakOf g wide peer ckn) "IEEE8021 KEK" ckn))

/-- R238, R242, R243, R255: KEY_IMPORT unwraps a key under the device's, the backup or, unlocked, no wrapping;
KEY_EXPORT wraps an exportable key and denies others; KEY_READ and MKA_ICV return their words. Primitives are log
entry 9. -/
def Obligations.KeyImportAndExport : Prop :=
  ∀ (who : Nat) (key : Bytes) (s : State), who ≤ 4 → s.pwr.cpReset = false →
    (let level := field (s.keyArg who 0) 0 2
     let i := field (s.keyArg who 0) 2 14
     let parent := field (s.keyArg who 0) 16 14
     let source := field (s.keyArg who 1) 0 2
     (level = 1 ∧ i < 4096 ∧ parent < 16) ∨ (level = 2 ∧ parent < 4096) → (s.slot level i).state = .empty →
     s.slotLive (level - 1) parent = true →
     ((source = 0 ∧ kwUnwrap (s.wrapKey (level - 1) parent level) (s.keyArgBytes who 7 40) = some key) ∨
      (source = 1 ∧ kwUnwrap (s.backupKey (s.domainOf (level - 1) parent)) (s.keyArgBytes who 7 40) = some key) ∨
      (source = 2 ∧ s.testRoot = true ∧ key = s.keyArgBytes who 7 32)) →
     ∃ t : State, exec (.keyImport who) s = .next t ∧ KeyDone s t who 5 0 [] [.key] ∧ SlotSet s t level i (t.slot level i) ∧
       (t.slot level i).state = .valid ∧ (t.slot level i).key = toKey key ∧ (t.slot level i).parentIndex = parent ∧
       (t.slot level i).parentLevel = level - 1 ∧ (t.slot level i).parentGen = (s.slot (level - 1) parent).gen ∧
       (t.slot level i).exportable = decide (field (s.keyArg who 1) 2 1 = 1) ∧
       (t.slot level i).id = (if level = 2 then s.keyArg who 2 % 2 ^ 17 else s.keyArg who 2) ∧
       (t.slot level i).origin = (if source = 2 then 3 else 1)) ∧
    (let level := field (s.keyArg who 0) 0 2
     let i := field (s.keyArg who 0) 2 14
     let k := s.slot level i
     (level = 1 ∧ i < 4096 ∨ level = 2) → s.slotLive level i = true →
     (k.exportable = true → ∃ t : State, exec (.keyExport who) s = .next t ∧
       KeyDone s t who 6 0 (words 10 (kwWrap (if field (s.keyArg who 1) 0 1 = 0 then s.wrapKey k.parentLevel k.parentIndex level
         else s.backupKey (s.domainOf level i)) (keyBytes k.key 32))) []) ∧
     (k.exportable = false → ∃ t : State, exec (.keyExport who) s = .next t ∧ KeyDone s t who 6 6 [] [])) ∧
    (let level := (slotArg (s.keyArg who 0)).1
     let i := (slotArg (s.keyArg who 0)).2
     badSlot level i = false → ∃ t : State, exec (.keyRead who) s = .next t ∧ KeyDone s t who 8 0 (s.descriptor level i) []) ∧
    (∀ data : Bytes, let c := field (s.keyArg who 0) 0 14
     s.keyArg who 3 ≠ 0 → s.keyArg who 3 ≤ 16000 → s.slotLive 2 c = true → ∃ t : State, exec (.mkaIcv who data) s = .next t ∧
       KeyDone s t who 9 0 (words 4 (blockBytes (cmac (s.slot 2 c).ick (data.take (s.keyArg who 3))))) [])

/-- R239, R245, R246: KEY_INVALIDATE empties the slot with a new generation, orphans the SAs below it at once, takes
their keys from the engines and starts a sweep; SWEEP_DONE marks the orphans in the store and posts its event. -/
def Obligations.KeyInvalidation : Prop :=
  ∀ (who : Nat) (s : State), who ≤ 4 → s.pwr.cpReset = false →
    (let level := (slotArg (s.keyArg who 0)).1
     let i := (slotArg (s.keyArg who 0)).2
     badSlot level i = false → (s.slot level i).state = .valid ∨ (s.slot level i).state = .orphaned →
     (level, i) ∉ s.key.sweeps → (∀ w ∈ s.sam.waits, w.op ≠ 0x21) → ∃ t : State, exec (.keyInvalidate who) s = .next t ∧
       t.get (F.KEY_CMD_RESULT_STATUS who) = 0 ∧ t.get (F.KEY_CMD_RESULT_OP who) = 7 ∧
       SlotSet s t level i { gen := ((s.slot level i).gen + 1) % 2 ^ 16 } ∧ t.key.sweeps = s.key.sweeps ++ [(level, i)] ∧
       (∀ a, (s.sa a).state ≠ .free → s.saParentLive (s.sa a) = true → (s.sa a).parentLevel = 0 →
         level = 2 → (s.sa a).parent = i → t.saState a = .orphaned ∧ ∀ p ∈ t.pool.keys, a ∉ p.2) ∧
       t.sam.sa = s.sam.sa ∧
       OnlyWhere (fun f => f ∈ keyFields who ∨ f = F.SAM_EVENT_EVENTS ∨ f = F.SAM_EVQ_LOST_LOST)
         [.irq, .pool, .sam, .key, .out] s t) ∧
    (∀ x rest, s.key.sweeps = x :: rest → ∃ t : State, exec .sweepDone s = .next t ∧ t.key.sweeps = rest ∧
       t.get F.KEY_EVENT_EVENTS = setBit (s.get F.KEY_EVENT_EVENTS) 0 ∧ t.key.domain = s.key.domain ∧
       (∀ i, (s.slot 2 i).state = .valid → (t.slot 2 i).state = (if s.slotLive 2 i then .valid else .orphaned)) ∧
       (∀ i, (s.slot 1 i).state = .valid → (t.slot 1 i).state = (if s.slotLive 1 i then .valid else .orphaned)) ∧
       OnlyIn [.SAM_EVENT, .SAM_EVQ_LOST, .KEY_EVENT] [.irq, .sam, .key, .twn, .out] s t)

/-- R248 to R250, R255: HYB_START, HYB_RESPOND, HYB_FINISH, HYB_CANCEL and the expiry of a session, by the checks and
keys of the exchange as log entry 54 lays them out. -/
def Obligations.HybridExchange : Prop :=
  ∀ (who n : Nat) (h : HybSession) (m : HybMsg) (s : State), who ≤ 4 → s.pwr.cpReset = false → s.noAsym = false →
    (let d := field (s.keyArg who 0) 0 4
     let peer := field (s.keyArg who 1) 0 16
     1720 ≤ s.keyArg who 8 → s.identityReady = true → s.slotLive 0 d = true →
     (List.range 64).find? (fun i => decide (s.hyb i = none)) = some n → ∃ (t : State) (x : HybSession), exec (.hybStart who) s = .next t ∧
       KeyDone s t who 0x10 0 [n] [.key, .out, .free] ∧ t.hyb n = some x ∧ x.slot = d ∧ x.gen = (s.slot 0 d).gen ∧
       x.peer = peer ∧ x.ckn = s.keyCkn who 2 ∧ x.expiry = s.nowNs + s.get F.KEY_HYB_EXPIRY_SECONDS * 1000000000 ∧
       x.msg1.initiator = s.nodeId d ∧ x.msg1.tag = cmac (s.hybAuth d peer) (hybHead x.msg1) ∧
       (∀ i, i ≠ n → t.hyb i = s.hyb i) ∧ t.out = .dma (s.keyAddr who 6) (hybBytes1 x.msg1) :: s.out ∧
       t.key = { s.key with hyb := t.key.hyb }) ∧
    (let c := field (s.keyArg who 0) 0 14
     let d := field (s.keyArg who 0) 14 4
     ∃ t : State, exec (.hybRespond who m) s = .next t ∧
       (if 1736 ≤ s.keyArg who 5 ∧ s.identityReady = true ∧ s.slotLive 0 d = true ∧ (s.slot 2 c).state = .empty ∧
           m.magic = 0x47485931 ∧ m.domainId = s.domainId d ∧ m.responder = s.nodeId d ∧ m.initiator ≠ s.nodeId d ∧
           m.tag = cmac (s.hybAuth d m.initiator) (hybHead m) ∧ Config.kemKeyOk m.kem = true ∧ Config.ecdhOk m.ecdh = true then
         KeyDone s t who 0x11 0 [] [.key, .out, .free] ∧ SlotSet s t 2 c (t.slot 2 c) ∧ (t.slot 2 c).state = .valid ∧
           (t.slot 2 c).origin = 2 ∧ (t.slot 2 c).parentIndex = d ∧ (t.slot 2 c).parentLevel = 0 ∧ (t.slot 2 c).ckn = m.ckn ∧
           ∃ m2 : HybMsg, t.out = .dma (s.keyAddr who 3) (hybBytes2 m2) :: s.out ∧ m2.magic = 0x47485932 ∧
             m2.session = m.session ∧ m2.tag = cmac (s.hybAuth d m.initiator) (hybHead m2 ++ blockBytes m2.confirm)
       else ∃ st : Nat, (st = 1 ∨ st = 2) ∧ KeyDone s t who 0x11 st [] [])) ∧
    (let c := field (s.keyArg who 0) 0 14
     let kc := kComb (Config.kemDecap h.kemSeed m.kem) (Config.ecdh h.ecdhPriv m.ecdh) (hybBytes1 h.msg1) (hybHead m)
     s.hybOpen (s.keyArg who 1) = some h → ∃ t : State, exec (.hybFinish who m) s = .next t ∧
       (if s.identityReady = true ∧ s.liveAt 0 h.slot h.gen = true ∧ (s.slot 2 c).state = .empty ∧ m.magic = 0x47485932 ∧
           m.initiator = h.msg1.initiator ∧ m.responder = h.msg1.responder ∧ m.domainId = h.msg1.domainId ∧
           m.ckn = h.msg1.ckn ∧ m.session = h.msg1.session ∧
           m.tag = cmac (s.hybAuth h.slot h.peer) (hybHead m ++ blockBytes m.confirm) ∧ Config.kemCtOk m.kem = true ∧
           Config.ecdhOk m.ecdh = true ∧ m.confirm = cmac (hybKey kc "CONFIRM" h.msg1) (hybHead m) then
         KeyDone s t who 0x12 0 [] [.key] ∧ SlotSet s t 2 c (t.slot 2 c) ∧ t.hyb (s.keyArg who 1) = none ∧
           (t.slot 2 c).state = .valid ∧ (t.slot 2 c).origin = 2 ∧ (t.slot 2 c).ckn = h.ckn ∧ (t.slot 2 c).id = h.peer ∧
           (t.slot 2 c).parentIndex = h.slot ∧ (t.slot 2 c).key = hybKey kc "CAK-HYB" h.msg1
       else ∃ st : Nat, (st = 1 ∨ st = 2) ∧ KeyDone s t who 0x12 st [] [])) ∧
    (s.hybOpen (s.keyArg who 1) = some h → ∃ t : State, exec (.hybCancel who) s = .next t ∧ KeyDone s t who 0x13 0 [] [.key] ∧
       t.hyb (s.keyArg who 1) = none ∧ (∀ i, i ≠ s.keyArg who 1 → t.hyb i = s.hyb i) ∧ t.key = { s.key with hyb := t.key.hyb }) ∧
    (s.hybOpen (s.keyArg who 1) = none → ∃ t : State, exec (.hybFinish who m) s = .next t ∧ KeyDone s t who 0x12 1 [] []) ∧
    (s.hyb n = some h → h.expiry ≤ s.nowNs → ∃ t : State, exec (.hybExpired n) s = .next t ∧ t.hyb n = none ∧ (∀ i, i ≠ n → t.hyb i = s.hyb i) ∧
       t.get F.KEY_EVENT_EVENTS = setBit (s.get F.KEY_EVENT_EVENTS) 1 ∧ t.key = { s.key with hyb := t.key.hyb } ∧
       Only [F.KEY_EVENT_EVENTS] [.irq, .key, .out] s t)

/-- R252, R253, R255: ID_GET writes the identity block, ATTEST the statement with both signatures, and a buffer that
is too short is BAD_ARGUMENT (log entries 9, 55). -/
def Obligations.IdentityAndAttestation : Prop :=
  ∀ (who : Nat) (s : State), who ≤ 4 → s.pwr.cpReset = false → s.identityReady = true →
    (4368 ≤ s.keyArg who 2 → ∃ t : State, exec (.idGet who) s = .next t ∧ KeyDone s t who 0x18 0 [] [.out] ∧
      t.out = .dma (s.keyAddr who 0) s.idBlock :: s.out) ∧
    (let body := s.attestBody (s.keyArgBytes who 0 32) (s.keyArgBytes who 8 32)
     5152 ≤ s.keyArg who 18 → ∃ t : State, exec (.attest who) s = .next t ∧ KeyDone s t who 0x19 0 [] [.out] ∧
      t.out = .dma (s.keyAddr who 16) (body ++ beBytes 96 (Config.ecdsaSign (s.idScalar "ID-ECDSA") (Config.sha384 body)) ++
        beBytes 4627 (Config.mldsaSign s.idMlDsaSeed (Config.sha384 body)) ++ beBytes 5 0) :: s.out) ∧
    (s.keyArg who 2 < 4368 → ∃ t : State, exec (.idGet who) s = .next t ∧ KeyDone s t who 0x18 2 [] [])

/-- R262 to R266, R273, R275: a refill adds each shaper its rate up to its burst; a write of a protection shaper
resets its tokens; GATE_EN starts the wait for the cycle; a gate list whose swap has come runs. A rate of 0 is log
entry 44. -/
def Obligations.ShapersAndGates : Prop :=
  (∀ (s : State), ∃ t : State, exec .shaperRefill s = .next t ∧
    (∀ k ∈ s.shapers, t.tokens k = max (-(2 ^ 47)) (min (min (s.tokens k + (s.shaperRegs k).1) ((s.shaperRegs k).2 * 8000)) (2 ^ 47 - 1)) ∧
      t.shaperRate k = (s.shaperRegs k).1) ∧
    (∀ k, k ∉ s.shapers → t.tokens k = s.tokens k) ∧
    t.sch = { s.sch with tokens := t.sch.tokens, rate := t.sch.rate } ∧ Only [] [.sch] s t) ∧
  (∀ (who p ch val : Nat) (s : State), who ≤ 4 → p < 64 →
    (64 ≤ field val 0 20 → ∃ t : State, exec (.protShaperWrite who p true val) s = .next t ∧
      t.get (F.SCH_P_BURST_BURST p) = field val 0 20 ∧
      t.tokens (4096 + p) = (if s.get (F.SCH_P_RATE_RESET_TO p) = 1 then (field val 0 20 * 8000 : Int) else 0) ∧
      (∀ k, k ≠ 4096 + p → t.tokens k = s.tokens k) ∧ t.sch = { s.sch with tokens := t.sch.tokens } ∧
      Only [F.SCH_P_BURST_BURST p] [.sch] s t) ∧
    (field val 0 30 ≤ s.pRateLimit p → s.get (F.SCH_P_BURST_BURST p) < 2 ^ 20 →
      ∃ t : State, exec (.protShaperWrite who p false val) s = .next t ∧
        t.get (F.SCH_P_RATE_RATE p) = field val 0 30 ∧ t.get (F.SCH_P_RATE_RESET_TO p) = field val 31 1 ∧
        t.tokens (4096 + p) = (if field val 31 1 = 1 then (s.get (F.SCH_P_BURST_BURST p) * 8000 : Int) else 0) ∧
        (∀ k, k ≠ 4096 + p → t.tokens k = s.tokens k) ∧ t.sch = { s.sch with tokens := t.sch.tokens } ∧
        Only [F.SCH_P_RATE_RATE p, F.SCH_P_RATE_RESET_TO p] [.sch] s t) ∧
    (∀ en, s.channelAbsent ch = false → s.bound ch = true → ∃ t : State, exec (.gateEnWrite who ch en) s = .next t ∧
      t.get (F.SCH_CH_CFG_GATE_EN ch) = bit en ∧
      t.gate ch = { s.gate ch with waitEn := if en then
        (if s.get (F.SCH_CH_CFG_GATE_EN ch) = 1 then (s.gate ch).waitEn else some s.nowNs) else none } ∧
      (∀ c, c ≠ ch → t.gate c = s.gate c) ∧ t.sch = { s.sch with gate := t.sch.gate } ∧
      Only [F.SCH_CH_CFG_GATE_EN ch] [.sch] s t) ∧
    (∀ en, ch < 192 → s.channelAbsent ch = true → exec (.gateEnWrite who ch en) s = .next s) ∧
    (∀ en, s.channelAbsent ch = false → s.bound ch = false → ∃ t : State, exec (.gateEnWrite who ch en) s = .next t ∧
      t.get F.SCH_STATUS_WRITE_IGNORED = 1 ∧ Only [F.SCH_STATUS_WRITE_IGNORED] [] s t) ∧
    (∀ l x, (s.gate ch).pending = some (some l) → (s.gate ch).swapAt = some x → x ≤ s.nowNs → (s.gate ch).waitEn = none →
      ∃ t : State, exec (.gateEvent ch) s = .next t ∧ t.gate ch = { s.gate ch with running := some l, pending := none, since := 0 } ∧
        (∀ c, c ≠ ch → t.gate c = s.gate c) ∧ t.get F.SCH_EVENT_EVENTS = setBit (s.get F.SCH_EVENT_EVENTS) 4 ∧
        t.sch = { s.sch with gate := t.sch.gate } ∧ Only [F.SCH_EVENT_EVENTS] [.sch, .irq, .out] s t) ∧
    (∀ w, (s.gate ch).swapAt = none → (s.gate ch).waitEn = some w → (s.gate ch).enabledFrom ≤ s.nowNs →
      ∃ t : State, exec (.gateEvent ch) s = .next t ∧ t.gate ch = { s.gate ch with waitEn := none } ∧
        (∀ c, c ≠ ch → t.gate c = s.gate c) ∧ t.sch = { s.sch with gate := t.sch.gate } ∧ Only [] [.sch] s t))

/-- R284: a write of TIM_INC_FRAC stages the fraction, a write of TIM_INC_NS commits whole and fraction for the next
tick if the increment lies in its range, and is else ignored with WRITE_IGNORED set and INC and the staged fraction as
they were. A tick is a step on an empty queue (log entry 1). -/
def Obligations.TimeIncrementCommits : Prop :=
  ∀ (who val : Nat) (s : State), who ≤ 4 →
    let inc := val % 256 * 2 ^ 32 + s.get F.TIM_INC_FRAC_FRAC
    (∀ (v : BitVec 64) (dma : Bytes), (∃ t : State, exec (.registerWrite who 0x300020 4 v dma) s = .next t ∧
      t.get F.TIM_INC_FRAC_FRAC = v.toNat % 2 ^ 32 ∧ Only [F.TIM_INC_FRAC_FRAC] [] s t) ∧
      exec (.registerWrite who 0x300024 4 v dma) s = exec (.timIncCommit who (v.toNat % 2 ^ 32)) s) ∧
    (0x1FF7CED92 ≤ inc ∧ inc ≤ 0x20083126E → ∃ t : State, exec (.timIncCommit who val) s = .next t ∧
      t.tim = { s.tim with inc := inc } ∧ t.get F.TIM_INC_NS_NS = val % 256 ∧ Only [F.TIM_INC_NS_NS] [.tim] s t ∧
      (s.pending = [] → s.pwr.state ≠ .hibernate → ∃ u : State, step t = .next u ∧
        u.tim.now = (s.tim.now + inc) % (2 ^ 48 * second))) ∧
    (inc < 0x1FF7CED92 ∨ 0x20083126E < inc → ∃ t : State, exec (.timIncCommit who val) s = .next t ∧
      t.get F.TIM_STATUS_WRITE_IGNORED = 1 ∧ t.tim.inc = s.tim.inc ∧ t.get F.TIM_INC_FRAC_FRAC = s.get F.TIM_INC_FRAC_FRAC ∧
      Only [F.TIM_STATUS_WRITE_IGNORED] [] s t)

/-- R282, R285, R286: a step on an empty queue is one tick of the time base (the model's choice, log entry 1); STEP
moves the time by its offset in a tick and posts STEPPED, completes with BUSY while one is pending and with
BAD_ARGUMENT for an offset out of range. What a STEP moves besides is log entry 57. -/
def Obligations.TicksAndSteps : Prop :=
  (∀ (s : State), s.pending = [] → s.pwr.state ≠ .hibernate → ∃ t : State, step s = .next t ∧
    t.tim.now = (s.tim.now + s.tim.inc) % (2 ^ 48 * second) ∧
    (s.pool.slots = [] → s.tim.ppsUntil = 0 → (∀ k < 2, (Tab.get s.tim.trig {} k).highUntil = 0) →
      t = { s with tim := { s.tim with now := t.tim.now } }) ∧
    OnlyIn [.SEQ_PORT_STALL, .CNT_EVENT, .CNT_PROG_SEL] [.irq, .tim, .cnt, .out] s t) ∧
  (∀ (who : Nat) (s : State), who ≤ 4 → s.pwr.state ≠ .hibernate →
    let ns := signed 32 (s.get F.TIM_STEP_NS_NS)
    let r := (s.tim.now : Int) + s.stepOffset + s.tim.inc
    let ok := -999999999 ≤ ns ∧ ns ≤ 999999999 ∧ 0 ≤ r ∧ r < 2 ^ 48 * second
    let Ends := fun (t : State) => t.get F.TIM_STATUS_VALID = 1 ∧ t.get F.TIM_CMD_RESULT_OP = 1 ∧
      t.get F.TIM_CMD_RESULT_STATUS = 0 ∧ t.tim.inc = s.tim.inc
    (ok → s.stepOffset = 0 → ∃ t : State, exec (.step who false) s = .next t ∧ Ends t ∧ t.tim.now = wrapTime (s.tim.now + s.tim.inc) ∧
      OnlyIn [.TIM_STATUS, .TIM_CMD_RESULT, .SEQ_PORT_STALL, .CNT_EVENT, .CNT_PROG_SEL] [.irq, .tim, .cnt, .out] s t) ∧
    (ok → s.stepOffset ≠ 0 → s.shadowState ≠ 3 → (∀ k, (s.sc k).rollMode < 2) →
      (∀ k < 2, (Tab.get s.tim.trig {} k).period = 0 → (Tab.get s.tim.trig {} k).armed = false) →
      ∃ t : State, exec (.step who false) s = .next t ∧ Ends t ∧ t.tim.now = wrapTime r.toNat ∧
      t.get F.TIM_EVENT_EVENTS = setBit (s.get F.TIM_EVENT_EVENTS) 0 ∧
      OnlyIn [.FLX_SEC_STAMP, .FLX_INST_SEC_CRC, .FLX_INST_SEC_MISS, .FLX_INST_SEC_FALSE, .FLX_INST_SEC_DEFECT, .FLX_CLI_SEC_RX_LO,
        .FLX_CLI_SEC_RX_HI, .FLX_CLI_SEC_ERR, .FLX_CLI_SEC_INS, .FLX_CLI_SEC_DEL, .FLX_CLI_SEC_TX_LO, .FLX_CLI_SEC_TX_HI,
        .SWC_CH_STATUS, .SEQ_PORT_STALL, .SCH_EVENT, .TIM_STATUS, .TIM_EVENT, .TIM_CMD_RESULT, .HIF_CQ_PROD, .CNT_EVENT,
        .CNT_SEC_STAMP, .CNT_PROG_SEL]
        [.irq, .tim, .cnt, .flx, .tbl, .buf, .sch, .pool, .key, .twn, .hif, .jnl, .tmp, .pwr, .out, .free] s t) ∧
    (ok → ∃ t : State, exec (.step who true) s = .next t ∧ t.get F.TIM_CMD_RESULT_OP = 1 ∧ t.get F.TIM_CMD_RESULT_STATUS = 4 ∧
      Only [F.TIM_CMD_RESULT_STATUS, F.TIM_CMD_RESULT_OP] [] s t) ∧
    (∀ p, ¬ ok → ∃ t : State, exec (.step who p) s = .next t ∧ t.get F.TIM_CMD_RESULT_OP = 1 ∧ t.get F.TIM_CMD_RESULT_STATUS = 2 ∧
      Only [F.TIM_CMD_RESULT_STATUS, F.TIM_CMD_RESULT_OP] [] s t))

/-- R287, R289, R290, R297, R302, R303: captures enter their FIFO or count as lost, pops take them; triggers are
armed, give edges and are disarmed; TIM_NOW latches, the reference is lost and locked, and PPS pulses leave. Events on
a pop and SRC_ACTIVE are log entry 59. -/
def Obligations.CapturesTriggersAndReferences : Prop :=
  (∀ (who k : Nat) (rising : Bool) (s : State), k < 3 →
    ((if rising then s.get (F.TIM_CAP_CFG_EDGE k) % 2 = 1 else s.get (F.TIM_CAP_CFG_EDGE k) / 2 = 1) → s.pwr.state ≠ .hibernate →
      (∀ p ∈ s.tim.capLast, p.1 = k → s.nowQns < p.2 ∨ p.2 + 32 ≤ s.nowQns) →
      ((s.capFifo k).length < 16 → ∃ t : State, exec (.captureEdge k rising) s = .next t ∧
        t.capFifo k = s.capFifo k ++ [⟨stampOf s.nowQns, rising⟩] ∧ (∀ j, j ≠ k → t.capFifo j = s.capFifo j) ∧
        t.get F.TIM_EVENT_EVENTS = setBit (s.get F.TIM_EVENT_EVENTS) 6 ∧
        t.tim = { s.tim with cap := t.tim.cap, capLast := t.tim.capLast } ∧ Only [F.TIM_EVENT_EVENTS] [.tim, .irq, .out] s t) ∧
      (16 ≤ (s.capFifo k).length → ∃ t : State, exec (.captureEdge k rising) s = .next t ∧ t.tim.cap = s.tim.cap ∧
        t.get F.TIM_EVENT_EVENTS = setBit (s.get F.TIM_EVENT_EVENTS) 3 ∧
        t.get (F.TIM_CAP_LOST_LOST k) = min (s.get (F.TIM_CAP_LOST_LOST k) + 1) (2 ^ 32 - 1) ∧
        Only [F.TIM_EVENT_EVENTS, F.TIM_CAP_LOST_LOST k] [.tim, .irq, .out] s t)) ∧
    (who ≤ 4 → (s.capFifo k).length ≤ 1 → ∃ t : State, exec (.timCapPop who k) s = .next t ∧ t.capFifo k = [] ∧
      (∀ j, j ≠ k → t.capFifo j = s.capFifo j) ∧ t.tim = { s.tim with cap := t.tim.cap } ∧ Only [] [.tim] s t) ∧
    (∀ a b r, who ≤ 4 → s.capFifo k = a :: b :: r → ∃ t : State, exec (.timCapPop who k) s = .next t ∧ t.capFifo k = b :: r ∧
      (∀ j, j ≠ k → t.capFifo j = s.capFifo j) ∧ t.get F.TIM_EVENT_EVENTS = setBit (s.get F.TIM_EVENT_EVENTS) 6 ∧
      t.tim = { s.tim with cap := t.tim.cap } ∧ Only [F.TIM_EVENT_EVENTS] [.tim, .irq, .out] s t) ∧
    (∀ a b r, who ≤ 4 → s.tim.txts = a :: b :: r → ∃ t : State, exec (.timTxtsPop who) s = .next t ∧
      t.tim = { s.tim with txts := b :: r } ∧ t.get F.TIM_EVENT_EVENTS = setBit (s.get F.TIM_EVENT_EVENTS) 5 ∧
      Only [F.TIM_EVENT_EVENTS] [.tim, .irq, .out] s t) ∧
    (∀ a, who ≤ 4 → s.tim.txts = [a] → ∃ t : State, exec (.timTxtsPop who) s = .next t ∧ t.tim = { s.tim with txts := [] } ∧
      Only [] [.tim] s t) ∧
    (who ≤ 4 → s.tim.txts = [] → ∃ t : State, exec (.timTxtsPop who) s = .next t ∧ t.get F.TIM_STATUS_WRITE_IGNORED = 1 ∧
      Only [F.TIM_STATUS_WRITE_IGNORED] [] s t)) ∧
  (∀ (who k : Nat) (s : State), who ≤ 4 → k < 2 →
    let g := Tab.get s.tim.trig {} k
    let p := s.get (F.TIM_TRIG_PERIOD_PERIOD_NS k)
    let w := s.get (F.TIM_TRIG_WIDTH_WIDTH_NS k)
    let start := (s.get (F.TIM_TRIG_SEC_LO_SEC k) + s.get (F.TIM_TRIG_SEC_HI_SEC k) * 2 ^ 32) * 1000000000 + s.get (F.TIM_TRIG_NS_NS k)
    let Trig := fun (t : State) (x : Trigger) => Tab.get t.tim.trig {} k = x ∧
      (∀ j, j ≠ k → Tab.get t.tim.trig {} j = Tab.get s.tim.trig {} j) ∧ t.tim = { s.tim with trig := t.tim.trig }
    (8 ≤ w → p = 0 ∨ (100 ≤ p ∧ p ≤ 1000000000 ∧ w < p) → ∃ t : State, exec (.arm who k) s = .next t ∧
      Trig t { g with armed := true, start := start, period := p, width := w
                      edge := if p = 0 then start else nextEdge start p s.nowNs } ∧
      t.get (F.TIM_TRIG_STATUS_ARMED k) = 1 ∧ t.get F.TIM_CMD_RESULT_OP = 2 ∧ t.get F.TIM_CMD_RESULT_STATUS = 0 ∧
      Only [F.TIM_TRIG_STATUS_ARMED k, F.TIM_CMD_RESULT_OP, F.TIM_CMD_RESULT_STATUS] [.tim] s t) ∧
    (w < 8 ∨ (p ≠ 0 ∧ (p < 100 ∨ 1000000000 < p ∨ p ≤ w)) → ∃ t : State, exec (.arm who k) s = .next t ∧
      t.get F.TIM_CMD_RESULT_OP = 2 ∧ t.get F.TIM_CMD_RESULT_STATUS = 2 ∧
      Only [F.TIM_CMD_RESULT_OP, F.TIM_CMD_RESULT_STATUS] [] s t) ∧
    (∃ t : State, exec (.triggerDisarm who k) s = .next t ∧ Trig t { g with armed := false, highUntil := 0 } ∧
      t.get (F.TIM_TRIG_STATUS_ARMED k) = 0 ∧ (g.highUntil ≠ 0 → t.out = .trig k false :: s.out) ∧
      Only [F.TIM_TRIG_STATUS_ARMED k] [.tim, .out] s t) ∧
    (g.armed = true → g.edge ≤ s.nowNs → ∃ t : State, exec (.triggerEdge k) s = .next t ∧ t.out = .trig k true :: s.out ∧
      (g.period = 0 → Trig t { g with armed := false, highUntil := (s.nowNs + g.width) * 2 ^ 32 } ∧
        t.get (F.TIM_TRIG_STATUS_ARMED k) = 0) ∧
      (g.period ≠ 0 → Trig t { g with edge := nextEdge g.start g.period s.nowNs, highUntil := (s.nowNs + g.width) * 2 ^ 32 } ∧
        t.get (F.TIM_TRIG_STATUS_ARMED k) = s.get (F.TIM_TRIG_STATUS_ARMED k)) ∧
      Only [F.TIM_TRIG_STATUS_ARMED k] [.tim, .out] s t)) ∧
  (∀ (who : Nat) (s : State),
    (∃ t : State, exec (.timNowLatch who) s = .next t ∧ Tab.get t.tim.latch 0 who = s.tim.now ∧
      (∀ w, w ≠ who → Tab.get t.tim.latch 0 w = Tab.get s.tim.latch 0 w) ∧ t.tim = { s.tim with latch := t.tim.latch } ∧
      t.out = .read who (s.nowSec % 2 ^ 32) :: s.out ∧ Only [] [.tim, .out] s t) ∧
    (s.get F.TIM_CFG_SRC = 1 → ∃ t : State, exec .refLost s = .next t ∧ t.get F.TIM_STATUS_REF_LOCKED = 0 ∧
      t.get F.TIM_EVENT_EVENTS = setBit (s.get F.TIM_EVENT_EVENTS) 1 ∧
      Only [F.TIM_STATUS_REF_LOCKED, F.TIM_EVENT_EVENTS] [.irq, .out] s t) ∧
    (s.get F.TIM_STATUS_REF_LOCKED = 0 → ∃ t : State, exec .refLocked s = .next t ∧ t.get F.TIM_STATUS_REF_LOCKED = 1 ∧
      t.get F.TIM_STATUS_SRC_ACTIVE = s.get F.TIM_CFG_SRC ∧ t.get F.TIM_EVENT_EVENTS = setBit (s.get F.TIM_EVENT_EVENTS) 2 ∧
      Only [F.TIM_STATUS_REF_LOCKED, F.TIM_STATUS_SRC_ACTIVE, F.TIM_EVENT_EVENTS] [.irq, .out] s t) ∧
    (let n := s.nextPps (max s.tim.ppsFrom s.tim.ppsDone)
     n ≤ s.tim.now → s.get F.TIM_CFG_PPS_OUT_EN = 1 → s.pwr.state ≠ .hibernate → s.squelched = false →
      ∃ t : State, exec .ppsOutPulse s = .next t ∧ t.out = .pps true :: s.out ∧
        t.tim = { s.tim with ppsFrom := n, ppsDone := n, ppsUntil := n + s.get F.TIM_PPS_OUT_WIDTH_MS * 1000000 * 2 ^ 32 } ∧
        Only [] [.tim, .out] s t) ∧
    (s.get F.TIM_CFG_SRC = 0 → exec .refLost s = .next s))

/-- R308 to R310: a frame of the session on a link that is down changes nothing, one of another epoch counts
EPOCH_DISCARD, one that fails authentication counts AUTH_FAIL. Without a monitored twin-link alarm; sessions are log
entry 64. -/
def Obligations.TwinFramesAreChecked : Prop :=
  ∀ (h : TwinHdr) (m : TwinMsg) (c : Instr) (e : Nat) (s : State), sessionRow s h m = some (c, e) →
    (s.get F.TWN_STATUS_LINK_UP ≠ 1 → exec c s = .next s) ∧
    (s.get F.TWN_STATUS_LINK_UP = 1 → s.twinAuth h m = true → h.epoch % 65536 ≠ e % 65536 → ∃ t : State, exec c s = .next t ∧
      t.get F.TWN_DISCARDS_EPOCH_DISCARD = min (s.get F.TWN_DISCARDS_EPOCH_DISCARD + 1) 65535 ∧
      Only [F.TWN_DISCARDS_EPOCH_DISCARD] [] s t) ∧
    (s.get F.TWN_STATUS_LINK_UP = 1 → s.twinAuth h m = false → s.accepted [(13, 0)] = [] → ∃ t : State, exec c s = .next t ∧
      t.get F.TWN_DISCARDS_AUTH_FAIL = min (s.get F.TWN_DISCARDS_AUTH_FAIL + 1) 65535 ∧
      Only [F.TWN_DISCARDS_AUTH_FAIL] [] s t)

/-- R306, R308, R309, R314: a HELLO that fits starts the session with its key and skew and decides the state of a
SEEKING twin; one that does not fit posts its event and starts none (log entries 64, 65, 67). -/
def Obligations.TwinSessionStarts : Prop :=
  ∀ (h : TwinHdr) (m : HelloMsg) (skew : Nat) (g : Image) (s : State), s.pel.active = some g → s.twinOn = true → s.dataUp = true →
    s.pwr.cpReset = false → s.linkKeyed = true → s.twinAuth h (.hello m) = true → s.get F.TWN_STATUS_LINK_UP = 0 →
    (s.helloFits g m = true → ∃ t : State, exec (.hello h m skew) s = .next t ∧ t.get F.TWN_STATUS_LINK_UP = 1 ∧
      t.get F.TWN_SKEW_SKEW_NS = skew % 65536 ∧ t.twn.session = some (s.sessionKey h.node m.random) ∧ t.twn.peerNode = h.node ∧
      (t.get F.TWN_EVENT_EVENTS).testBit 0 = true ∧
      (s.get F.TWN_STATUS_STATE = 1 → m.state = .active → t.get F.TWN_STATUS_STATE = 2 ∧
        t.get F.TWN_LEASE_EPOCH = m.epoch % 65536 ∧ t.get F.TWN_LEASE_HOLDER = 0) ∧
      (s.get F.TWN_STATUS_STATE = 1 → m.state = .seeking → t.get F.TWN_STATUS_STATE = (if s.twinRole = .preferred then 4 else 2)) ∧
      OnlyIn [.TWN_STATUS, .TWN_LEASE, .TWN_SKEW, .TWN_EVENT, .TWN_STR_SEQ, .TMP_STATUS, .TMP_BAT_INFO] [.irq, .buf, .twn, .out] s t) ∧
    (s.helloFits g m = false → ∃ t : State, exec (.hello h m skew) s = .next t ∧ t.get F.TWN_STATUS_LINK_UP = 0 ∧
      t.get F.TWN_EVENT_EVENTS = setBit (s.get F.TWN_EVENT_EVENTS) 9 ∧
      t.twn = { s.twn with heard := true, peerNode := h.node, peerState := m.state, peerSynced := m.synced } ∧
      Only [F.TWN_EVENT_EVENTS] [.twn, .irq, .out] s t)

/-- R309, R315 to R317: a STANDBY twin takes mirrored receive PNs, SCs and reserved ends, a SYNCING one keeps SYNC
records until SYNC_END makes it STANDBY, and ACK frees what it acknowledges; each acknowledged message is answered
with ACK (log entry 66). -/
def Obligations.TwinMirrorsState : Prop :=
  ∀ (h : TwinHdr) (s : State), s.twn.rxSeq < h.seq →
    (∀ st synced clap, Passes s h (.heartbeat st synced clap) s.epoch → s.get F.TWN_STATUS_STATE = 3 →
      ∃ t : State, exec (.heartbeat h st synced clap) s = .next t ∧ t.twn = { s.twn with peerState := st, peerSynced := synced } ∧
        Only [] [.twn] s t) ∧
    (∀ a pn, Passes s h (.mirror (.rxPn a pn)) s.epoch → s.get F.TWN_STATUS_STATE = 3 → (s.sa a).rx = true →
      ∃ t : State, exec (.mirror h (.rxPn a pn)) s = .next t ∧ t.sa a = { s.sa a with nextPn := max (s.sa a).nextPn pn } ∧
        (∀ b, b ≠ a → t.sa b = s.sa b) ∧ Acked s t h.seq ∧ Only [] [.sam, .twn, .out] s t) ∧
    (∀ r, Passes s h (.mirror (.sc r)) s.epoch → s.get F.TWN_STATUS_STATE = 3 → r.created = true → r.dirRx = false →
      (s.sc r.sc).created = false → ∃ t : State, exec (.mirror h (.sc r)) s = .next t ∧ t.sc r.sc = recordEntry r ∧
        (∀ k, k ≠ r.sc → t.sc k = s.sc k) ∧ Acked s t h.seq ∧ Only [] [.sam, .cnt, .twn, .out] s t) ∧
    (∀ r, Passes s h (.sync r) s.epoch → s.get F.TWN_STATUS_STATE = 2 → r ≠ .syncEnd →
      ∃ t : State, exec (.sync h r) s = .next t ∧ t.twn.synced = s.twn.synced ++ [r] ∧ Acked s t h.seq ∧ Only [] [.twn, .out] s t) ∧
    (Passes s h (.sync .syncEnd) s.epoch → s.get F.TWN_STATUS_STATE = 2 → ∃ t : State, exec (.sync h .syncEnd) s = .next t ∧
      t.get F.TWN_STATUS_STATE = 3 ∧ t.get F.TWN_STATUS_SYNCED = 1 ∧ t.twn.synced = [] ∧ Acked s t h.seq ∧
      t.get F.TWN_EVENT_EVENTS = setBit (s.get F.TWN_EVENT_EVENTS) 4 ∧
      OnlyIn [.TWN_STATUS, .TWN_EVENT] [.irq, .cnt, .pool, .sam, .twn, .out] s t) ∧
    (∀ a newEnd, Passes s h (.reserve a newEnd) s.epoch → s.get F.TWN_STATUS_STATE = 3 → s.saMirrored a = true → (s.sa a).rx = false →
      let e := max (Tab.get s.twn.resEnd 0 a) newEnd
      ∃ t : State, exec (.reserve h a newEnd) s = .next t ∧ Tab.get t.twn.resEnd 0 a = e ∧
        t.sa a = { s.sa a with nextPn := e + 1, blockEnd := e } ∧ (∀ b, b ≠ a → t.sa b = s.sa b) ∧ Acked s t h.seq ∧
        Only [] [.sam, .twn, .out] s t) ∧
    (∀ n, Passes s h (.ack n) s.epoch → ∃ t : State, exec (.ack h n) s = .next t ∧
      t.twn.unacked = s.twn.unacked.filter (fun u => decide (n < u.hdr.seq)) ∧
      (∀ u a e, s.twn.unacked = [u] → u.hdr.seq ≤ n → u.msg = .reserve a e → (s.sa a).state ≠ .free → (s.sa a).rx = false →
        t.sa a = { s.sa a with blockEnd := max (s.sa a).blockEnd e }) ∧ Only [] [.sam, .twn] s t)

/-- R309, R314, R318, R319, R321, R325, R384: claims and renewals of the lease, the handover by ROLE messages, notices
to the tamper log and dual frames to the queue of their stream (log entries 65, 66, 74). -/
def Obligations.TwinLeaseRoleAndNotice : Prop :=
  ∀ (h : TwinHdr) (s : State), s.twn.rxSeq < h.seq →
    (∀ epoch holder ms test, Passes s h (.lease .claim epoch holder ms test) (s.epoch + 1) →
      test = true ∨ s.get F.TWN_STATUS_STATE ≠ 4 ∨ s.get F.TWN_STATUS_CLAP_IN ≠ 2 →
      ∃ t : State, exec (.lease h .claim epoch holder ms test) s = .next t ∧ t.get F.TWN_LEASE_EPOCH = h.epoch % 65536 ∧
        t.get F.TWN_LEASE_HOLDER = 0 ∧ t.get F.TWN_STATUS_TEST = bit test ∧ t.twn.peerLeaseEnd = s.nowNs + ms * 1000000 ∧
        Acked s t h.seq ∧ Only [F.TWN_LEASE_EPOCH, F.TWN_LEASE_HOLDER, F.TWN_STATUS_TEST] [.twn, .out] s t) ∧
    (∀ epoch ms test, Passes s h (.lease .renew epoch h.node ms test) s.epoch →
      test = true ∨ s.get F.TWN_STATUS_STATE ≠ 4 ∨ s.get F.TWN_STATUS_CLAP_IN ≠ 2 →
      ∃ t : State, exec (.lease h .renew epoch h.node ms test) s = .next t ∧ t.get F.TWN_LEASE_HOLDER = 0 ∧
        t.get F.TWN_STATUS_TEST = bit test ∧ t.twn.peerLeaseEnd = s.nowNs + ms * 1000000 ∧ Acked s t h.seq ∧
        Only [F.TWN_LEASE_HOLDER, F.TWN_STATUS_TEST] [.twn, .out] s t) ∧
    (∀ epoch ms, Passes s h (.lease .renew epoch h.node ms false) s.epoch → s.get F.TWN_STATUS_TEST = 1 → Meets s →
      ∃ t : State, exec (.lease h .renew epoch h.node ms false) s = .next t ∧ t.get F.TWN_STATUS_TEST = 0 ∧
        t.get F.TWN_EVENT_EVENTS = setBit (s.get F.TWN_EVENT_EVENTS) 5 ∧
        (s.twinRole = .nonPreferred → t.get F.TWN_STATUS_STATE = 2 ∧ t.get F.TWN_STATUS_SYNCED = 0) ∧
        OnlyIn [.TWN_LEASE, .TWN_STATUS, .TWN_EVENT] [.irq, .twn, .out] s t) ∧
    (Passes s h (.role .req) s.epoch → s.get F.TWN_STATUS_STATE = 4 → ∃ t : State, exec (.role h .req) s = .next t ∧
      t.get F.TWN_STATUS_STATE = 5 ∧ t.twn.handover = .draining ∧ Acked s t h.seq ∧ Only [F.TWN_STATUS_STATE] [.twn, .out] s t) ∧
    (∀ seqs, Passes s h (.role (.grant seqs)) s.epoch → s.get F.TWN_STATUS_STATE = 3 → ∃ t : State, exec (.role h (.grant seqs)) s = .next t ∧
      t.get F.TWN_STATUS_STATE = 4 ∧ t.get F.TWN_LEASE_HOLDER = 1 ∧ t.get F.TWN_STATUS_CLAP_OUT = 2 ∧ t.twn.permit = true ∧
      t.get F.TWN_EVENT_EVENTS = setBit (s.get F.TWN_EVENT_EVENTS) 3 ∧ Acked s t h.seq ∧
      OnlyIn [.TWN_STATUS, .TWN_LEASE, .TWN_EVENT, .TWN_STR_SEQ] [.sam, .twn, .irq, .out] s t) ∧
    (Passes s h (.role .done) s.epoch → s.get F.TWN_STATUS_STATE = 5 → s.twn.handover = .granted →
      ∃ t : State, exec (.role h .done) s = .next t ∧ t.get F.TWN_STATUS_STATE = 3 ∧ t.get F.TWN_STATUS_SYNCED = 1 ∧
        t.get F.TWN_LEASE_HOLDER = 0 ∧ t.twn.permit = false ∧ t.get F.TWN_EVENT_EVENTS = setBit (s.get F.TWN_EVENT_EVENTS) 3 ∧
        (s.get F.TWN_CMD_RESULT_RUNNING = 1 → t.get F.TWN_CMD_RESULT_RUNNING = 0 ∧ t.get F.TWN_CMD_RESULT_OP = 1 ∧
          t.get F.TWN_CMD_RESULT_STATUS = 0) ∧ Acked s t h.seq ∧
        OnlyIn [.TWN_STATUS, .TWN_LEASE, .TWN_EVENT, .TWN_CMD_RESULT] [.sam, .twn, .irq, .out] s t) ∧
    (∀ src mask, Passes s h (.notice src mask) s.epoch → ∃ t : State, exec (.notice h src mask) s = .next t ∧
      (t.get F.TMP_EVENT_EVENTS).testBit 16 = true ∧ t.get F.TMP_LOG_SEQ_NEXT_SEQ = (s.get F.TMP_LOG_SEQ_NEXT_SEQ + 1) % 2 ^ 32 ∧
      t.tmp.events = s.tmp.events + 1 ∧ Acked s t h.seq ∧
      OnlyIn [.SWC_SNR_LOST, .JNL_DISCARDED, .TMP_EVENT, .TMP_LOG_INFO, .TMP_LOG_SEQ] [.irq, .buf, .jnl, .tmp, .twn, .out] s t) ∧
    (∀ id q tIn bs st a, Passes s h (.dual id q tIn bs) s.epoch → s.get F.TWN_STATUS_STATE = 3 →
      (s.twin?.bind (fun t => t.streams.find? (fun x => x.id = id))) = some st →
      let c := s.sc st.sc
      let k := 8 * c.channel + 7
      c.created = true → c.rx = false → c.enable = true → c.current = some a → s.onDie a = true → s.sam.onDie.length ≤ s.storeSize → s.qState k = 1 →
      s.withinMax k = true → s.belowMin k = false → s.belowAlpha k = true → 0 < s.sharedFree →
      ∃ (t : State) (f : Frame), exec (.dual h id q tIn bs) s = .next t ∧ t.queue k = s.queue k ++ [f] ∧ f.bytes = bs ∧ f.dual = some (id, q, tIn) ∧
        f.sc = some st.sc ∧ f.action = .protect ∧ f.cls = 7 ∧ (∀ p, p ≠ k → t.queue p = s.queue p) ∧
        OnlyIn [.SWC_SNR_LOST, .SWC_CH_STATUS, .SCH_EVENT, .HIF_CQ_PROD, .CNT_EVENT, .CNT_PROG_SEL]
          [.irq, .cnt, .buf, .sam, .hif, .out, .free] s t)

/-- R307, R309, R314, R321, R322, R325: retransmission and its end, the loss of the Twin link, HELLO and HEARTBEAT,
renewal and lapse of the lease, reversion and the grant of a handover. Timer rows act while their condition is in
force (log entry 4), lease rows so too (log entry 65). -/
def Obligations.TwinTimersAndHandover : Prop :=
  (∀ (s : State),
    (s.get F.TWN_STATUS_LINK_UP = 1 → (∀ u ∈ s.twn.unacked, u.resends < 7) →
      s.twn.unacked.any (fun u => decide (u.sentAt + 20000 ≤ s.nowNs)) = true → ∃ t : State, exec .twinRetransmit s = .next t ∧
      t.twn = { s.twn with unacked := s.twn.unacked.map (fun u => { u with sentAt := s.nowNs, resends := u.resends + 1 }) } ∧
      t.out = (s.twn.unacked.map (fun u => Output.twin u.hdr u.msg (s.linkFrame s.peerNode u.hdr u.msg))).reverse ++ s.out ∧ Only [] [.twn, .out] s t) ∧
    (s.twn.unacked.any (fun u => decide (u.sentAt + 20000 ≤ s.nowNs)) = false → exec .twinRetransmit s = .next s) ∧
    (s.get F.TWN_STATUS_LINK_UP = 1 → s.twn.unacked.any (fun u => decide (u.sentAt + 20000 ≤ s.nowNs)) = true →
      s.twn.unacked.any (fun u => decide (7 ≤ u.resends)) = true → ∃ t : State, exec .twinRetransmit s = .next t ∧
      t.get F.TWN_STATUS_LINK_UP = 0 ∧ t.twn.session = none) ∧
    (s.get F.TWN_STATUS_LINK_UP = 1 → ∃ t : State, exec .twinLinkDown s = .next t ∧ t.get F.TWN_STATUS_LINK_UP = 0 ∧
      t.twn.session = none ∧ t.twn.unacked = [] ∧ t.twn.rxSeq = 0 ∧ t.twn.txSeq = 0 ∧
      t.get F.TWN_EVENT_EVENTS = setBit (s.get F.TWN_EVENT_EVENTS) 1 ∧
      (s.get F.TWN_STATUS_STATE = 2 ∨ s.get F.TWN_STATUS_STATE = 5 → t.get F.TWN_STATUS_STATE = 1) ∧
      (s.get F.TWN_STATUS_STATE = 4 → t.get F.TWN_STATUS_STATE = 4) ∧
      OnlyIn [.TWN_STATUS, .TWN_EVENT, .TWN_CMD_RESULT] [.irq, .twn, .out, .free] s t) ∧
    (∀ g, s.pel.active = some g → s.twinOn = true → s.dataUp = true → s.pwr.cpReset = false → s.get F.TWN_STATUS_LINK_UP = 0 →
      let m := TwinMsg.hello (s.ownHello g)
      (s.linkKeyed = true → ∃ t : State, exec .helloTimer s = .next t ∧
        t.out = .twin (s.twinHdr 0 m) m (s.linkFrame s.peerNode (s.twinHdr 0 m) m) :: s.out ∧ Only [] [.out] s t) ∧
      (s.linkKeyed = false → exec .helloTimer s = .next s)) ∧
    (s.get F.TWN_STATUS_LINK_UP = 1 → ∃ t : State, exec .heartbeatTimer s = .next t ∧
      (∃ (h : TwinHdr) (f : Bytes), .twin h (.heartbeat s.twinState s.synced s.clapSeen) f ∈ t.out) ∧
      (s.twn.beats < 9 → t.twn.beats = s.twn.beats + 1 ∧ t.twn.rxChanged = s.twn.rxChanged) ∧
      (9 ≤ s.twn.beats → t.twn.beats = 0 ∧ t.twn.rxChanged = [] ∧ (s.get F.TWN_STATUS_STATE = 4 → ∀ a ∈ s.twn.rxChanged,
        ∃ (h : TwinHdr) (f : Bytes), .twin h (.mirror (.rxPn a (s.sa a).nextPn)) f ∈ t.out)) ∧ Only [] [.twn, .out] s t)) ∧
  (∀ (s : State),
    (s.get F.TWN_LEASE_HOLDER = 1 → s.twinOn = true → s.get F.TWN_STATUS_LINK_UP = 1 → ∃ t : State, exec .leaseRenewTimer s = .next t ∧
      (∃ (h : TwinHdr) (f : Bytes), t.out = .twin h (.lease .renew s.epoch s.ownNode (s.get F.TWN_CFG_LEASE_MS) (decide (s.get F.TWN_STATUS_TEST = 1))) f :: s.out) ∧
      t.twn.leaseEnd = s.twn.leaseEnd ∧ Only [] [.twn, .out] s t) ∧
    (s.get F.TWN_LEASE_HOLDER = 1 → s.twinOn = true → s.get F.TWN_STATUS_LINK_UP = 0 → s.get F.TWN_STATUS_CLAP_IN = 0 →
      s.twn.heard = false → ∃ t : State, exec .leaseRenewTimer s = .next t ∧
        t.twn = { s.twn with leaseEnd := s.nowNs + s.get F.TWN_CFG_LEASE_MS * 1000000 } ∧ Only [] [.twn] s t) ∧
    (s.get F.TWN_STATUS_STATE = 4 → s.leaseMode = true → s.leaseValid = false → ∃ t : State, exec .leaseLapsed s = .next t ∧
      t.get F.TWN_STATUS_STATE = 1 ∧ t.get F.TWN_LEASE_HOLDER = 0 ∧ t.get F.TWN_STATUS_CLAP_OUT = 1 ∧ t.twn.permit = false ∧
      t.get F.TWN_EVENT_EVENTS = setBit (s.get F.TWN_EVENT_EVENTS) 7 ∧
      OnlyIn [.TWN_STATUS, .TWN_LEASE, .TWN_EVENT] [.irq, .twn, .out] s t) ∧
    (∀ x, s.twn.holdOff = some x → x ≤ s.nowNs → s.twinRole = .preferred → s.get F.TWN_STATUS_STATE = 3 → s.synced = true →
      s.get F.TWN_STATUS_LINK_UP = 1 → ∃ (t : State) (h : TwinHdr) (f : Bytes), exec .revertHoldoffExpiry s = .next t ∧ t.out = .twin h (.role .req) f :: s.out ∧
        t.twn.holdOff = none ∧ Only [] [.twn, .out] s t) ∧
    (s.handStopped = true → s.twn.handover = .draining → s.twinDrained = true → ∃ (t : State) (h : TwinHdr) (f : Bytes), exec .handoverGrant s = .next t ∧
      t.get F.TWN_STATUS_CLAP_OUT = 1 ∧ t.twn.handover = .granted ∧ .twin h (.role (.grant s.streamSeqs)) f ∈ t.out ∧
      Only [F.TWN_STATUS_CLAP_OUT] [.twn, .out] s t))

/-- R311 to R314, R323, R324: YIELD, TAKE, TEST_ENTER and TEST_EXIT of a core or the PF; the Clapper input, its fault,
takeover, bulk permit and the end of seeking (log entries 4, 67). -/
def Obligations.TwinCommandsAndTakeover : Prop :=
  (∀ (who : Nat) (s : State), who ≤ 4 → hasTwin s.fus.variant = true → s.get F.TWN_CMD_RESULT_RUNNING = 0 →
    (s.get F.TWN_STATUS_STATE = 4 → s.peerStandby = true → s.get F.TWN_STATUS_LINK_UP = 1 → ∃ t : State, exec (.yield who) s = .next t ∧
      t.get F.TWN_CMD_RESULT_RUNNING = 1 ∧ t.get F.TWN_STATUS_STATE = 5 ∧ t.twn = { s.twn with handover := .draining } ∧
      Only [F.TWN_CMD_RESULT_RUNNING, F.TWN_STATUS_STATE] [.twn] s t) ∧
    (s.get F.TWN_STATUS_STATE ≠ 4 ∨ s.peerStandby = false ∨ s.get F.TWN_STATUS_LINK_UP ≠ 1 → ∃ t : State, exec (.yield who) s = .next t ∧
      t.get F.TWN_CMD_RESULT_OP = 1 ∧ t.get F.TWN_CMD_RESULT_STATUS = 1 ∧
      Only [F.TWN_CMD_RESULT_OP, F.TWN_CMD_RESULT_STATUS] [] s t) ∧
    (s.twinOn = true → s.leaseMode = true → s.peerLease = false → ∃ t : State, exec (.take who) s = .next t ∧
      t.get F.TWN_STATUS_STATE = 4 ∧ t.get F.TWN_LEASE_HOLDER = 1 ∧ t.get F.TWN_LEASE_EPOCH = (s.get F.TWN_LEASE_EPOCH + 1) % 65536 ∧
      t.get F.TWN_STATUS_CLAP_OUT = 2 ∧ t.get F.TWN_CMD_RESULT_OP = 2 ∧ t.get F.TWN_CMD_RESULT_STATUS = 0 ∧
      OnlyIn [.TWN_STATUS, .TWN_LEASE, .TWN_CMD_RESULT, .TWN_STR_SEQ] [.sam, .twn, .out] s t) ∧
    (∃ t : State, exec (.testEnter who) s = .next t ∧ t.get F.TWN_STATUS_TEST = 1 ∧ t.get F.TWN_CMD_RESULT_OP = 3 ∧
      t.get F.TWN_CMD_RESULT_STATUS = 0 ∧ Only [F.TWN_STATUS_TEST, F.TWN_CMD_RESULT_OP, F.TWN_CMD_RESULT_STATUS] [.twn, .out] s t) ∧
    (∃ t : State, exec (.testExit who) s = .next t ∧ t.get F.TWN_STATUS_TEST = 0 ∧ t.get F.TWN_CMD_RESULT_OP = 4 ∧
      t.get F.TWN_CMD_RESULT_STATUS = 0 ∧
      (s.get F.TWN_STATUS_STATE ≠ 4 ∨ s.get F.TWN_STATUS_CLAP_IN ≠ 2 →
        Only [F.TWN_STATUS_TEST, F.TWN_CMD_RESULT_OP, F.TWN_CMD_RESULT_STATUS] [.twn, .out] s t) ∧
      (s.get F.TWN_STATUS_TEST = 1 → Meets s → t.get F.TWN_EVENT_EVENTS = setBit (s.get F.TWN_EVENT_EVENTS) 5 ∧
        (s.twinRole = .nonPreferred → t.get F.TWN_STATUS_STATE = 2 ∧ t.get F.TWN_STATUS_SYNCED = 0)) ∧
      OnlyIn [.TWN_STATUS, .TWN_CMD_RESULT, .TWN_EVENT] [.irq, .twn, .out] s t)) ∧
  (∀ (s : State),
    (∀ v : Clap, hasTwin s.fus.variant = true → s.clapSeen ≠ v → ∃ t : State, exec (.clapperInputChange v) s = .next t ∧
      t.get F.TWN_STATUS_CLAP_IN = clapCode v ∧
      (s.get F.TWN_STATUS_STATE = 4 → s.leaseMode = false → v = .drive → s.twinRole = .nonPreferred →
        t.get F.TWN_STATUS_STATE = 2 ∧ t.get F.TWN_STATUS_SYNCED = 0 ∧ t.twn.permit = false ∧
        t.get F.TWN_EVENT_EVENTS = setBit (s.get F.TWN_EVENT_EVENTS) 5) ∧
      OnlyIn [.TWN_STATUS, .TWN_EVENT] [.irq, .twn, .out] s t) ∧
    (s.twinOn = true → s.get F.TWN_STATUS_LINK_UP = 1 → s.clapDisagrees = true → s.get F.TWN_STATUS_CLAPPER_FAULT = 0 →
      s.accepted [(13, 0)] = [] → ∃ t : State, exec .clapperFault s = .next t ∧ t.get F.TWN_STATUS_CLAPPER_FAULT = 1 ∧
        t.get F.TWN_EVENT_EVENTS = setBit (s.get F.TWN_EVENT_EVENTS) 6 ∧
        Only [F.TWN_STATUS_CLAPPER_FAULT, F.TWN_EVENT_EVENTS] [.twn, .irq, .out] s t) ∧
    (s.get F.TWN_STATUS_CLAPPER_FAULT = 1 → s.get F.TWN_STATUS_LINK_UP = 1 → s.clapDisagrees = false →
      ∃ t : State, exec .clapperFaultClear s = .next t ∧ t.get F.TWN_STATUS_CLAPPER_FAULT = 0 ∧
        Only [F.TWN_STATUS_CLAPPER_FAULT] [.twn] s t) ∧
    (s.takeoverDue = true → ∃ t : State, exec .takeover s = .next t ∧ t.get F.TWN_STATUS_STATE = 4 ∧ t.get F.TWN_STATUS_CLAP_OUT = 2 ∧
      t.get F.TWN_LEASE_HOLDER = 1 ∧ t.get F.TWN_LEASE_EPOCH = (s.get F.TWN_LEASE_EPOCH + 1) % 65536 ∧ t.twn.permit = false ∧
      t.get F.TWN_TAKEOVERS_COUNT = (s.get F.TWN_TAKEOVERS_COUNT + 1) % 2 ^ 32 ∧
      t.get F.TWN_EVENT_EVENTS = setBit (s.get F.TWN_EVENT_EVENTS) 2 ∧
      OnlyIn [.TWN_STATUS, .TWN_LEASE, .TWN_EVENT, .TWN_TAKEOVERS, .TWN_STR_SEQ] [.irq, .sam, .twn, .out] s t) ∧
    (s.get F.TWN_STATUS_STATE = 4 → s.get F.TWN_STATUS_CLAP_IN ≠ 2 → (∀ i, s.twn.inDrive = some i → i ≤ s.twn.driveSince ∨ i + 100 ≤ s.nowNs) →
      ∃ t : State, exec .bulkPermit s = .next t ∧ t.twn = { s.twn with permit := true } ∧ Only [] [.twn] s t) ∧
    (s.get F.TWN_STATUS_STATE = 1 → s.get F.TWN_STATUS_LINK_UP = 0 → s.get F.TWN_STATUS_CLAP_IN = 0 →
      ∃ t : State, exec .seekTimeout s = .next t ∧ t.get F.TWN_STATUS_STATE = 4 ∧ t.get F.TWN_LEASE_HOLDER = 1 ∧
        t.get F.TWN_LEASE_EPOCH = (s.get F.TWN_LEASE_EPOCH + 1) % 65536 ∧ t.get F.TWN_STATUS_CLAP_OUT = 2 ∧ t.twn.permit = true ∧
        OnlyIn [.TWN_STATUS, .TWN_LEASE, .TWN_STR_SEQ] [.twn, .out] s t) ∧
    (s.get F.TWN_STATUS_STATE = 1 → s.get F.TWN_STATUS_LINK_UP = 0 → s.get F.TWN_STATUS_CLAP_IN ≠ 0 →
      ∃ t : State, exec .seekTimeout s = .next t ∧ t.get F.TWN_EVENT_EVENTS = setBit (s.get F.TWN_EVENT_EVENTS) 8 ∧
        Only [F.TWN_EVENT_EVENTS] [.irq, .out] s t))

/-- R330 to R332, R343, R350: a write of a ring set's control stores it and starts its indexes at 0; a DMA error stops
it; its interrupt hold-off fires its vector; VF_FLR, PF_FLR and a hot reset reset their functions; PCIE_LINK_UP shows
the link. LOG2 writes while enabled are log entry 70, the extent of the resets log entry 82. -/
def Obligations.RingSetsAndFunctionResets : Prop :=
  (∀ (who n r val : Nat) (s : State), s.pwr.cpReset = false → (ringSetsOf who)[n]? = some r →
    (let t' := field val 1 5
     let x := field val 6 5
     let c := field val 11 5
     6 ≤ t' ∧ t' ≤ 16 → 6 ≤ x ∧ x ≤ 16 → 6 ≤ c ∧ c ≤ 16 →
     (s.get (F.HIF_RS_CTL_ENABLE r) = 1 → t' = s.get (F.HIF_RS_CTL_TX_LOG2 r) ∧ x = s.get (F.HIF_RS_CTL_RX_LOG2 r) ∧
       c = s.get (F.HIF_RS_CTL_CQ_LOG2 r)) →
     ∃ t : State, exec (.ringSetEnable who n val) s = .next t ∧ t.get (F.HIF_RS_CTL_ENABLE r) = field val 0 1 ∧
       t.get (F.HIF_RS_CTL_TX_LOG2 r) = t' ∧ t.get (F.HIF_RS_CTL_RX_LOG2 r) = x ∧ t.get (F.HIF_RS_CTL_CQ_LOG2 r) = c ∧
       t.get (F.HIF_RS_CTL_HOLDOFF_US r) = field val 16 10 ∧ (field val 0 1 = 0 → t.get (F.HIF_RS_CTL_STOPPED r) = 0) ∧
       (field val 0 1 = 1 → s.get (F.HIF_RS_CTL_ENABLE r) = 0 → ∀ k ∈ [F.HIF_TX_PROD_INDEX r, F.HIF_TX_CONS_INDEX r,
         F.HIF_RX_PROD_INDEX r, F.HIF_RX_CONS_INDEX r, F.HIF_CQ_PROD_INDEX r, F.HIF_CQ_CONS_INDEX r], t.get k = 0) ∧
       (s.get (F.HIF_RS_CTL_ENABLE r) = 1 ∨ field val 0 1 = 0 → OnlyWhere (fun k => k.reg = .HIF_RS_CTL ∧ k.elem = r) [] s t) ∧
       OnlyWhere (fun k => isRingReg k.reg = true ∧ k.elem = r) [] s t) ∧
    (s.get (F.HIF_RS_CTL_ENABLE r) = 1 → s.get (F.HIF_RS_CTL_STOPPED r) = 0 → ∃ t : State, exec (.dmaError r) s = .next t ∧
      t.get (F.HIF_RS_CTL_STOPPED r) = 1 ∧ t.get F.HIF_EVENT_EVENTS = setBit (s.get F.HIF_EVENT_EVENTS) 0 ∧
      Only [F.HIF_RS_CTL_STOPPED r, F.HIF_EVENT_EVENTS] [.irq, .out] s t) ∧
    ((s.ring r).irqWait = true → s.holdoffOver r = true → ∃ t : State, exec (.ringIrqHoldoff r) s = .next t ∧
      t.ring r = { s.ring r with irqWait := false, irqAt := some s.nowNs } ∧ (∀ q, q ≠ r → t.ring q = s.ring q) ∧
      (∀ v, ringVector r = some v → .msix v ∈ t.out) ∧ t.hif = { s.hif with ring := t.hif.ring } ∧ Only [] [.hif, .irq, .out] s t) ∧
    ((s.ring r).irqWait = false ∨ s.holdoffOver r = false → exec (.ringIrqHoldoff r) s = .next s)) ∧
  (∀ (s : State),
    (∀ vf, 1 ≤ vf → vf ≤ 8 → ∃ t : State, exec (.vfFlr vf) s = .next t ∧ FunctionIsReset (vf + 4) s t ∧
      t.get F.HIF_EVENT_EVENTS = setBit (s.get F.HIF_EVENT_EVENTS) 1 ∧
      (∀ r, r ∉ ringSetsOf (vf + 4) → t.get (F.HIF_RS_CTL_ENABLE r) = s.get (F.HIF_RS_CTL_ENABLE r) ∧ t.ring r = s.ring r) ∧
      (∀ p < 3, s.lockOwner p ≠ some (vf + 4) → t.lockOwner p = s.lockOwner p) ∧
      OnlyIn [.TBL_EVENT, .HIF_EVENT, .HIF_RS_CTL, .HIF_TX_BASE_LO, .HIF_TX_BASE_HI, .HIF_RX_BASE_LO, .HIF_RX_BASE_HI,
        .HIF_CQ_BASE_LO, .HIF_CQ_BASE_HI, .HIF_TX_PROD, .HIF_TX_CONS, .HIF_RX_PROD, .HIF_RX_CONS, .HIF_CQ_PROD, .HIF_CQ_CONS,
        .CHM_OUT_DATA, .CHM_EVENT, .CHM_MASK, .VF_EVENT] [.irq, .tbl, .buf, .pool, .sam, .hif, .chm, .out] s t) ∧
    (∀ c : Instr, c = Instr.pfFlr ∨ c = .pcieHotReset → ∃ t : State, exec c s = .next t ∧ (∀ i < 9, FunctionIsReset (4 + i) s t) ∧
      t.get F.HIF_STATUS_NUM_VFS = 0 ∧ t.get F.HIF_EVENT_EVENTS =
        (if s.get F.HIF_STATUS_NUM_VFS = 0 then s.get F.HIF_EVENT_EVENTS else setBit (s.get F.HIF_EVENT_EVENTS) 1) ∧
      (∀ r, 24 ≤ r → t.get (F.HIF_RS_CTL_ENABLE r) = s.get (F.HIF_RS_CTL_ENABLE r) ∧ t.ring r = s.ring r) ∧
      OnlyIn [.TBL_EVENT, .HIF_STATUS, .HIF_EVENT, .HIF_RS_CTL, .HIF_TX_BASE_LO, .HIF_TX_BASE_HI, .HIF_RX_BASE_LO, .HIF_RX_BASE_HI,
        .HIF_CQ_BASE_LO, .HIF_CQ_BASE_HI, .HIF_TX_PROD, .HIF_TX_CONS, .HIF_RX_PROD, .HIF_RX_CONS, .HIF_CQ_PROD, .HIF_CQ_CONS,
        .CHM_OUT_DATA, .CHM_EVENT, .CHM_MASK, .VF_EVENT] [.irq, .tbl, .buf, .pool, .sam, .hif, .chm, .out] s t) ∧
    (∀ gen width, s.pwr.state ≠ .hibernate → s.tmp.onBattery = false → 1 ≤ gen → gen ≤ 5 → width ≤ 2 → s.deferDue 1 = false →
      ∃ t : State, exec (.pcieLinkUp gen width) s = .next t ∧ t.get F.HIF_STATUS_LINK_GEN = gen ∧ t.get F.HIF_STATUS_LINK_WIDTH = width ∧
        t.out = .pcieUp true :: s.out ∧ t.hif = { s.hif with linkSeen := true } ∧
        Only [F.HIF_STATUS_LINK_GEN, F.HIF_STATUS_LINK_WIDTH] [.hif, .out] s t))

/-- R333 to R337, R422: a frame fetched from a ring set enters the queue of its channel and class or completes with
its code at once; a punted frame is written to a receive buffer of the ring set of its class, a bad one is dropped
(log entry 69). -/
def Obligations.HostFramesInAndOut : Prop :=
  (∀ (r : Nat) (chain : SendChain) (s : State), let f := sendFrameOf chain
    r < 28 → s.ringOn r = true → 1 ≤ f.descriptors → f.descriptors ≤ s.sendWaiting r → s.cqRoom r = true →
    (let q := 8 * f.channel + f.cls
     s.sendStatus (ringOwner r) f = .ok → f.parse = false → f.action = 1 → f.ltValid = false → f.channel < 192 → f.cls < 8 →
     (lineSide f.channel = false ∨ s.get (F.CLS_CH_CFG_CLEAR_OK f.channel) = 1) → s.pel.active ≠ none → s.twin? = none →
     s.qState q ≠ 0 → s.qState q ≠ 3 → s.withinMax q = true → s.belowMin q = false → s.belowAlpha q = true → 0 < s.sharedFree →
     ∃ (t : State) (x : Frame), exec (.sendDescriptorFetch r chain) s = .next t ∧
       t.get (F.HIF_TX_CONS_INDEX r) = (s.get (F.HIF_TX_CONS_INDEX r) + f.descriptors) % 2 ^ 32 ∧
       t.queue q = s.queue q ++ [x] ∧ x.bytes = f.bytes ++ List.replicate (60 - f.bytes.length) 0 ∧ x.outCh = f.channel ∧
       x.cls = f.cls ∧ x.action = .clear ∧ x.host = some (r, f.tag) ∧ (∀ p, p ≠ q → t.queue p = s.queue p) ∧
       (t.ring r).open' = (s.ring r).open' + 1 ∧
       OnlyIn [.TBL_EVENT, .SWC_SNR_LOST, .SWC_CH_STATUS, .SCH_EVENT, .HIF_TX_CONS, .HIF_CQ_PROD, .CNT_EVENT, .CNT_PROG_SEL]
         [.irq, .cnt, .tbl, .buf, .sam, .hif, .out, .free] s t) ∧
    (∀ st, s.sendStatus (ringOwner r) f = st → st ≠ .ok → s.sendFar f = false →
     ∃ t : State, exec (.sendDescriptorFetch r chain) s = .next t ∧
       t.get (F.HIF_TX_CONS_INDEX r) = (s.get (F.HIF_TX_CONS_INDEX r) + f.descriptors) % 2 ^ 32 ∧
       t.get (F.HIF_CQ_PROD_INDEX r) = (s.get (F.HIF_CQ_PROD_INDEX r) + 1) % 2 ^ 32 ∧
       .dma (ringSlot (s.cqBase r) (s.cqSize r) (s.get (F.HIF_CQ_PROD_INDEX r)) 16)
         (leBytes 4 f.tag ++ leBytes 1 st.code ++ leBytes 11 0) ∈ t.out ∧ t.buf = s.buf ∧
       Only [F.HIF_TX_CONS_INDEX r, F.HIF_CQ_PROD_INDEX r] [.irq, .hif, .out] s t) ∧
    (s.sendStatus (ringOwner r) f = .badArgument → s.sendFar f = true → let q := 8 * f.channel + f.cls
     ∃ t : State, exec (.sendDescriptorFetch r chain) s = .next t ∧ t.get F.SCH_EVENT_EVENTS = setBit (s.get F.SCH_EVENT_EVENTS) 0 ∧
       qCounter t q .launchReject = (qCounter s q .launchReject + 1) % 2 ^ 64 ∧
       t.get (F.HIF_CQ_PROD_INDEX r) = (s.get (F.HIF_CQ_PROD_INDEX r) + 1) % 2 ^ 32 ∧ t.buf = s.buf ∧
       Only [F.HIF_TX_CONS_INDEX r, F.HIF_CQ_PROD_INDEX r, F.SCH_EVENT_EVENTS] [.irq, .cnt, .hif, .out] s t)) ∧
  (∀ (cls r : Nat) (d : Bytes) (f : Frame) (rest : List Frame) (s : State), let a := descField d 0 8
    let len := descField d 8 2
    cls < 8 → s.get F.TMP_STATUS_HOLD = 0 →
    (∀ c, cls < c → c < 8 → s.puntReady c = false) → s.queue (1536 + cls) = f :: rest → s.puntRing cls = some r →
    (f.fcsOk = true → f.fecOk = true → f.truncated = false → s.ringOn r = true → s.shaperOpen puntShaper = true → 0 < s.rxFree r →
      f.bytes.length + 32 ≤ bufRoom len → ∃ t : State, exec (.puntDelivery cls [d]) s = .next t ∧ t.queue (1536 + cls) = rest ∧
        (∀ q, q ≠ 1536 + cls → t.queue q = s.queue q) ∧ .dma a (puntHeader f (s.ring r).seq ++ f.bytes) ∈ t.out ∧
        t.get (F.HIF_RX_CONS_INDEX r) = (s.get (F.HIF_RX_CONS_INDEX r) + 1) % 2 ^ 32 ∧
        (t.ring r).seq = ((s.ring r).seq + 1) % 2 ^ 32 ∧
        qCounter t (1536 + cls) .deqFrames = (qCounter s (1536 + cls) .deqFrames + 1) % 2 ^ 64 ∧
        OnlyIn [.SWC_SNR_LOST, .SWC_CH_STATUS, .HIF_RX_CONS, .HIF_CQ_PROD, .CNT_EVENT, .CNT_PROG_SEL]
          [.irq, .cnt, .buf, .sch, .hif, .out, .free] s t) ∧
    (f.fcsOk = false ∨ f.fecOk = false ∨ f.truncated = true → ∃ t : State, exec (.puntDelivery cls [d]) s = .next t ∧
        t.queue (1536 + cls) = rest ∧ (∀ q, q ≠ 1536 + cls → t.queue q = s.queue q) ∧
        OnlyIn [.SWC_SNR_LOST, .SWC_CH_STATUS, .HIF_CQ_PROD, .CNT_EVENT, .CNT_PROG_SEL]
          [.irq, .cnt, .buf, .sch, .hif, .out, .free] s t))

/-- R339 to R344, of which R341 whole: SEND fills the free mailbox, POP empties it, reports to the sender and clears
the message cells, WITHDRAW aborts it, notices are read in order, and a crossed pair is reported once. -/
def Obligations.ChimeMailboxes : Prop :=
  ∀ (who pair v : Nat) (s : State), who ≤ 4 → s.viewOf who pair = some v →
    let o := outBox v
    let i := inBox v
    (∀ len ack tag, (s.box o).full = false → ∃ t : State, exec (.send who pair len ack tag) s = .next t ∧
      t.box o = { full := true, len := len % 64, ack := ack, tag := tag % 2 ^ 16, sender := who } ∧
      (∀ b, b ≠ o → t.box b = s.box b) ∧
      t.get (F.CHM_EVENT_EVENTS (otherView v)) = setBit (s.get (F.CHM_EVENT_EVENTS (otherView v))) 0 ∧
      t.chm = { s.chm with box := t.chm.box } ∧ Only [F.CHM_EVENT_EVENTS (otherView v)] [.chm, .irq, .out] s t) ∧
    (∀ (c : Instr) (len : Nat) (ack : Bool) (tag : Nat), (s.box o).full = true → c = Instr.send who pair len ack tag ∨ c = .fullWrite who pair →
      ∃ t : State, exec c s = .next t ∧ t.hif = { s.hif with aborts := s.hif.aborts ++ [(who, v)] } ∧
        t.get (F.CHM_EVENT_EVENTS v) = setBit (s.get (F.CHM_EVENT_EVENTS v)) 3 ∧
        Only [F.CHM_EVENT_EVENTS v] [.hif, .irq, .out] s t) ∧
    ((s.box i).full = true → ∃ t : State, exec (.pop who pair) s = .next t ∧ t.box i = {} ∧ (∀ b, b ≠ i → t.box b = s.box b) ∧
      (∀ w < 64, t.get (F.CHM_OUT_DATA_DATA (otherView v * 64 + w)) = 0) ∧
      ((s.box i).ack = true → (s.notices (otherView v)).length < 16 →
        t.notices (otherView v) = s.notices (otherView v) ++ [(.acked, (s.box i).tag)] ∧
        t.get (F.CHM_EVENT_EVENTS (otherView v)) = setBit (s.get (F.CHM_EVENT_EVENTS (otherView v))) 1) ∧
      ((s.box i).ack = true → 16 ≤ (s.notices (otherView v)).length → t.chm.notices = s.chm.notices ∧
        t.get (F.CHM_EVENT_EVENTS (otherView v)) = setBit (s.get (F.CHM_EVENT_EVENTS (otherView v))) 4) ∧
      ((s.box i).ack = false → t.chm.notices = s.chm.notices ∧
        t.get (F.CHM_EVENT_EVENTS (otherView v)) = s.get (F.CHM_EVENT_EVENTS (otherView v))) ∧
      OnlyIn [.CHM_OUT_DATA, .CHM_EVENT] [.chm, .irq, .out] s t) ∧
    ((s.box o).full = true → (s.notices (otherView v)).length < 16 → ∃ t : State, exec (.withdraw who pair) s = .next t ∧ t.box o = {} ∧
      (∀ b, b ≠ o → t.box b = s.box b) ∧ (∀ w < 64, t.get (F.CHM_OUT_DATA_DATA (v * 64 + w)) = 0) ∧
      t.notices (otherView v) = s.notices (otherView v) ++ [(.abortedIn, (s.box o).tag)] ∧
      t.get (F.CHM_EVENT_EVENTS (otherView v)) = setBit (s.get (F.CHM_EVENT_EVENTS (otherView v))) 1 ∧
      OnlyIn [.CHM_OUT_DATA, .CHM_EVENT] [.chm, .irq, .out] s t) ∧
    ((s.box i).full = false → ∃ t : State, exec (.pop who pair) s = .next t ∧ t.get F.CHM_STATUS_WRITE_IGNORED = 1 ∧
      Only [F.CHM_STATUS_WRITE_IGNORED] [] s t) ∧
    (∀ k tag rest, s.notices v = (k, tag) :: rest → ∃ t : State, exec (.chmNoticeRead who pair) s = .next t ∧ t.notices v = rest ∧
      t.out = .read who (tag + noticeCode k * 2 ^ 16 + 2 ^ 31) :: s.out ∧ t.chm = { s.chm with notices := t.chm.notices } ∧
      Only [] [.chm, .out] s t) ∧
    (pair < 8 → (s.box (2 * pair)).full = true → (s.box (2 * pair)).ack = true → (s.box (2 * pair + 1)).full = true →
      (s.box (2 * pair + 1)).ack = true → pair ∉ s.chm.crossed → ∃ t : State, exec (.crossed pair) s = .next t ∧
        t.chm = { s.chm with crossed := s.chm.crossed ++ [pair] } ∧
        t.get (F.CHM_EVENT_EVENTS pair) = setBit (s.get (F.CHM_EVENT_EVENTS pair)) 2 ∧
        t.get (F.CHM_EVENT_EVENTS (8 + pair)) = setBit (s.get (F.CHM_EVENT_EVENTS (8 + pair))) 2 ∧
        Only [F.CHM_EVENT_EVENTS pair, F.CHM_EVENT_EVENTS (8 + pair)] [.chm, .irq, .out] s t)

/-- R346 to R349: credit, bursts, TIME blocks, link up and down and the loss of credit and reference on the Tabor port
(log entry 71). -/
def Obligations.TaborPort : Prop :=
  ∀ (s : State),
    (∀ rest : Bytes, s.get F.TAB_CFG_EN = 1 → rest.length = 7 → let count := beAt rest 0 4
      (beAt rest 4 1 = crc8 (slice rest 0 4) → s.get F.TAB_STATUS_LINK_UP = 1 → s.tab.lastCount = none →
        (count + 2 ^ 32 - s.get F.TAB_CONSUMED_COUNT) % 2 ^ 32 ≤ 2 ^ 24 → ∃ t : State, exec (.credit 0x55 rest) s = .next t ∧
          t.get F.TAB_GRANTED_COUNT = count ∧ t.tab = { s.tab with creditOk := true, lastCount := some count, creditAt := s.nowNs } ∧
          Only [F.TAB_GRANTED_COUNT] [.tab] s t) ∧
      (beAt rest 4 1 ≠ crc8 (slice rest 0 4) ∨
        2 ^ 24 < (count + 2 ^ 32 - if s.get F.TAB_STATUS_LINK_UP = 1 then s.get F.TAB_CONSUMED_COUNT else 0) % 2 ^ 32 →
        ∃ t : State, exec (.credit 0x55 rest) s = .next t ∧
          t.get F.TAB_CREDIT_BAD_COUNT = min (s.get F.TAB_CREDIT_BAD_COUNT + 1) (2 ^ 32 - 1) ∧ Only [F.TAB_CREDIT_BAD_COUNT] [] s t)) ∧
    (∀ (typ : Byte) (rest : Bytes), s.get F.TAB_CFG_EN = 0 ∨ typ ≠ 0x55 → exec (.credit typ rest) s = .next s) ∧
    (∀ x, s.get F.TAB_STATUS_LINK_UP = 1 → s.tab.timeSent = s.tenths → s.tab.fifo = [x] → x.words ≤ 512 → x.tIn = none →
      s.tab.creditOk = true →
      ceilDiv x.words 8 ≤ (s.get F.TAB_GRANTED_COUNT + 2 ^ 32 - s.get F.TAB_CONSUMED_COUNT) % 2 ^ 32 →
      ∃ t : State, exec .taborBurst s = .next t ∧ t.tab.fifo = [] ∧ t.get F.TAB_STATUS_FIFO_WORDS = 0 ∧
        t.out = .tabor (tabBlock 0x33 (beBytes 2 s.tab.burstSeq ++ beBytes 2 x.words) ++ x.data ++
          tabBlock 0x66 (beBytes 4 (crc32 x.data))) :: s.out ∧
        t.get F.TAB_CONSUMED_COUNT = (s.get F.TAB_CONSUMED_COUNT + ceilDiv x.words 8) % 2 ^ 32 ∧
        t.get F.TAB_BURSTS_COUNT = min (s.get F.TAB_BURSTS_COUNT + 1) (2 ^ 32 - 1) ∧
        t.tab.burstSeq = (s.tab.burstSeq + 1) % 2 ^ 16 ∧
        Only [F.TAB_STATUS_FIFO_WORDS, F.TAB_CONSUMED_COUNT, F.TAB_BURSTS_COUNT] [.tab, .out] s t) ∧
    (s.get F.TAB_STATUS_LINK_UP = 1 → s.tab.timeSent < s.tenths → ∃ t : State, exec .taborTime s = .next t ∧
      t.tab = { s.tab with timeSent := s.tenths } ∧
      t.out = .tabor (tabBlock 0x2D (beBytes 6 (s.tenths / 10) ++ beBytes 1 (s.tenths % 10))) :: s.out ∧ Only [] [.tab, .out] s t) ∧
    (∀ lane, s.get F.TAB_CFG_EN = 1 → s.unitOff 53 = false → s.get F.TAB_STATUS_LINK_UP = 0 → s.tab.creditOk = true → lane < 4 →
      (s.pwr.state = .active ∨ s.pwr.state = .doze) → ∃ t : State, exec (.taborLinkUp lane) s = .next t ∧
        t.get F.TAB_STATUS_LINK_UP = 1 ∧ t.get F.TAB_STATUS_CREDIT_LANE = lane ∧ t.get F.TAB_CONSUMED_COUNT = 0 ∧
        t.tab = { s.tab with burstSeq := 0, timeSent := s.tenths } ∧
        t.get F.TAB_EVENT_EVENTS = setBit (s.get F.TAB_EVENT_EVENTS) 0 ∧
        Only [F.TAB_STATUS_LINK_UP, F.TAB_STATUS_CREDIT_LANE, F.TAB_STATUS_REF_OK, F.TAB_CONSUMED_COUNT, F.TAB_EVENT_EVENTS]
          [.tab, .irq, .out] s t) ∧
    (s.get F.TAB_STATUS_LINK_UP = 1 → ∃ t : State, exec .taborLinkDown s = .next t ∧ t.get F.TAB_STATUS_LINK_UP = 0 ∧
      t.tab = { s.tab with creditOk := false, lastCount := none } ∧
      t.get F.TAB_EVENT_EVENTS = setBit (s.get F.TAB_EVENT_EVENTS) 1 ∧
      Only [F.TAB_STATUS_LINK_UP, F.TAB_EVENT_EVENTS] [.tab, .irq, .out] s t) ∧
    (s.get F.TAB_STATUS_LINK_UP = 1 → s.tab.creditOk = true →
      s.tab.creditAt + s.get F.TAB_CFG_CREDIT_TIMEOUT_US * 1000 ≤ s.nowNs → ∃ t : State, exec .creditLost s = .next t ∧
      t.tab = { s.tab with creditOk := false } ∧ t.get F.TAB_EVENT_EVENTS = setBit (s.get F.TAB_EVENT_EVENTS) 2 ∧
      Only [F.TAB_EVENT_EVENTS] [.tab, .irq, .out] s t) ∧
    (s.get F.TAB_CFG_EN = 1 → s.get F.TAB_STATUS_LINK_UP = 1 → ∃ t : State, exec .taborRefLost s = .next t ∧
      t.get F.TAB_STATUS_REF_OK = 0 ∧ t.get F.TAB_STATUS_LINK_UP = 0 ∧
      t.get F.TAB_EVENT_EVENTS = setBit (setBit (s.get F.TAB_EVENT_EVENTS) 3) 1 ∧
      Only [F.TAB_STATUS_REF_OK, F.TAB_STATUS_LINK_UP, F.TAB_EVENT_EVENTS] [.tab, .irq, .out] s t)

/-- R152, R154, R423 to R425, R427 to R431, R433: the second's rollover latches the per-second counters, a roll is
latched or skipped, a dump is written out and ends, a counter selection clears its counter, samples are popped; a
Snare record is written with its write-back or counts as lost, and the ring is resized. Instants are log entry 60,
chains log entry 62, sessions log entry 37. -/
def Obligations.CountersRollsAndSnare : Prop :=
  ((∀ (s : State), s.nowSec % 2 ^ 32 ≠ s.get F.CNT_SEC_STAMP_SEC → ∃ t : State, exec .secondsRollover s = .next t ∧
    t.get F.CNT_SEC_STAMP_SEC = s.nowSec % 2 ^ 32 ∧
    (∀ n, n < 512 → s.get (F.CNT_PROG_SEL_PER_SEC n) = 1 →
      Tab.get t.cnt.perSec 0 n = Tab.get s.cnt.prog 0 n ∧ Tab.get t.cnt.prog 0 n = 0) ∧
    (∀ n, n < 512 → s.get (F.CNT_PROG_SEL_PER_SEC n) ≠ 1 →
      Tab.get t.cnt.perSec 0 n = Tab.get s.cnt.perSec 0 n ∧ Tab.get t.cnt.prog 0 n = Tab.get s.cnt.prog 0 n) ∧
    t.cnt.fixed = s.cnt.fixed ∧
    t.get F.FLX_SEC_STAMP_SEC = s.nowSec % 2 ^ 32 ∧
    OnlyIn [.FLX_SEC_STAMP, .FLX_INST_SEC_CRC, .FLX_INST_SEC_MISS, .FLX_INST_SEC_FALSE, .FLX_INST_SEC_DEFECT, .FLX_CLI_SEC_RX_LO,
      .FLX_CLI_SEC_RX_HI, .FLX_CLI_SEC_ERR, .FLX_CLI_SEC_INS, .FLX_CLI_SEC_DEL, .FLX_CLI_SEC_TX_LO, .FLX_CLI_SEC_TX_HI,
      .CNT_SEC_STAMP] [.cnt, .flx, .free] s t) ∧
  (∀ (s : State), s.get F.CNT_ROLL_CFG_EN = 1 → s.rollPoint ≠ s.cnt.rollMs →
    (s.cnt.roll = none → ∃ t : State, exec .rollLatch s = .next t ∧
      t.cnt = { s.cnt with
        rollSeq := s.cnt.rollSeq + 1, rollMs := s.rollPoint, rollSkipped := 0
        roll := some { seq := s.cnt.rollSeq + 1, sec := s.nowSec, ns := s.nowSubNs, timeValid := s.timeValid,
                       skipped := s.cnt.rollSkipped,
                       fixed := s.cnt.fixed.filter (fun p => s.counterPresent p.1), prog := s.cnt.prog, perSec := s.cnt.perSec } } ∧
      Only [] [.cnt] s t) ∧
    (s.cnt.roll ≠ none → ∃ t : State, exec .rollLatch s = .next t ∧
      t.cnt = { s.cnt with rollSeq := s.cnt.rollSeq + 1, rollMs := s.rollPoint, rollSkipped := s.cnt.rollSkipped + 1 } ∧
      t.get F.CNT_EVENT_EVENTS = setBit (s.get F.CNT_EVENT_EVENTS) 1 ∧ Only [F.CNT_EVENT_EVENTS] [.irq, .cnt, .out] s t)) ∧
  (∀ (s : State) (r : RollLatch), s.cnt.roll = some r → ∃ t : State, exec .rollDumpWritten s = .next t ∧ t.cnt.roll = none ∧
    t.get F.CNT_ROLL_SEQ_LO_SEQ = r.seq % 2 ^ 32 ∧ t.get F.CNT_ROLL_SEQ_HI_SEQ = r.seq / 2 ^ 32 ∧
    t.get F.CNT_EVENT_EVENTS = setBit (s.get F.CNT_EVENT_EVENTS) 0 ∧
    (s.get F.CNT_ROLL_CFG_HOST_EN = 1 → ∃ before : List Output, t.out = before ++
      .dma (s.get F.CNT_ROLL_WB_LO_ADDR + s.get F.CNT_ROLL_WB_HI_ADDR * 2 ^ 32) (leBytes 8 r.seq) ::
      .dma (s.get F.CNT_ROLL_BASE_LO_ADDR + s.get F.CNT_ROLL_BASE_HI_ADDR * 2 ^ 32 +
        r.seq % 2 ^ s.get F.CNT_ROLL_BUF_LOG2_COUNT * (s.get F.CNT_ROLL_BUF_STRIDE_MIB * 1048576))
        (s.rollDump r (s.get F.CNT_ROLL_MASK_HOST)) :: s.out) ∧
    OnlyIn [.SWC_SNR_LOST, .JNL_DISCARDED, .CNT_ROLL_SEQ_LO, .CNT_ROLL_SEQ_HI, .CNT_EVENT] [.irq, .cnt, .buf, .jnl, .out] s t) ∧
  (∀ (s : State) (who n val : Nat), who ≤ 4 →
    (s.progSelOk n val = true → ∃ t : State, exec (.cntProgSelWrite who n val) s = .next t ∧
      t.get (F.CNT_PROG_SEL_CODE n) = field val 0 5 ∧ t.get (F.CNT_PROG_SEL_CHAIN n) = field val 5 1 ∧
      t.get (F.CNT_PROG_SEL_PER_SEC n) = field val 6 1 ∧ t.get (F.CNT_PROG_SEL_CHANNEL n) = field val 8 8 ∧
      t.get (F.CNT_PROG_SEL_CLASS_MASK n) = field val 16 8 ∧
      (field val 7 1 = 1 → t.get (F.CNT_PROG_SEL_OVF n) = 0) ∧
      (field val 7 1 = 0 → t.get (F.CNT_PROG_SEL_OVF n) = s.get (F.CNT_PROG_SEL_OVF n)) ∧
      Tab.get t.cnt.prog 0 n = 0 ∧ (field val 5 1 = 1 → Tab.get t.cnt.prog 0 (n + 1) = 0) ∧
      t.cnt = { s.cnt with prog := t.cnt.prog } ∧
      Only [F.CNT_PROG_SEL_CODE n, F.CNT_PROG_SEL_CHAIN n, F.CNT_PROG_SEL_PER_SEC n, F.CNT_PROG_SEL_CHANNEL n,
        F.CNT_PROG_SEL_CLASS_MASK n, F.CNT_PROG_SEL_OVF n] [.cnt] s t) ∧
    (512 ≤ n ∨ 12 < field val 0 5 ∨ field val 5 1 = 1 ∧ n = 511 → ∃ t : State, exec (.cntProgSelWrite who n val) s = .next t ∧
      t.get F.CNT_STATUS_WRITE_IGNORED = 1 ∧ Only [F.CNT_STATUS_WRITE_IGNORED] [] s t)) ∧
  (∀ (s : State) (who : Nat), who ≤ 4 →
    (∀ r l, s.cnt.sampleFifo = r :: l → ∃ t : State, exec (.cntSamplePop who) s = .next t ∧
      t.cnt = { s.cnt with sampleFifo := l } ∧ (l ≠ [] → t.get F.CNT_EVENT_EVENTS = setBit (s.get F.CNT_EVENT_EVENTS) 3) ∧
      (l = [] → t.get F.CNT_EVENT_EVENTS = s.get F.CNT_EVENT_EVENTS) ∧ Only [F.CNT_EVENT_EVENTS] [.irq, .cnt, .out] s t) ∧
    (s.cnt.sampleFifo = [] → ∃ t : State, exec (.cntSamplePop who) s = .next t ∧ t.get F.CNT_STATUS_WRITE_IGNORED = 1 ∧
      Only [F.CNT_STATUS_WRITE_IGNORED] [] s t))) ∧
  ((∀ (s : State) (sid : Nat) (c : SnareCopy) (rest : List SnareCopy), s.snareNext = some sid → (s.snare sid).queue = c :: rest →
    (s.snare sid).lost = 0 → s.get (F.SWC_SNR_CTL_DEST sid) = 1 →
    let r := c.record (decide (s.get (F.SWC_SNR_CTL_SAMPLE_N sid) ≠ 0)) (s.snare sid).seq
    let prod := (s.get F.SWC_SNR_PROD_PROD + r.length) % s.snrSize
    (s.get F.SWC_SNR_PROD_PROD + r.length ≤ s.snrSize → s.snrNeeds r.length ≤ s.snrFree →
      ∃ t : State, exec .snareRecordWrite s = .next t ∧ (t.snare sid).queue = rest ∧ (t.snare sid).lost = 0 ∧
        (t.snare sid).seq = ((s.snare sid).seq + 1) % 2 ^ 32 ∧ t.get F.SWC_SNR_PROD_PROD = prod ∧
        t.out = .dma (s.get F.SWC_SNR_WB_LO_ADDR + s.get F.SWC_SNR_WB_HI_ADDR * 2 ^ 32) (leBytes 8 prod) ::
          .dma (s.snrBase + s.get F.SWC_SNR_PROD_PROD) r :: s.out ∧
        (∀ i, i ≠ sid → t.snare i = s.snare i) ∧ Only [F.SWC_SNR_PROD_PROD] [.buf, .out] s t) ∧
    (s.snrFree < s.snrNeeds r.length → ∃ t : State, exec .snareRecordWrite s = .next t ∧ (t.snare sid).queue = rest ∧
      (t.snare sid).lost = 1 ∧ t.get (F.SWC_SNR_LOST_LOST sid) = min (s.get (F.SWC_SNR_LOST_LOST sid) + 1) (2 ^ 32 - 1) ∧
      (∀ i, i ≠ sid → t.snare i = s.snare i) ∧ Only [F.SWC_SNR_LOST_LOST sid] [.buf] s t)) ∧
  (∀ (s : State) (who log2 : Nat), who ≤ 4 →
    (16 ≤ log2 → log2 ≤ 30 → ∃ t : State, exec (.snareRingResize who log2) s = .next t ∧ t.get F.SWC_SNR_SIZE_LOG2 = log2 ∧
      t.get F.SWC_SNR_PROD_PROD = 0 ∧ t.get F.SWC_SNR_CONS_CONS = 0 ∧
      Only [F.SWC_SNR_SIZE_LOG2, F.SWC_SNR_PROD_PROD, F.SWC_SNR_CONS_CONS] [] s t) ∧
    (log2 < 16 ∨ 30 < log2 → ∃ t : State, exec (.snareRingResize who log2) s = .next t ∧ t.get F.SWC_STATUS_WRITE_IGNORED = 1 ∧
      Only [F.SWC_STATUS_WRITE_IGNORED] [] s t)))

/-- R448 to R450: BLOW is denied while debug is unlocked, refused for words, values and slots that its checks exclude,
and else blows the word and no other, with PENDING set where a bit changed. The conditions are read as log entry 80
says. -/
def Obligations.FusesAreBlown : Prop :=
  ∀ (s : State) (who : Nat), who ≤ 4 →
    let w := s.get F.FUS_PROG_WORD_WORD
    let new := s.fuseNow w ||| s.get F.FUS_PROG_BITS_BITS
    let turned := fun (st : Nat) => ∃ t : State, exec (.blow who) s = .next t ∧ t.get F.FUS_CMD_RESULT_STATUS = st ∧
      t.get F.FUS_CMD_RESULT_OP = 1 ∧ Only [F.FUS_CMD_RESULT_STATUS, F.FUS_CMD_RESULT_OP] [] s t
    (s.get F.PWR_STATUS_DEBUG_UNLOCKED = 1 → turned 6) ∧
    (s.get F.PWR_STATUS_DEBUG_UNLOCKED ≠ 1 → 0x75 < w → turned 2) ∧
    (s.get F.PWR_STATUS_DEBUG_UNLOCKED ≠ 1 → w = 0x64 → isThermometer new = false → turned 2) ∧
    (s.get F.PWR_STATUS_DEBUG_UNLOCKED ≠ 1 → w = 0x64 → isThermometer new = true → s.pwr.fwSvn < countOnes new → turned 1) ∧
    (s.get F.PWR_STATUS_DEBUG_UNLOCKED ≠ 1 → w = 0x65 → 160 < field new 1 7 + field new 8 7 → turned 2) ∧
    (s.get F.PWR_STATUS_DEBUG_UNLOCKED ≠ 1 → w < 0x60 → new ≠ s.fuseNow w → (∃ i : Nat, i < 24 ∧ s.fuse (w / 24 * 24 + i) ≠ 0) →
      turned 1) ∧
    (s.get F.PWR_STATUS_DEBUG_UNLOCKED ≠ 1 → w ≤ 0x75 → w ≠ 0x65 ∨ field new 1 7 + field new 8 7 ≤ 160 →
      w ≠ 0x64 ∨ isThermometer new = true ∧ countOnes new ≤ s.pwr.fwSvn →
      0x60 ≤ w ∨ new = s.fuseNow w ∨ (∀ i, i < 24 → s.fuse (w / 24 * 24 + i) = 0) →
      ∃ t : State, exec (.blow who) s = .next t ∧ t.get F.FUS_CMD_RESULT_STATUS = 0 ∧ t.get F.FUS_CMD_RESULT_OP = 1 ∧
        t.fuseNow w = new ∧ (∀ v, v ≠ w → t.fuseNow v = s.fuseNow v) ∧ t.fus = { s.fus with words := t.fus.words } ∧
        t.get F.FUS_STATUS_PENDING = (if new = s.fuseNow w then s.get F.FUS_STATUS_PENDING else 1) ∧
        Only [F.FUS_CMD_RESULT_STATUS, F.FUS_CMD_RESULT_OP, F.FUS_STATUS_PENDING] [.fus] s t)

/-- R359, R370 to R374: FORMAT, READ, FLUSH, SET_LIFE and PLAN_NOW by their checks and effects, BUSY while one runs in
the same window (log entry 72). -/
def Obligations.JournalCommands : Prop :=
  ∀ (s : State) (who : Nat), who ≤ 4 → hasTwin s.fus.variant = true →
    (s.get (F.JNL_CMD_RESULT_RUNNING who) = 1 → ∀ (c : Instr) (op : Nat), (c, op) = (Instr.format who, 1) ∨ (∃ bad : List Nat, (c, op) = (.read who bad, 2)) ∨
        (c, op) = (.flush who, 3) ∨ (∃ gaps : PlanGaps, (c, op) = (.setLife who gaps, 4)) ∨ (∃ gaps : PlanGaps, (c, op) = (.planNow who gaps, 5)) →
      ∃ t : State, exec c s = .next t ∧ t.get (F.JNL_CMD_RESULT_STATUS who) =
          (firstStatus (s.jnlChecks who op ++ [(true, .busy)])).code ∧ t.get (F.JNL_CMD_RESULT_OP who) = op ∧
        Only [F.JNL_CMD_RESULT_STATUS who, F.JNL_CMD_RESULT_OP who] [] s t) ∧
    (s.get (F.JNL_CMD_RESULT_RUNNING who) = 0 → s.jnl.cmds = [] →
      let years := s.get (F.JNL_ARG_ARG (who * 8 + 1))
      let magic := s.get (F.JNL_ARG_ARG (who * 8))
      let st := s.get F.JNL_STATUS_STATE
      (magic ≠ 0x4A4E4C46 ∨ 40 < years → ∃ t : State, exec (.format who) s = .next t ∧ JnlDone t who 1 2 ∧ Only (jnlFields who) [] s t) ∧
      (magic = 0x4A4E4C46 → years ≤ 40 → st ≤ 1 → ∃ t : State, exec (.format who) s = .next t ∧ JnlDone t who 1 1 ∧
        Only (jnlFields who) [] s t) ∧
      (magic = 0x4A4E4C46 → years ≤ 40 → 1 < st → ∃ t : State, exec (.format who) s = .next t ∧ JnlDone t who 1 0 ∧
        t.get F.JNL_STATUS_STATE = 3 ∧ t.get F.JNL_LIFE_LIFE_YEARS = (if years = 0 then 20 else years) ∧
        t.get F.JNL_FORMAT_FORMAT_COUNT = (s.get F.JNL_FORMAT_FORMAT_COUNT + 1) % 2 ^ 16 ∧
        (∀ r ∈ t.jnl.recs, r.cls = .tamper) ∧ (∀ b ∈ s.jnl.marks, b ∈ t.jnl.bad) ∧ (∀ b ∈ s.jnl.bad, b ∈ t.jnl.bad) ∧
        t.jnl.free = t.jnl.usableSegs ∧
        OnlyIn [.SWC_SNR_LOST, .JNL_DISCARDED, .JNL_STATUS, .JNL_LIFE, .JNL_FORMAT, .JNL_DURABLE_LO, .JNL_DURABLE_HI,
          .JNL_OLDEST_LO, .JNL_OLDEST_HI, .JNL_CMD_RESULT] [.buf, .jnl, .tmp] s t) ∧
      (∀ bad, s.get (F.JNL_ARG_ARG (who * 8 + 5)) < 16384 → ∃ t : State, exec (.read who bad) s = .next t ∧ JnlDone t who 2 2 ∧
        Only (jnlFields who) [] s t) ∧
      (∀ bad, 16384 ≤ s.get (F.JNL_ARG_ARG (who * 8 + 5)) → st ≤ 2 → ∃ t : State, exec (.read who bad) s = .next t ∧ JnlDone t who 2 1 ∧
        Only (jnlFields who) [] s t) ∧
      (∀ r, 16384 ≤ s.get (F.JNL_ARG_ARG (who * 8 + 5)) → 2 < st →
        s.jnl.recs.filter (fun r => r.durable &&
          decide (s.get (F.JNL_ARG_ARG (who * 8)) + s.get (F.JNL_ARG_ARG (who * 8 + 1)) * 2 ^ 32 ≤ r.jseq) &&
          (s.get (F.JNL_ARG_ARG (who * 8 + 2)) % 128).testBit (jclassCode r.cls)) = [r] →
        r.readable = true → r.size ≤ s.get (F.JNL_ARG_ARG (who * 8 + 5)) →
        ∃ t : State, exec (.read who []) s = .next t ∧ JnlDone t who 2 0 ∧
          t.out = .dma (s.get (F.JNL_ARG_ARG (who * 8 + 3)) + s.get (F.JNL_ARG_ARG (who * 8 + 4)) * 2 ^ 32) r.bytes :: s.out ∧
          t.get (F.JNL_RES_RES (who * 6)) = r.jseq % 2 ^ 32 ∧ t.get (F.JNL_RES_RES (who * 6 + 1)) = r.jseq / 2 ^ 32 ∧
          t.get (F.JNL_RES_RES (who * 6 + 2)) = (r.jseq + 1) % 2 ^ 32 ∧ t.get (F.JNL_RES_RES (who * 6 + 3)) = (r.jseq + 1) / 2 ^ 32 ∧
          t.get (F.JNL_RES_RES (who * 6 + 4)) = r.bytes.length ∧ (t.get (F.JNL_RES_RES (who * 6 + 5))).testBit 1 = false ∧
          Only (jnlFields who ++ (List.range 6).map (fun i => F.JNL_RES_RES (who * 6 + i))) [.out] s t) ∧
      (16384 ≤ s.get (F.JNL_ARG_ARG (who * 8 + 5)) → 2 < st →
        s.jnl.recs.filter (fun r => r.durable &&
          decide (s.get (F.JNL_ARG_ARG (who * 8)) + s.get (F.JNL_ARG_ARG (who * 8 + 1)) * 2 ^ 32 ≤ r.jseq) &&
          (s.get (F.JNL_ARG_ARG (who * 8 + 2)) % 128).testBit (jclassCode r.cls)) = [] →
        ∃ t : State, exec (.read who []) s = .next t ∧ JnlDone t who 2 0 ∧ t.get (F.JNL_RES_RES (who * 6 + 4)) = 0 ∧
          Only (jnlFields who ++ (List.range 6).map (fun i => F.JNL_RES_RES (who * 6 + i))) [.free] s t) ∧
      (st ≠ 3 → st ≠ 4 → ∃ t : State, exec (.flush who) s = .next t ∧ JnlDone t who 3 1 ∧ Only (jnlFields who) [] s t) ∧
      (st = 3 ∨ st = 4 → s.jnl.flush = none → (∀ r ∈ s.jnl.recs, r.durable = true) →
        ∃ t : State, exec (.flush who) s = .next t ∧ JnlDone t who 3 0 ∧ Only (jnlFields who) [] s t) ∧
      (st = 3 ∨ st = 4 → s.jnl.flush = none → (∃ r ∈ s.jnl.recs, r.durable = false ∧ 0 < r.jseq ∧ r.jseq < s.jnl.nextJseq) →
        ∃ t : State, exec (.flush who) s = .next t ∧ t.get (F.JNL_CMD_RESULT_RUNNING who) = 1 ∧
          t.jnl.flush = some (s.jnl.nextJseq - 1) ∧ t.jnl.progTo = s.jnl.nextJseq - 1 ∧ t.jnl.recs = s.jnl.recs ∧
          Only [F.JNL_CMD_RESULT_RUNNING who] [.jnl] s t) ∧
      (∀ gaps : PlanGaps, magic = 0 ∨ 40 < magic → ∃ t : State, exec (.setLife who gaps) s = .next t ∧ JnlDone t who 4 2 ∧ Only (jnlFields who) [] s t) ∧
      (∀ gaps : PlanGaps, 0 < magic → magic ≤ 40 → st ≠ 3 → st ≠ 4 → ∃ t : State, exec (.setLife who gaps) s = .next t ∧ JnlDone t who 4 1 ∧
        Only (jnlFields who) [] s t) ∧
      (∀ gaps : PlanGaps, 0 < magic → magic ≤ 40 → st = 3 ∨ st = 4 → ∃ t : State, exec (.setLife who gaps) s = .next t ∧ JnlDone t who 4 0 ∧
        t.get F.JNL_LIFE_LIFE_YEARS = magic ∧ PlanShown s t magic (s.planInputs gaps) ∧
        OnlyIn (([.JNL_LIFE, .JNL_CMD_RESULT] : List Reg) ++ planRegs) [.irq, .buf, .jnl, .out] s t) ∧
      (∀ gaps : PlanGaps, st ≠ 3 → st ≠ 4 → ∃ t : State, exec (.planNow who gaps) s = .next t ∧ JnlDone t who 5 1 ∧ Only (jnlFields who) [] s t) ∧
      (∀ gaps : PlanGaps, st = 3 ∨ st = 4 → ∃ t : State, exec (.planNow who gaps) s = .next t ∧ JnlDone t who 5 0 ∧
        PlanShown s t (s.get F.JNL_LIFE_LIFE_YEARS) (s.planInputs gaps) ∧
        OnlyIn (([.JNL_CMD_RESULT] : List Reg) ++ planRegs) [.irq, .buf, .jnl, .out] s t))

/-- R357 to R362, R365, R367: an offered record is taken, made to wait, thinned or discarded; the flush timer flushes;
programming and erasing make records durable, free and move them (log entry 72). -/
def Obligations.JournalRecords : Prop :=
  (∀ (cls : JClass) (body : Bytes) (s : State), hasTwin s.fus.variant = true → body.length ≤ 16352 →
    let st := s.get F.JNL_STATUS_STATE
    let r : JRec := { cls := cls, jseq := s.jnl.nextJseq, sec := s.nowSec, ns := s.nowSubNs, body := body }
    (st = 1 ∨ st = 3 ∨ st = 4 → cls ≠ .snare → s.jnl.waiting = [] → s.jnl.staged < 67108864 →
      ∃ t : State, exec (.journalRecordAccept cls body) s = .next t ∧ t.jnl.recs = s.jnl.recs ++ [r] ∧
        t.jnl.nextJseq = s.jnl.nextJseq + 1 ∧ t.jnl.staged = s.jnl.staged + r.size ∧ t.jnl.waiting = [] ∧ Only [] [.jnl] s t) ∧
    (st = 1 ∨ st = 3 ∨ st = 4 → cls ≠ .snare → 67108864 ≤ s.jnl.staged → ∃ t : State, exec (.journalRecordAccept cls body) s = .next t ∧
      t.jnl.recs = s.jnl.recs ∧ t.jnl.nextJseq = s.jnl.nextJseq ∧ t.jnl.waiting = s.jnl.waiting ++ [newRec cls body] ∧
      Only [] [.jnl] s t) ∧
    (st = 1 ∨ st = 3 ∨ st = 4 → cls = .snare → s.jnl.staged < 58720256 → r.size ≤ s.bucketNow →
      ∃ t : State, exec (.journalRecordAccept cls body) s = .next t ∧ t.jnl.recs = s.jnl.recs ++ [r] ∧
        t.jnl.bucket = s.bucketNow - r.size ∧ t.jnl.bucketAt = s.nowNs ∧ Only [] [.jnl] s t) ∧
    (st = 1 ∨ st = 3 ∨ st = 4 → cls = .snare → 58720256 ≤ s.jnl.staged ∨ s.bucketNow < r.size →
      ∃ t : State, exec (.journalRecordAccept cls body) s = .next t ∧ t.get (F.SWC_SNR_LOST_LOST (snareSession body)) =
        min (s.get (F.SWC_SNR_LOST_LOST (snareSession body)) + 1) (2 ^ 32 - 1) ∧
        Only [F.SWC_SNR_LOST_LOST (snareSession body)] [.buf] s t) ∧
    (st ≠ 1 → st ≠ 3 → st ≠ 4 → cls ≠ .snare → ∃ t : State, exec (.journalRecordAccept cls body) s = .next t ∧
      t.get F.JNL_DISCARDED_COUNT = min (s.get F.JNL_DISCARDED_COUNT + 1) (2 ^ 32 - 1) ∧ Only [F.JNL_DISCARDED_COUNT] [] s t)) ∧
  (∀ (s : State) (from' : Nat), s.get F.JNL_STATUS_STATE = 3 ∨ s.get F.JNL_STATUS_STATE = 4 → s.jnl.oldestUnflushed = some from' →
    from' + s.get F.JNL_CFG_FLUSH_MS * 1000000 ≤ s.nowNs → ∃ t : State, exec .journalFlushTimer s = .next t ∧
      t.jnl = { s.jnl with progTo := s.jnl.nextJseq - 1, oldestUnflushed := none } ∧ Only [] [.jnl] s t) ∧
  (∀ (s : State) (system : Bool) (place page unit left : Nat) (gaps : PlanGaps), s.get F.JNL_STATUS_STATE = 3 ∨ s.get F.JNL_STATUS_STATE = 4 →
    s.jnl.head system = some (place, unit, left) →
    (s.jnl.canProgram system = true → s.jnl.nextPage system = some (place, page) → s.jnl.cmds = [] → s.jnl.waiting = [] →
      ∃ t : State, exec (.programDone system place page none gaps) s = .next t ∧
      t.jnl.recs = (fillRecs system place (unit + if system then s.jnl.sysPart else s.jnl.part) s.jnl.recs).1 ∧
      t.jnl.head system = some (place, unit, left - unit) ∧ t.jnl.nextJseq = s.jnl.nextJseq ∧
      t.get F.JNL_DURABLE_LO_JSEQ = t.durableSeq % 2 ^ 32 ∧ t.get F.JNL_DURABLE_HI_JSEQ = t.durableSeq / 2 ^ 32 ∧
      OnlyIn markRegs [.jnl] s t) ∧
    (∀ b, s.jnl.canProgram system = true → s.jnl.nextPage system = some (place, page) →
      (if system then b = place else b ∈ s.jnl.segBlocks place) →
      ∃ t : State, exec (.programDone system place page (some b) gaps) s = .next t ∧ (t.get F.JNL_EVENT_EVENTS).testBit 5 = true ∧ b ∈ t.jnl.bad ∧
      (t.get F.JNL_EVENT_EVENTS).testBit 0 = true ∧ t.jnl.planned = true ∧ (∀ r ∈ s.jnl.recs, r ∈ t.jnl.recs) ∧
      OnlyIn (.JNL_STATUS :: planRegs) [.irq, .buf, .jnl, .out] s t) ∧
    (∀ bad, s.jnl.canProgram system = false ∨ s.jnl.nextPage system ≠ some (place, page) →
      exec (.programDone system place page bad gaps) s = .next s)) ∧
  (∀ (s : State) (g : Nat) (gaps : PlanGaps), s.get F.JNL_STATUS_STATE = 3 ∨ s.get F.JNL_STATUS_STATE = 4 →
    (s.jnl.headFull false = true → s.jnl.upcoming.head? = some g → ∃ t : State, exec (.eraseDone false g none gaps) s = .next t ∧
      t.jnl.recs = s.jnl.recs.filter (fun r => !(r.durable && decide (jclassSystem r.cls = false) && decide (r.segment = g))) ∧
      t.jnl.wear = (s.jnl.worn (s.jnl.segBlocks g)).wear ∧ t.jnl.logErases = s.jnl.logErases + (s.jnl.segBlocks g).length ∧
      t.jnl.openLog = some g ∧ t.jnl.headAt = 0 ∧ g ∉ t.jnl.free ∧ t.jnl.nextJseq = s.jnl.nextJseq ∧
      OnlyIn markRegs [.jnl] s t) ∧
    (s.jnl.headFull true = true → s.jnl.nextSys = some g → ∃ t : State, exec (.eraseDone true g none gaps) s = .next t ∧
      (∀ r ∈ s.jnl.recs, r.durable = false ∨ jclassSystem r.cls = false ∨ r.segment ≠ g → r ∈ t.jnl.recs) ∧
      ((s.jnl.worn [g]).logMean + 200 < Tab.get (s.jnl.worn [g]).wear 0 g ∨
        (t.jnl.openSys = some g ∧
          ∀ r ∈ s.jnl.recs, r.inPlace true g = true → r.live s.jnl.recs = true → { r with refreshed := true } ∈ t.jnl.recs)) ∧
      t.jnl.wear = (s.jnl.worn [g]).wear ∧ t.jnl.nextJseq = s.jnl.nextJseq ∧ OnlyIn markRegs [.jnl] s t) ∧
    (∀ system b, s.jnl.headFull system = true → s.jnl.nextPlace system = some g → (if system then b = g else b ∈ s.jnl.segBlocks g) →
      ∃ t : State, exec (.eraseDone system g (some b) gaps) s = .next t ∧
      (t.get F.JNL_EVENT_EVENTS).testBit 5 = true ∧ b ∈ t.jnl.bad ∧
      (∀ r ∈ s.jnl.recs, r ∈ t.jnl.recs) ∧ OnlyIn (.JNL_STATUS :: planRegs) [.irq, .buf, .jnl, .out] s t))

/-- R354, R356, R364 to R366, R368 to R371: patrol reads, plans and the outcomes of a mount (log entry 72). -/
def Obligations.JournalMountPatrolAndPlan : Prop :=
  (∀ (s : State) (blk page corrected level : Nat) (testOk : Bool) (recs : List Nat) (gaps : PlanGaps),
    s.get F.JNL_STATUS_STATE = 3 ∨ s.get F.JNL_STATUS_STATE = 4 →
    (corrected ≤ 90 → level < 4 → ∃ t : State, exec (.patrolRead blk page corrected level true recs testOk gaps) s = .next t ∧
      t.jnl = { s.jnl with patrol := t.jnl.patrol, reads := s.jnl.reads ++ [(s.nowNs, corrected)], h0 := t.jnl.h0 } ∧
      Tab.get t.jnl.patrol 0 (blk * (3 * s.jnl.wordlines) + page) = corrected ∧
      t.jnl.h0 = (if s.elapsed ≤ 604800 then (s.jnl.h0.1 + corrected, s.jnl.h0.2 + 1) else s.jnl.h0) ∧ Only [] [.jnl] s t) ∧
    (∀ o, 90 < corrected ∨ 4 ≤ level → blk ∉ s.jnl.sys → s.jnl.openLog = some o → s.jnl.segOf blk ≠ o →
      s.jnl.segOf blk ∈ s.jnl.ring → s.jnl.segOf blk ∉ s.jnl.upcoming.take 2 → ∃ t : State,
      exec (.patrolRead blk page corrected level true recs testOk gaps) s = .next t ∧ s.jnl.segOf blk ∈ t.jnl.free ∧
      s.jnl.segOf blk ∉ t.jnl.ring ∧
      t.jnl.recs = s.jnl.recs.map (fun r => if r.inPlace false (s.jnl.segOf blk) then
        { r with refreshed := true, segment := o } else r) ∧ Only [] [.jnl] s t) ∧
    (∃ t : State, exec (.patrolRead blk page corrected level false recs true gaps) s = .next t ∧
      t.get F.JNL_EVENT_EVENTS = setBit (s.get F.JNL_EVENT_EVENTS) 4 ∧
      t.jnl.recs = s.jnl.recs.map (fun r => if r.jseq ∈ recs then { r with readable := false } else r) ∧
      OnlyIn (.JNL_EVENT :: markRegs) [.irq, .jnl, .out] s t) ∧
    (∃ t : State, exec (.patrolRead blk page corrected level false recs false gaps) s = .next t ∧
      (t.get F.JNL_EVENT_EVENTS).testBit 4 = true ∧ (t.get F.JNL_EVENT_EVENTS).testBit 5 = true ∧ blk ∈ t.jnl.bad)) ∧
  (∀ (s : State) (gaps : PlanGaps), s.get F.JNL_STATUS_STATE = 3 ∨ s.get F.JNL_STATUS_STATE = 4 → s.jnl.planAt + 86400000000000 ≤ s.nowNs →
    ∃ t : State, exec (.journalPlan gaps) s = .next t ∧ PlanShown s t (s.get F.JNL_LIFE_LIFE_YEARS) (s.planInputs gaps) ∧
      t.get F.JNL_STATUS_STATE = (if s.jnl.usableSegs.length < 4 ∨ s.jnl.systemOk = false then 5
        else if s.jnl.goodPermille < 800 then 4 else s.get F.JNL_STATUS_STATE) ∧
      (s.jnl.goodPermille < 800 → s.get F.JNL_STATUS_STATE = 3 → (t.get F.JNL_EVENT_EVENTS).testBit 1 = true) ∧
      (s.jnl.usableSegs.length < 4 ∨ s.jnl.systemOk = false → (t.get F.JNL_EVENT_EVENTS).testBit 2 = true) ∧
      OnlyIn (.JNL_STATUS :: planRegs) [.irq, .buf, .jnl, .out] s t) ∧
  (∀ (s : State) (m : MountScan) (gaps : PlanGaps) (p : Population), hasTwin s.fus.variant = true → s.get F.JNL_STATUS_STATE ≤ 1 →
    (popCause m.dies ≠ 0 → ∃ t : State, exec (.journalMount m gaps) s = .next t ∧ t.get F.JNL_STATUS_STATE = 0 ∧
      t.get F.JNL_STATUS_NONE_CAUSE = popCause m.dies ∧ Only [F.JNL_STATUS_STATE, F.JNL_STATUS_NONE_CAUSE] [] s t) ∧
    (popCause m.dies = 0 → populationOf m.dies = some p →
      (s.governing m = none → ∃ t : State, exec (.journalMount m gaps) s = .next t ∧ t.get F.JNL_STATUS_STATE = 2 ∧
        t.get F.JNL_STATUS_DIES = p.diesCode ∧ t.get F.JNL_STATUS_DENSITY = p.densityCode ∧
        t.get F.JNL_STATUS_RATE = rateOf m.dies (s.get F.JNL_CFG_MAX_RATE) ∧ t.jnl.pop = some p ∧
        OnlyIn [.JNL_STATUS] [.jnl] s t) ∧
      (∀ b, s.governing m = some b → b.pop ≠ p → ∃ t : State, exec (.journalMount m gaps) s = .next t ∧
        t.get F.JNL_STATUS_STATE = 2 ∧ t.get F.JNL_EVENT_EVENTS = setBit (s.get F.JNL_EVENT_EVENTS) 7 ∧
        OnlyIn [.JNL_STATUS, .JNL_EVENT] [.irq, .jnl, .out] s t) ∧
      (∀ b, s.governing m = some b → b.pop = p →
        (let j : Journal := { s.jnl with pop := some p, bad := b.bad, atFormat := b.atFormat }
         800 ≤ j.goodPermille ∧ 4 ≤ j.usableSegs.length ∧ j.systemOk = true) →
        ∃ t : State, exec (.journalMount m gaps) s = .next t ∧ t.get F.JNL_STATUS_STATE = 3 ∧ t.get F.JNL_LIFE_LIFE_YEARS = b.lifeYears ∧
          t.get F.JNL_FORMAT_FORMAT_COUNT = b.formatCount ∧ t.jnl.inServiceSec = b.inServiceSec ∧ s.jnl.nextJseq ≤ t.jnl.nextJseq ∧
          (∀ r ∈ t.jnl.recs, r.durable = true → r.jseq ∉ m.crcBad) ∧
          (m.lost ≠ none → (t.get F.JNL_EVENT_EVENTS).testBit 6 = true) ∧
          OnlyIn (([.JNL_STATUS, .JNL_LIFE, .JNL_FORMAT] : List Reg) ++ markRegs ++ planRegs) [.irq, .buf, .jnl, .tmp, .out, .free] s t)))

/-- R381 to R384, R392 to R395, R413: an alarm without further response is counted, posted and logged; zeroizing
erases keys, SAs and SCs; a reset response resets the device; SOFT raises source 14; a debug token is kept and a
locked device alarms. Runs are read as log entries 73 and 74 say. -/
def Obligations.AlarmsAndDebugTokens : Prop :=
  (∀ (s : State) (src value : Nat), AlarmTaken s src → (src = 4 → value = 0x7FFFFFFF → s.get F.TIM_CFG_SRC ≠ 0) →
    let m := s.effectiveMask src
    (m < 4 → ∃ t : State, exec (.tamperAssert [(src, value)]) s = .next t ∧ AlarmShown s t src value ∧
      EntryWritten s t src 0 m (value % 2 ^ 32) ∧
      (m = 3 → s.pwr.cpReset = false → s.out.count (.msix 18) < t.out.count (.msix 18)) ∧
      OnlyIn (logRegs ++ ([.TMP_STATUS, .TMP_SRC_VALUE, .TMP_SRC_COUNT] : List Reg)) [.irq, .buf, .jnl, .tmp, .out] s t) ∧
    (s.pwr.goal ≠ some .boot → s.pwr.dpReset = false → s.pwr.cpReset = false → m.testBit 4 = true → m.testBit 5 = false →
      m.testBit 6 = false → m.testBit 7 = false → ∃ t : State, exec (.tamperAssert [(src, value)]) s = .next t ∧ AlarmShown s t src value ∧
      EntryWritten s t src 0 m (value % 2 ^ 32) ∧ t.key.root = none ∧ t.key.batKey = none ∧ t.sam.sa = [] ∧ t.sam.sc = [] ∧
      (∀ k, (Tab.get t.key.domain {} k).state = .empty) ∧ t.get F.KEY_STATUS_IDENTITY_READY = 0 ∧
      (t.get F.KEY_EVENT_EVENTS).testBit 2 = true ∧ (t.get F.KEY_EVENT_EVENTS).testBit 3 = true ∧
      t.get F.TMP_STATUS_RESPONDED = 1 ∧ (m.testBit 2 = true → t.get F.TMP_STATUS_HOLD = 1) ∧
      (s.get F.PEL_STATUS_SHADOW = 3 → t.get F.PEL_STATUS_SHADOW = 0 ∧ t.get F.PEL_RESULT_STATUS = 5) ∧
      OnlyIn (logRegs ++ ([.TMP_STATUS, .TMP_SRC_VALUE, .TMP_SRC_COUNT, .TMP_BAT_INFO, .PEL_RESULT, .PEL_STATUS, .PEL_EVENT,
        .SWC_CH_STATUS, .SEQ_CH_DSN, .HIF_CQ_PROD, .CNT_EVENT, .CNT_PROG_SEL, .SAM_CMD_RESULT, .SAM_RES, .VF_EVENT, .KEY_STATUS, .KEY_EVENT] : List Reg))
        [.irq, .cnt, .pel, .buf, .pool, .sam, .key, .hif, .jnl, .tmp, .out, .free] s t) ∧
    (s.pwr.goal ≠ some .boot → s.pwr.dpReset = false → s.pwr.cpReset = false → m.testBit 3 = false → m.testBit 4 = false →
      m.testBit 7 = false → m.testBit 5 = true ∨ m.testBit 6 = true → ∃ t : State, exec (.tamperAssert [(src, value)]) s = .next t ∧
      EntryWritten s t src 0 m (value % 2 ^ 32) ∧ t.get F.PWR_STATUS_RESET_CAUSE = 2 ∧ t.pel = {} ∧ t.pool = {} ∧ t.sch = {} ∧
      t.key.root = none ∧ t.pwr.goal = some .boot ∧ t.tmp.held = m.testBit 6 ∧ t.pending = s.pending) ∧
    (m < 4 → m.testBit 1 = true → s.pwr.cpReset = true → ∃ t : State, exec (.tamperAssert [(src, value)]) s = .next t ∧
      AlarmShown s t src value ∧ t.tmp.pend.testBit 1 = true)) ∧
  (∀ (s : State) (who : Nat), who ≤ 4 →
    (∀ code : Nat, s.srcDisabled 14 = true → ∃ t : State, exec (.soft who code) s = .next t ∧ t.get F.TMP_CMD_RESULT_STATUS = 6 ∧
      t.get F.TMP_CMD_RESULT_OP = 1 ∧ Only [F.TMP_CMD_RESULT_STATUS, F.TMP_CMD_RESULT_OP] [] s t) ∧
    (∀ code : Nat, AlarmTaken s 14 → s.effectiveMask 14 < 4 → ∃ t : State, exec (.soft who code) s = .next t ∧
      t.get F.TMP_CMD_RESULT_STATUS = 0 ∧ t.get F.TMP_CMD_RESULT_OP = 1 ∧ AlarmShown s t 14 (code % 256) ∧
      EntryWritten s t 14 0 (s.effectiveMask 14) (code % 256) ∧
      OnlyIn (logRegs ++ ([.TMP_STATUS, .TMP_SRC_VALUE, .TMP_SRC_COUNT, .TMP_CMD_RESULT] : List Reg)) [.irq, .buf, .jnl, .tmp, .out] s t) ∧
    (∀ token : DebugToken, s.tmp.onBattery = false → s.get F.PWR_STATUS_DEBUG_UNLOCKED = 1 → ∃ t : State, exec (.dbgTokenWrite who token) s = .next t ∧
      t.pwr = { s.pwr with token := some token } ∧ Only [] [.pwr] s t) ∧
    (∀ token : DebugToken, AlarmTaken s 8 → s.effectiveMask 8 < 4 → s.get F.PWR_STATUS_DEBUG_UNLOCKED ≠ 1 →
      ∃ t : State, exec (.dbgTokenWrite who token) s = .next t ∧ t.pwr = { s.pwr with token := some token } ∧ AlarmShown s t 8 0 ∧
      EntryWritten s t 8 0 (s.effectiveMask 8) 0 ∧
      OnlyIn (logRegs ++ ([.TMP_STATUS, .TMP_SRC_VALUE, .TMP_SRC_COUNT] : List Reg)) [.irq, .buf, .jnl, .tmp, .pwr, .out] s t))

/-- R383, R389, R393, R396: the end of a condition is logged, RELEASE_HOLD releases once no held source is asserted,
and the loss of main power leaves the device on battery. Values of CLEAR and HOLD_RELEASED entries are log entry 74,
what battery keeps log entries 74 and 77. -/
def Obligations.TamperEndsAndBattery : Prop :=
  (∀ (s : State) (src : Nat), isCondition src = true → s.monitored src = true → s.asserted src = true →
    s.tmp.onBattery = false → ∃ t : State, exec (.tamperClear src) s = .next t ∧
      t.get F.TMP_STATUS_ASSERTED = clearBits (s.get F.TMP_STATUS_ASSERTED) (2 ^ src) ∧ src ∉ t.tmp.omitReset ∧
      t.get F.TMP_LOG_SEQ_NEXT_SEQ = (s.get F.TMP_LOG_SEQ_NEXT_SEQ + 1) % 2 ^ 32 ∧
      (∃ e : LogEntry, Tab.get t.tmp.log none (s.get F.TMP_LOG_INFO_HEAD) = some e ∧ e.source = src ∧ e.kind = 1 ∧ e.mask = s.effectiveMask src) ∧
      OnlyIn (.TMP_STATUS :: logRegs) [.irq, .buf, .jnl, .tmp, .out, .free] s t) ∧
  (∀ (s : State) (src : Nat), isCondition src = false ∨ s.monitored src = false ∨ s.asserted src = false →
    exec (.tamperClear src) s = .next s) ∧
  (∀ (s : State) (who : Nat), who ≤ 4 →
    (s.get F.TMP_STATUS_HOLD = 0 ∨ (∃ x : Nat, x < 16 ∧ s.asserted x = true ∧ (s.effectiveMask x).testBit 2 = true) →
      ∃ t : State, exec (.releaseHold who) s = .next t ∧ t.get F.TMP_CMD_RESULT_STATUS = 1 ∧ t.get F.TMP_CMD_RESULT_OP = 2 ∧
        Only [F.TMP_CMD_RESULT_STATUS, F.TMP_CMD_RESULT_OP] [] s t) ∧
    (s.get F.TMP_STATUS_HOLD ≠ 0 → (∀ x, x < 16 → s.asserted x = true → (s.effectiveMask x).testBit 2 = false) →
      s.tmp.onBattery = false → ∃ t : State, exec (.releaseHold who) s = .next t ∧ t.get F.TMP_CMD_RESULT_STATUS = 0 ∧
        t.get F.TMP_CMD_RESULT_OP = 2 ∧ t.get F.TMP_STATUS_HOLD = 0 ∧
        t.get F.TMP_LOG_SEQ_NEXT_SEQ = (s.get F.TMP_LOG_SEQ_NEXT_SEQ + 1) % 2 ^ 32 ∧
        (∃ e : LogEntry, Tab.get t.tmp.log none (s.get F.TMP_LOG_INFO_HEAD) = some e ∧ e.kind = 4) ∧
        OnlyIn (([.TMP_STATUS, .TMP_CMD_RESULT] : List Reg) ++ logRegs) [.irq, .buf, .jnl, .tmp, .out, .free] s t)) ∧
  (∀ (s : State), s.tmp.onBattery = false → ∃ t : State, exec .batteryOnly s = .next t ∧ DeviceWasReset s t 0 ∧ t.tmp.onBattery = true ∧
    t.tmp.lastSec = (if s.timeValid then some s.nowSec else none) ∧
    t.get F.TMP_STATUS_ASSERTED = s.get F.TMP_STATUS_ASSERTED &&& 0x62B ∧ t.key.batKey = s.key.batKey) ∧
  (∀ (s : State), s.tmp.onBattery = true → exec .batteryOnly s = .next s)

/-- R402, R403: ACTIVE, DOZE, STANDBY and HIBERNATE by state: refused, taken at once, or the start of a sequence. The
order of the checks is log entry 76. -/
def Obligations.PowerStateCommands : Prop :=
  ∀ (s : State) (who : Nat), who ≤ 4 →
    (∀ (c : Instr) (op : Nat) (dest : PowerState), (c, op, dest) ∈ [(Instr.active who, 1, PowerState.active), (.doze who, 2, .doze)] →
      (s.pwr.state = .startUp ∨ s.pwr.state = .hibernate → ∃ t : State, exec c s = .next t ∧ PwrDone t op 1 ∧
        Only [F.PWR_CMD_RESULT_STATUS, F.PWR_CMD_RESULT_OP] [] s t) ∧
      (s.pwr.state ≠ .startUp → s.pwr.state ≠ .hibernate → s.pwr.goal ≠ none → ∃ t : State, exec c s = .next t ∧ PwrDone t op 4 ∧
        Only [F.PWR_CMD_RESULT_STATUS, F.PWR_CMD_RESULT_OP] [] s t) ∧
      (s.pwr.state = dest → s.pwr.goal = none → ∃ t : State, exec c s = .next t ∧ PwrDone t op 0 ∧ t.pwr.state = dest ∧
        Only pwrFields [.pwr] s t) ∧
      (s.pwr.state = .standby → s.pwr.goal = none → ∃ t : State, exec c s = .next t ∧ t.pwr.goal = some (.start dest) ∧
        t.pwr.state = .standby ∧ t.pwr.seq = s.pwr.seq ∧ op ∈ t.pwr.running ∧ t.get F.PWR_CMD_RESULT_RUNNING = 1 ∧
        Only [F.PWR_CMD_RESULT_RUNNING] [.pwr] s t) ∧
      (s.planeOn = true → s.pwr.state ≠ dest → s.pwr.goal = none → ∃ t : State, exec c s = .next t ∧ PwrDone t op 0 ∧
        t.pwr.state = dest ∧ t.get F.PWR_EVENT_EVENTS = setBit (s.get F.PWR_EVENT_EVENTS) 0 ∧
        OnlyIn [.DRM_ENG_STATUS, .PWR_CMD_RESULT, .PWR_EVENT] [.irq, .pwr, .out] s t)) ∧
    (∀ (c : Instr) (op : Nat) (dest : PowerState), (c, op, dest) ∈ [(Instr.standby who, 3, PowerState.standby), (.hibernate who, 4, .hibernate)] →
      (s.pwr.state = .startUp ∨ s.pwr.state = .hibernate ∨ s.get F.TWN_STATUS_STATE = 4 → ∃ t : State, exec c s = .next t ∧
        PwrDone t op 1 ∧ Only [F.PWR_CMD_RESULT_STATUS, F.PWR_CMD_RESULT_OP] [] s t) ∧
      (s.pwr.state ≠ .startUp → s.pwr.state ≠ .hibernate → s.get F.TWN_STATUS_STATE ≠ 4 → s.pwr.goal = none → s.pwr.state ≠ dest →
        ∃ t : State, exec c s = .next t ∧ t.pwr.goal = some (.stop dest) ∧ t.pwr.state = s.pwr.state ∧ t.pwr.wakes = 0 ∧
          t.pwr.seq = (if s.planeOn then s.openings dataSlots else []) ++ (if dest = .hibernate then s.openings bootSlots else []) ∧
          op ∈ t.pwr.running ∧ t.get F.PWR_CMD_RESULT_RUNNING = 1 ∧
          (s.planeOn = true → (∀ q, t.queue q = []) ∧ (∀ ch ∈ s.channels, t.linkUp ch = false)) ∧
          OnlyIn [.PRT_EP_STATUS, .PRT_EP_EVENT, .FLX_GRP_STATUS, .FLX_GRP_EVENT, .FLX_INST_STATUS, .SWC_SNR_LOST, .SWC_CH_STATUS,
            .SWC_Q_STATUS, .DRM_ENG_STATUS, .SEQ_CH_DSN, .TWN_STATUS, .TWN_EVENT, .TWN_CMD_RESULT, .HIF_CQ_PROD, .TAB_STATUS,
            .TAB_EVENT, .CNT_EVENT, .CNT_PROG_SEL, .PWR_CMD_RESULT]
            [.irq, .cnt, .prt, .flx, .buf, .sch, .pool, .twn, .hif, .tab, .pwr, .out, .free] s t)) ∧
    (s.pwr.state = .standby → s.pwr.goal = none → s.get F.TWN_STATUS_STATE ≠ 4 → ∃ t : State, exec (.standby who) s = .next t ∧
      PwrDone t 3 0 ∧ Only pwrFields [.pwr] s t)

/-- R400, R401, R404: the sequence lists, runs and ends by domain, and a wake leaves HIBERNATE or is kept (log entries
4, 25, 77). -/
def Obligations.PowerSequences : Prop :=
  ∀ (s : State),
    (∀ d, s.pwr.goal = some (.start d) → s.pwr.seq = [] →
      let off := (s.pel.active.map imgPowerOff).getD []
      ∃ t : State, exec .dataPlaneStart s = .next t ∧
        t.pwr = { s.pwr with seq := closings s.fus.variant (dataSlots.filter (fun d => decide (d ∉ off))) ++
          ((bootSlots.reverse.filter (fun d => decide (d ∈ off) && decide (d ∈ s.pwr.on))).map (fun d => (false, d))) } ∧
        Only [] [.pwr] s t) ∧
    ((∀ d, s.pwr.goal ≠ some (.start d)) ∨ s.pwr.seq ≠ [] → exec .dataPlaneStart s = .next s) ∧
    (s.tmp.held = true ∨ s.tmp.onBattery = true → exec .powerSequenceSlot s = .next s) ∧
    (s.tmp.held = false → s.tmp.onBattery = false → ∀ next' rest, s.pwr.seq = (true, 52) :: next' :: rest →
      ∃ t : State, exec .powerSequenceSlot s = .next t ∧ t.pwr.seq = next' :: rest ∧ 52 ∈ t.pwr.on ∧ t.get F.JNL_STATUS_STATE = 1 ∧
        (∀ x, x ≠ 52 → (x ∈ t.pwr.on ↔ x ∈ s.pwr.on)) ∧ Only [F.JNL_STATUS_STATE] [.pwr] s t) ∧
    (s.tmp.held = false → s.tmp.onBattery = false → ∀ next' rest, s.pwr.seq = (false, 52) :: next' :: rest → s.jnlReady = false →
      ∃ t : State, exec .powerSequenceSlot s = .next t ∧ t.pwr.seq = next' :: rest ∧ 52 ∉ t.pwr.on ∧ t.get F.JNL_STATUS_STATE = 0 ∧
        (∀ x, x ≠ 52 → (x ∈ t.pwr.on ↔ x ∈ s.pwr.on)) ∧ Only [F.JNL_STATUS_STATE] [.pwr] s t) ∧
    (s.tmp.held = false → s.tmp.onBattery = false → ∀ close d, s.pwr.seq = [(close, d)] → d ≠ 52 →
      close = true ∨ d ∉ dataSlots ∨ s.pool.slots = [] → s.pwr.goal = some .powerSection →
      ∃ t : State, exec .powerSequenceSlot s = .next t ∧ t.pwr.goal = none ∧ t.pwr.seq = [] ∧ t.pwr.state = s.pwr.state ∧
        (close = true → d ∈ t.pwr.on) ∧ (close = false → d ∉ t.pwr.on) ∧ Only [] [.pwr] s t) ∧
    (s.tmp.held = false → s.tmp.onBattery = false → ∀ close d next' rest, s.pwr.seq = (close, d) :: next' :: rest → d ≠ 52 →
      (close = true ∨ d ∉ dataSlots ∨ s.pool.slots = [] → ∃ t : State, exec .powerSequenceSlot s = .next t ∧ t.pwr.seq = next' :: rest ∧
        (close = true → d ∈ t.pwr.on) ∧ (close = false → d ∉ t.pwr.on) ∧ (∀ x, x ≠ d → (x ∈ t.pwr.on ↔ x ∈ s.pwr.on)) ∧
        Only [] [.pwr] s t) ∧
      (close = false → d ∈ dataSlots → s.pool.slots ≠ [] → exec .powerSequenceSlot s = .next s)) ∧
    (s.tmp.held = false → s.tmp.onBattery = false → ∀ d, s.pwr.seq = [(false, d)] → d ≠ 52 → s.pool.slots = [] →
      s.pwr.goal = some (.stop .standby) → s.tmp.pend = 0 → ∃ t : State, exec .powerSequenceSlot s = .next t ∧ t.pwr.state = .standby ∧
        t.pwr.goal = none ∧ t.pwr.seq = [] ∧ d ∉ t.pwr.on ∧ t.get F.PWR_EVENT_EVENTS = setBit (s.get F.PWR_EVENT_EVENTS) 0 ∧
        (3 ∈ s.pwr.running → PwrDone t 3 0) ∧ OnlyIn [.PWR_EVENT, .PWR_CMD_RESULT] [.irq, .pwr, .out] s t) ∧
    (s.tmp.held = false → s.tmp.onBattery = false → ∀ d dest, s.pwr.seq = [(true, d)] → d ≠ 52 → s.pwr.goal = some (.start dest) →
      ∃ t : State, exec .powerSequenceSlot s = .next t ∧ t.pwr.state = dest ∧ t.pwr.goal = none ∧ d ∈ t.pwr.on ∧
        t.get F.PWR_EVENT_EVENTS = setBit (s.get F.PWR_EVENT_EVENTS) 0 ∧
        (∀ q ∈ s.allQueues, 1536 ≤ q → t.get (F.SWC_Q_STATUS_STATE q) = 1) ∧
        OnlyIn [.FLX_GRP_STATUS, .SWC_Q_STATUS, .TWN_STATUS, .DRM_ENG_STATUS, .PWR_EVENT, .PWR_CMD_RESULT]
          [.irq, .sch, .twn, .pwr, .out, .free] s t) ∧
    (∀ cause causes, causes = (if s.get F.PWR_WAKE_TIMER_SECONDS = 0 then cause % 2 else cause % 4) →
      (causes ≠ 0 → s.pwr.state = .hibernate → ∃ t : State, exec (.wake cause) s = .next t ∧ t.get F.PWR_STATUS_WAKE_CAUSE = causes ∧
        t.get F.PWR_STATUS_RESET_CAUSE = 5 ∧ t.get F.TMP_STATUS_HOLD = s.get F.TMP_STATUS_HOLD ∧
        t.get F.KEY_STATUS_TEST_ROOT = s.get F.KEY_STATUS_TEST_ROOT ∧
        t.get F.PWR_STATUS_DEBUG_UNLOCKED = s.get F.PWR_STATUS_DEBUG_UNLOCKED ∧ t.tim = { now := s.pwr.saved } ∧
        t.pwr.state = .startUp ∧ t.pwr.goal = some .boot ∧ t.pwr.wakeReset = true ∧ t.pel = {} ∧ t.key.root = none ∧
        t.key.domain = s.key.domain ∧ t.cnt.fixed = s.cnt.fixed.filter (fun p => !(decide (saOff 0 0 ≤ p.1) && decide (p.1 < scOff 0 0))) ∧
        t.tmp.log = s.tmp.log ∧ t.tmp.bat = s.tmp.bat ∧ t.tmp.events = s.tmp.events ∧ t.tmp.loopA = s.tmp.loopA ∧
        t.tmp.loopB = s.tmp.loopB ∧ t.tmp.loopRun = s.loopSteps ∧ t.pending = s.pending) ∧
      (causes ≠ 0 → s.pwr.state ≠ .hibernate → s.pwr.goal = some (.stop .hibernate) → ∃ t : State, exec (.wake cause) s = .next t ∧
        t.pwr = { s.pwr with wakes := s.pwr.wakes ||| causes } ∧ Only [] [.pwr] s t) ∧
      (causes = 0 ∨ s.pwr.state ≠ .hibernate ∧ s.pwr.goal ≠ some (.stop .hibernate) → exec (.wake cause) s = .next s))

/-- R385, R407, R408: DEVICE_RESET, RESET_N, RAIL_FAULT and POWER_ON leave every register at its reset value but the
kept ones, every volatile part empty and the fuses loaded anew. Where R408 is silent log entry 77 says what is done.
-/
def Obligations.DeviceResets : Prop :=
  (∀ (s : State) (who : Nat), who ≤ 4 → s.tmp.held = false → ∃ t : State, exec (.deviceReset who) s = .next t ∧ DeviceWasReset s t 3 ∧
    t.get F.TMP_STATUS_ASSERTED = s.get F.TMP_STATUS_ASSERTED) ∧
  (∀ (s : State), s.tmp.onBattery = false → s.tmp.held = false → ∃ t : State, exec .resetN s = .next t ∧ DeviceWasReset s t 1 ∧
    t.get F.TMP_STATUS_ASSERTED = s.get F.TMP_STATUS_ASSERTED) ∧
  (∀ (s : State), s.tmp.onBattery = true ∨ s.tmp.held = true → exec .resetN s = .next s) ∧
  (∀ (s : State) (rail : Nat), s.tmp.onBattery = false → s.pwr.state ≠ .hibernate → rail = 0 ∨ s.tmp.held = false →
    ∃ t : State, exec (.railFault rail) s = .next t ∧ DeviceWasReset s t 0 ∧ t.get F.TMP_STATUS_ASSERTED = s.get F.TMP_STATUS_ASSERTED) ∧
  (∀ (s : State) (rail : Nat), s.tmp.onBattery = true ∨ s.pwr.state = .hibernate → exec (.railFault rail) s = .next s) ∧
  (∀ (s : State) (lost : Bool) (parity : List (Nat × Bool)), ∃ t : State, exec (.powerOn ⟨lost, parity⟩) s = .next t ∧
    t.get F.PWR_STATUS_RESET_CAUSE = 0 ∧ t.tmp.onBattery = false ∧
    t.get F.FUS_STATUS_CHECK_OK = (if parity = [] ∧ s.fus.faults = [] then 1 else 0) ∧ t.fus.words = s.fus.words ∧
    (parity = [] → s.fus.faults = [] → t.fus.loaded = s.fus.words) ∧
    t.tmp.log = [] ∧ t.get F.TMP_LOG_INFO_HEAD = 0 ∧ t.get F.PWR_AVS_STATUS_VDD_CORE_MV = 800 ∧ t.pwr.ledger = [] ∧ t.tmp.held = false ∧
    t.key.batLost = lost ∧ t.pwr.state = .startUp ∧ t.pwr.goal = some .boot ∧ t.pel = {} ∧ t.buf = {} ∧ t.pool = {} ∧
    (lost = false → t.tmp.bat = s.tmp.bat ∧ t.key.batKey = s.key.batKey ∧
      t.get F.TMP_LOG_SEQ_NEXT_SEQ = s.get F.TMP_LOG_SEQ_NEXT_SEQ) ∧
    (lost = true → t.tmp.bat = [] ∧ t.tmp.batMask = [] ∧ t.key.domain = [] ∧ t.key.batKey = none ∧
      t.get F.TMP_LOG_SEQ_NEXT_SEQ = 0 ∧ t.get F.KEY_EVENT_EVENTS = 16) ∧ t.pending = s.pending)

/-- R30, R407, R408: DP_RESET and CP_RESET reset their plane and no other, a second one of either merges into the
wider, and their ends complete them (log entries 77 and 144). -/
def Obligations.PlaneResets : Prop :=
  (∀ (s : State) (who : Nat), who ≤ 4 → s.pwr.dpReset = false → s.pwr.cpReset = false → ∃ t : State, exec (.dpReset who) s = .next t ∧ t.pwr.dpReset = true ∧
    5 ∈ t.pwr.running ∧ t.get F.PWR_CMD_RESULT_RUNNING = 1 ∧ (∀ q, t.queue q = []) ∧ t.pool.slots = [] ∧ t.pool.keys = [] ∧
    (∀ ch ∈ s.channels, t.linkUp ch = false) ∧ (∀ q ∈ s.allQueues, t.get (F.SWC_Q_STATUS_STATE q) = 3) ∧
    (∀ e, e < enginesPresent s.fus.variant → t.get (F.DRM_ENG_STATUS_STATE e) = 1) ∧ t.sch.horizon = [] ∧
    OnlyIn [.PRT_EP_STATUS, .PRT_EP_EVENT, .FLX_GRP_STATUS, .FLX_GRP_EVENT, .FLX_INST_STATUS, .SWC_SNR_LOST, .SWC_CH_STATUS,
      .SWC_Q_STATUS, .DRM_CMD_RESULT, .DRM_EVENT, .DRM_ENG_STATUS, .SEQ_CH_DSN, .TWN_STATUS, .TWN_EVENT, .TWN_CMD_RESULT,
      .HIF_CQ_PROD, .CNT_EVENT, .CNT_PROG_SEL, .PWR_CMD_RESULT]
      [.irq, .cnt, .prt, .flx, .buf, .sch, .pool, .twn, .hif, .pwr, .out, .free] s t) ∧
  (∀ (s : State) (who : Nat), who ≤ 4 → s.pwr.cpReset = false → ∃ t : State, exec (.cpReset who) s = .next t ∧ t.pwr.cpReset = true ∧
    6 ∈ t.pwr.running ∧ t.get F.PWR_CMD_RESULT_RUNNING = 1 ∧ t.key = { s.key with hyb := [] } ∧
    t.sam.waits = [] ∧ t.sam.queue = [] ∧
    (∀ w ∈ s.sam.waits, w.who ≤ 4 → t.get (F.SAM_CMD_RESULT_STATUS w.who) = 5 ∧ t.get (F.SAM_CMD_RESULT_RUNNING w.who) = 0) ∧
    t.tab.fifo = [] ∧ (∀ p, p < 3 → ∀ core, core < 4 → s.lockOwner p = some core → t.lockOwner p = none) ∧
    (1 ≤ s.get F.PEL_STATUS_SHADOW → s.get F.PEL_STATUS_SHADOW ≤ 3 → t.get F.PEL_STATUS_SHADOW = 0 ∧ t.pel.shadow = none) ∧
    (s.get F.PEL_STATUS_SHADOW = 1 ∨ s.get F.PEL_STATUS_SHADOW = 3 → t.get F.PEL_RESULT_STATUS = 5 ∧
      t.get F.PEL_RESULT_OP = s.get F.PEL_STATUS_SHADOW) ∧
    (∀ r, r < 28 → t.get (F.HIF_RS_CTL_ENABLE r) = 0 ∧ t.get (F.HIF_RS_CTL_STOPPED r) = 0) ∧
    OnlyIn [.PEL_RESULT, .PEL_STATUS, .PEL_EVENT, .TWN_STATUS, .TWN_EVENT, .TWN_CMD_RESULT, .HIF_RS_CTL, .CHM_OUT_DATA, .CHM_EVENT,
      .TAB_STATUS, .TAB_EVENT, .SAM_CMD_RESULT, .SAM_RES, .SWC_SNR_LOST, .TBL_EVENT, .VF_EVENT, .PWR_CMD_RESULT]
      [.irq, .pel, .tbl, .buf, .sam, .key, .twn, .chm, .tab, .pwr, .out, .free] s t) ∧
  (∀ (s : State) (who : Nat), who ≤ 4 → ∀ (c : Instr) (op : Nat), (c, op) = (Instr.dpReset who, 5) ∧ (s.pwr.dpReset = true ∨ s.pwr.cpReset = true) ∨
      (c, op) = (Instr.cpReset who, 6) ∧ s.pwr.cpReset = true → ∃ t : State, exec c s = .next t ∧ op ∈ t.pwr.running ∧
    t.get F.PWR_CMD_RESULT_RUNNING = 1 ∧ Only [F.PWR_CMD_RESULT_RUNNING] [.pwr] s t) ∧
  (∀ (s : State), s.pwr.dpReset = true → s.tmp.pend = 0 → s.get F.PEL_STATUS_SHADOW ≠ 3 →
    ∃ t : State, exec .dataPlaneResetEnd s = .next t ∧ t.pwr.dpReset = false ∧
      (5 ∈ s.pwr.running → s.pwr.cpReset = false → PwrDone t 5 0 ∧ t.pwr.running = s.pwr.running.filter (· ≠ 5)) ∧
      (s.pwr.cpReset = true → t.pwr.running = s.pwr.running) ∧
      (s.planeOn = true → ∀ q ∈ s.allQueues, 1536 ≤ q → t.get (F.SWC_Q_STATUS_STATE q) = 1) ∧
      (s.planeOn = false → Only pwrFields [.pwr] s t) ∧
      OnlyIn [.FLX_GRP_STATUS, .SWC_Q_STATUS, .TWN_STATUS, .PWR_CMD_RESULT] [.sch, .twn, .pwr, .out, .free] s t) ∧
  (∀ (s : State), s.pwr.cpReset = true → s.tmp.pend = 0 → ∃ t : State, exec .controlPlaneResetEnd s = .next t ∧ t.pwr.cpReset = false ∧
    t.pwr.running = s.pwr.running.filter (fun o => !(decide (o = 6) || decide (o = 5) && !s.pwr.dpReset)) ∧
    (6 ∈ s.pwr.running → t.get F.PWR_CMD_RESULT_STATUS = 0 ∧ (s.pwr.dpReset = true ∨ 5 ∉ s.pwr.running → PwrDone t 6 0)) ∧
    (s.pwr.running = [5, 6] → s.pwr.dpReset = false → PwrDone t 5 0) ∧ Only pwrFields [.pwr] s t) ∧
  (∀ (s : State), s.pwr.dpReset = false → exec .dataPlaneResetEnd s = .next s) ∧
  (∀ (s : State), s.pwr.cpReset = false → exec .controlPlaneResetEnd s = .next s)

/-- R410 to R412: BOOT takes the active slot or falls back to the other, or fails, and loads and strikes the first
Peal that verifies; RECOVER runs firmware of the host on a device that failed to boot. Readings of log entries 79 and
25. -/
def Obligations.BootAndRecover : Prop :=
  (∀ (s : State) (fl : BootFlash) (k : Key), s.pwr.state = .startUp → s.pwr.goal = none → s.pwr.booted = false → s.tmp.held = false →
    s.tmp.onBattery = false → s.get F.PWR_STATUS_BOOT_RESULT ≠ 3 → fl.pufKey = some k → s.key.rootBarred = false →
    ∀ b : Bool, HeaderNames fl.header b →
    let one := if b then fl.slotB else fl.slotA
    let two := if b then fl.slotA else fl.slotB
    ∃ t u : State, exec (.boot fl) s = .next t ∧ u.key.root ≠ none ∧ u.key.batKey ≠ none ∧ u.get F.KEY_STATUS_IDENTITY_READY = 1 ∧
      (s.slotStatus one = .ok → u.get F.PWR_STATUS_BOOT_RESULT = 0 ∧ u.get F.PWR_STATUS_BOOT_SLOT = bit b ∧ u.pwr.booted = true ∧
        u.pwr.bootMeas = fwMeasurement one.boot ∧ u.pwr.fwMeas = fwMeasurement one.fw ∧ u.pwr.fwSvn = one.fw.svn) ∧
      (s.slotStatus one ≠ .ok → (u.get F.PWR_EVENT_EVENTS).testBit 7 = true) ∧
      (s.slotStatus one ≠ .ok → s.slotStatus two = .ok → u.get F.PWR_STATUS_BOOT_RESULT = 1 ∧
        u.get F.PWR_STATUS_BOOT_SLOT = bit !b ∧ u.pwr.booted = true ∧ u.pwr.fwMeas = fwMeasurement two.fw ∧ u.pwr.fwSvn = two.fw.svn) ∧
      (s.slotStatus one ≠ .ok → s.slotStatus two ≠ .ok → t = u ∧ u.get F.PWR_STATUS_BOOT_RESULT = 3 ∧
        u.pwr = { s.pwr with peals := [one.peal, two.peal] }) ∧
      OnlyIn [.KEY_STATUS, .PWR_STATUS, .PWR_EVENT] [.irq, .key, .pwr, .out, .free] s u ∧
      (s.get F.PEL_STATUS_SHADOW ≠ 0 ∨ s.pwr.cpReset = true → t = u) ∧
      (s.get F.PEL_STATUS_SHADOW = 0 → s.pwr.cpReset = false → s.slotStatus one = .ok ∨ s.slotStatus two = .ok →
        ∃ v : State, exec (.verificationDone (if s.slotStatus one = .ok then one.peal else two.peal)) (u.loadStart 0 8388608) = .next v ∧
          (v.get F.PEL_STATUS_SHADOW = 2 → exec (.armNow 0 false) v = .next t))) ∧
  (∀ (s : State) (fl : BootFlash), s.pwr.state ≠ .startUp ∨ s.pwr.goal ≠ none ∨ s.pwr.booted = true ∨ s.tmp.held = true ∨
    s.tmp.onBattery = true ∨ s.get F.PWR_STATUS_BOOT_RESULT = 3 → exec (.boot fl) s = .next s) ∧
  (∀ (s : State) (who : Nat) (img : BootSlot), who ≤ 4 → ∃ t u : State, exec (.recover who img) s = .next t ∧
    (s.slotStatus img ≠ .ok → PwrDone t 9 (s.slotStatus img).code ∧ Only [F.PWR_CMD_RESULT_STATUS, F.PWR_CMD_RESULT_OP] [] s t) ∧
    (s.slotStatus img = .ok → s.pwr.booted = true ∨ s.get F.PWR_STATUS_BOOT_RESULT ≠ 3 →
      PwrDone t 9 1 ∧ Only [F.PWR_CMD_RESULT_STATUS, F.PWR_CMD_RESULT_OP] [] s t) ∧
    (s.slotStatus img = .ok → s.pwr.booted = false → s.get F.PWR_STATUS_BOOT_RESULT = 3 →
      u.pwr.booted = true ∧ u.pwr.fwRunning = true ∧ u.get F.PWR_STATUS_BOOT_RESULT = 2 ∧ u.pwr.fwMeas = fwMeasurement img.fw ∧
        Only [F.PWR_STATUS_BOOT_RESULT] [.pwr, .out] s u ∧ (s.get F.PEL_STATUS_SHADOW ≠ 0 ∨ s.pwr.cpReset = true → t = u) ∧
        (∀ (one two : PealCopy), s.get F.PEL_STATUS_SHADOW = 0 → s.pwr.cpReset = false → s.pwr.peals = [one, two] →
          ∃ v : State, exec (.verificationDone one) (u.loadStart 0 8388608) = .next v ∧
            (v.get F.PEL_STATUS_SHADOW = 2 → exec (.armNow 0 false) v = .next t))))

/-- R409, R414 to R418: KICK restarts the watchdog, which resets the control plane and, within 10 s again, the device;
AVS plans set the core voltage and log; LOW_MARGIN raises it by 10 mV or logs a fault at its end (log entries 78, 79).
-/
def Obligations.WatchdogAndVoltage : Prop :=
  ∀ (s : State),
    (∀ who timeout, who ≤ 4 → ∃ t : State, exec (.kick who timeout) s = .next t ∧ t.pwr = { s.pwr with wdogFrom := s.nowNs } ∧
      t.get F.PWR_WDOG_TIMEOUT_MS = timeout % 2 ^ 16 ∧ Only [F.PWR_WDOG_TIMEOUT_MS] [.pwr] s t) ∧
    (let ms := s.get F.PWR_WDOG_TIMEOUT_MS
     (ms = 0 ∨ s.nowNs < s.pwr.wdogFrom + ms * 1000000 → exec .wdog s = .next s) ∧
     (0 < ms → s.pwr.wdogFrom + ms * 1000000 ≤ s.nowNs → (∀ l, s.pwr.wdogLast = some l → l + 10000000000 < s.nowNs) →
       ∃ t : State, exec .wdog s = .next t ∧
       t.pwr.cpReset = true ∧ t.pwr.wdogFrom = s.nowNs ∧ t.pwr.wdogLast = some s.nowNs ∧
       t.get F.PWR_EVENT_EVENTS = setBit (s.get F.PWR_EVENT_EVENTS) 1 ∧
       OnlyIn [.PEL_RESULT, .PEL_STATUS, .PEL_EVENT, .TWN_STATUS, .TWN_EVENT, .TWN_CMD_RESULT, .HIF_RS_CTL, .CHM_OUT_DATA, .CHM_EVENT,
         .TAB_STATUS, .TAB_EVENT, .SAM_CMD_RESULT, .SAM_RES, .SWC_SNR_LOST, .TBL_EVENT, .VF_EVENT, .PWR_EVENT]
         [.irq, .pel, .tbl, .buf, .sam, .key, .twn, .chm, .tab, .pwr, .out, .free] s t) ∧
     (∀ l, 0 < ms → s.pwr.wdogFrom + ms * 1000000 ≤ s.nowNs → s.pwr.wdogLast = some l → s.nowNs ≤ l + 10000000000 →
       s.tmp.held = false → ∃ t : State, exec .wdog s = .next t ∧ DeviceWasReset s t 4)) ∧
    (∀ (who : Nat) (i : AvsInputs), who ≤ 4 →
      (s.planeOn = false → ∃ t : State, exec (.avsPlan who i) s = .next t ∧ PwrDone t 8 1 ∧
        Only [F.PWR_CMD_RESULT_STATUS, F.PWR_CMD_RESULT_OP] [] s t) ∧
      (s.planeOn = true → s.pwr.goal ≠ none → ∃ t : State, exec (.avsPlan who i) s = .next t ∧ PwrDone t 8 4 ∧
        Only [F.PWR_CMD_RESULT_STATUS, F.PWR_CMD_RESULT_OP] [] s t) ∧
      (s.planeOn = true → s.pwr.goal = none → ∃ t : State, exec (.avsPlan who i) s = .next t ∧ PwrDone t 8 0 ∧
        t.get F.PWR_AVS_STATUS_VDD_CORE_MV = max ((vddSteps.find? (meetsSlack i (s.get F.PWR_AVS_CFG_SLACK_TARGET)
          (s.get F.PWR_AVS_STATUS_VDD_CORE_MV) 0 0)).getD 840) s.raiseFloor ∧
        (t.get F.PWR_EVENT_EVENTS).testBit 6 = true ∧ t.pwr.lowSince = false ∧ t.pwr.planAt = s.nowNs ∧
        OnlyIn (logRegs ++ ([.PWR_CMD_RESULT, .PWR_EVENT, .PWR_AVS_STATUS] : List Reg)) [.irq, .buf, .jnl, .tmp, .pwr, .out, .free] s t)) ∧
    (∀ i : AvsInputs, s.planeOn = true → s.pwr.goal = none →
      s.pwr.planDue = true ∨ s.pwr.planAt + s.get F.PWR_AVS_CFG_PLAN_H * 3600000000000 ≤ s.nowNs →
      ∃ t : State, exec (.avsPlanTimer i) s = .next t ∧
        t.get F.PWR_AVS_STATUS_VDD_CORE_MV = max ((vddSteps.find? (meetsSlack i (s.get F.PWR_AVS_CFG_SLACK_TARGET)
          (s.get F.PWR_AVS_STATUS_VDD_CORE_MV) 0 0)).getD 840) s.raiseFloor ∧
        (t.get F.PWR_EVENT_EVENTS).testBit 6 = true ∧ t.pwr.planDue = false ∧ t.pwr.planAt = s.nowNs ∧
        OnlyIn (logRegs ++ ([.PWR_EVENT, .PWR_AVS_STATUS] : List Reg)) [.irq, .buf, .jnl, .tmp, .pwr, .out, .free] s t) ∧
    (s.planeOn = true → s.pwr.goal = none →
      let v := s.get F.PWR_AVS_STATUS_VDD_CORE_MV
      (v < 840 → ∃ t : State, exec .lowMargin s = .next t ∧
        t.get F.PWR_AVS_STATUS_VDD_CORE_MV = min 840 (v + 10) ∧
        t.get F.PWR_AVS_STATUS_MIN_SLACK = (s.lowSlack % 256).toNat ∧ s.lowSlack < s.get F.PWR_AVS_CFG_SLACK_MIN ∧
        t.pwr = { s.pwr with lowSince := true, raise' := some (min 840 (v + 10), s.nowNs) } ∧
        t.get F.PWR_EVENT_EVENTS = setBit (s.get F.PWR_EVENT_EVENTS) 2 ∧
        OnlyIn [.PWR_AVS_STATUS, .PWR_EVENT] [.irq, .pwr, .out, .free] s t) ∧
      (840 ≤ v → ∃ t : State, exec .lowMargin s = .next t ∧ EntryWritten s t 0x21 3 0 0 ∧
        t.pwr = { s.pwr with lowSince := true } ∧
        OnlyIn (logRegs ++ ([.PWR_AVS_STATUS] : List Reg)) [.irq, .buf, .jnl, .tmp, .pwr, .out, .free] s t))

/-- The state after reset: every field at its reset value but the loaded check bit and the engines' states, no command
waiting, START-UP, and the register file canonical. What no register shows is log entries 6 and 7. -/
def Obligations.ResetState : Prop :=
  registersCanonical State.reset ∧ State.reset.pending = [] ∧ State.reset.pwr.state = .startUp ∧
  (∀ k : FKey, k ≠ F.FUS_STATUS_CHECK_OK → k.reg ≠ .DRM_ENG_STATUS → State.reset.get k = k.reset)

/-- Whatever a step does, it takes one command from the queue and leaves the order of the rest, and the variant and
serial number of the part never change. The queue is the model's (log entry 3). -/
def Obligations.StepsTakeOneCommand : Prop :=
  ∀ (s t : State), step s = .next t →
    t.pending = s.pending.tail ∧ t.fus.variant = s.fus.variant ∧ t.fus.serial = s.fus.serial

/-- The register file keeps its canonical form under every step: fields in rising order, none listed at its reset
value, so equal register files are equal data. -/
def Obligations.StepsKeepRegistersCanonical : Prop :=
  ∀ (s t : State), registersCanonical s → step s = .next t → registersCanonical t
end

