-- ==== Sys2Proof/Laws/Map.lean ====
section
/-! SUPPORT. The laws of the sparse tables: a read after a write, and that a write keeps the
canonical form. -/

namespace Sys2Proof.Laws
open Sys2Proof.Machine

variable {κ α : Type} [DecidableEq κ]

theorem tab_get_erase (t : Tab κ α) (d : α) (k j : κ) :
    (t.erase k).get d j = if j = k then d else t.get d j := by
  induction t with
  | nil => simp [Tab.erase, Tab.get]
  | cons p r ih =>
    obtain ⟨a, v⟩ := p
    unfold Tab.erase at ih ⊢
    by_cases h : a = k <;> by_cases h2 : j = k <;> by_cases h3 : j = a <;>
      simp_all [Tab.get]

theorem tab_get_insert (code : κ → Nat) (t : Tab κ α) (d : α) (k j : κ) (v : α)
    (hk : k ∉ t.map Prod.fst) :
    (Tab.insert code k v t).get d j = if j = k then v else t.get d j := by
  induction t with
  | nil => simp [Tab.insert, Tab.get]
  | cons p r ih =>
    obtain ⟨a, w⟩ := p
    simp only [List.map_cons, List.mem_cons, not_or] at hk
    unfold Tab.insert
    split
    · by_cases h : j = a
      · subst h; simp [Tab.get, Ne.symm hk.1]
      · simp [Tab.get, h, ih hk.2]
    · simp [Tab.get]

theorem tab_erase_not_mem (t : Tab κ α) (k : κ) : k ∉ (t.erase k).map Prod.fst := by
  simp [Tab.erase]

/-- A read after a write: the written key reads the new value, every other key is unchanged. -/
theorem tab_get_put [DecidableEq α] (code : κ → Nat) (t : Tab κ α) (d d' : α) (k j : κ) (v : α)
    (hd : j = k → d' = d) :
    (t.put code d k v).get d' j = if j = k then v else t.get d' j := by
  unfold Tab.put
  split
  · rw [tab_get_erase]
    by_cases h : j = k <;> simp_all
  · rw [tab_get_insert code _ _ _ _ _ (tab_erase_not_mem t k), tab_get_erase]
    by_cases h : j = k <;> simp_all

@[simp] theorem ntab_get_set {α : Type} [DecidableEq α] (t : NTab α) (d : α) (k j : Nat) (v : α) :
    Tab.get (t.set d k v) d j = if j = k then v else t.get d j :=
  tab_get_put id t d d k j v (fun _ => rfl)

/-! ### The canonical form -/

/-- The canonical form in words: codes rise along the list, and no entry holds its default. -/
theorem tab_wf_iff [DecidableEq α] (code : κ → Nat) (d : κ → α) (t : Tab κ α) :
    t.wf code d = true ↔ t.Pairwise (fun p q => code p.1 < code q.1) ∧ ∀ p ∈ t, p.2 ≠ d p.1 := by
  have h : ∀ l : Tab κ α, l.rising code = true ↔ l.Pairwise (fun p q => code p.1 < code q.1) := by
    intro l
    induction l with
    | nil => simp [Tab.rising]
    | cons p r ih =>
      cases r with
      | nil => simp [Tab.rising]
      | cons q r =>
        simp only [Tab.rising, Bool.and_eq_true, decide_eq_true_eq, ih, List.pairwise_cons (a := p)]
        constructor
        · rintro ⟨h1, h2⟩
          refine ⟨?_, h2⟩
          intro x hx
          rcases List.mem_cons.1 hx with rfl | hx
          · exact h1
          · exact Nat.lt_trans h1 ((List.pairwise_cons.1 h2).1 x hx)
        · rintro ⟨h1, h2⟩
          exact ⟨h1 q (by simp), h2⟩
  simp [Tab.wf, h]

/-- Part of a canonical table is canonical. -/
theorem tab_wf_filter [DecidableEq α] (code : κ → Nat) (d : κ → α) (t : Tab κ α) (f : κ × α → Bool)
    (h : t.wf code d = true) : Tab.wf code d (t.filter f) = true := by
  rw [tab_wf_iff] at h ⊢
  exact ⟨h.1.filter f, fun p hp => h.2 p (List.mem_filter.1 hp).1⟩

/-- A read of a filtered table, at a key whose entries the filter keeps. -/
theorem tab_get_filter (t : Tab κ α) (d : α) (k : κ) (f : κ × α → Bool) (h : ∀ v, f (k, v) = true) :
    Tab.get (t.filter f) d k = Tab.get t d k := by
  induction t with
  | nil => rfl
  | cons p t ih =>
    obtain ⟨j, v⟩ := p
    by_cases hj : j = k
    · subst hj
      simp [List.filter, h, Tab.get]
    · have hk : ¬ k = j := fun e => hj e.symm
      cases hf : f (j, v) <;> simp_all [List.filter, Tab.get]

theorem tab_mem_insert (code : κ → Nat) (t : Tab κ α) (k : κ) (v : α) (p : κ × α) :
    p ∈ Tab.insert code k v t ↔ p = (k, v) ∨ p ∈ t := by
  induction t with
  | nil => simp [Tab.insert]
  | cons q r ih =>
    unfold Tab.insert
    split <;> simp [ih, or_left_comm]

theorem tab_rising_insert (code : κ → Nat) (t : Tab κ α) (k : κ) (v : α)
    (h : t.Pairwise (fun p q => code p.1 < code q.1)) (hk : ∀ p ∈ t, code p.1 ≠ code k) :
    (Tab.insert code k v t).Pairwise (fun p q => code p.1 < code q.1) := by
  induction t with
  | nil => simp [Tab.insert]
  | cons q r ih =>
    have hq := hk q (by simp)
    unfold Tab.insert
    rw [List.pairwise_cons] at h
    split
    · rename_i hlt
      refine List.pairwise_cons.2 ⟨?_, ih h.2 (fun p hp => hk p (by simp [hp]))⟩
      intro p hp
      rcases (tab_mem_insert code r k v p).1 hp with rfl | hp
      · exact hlt
      · exact h.1 p hp
    · rename_i hlt
      have hlt' : code k < code q.1 := by omega
      refine List.pairwise_cons.2 ⟨?_, List.pairwise_cons.2 h⟩
      intro p hp
      rcases List.mem_cons.1 hp with rfl | hp
      · exact hlt'
      · exact Nat.lt_trans hlt' (h.1 p hp)

/-- A write keeps the canonical form, where different keys have different codes. -/
theorem tab_wf_put [DecidableEq α] (code : κ → Nat) (hc : ∀ a b, code a = code b → a = b) (d : κ → α) (t : Tab κ α)
    (k : κ) (v : α) (h : t.wf code d = true) : Tab.wf code d (t.put code (d k) k v) = true := by
  unfold Tab.put
  have he := tab_wf_filter code d t (fun p => p.1 ≠ k) h
  split
  · exact he
  · rename_i hv
    rw [tab_wf_iff] at he ⊢
    refine ⟨tab_rising_insert code _ k v he.1 ?_, ?_⟩
    · intro p hp hcode
      have := (List.mem_filter.1 hp).2
      simp [hc _ _ hcode] at this
    · intro p hp
      rcases (tab_mem_insert code _ k v p).1 hp with rfl | hp
      · exact hv
      · exact he.2 p hp

end Sys2Proof.Laws
end

