-- ==== Sys2Proof/Laws/Regs.lean ====
section
/-! SUPPORT. Register fields: different fields have different codes, and a read after a write. -/

namespace Sys2Proof.Laws
open Sys2Proof Sys2Proof.Machine

/-! ### The code of a field -/

theorem reg_code_lt (r : Reg) : r.ctorIdx < 512 := by cases r <;> decide

theorem reg_code_inj {a b : Reg} (h : a.ctorIdx = b.ctorIdx) : a = b := by
  rw [← Reg.ofNat_ctorIdx a, ← Reg.ofNat_ctorIdx b, h]

/-- The square shell in which a pair of numbers lies. -/
theorem pair_shell (a b : Nat) :
    max a b * max a b ≤ (if a < b then b * b + a else a * a + a + b) ∧
      (if a < b then b * b + a else a * a + a + b) < (max a b + 1) * (max a b + 1) := by
  split
  · rename_i h
    rw [Nat.max_eq_right (Nat.le_of_lt h)]
    have : (b + 1) * (b + 1) = b * b + b + b + 1 := by rw [Nat.add_mul, Nat.mul_add]; omega
    omega
  · rename_i h
    rw [Nat.max_eq_left (by omega)]
    have : (a + 1) * (a + 1) = a * a + a + a + 1 := by rw [Nat.add_mul, Nat.mul_add]; omega
    omega

/-- Different pairs have different numbers. -/
theorem pair_inj (a b c d : Nat)
    (h : (if a < b then b * b + a else a * a + a + b) = (if c < d then d * d + c else c * c + c + d)) : a = c ∧ b = d := by
  have h1 := pair_shell a b
  have h2 := pair_shell c d
  rw [h] at h1
  have hm : max a b = max c d := by
    rcases Nat.lt_trichotomy (max a b) (max c d) with hl | hl | hl
    · have := Nat.mul_le_mul (Nat.succ_le_of_lt hl) (Nat.succ_le_of_lt hl)
      simp only [Nat.succ_eq_add_one] at this
      omega
    · exact hl
    · have := Nat.mul_le_mul (Nat.succ_le_of_lt hl) (Nat.succ_le_of_lt hl)
      simp only [Nat.succ_eq_add_one] at this
      omega
  by_cases hab : a < b <;> by_cases hcd : c < d
  · have : b = d := by omega
    subst this
    simp [hab, hcd] at h
    exact ⟨h, rfl⟩
  · have : b = c := by omega
    subst this
    simp [hab, hcd] at h
    omega
  · have : a = d := by omega
    subst this
    simp [hab, hcd] at h
    omega
  · have : a = c := by omega
    subst this
    simp [hab, hcd] at h
    exact ⟨rfl, h⟩

/-- Different fields have different codes. -/
theorem fkey_code_inj (k j : FKey) (h : k.code = j.code) : k = j := by
  obtain ⟨r, e, l⟩ := k
  obtain ⟨r', e', l'⟩ := j
  simp only [FKey.code] at h
  have h1 := reg_code_lt r
  have h2 := reg_code_lt r'
  have hr : r.ctorIdx = r'.ctorIdx := by omega
  have hp := pair_inj e l e' l' (by omega)
  simp [reg_code_inj hr, hp.1, hp.2]

/-! ### Register fields -/

/-- A read after a write: the written field reads the new value, every other field is unchanged. -/
theorem get_set (s : State) (k j : FKey) (v : Nat) : (s.set k v).get j = if j = k then v else s.get j := by
  unfold State.get State.set
  exact tab_get_put FKey.code s.regs k.reset j.reset k j v (fun h => by rw [h])

theorem get_set_other (s : State) {k j : FKey} (v : Nat) (h : j ≠ k) : (s.set k v).get j = s.get j := by simp [get_set, h]

/-- Entries of a field that a filter keeps read as before. -/
theorem get_filter (s t : State) (f : FKey × Nat → Bool) (k : FKey) (ht : t.regs = s.regs.filter f) (h : ∀ v, f (k, v) = true) :
    t.get k = s.get k := by
  unfold State.get
  rw [ht]
  exact tab_get_filter s.regs k.reset k f h

end Sys2Proof.Laws
end

