-- ==== Sys2Proof/Laws/Footprint.lean ====
section
/-! SUPPORT. The footprint of every operation: the registers and the parts of the state that it may change. One lemma for
each operation of the model, by its name; `K` and `P` say what may change. The rest of the queue, the order code and the
serial number stay in every one of them. -/

namespace Sys2Proof.Laws
open Sys2Proof Sys2Proof.Machine

set_option linter.unusedSimpArgs false
set_option linter.unusedVariables false

variable {K : Reg → Prop} {P : Part → Prop}

/-- What lies outside some registers and parts, with what no operation changes. -/
def outside (K : Reg → Prop) (P : Part → Prop) (s : State) :=
  (s.pending, s.fus.variant, s.fus.serial, (fun (k : FKey) (_ : ¬ K k.reg) => s.get k), (fun (_ : ¬ P .fus) => s.fus), (fun (_ : ¬ P .irq) => s.irq), (fun (_ : ¬ P .tim) => s.tim), (fun (_ : ¬ P .cnt) => s.cnt),
    (fun (_ : ¬ P .pel) => s.pel), (fun (_ : ¬ P .prt) => s.prt), (fun (_ : ¬ P .flx) => s.flx), (fun (_ : ¬ P .tbl) => s.tbl), (fun (_ : ¬ P .buf) => s.buf), (fun (_ : ¬ P .sch) => s.sch),
    (fun (_ : ¬ P .pool) => s.pool), (fun (_ : ¬ P .sam) => s.sam), (fun (_ : ¬ P .key) => s.key), (fun (_ : ¬ P .twn) => s.twn), (fun (_ : ¬ P .hif) => s.hif), (fun (_ : ¬ P .chm) => s.chm),
    (fun (_ : ¬ P .tab) => s.tab), (fun (_ : ¬ P .jnl) => s.jnl), (fun (_ : ¬ P .tmp) => s.tmp), (fun (_ : ¬ P .pwr) => s.pwr), (fun (_ : ¬ P .out) => s.out), (fun (_ : ¬ P .free) => s.free))

@[simp] theorem outside_ite (c : Prop) [Decidable c] (s t : State) :
    outside K P (if c then s else t) = if c then outside K P s else outside K P t := by split <;> rfl

theorem outside_next {x u s : State} (h : (Host.Outcome.next x : Host.Outcome State Fault Refusal) = .next u)
    (hx : outside K P x = outside K P s) : outside K P u = outside K P s := (Host.Outcome.next.inj h) ▸ hx

/-- The state that a dispatch fate carries leaves what lies outside alone. -/
def fateOutside (K : Reg → Prop) (P : Part → Prop) (s : State) (d : DispatchFate) : Prop :=
  match d with
  | .wait t | .drop t _ _ | .go t => outside K P t = outside K P s

theorem outside_foldl {α : Type} (f : State → α → State) (h : ∀ s a, outside K P (f s a) = outside K P s) (l : List α)
    (s : State) : outside K P (l.foldl f s) = outside K P s := by
  induction l generalizing s with
  | nil => rfl
  | cons a l ih => simp [ih, h]

theorem outside_foldr {α : Type} (f : α → State → State) (h : ∀ a s, outside K P (f a s) = outside K P s) (l : List α)
    (s : State) : outside K P (l.foldr f s) = outside K P s := by
  induction l with
  | nil => rfl
  | cons a l ih => simp [ih, h]

/-- States that agree in every component, or may differ there, agree outside. -/
theorem outside_eq {s t : State} (hq : t.pending = s.pending) (hv : t.fus.variant = s.fus.variant) (hn : t.fus.serial = s.fus.serial)
    (hr : ∀ k, ¬ K k.reg → t.get k = s.get k)
    (hp : ∀ p, ¬ P p → p.same s t) : outside K P t = outside K P s := by
  unfold outside
  rw [hq, hv, hn]
  have e : (fun (k : FKey) (_ : ¬ K k.reg) => t.get k) = (fun (k : FKey) (_ : ¬ K k.reg) => s.get k) := by
    funext k h; exact hr k h
  rw [e]
  rw [show (fun (_ : ¬ P .fus) => t.fus) = (fun (_ : ¬ P .fus) => s.fus) from funext (fun h => hp .fus h)]
  rw [show (fun (_ : ¬ P .irq) => t.irq) = (fun (_ : ¬ P .irq) => s.irq) from funext (fun h => hp .irq h)]
  rw [show (fun (_ : ¬ P .tim) => t.tim) = (fun (_ : ¬ P .tim) => s.tim) from funext (fun h => hp .tim h)]
  rw [show (fun (_ : ¬ P .cnt) => t.cnt) = (fun (_ : ¬ P .cnt) => s.cnt) from funext (fun h => hp .cnt h)]
  rw [show (fun (_ : ¬ P .pel) => t.pel) = (fun (_ : ¬ P .pel) => s.pel) from funext (fun h => hp .pel h)]
  rw [show (fun (_ : ¬ P .prt) => t.prt) = (fun (_ : ¬ P .prt) => s.prt) from funext (fun h => hp .prt h)]
  rw [show (fun (_ : ¬ P .flx) => t.flx) = (fun (_ : ¬ P .flx) => s.flx) from funext (fun h => hp .flx h)]
  rw [show (fun (_ : ¬ P .tbl) => t.tbl) = (fun (_ : ¬ P .tbl) => s.tbl) from funext (fun h => hp .tbl h)]
  rw [show (fun (_ : ¬ P .buf) => t.buf) = (fun (_ : ¬ P .buf) => s.buf) from funext (fun h => hp .buf h)]
  rw [show (fun (_ : ¬ P .sch) => t.sch) = (fun (_ : ¬ P .sch) => s.sch) from funext (fun h => hp .sch h)]
  rw [show (fun (_ : ¬ P .pool) => t.pool) = (fun (_ : ¬ P .pool) => s.pool) from funext (fun h => hp .pool h)]
  rw [show (fun (_ : ¬ P .sam) => t.sam) = (fun (_ : ¬ P .sam) => s.sam) from funext (fun h => hp .sam h)]
  rw [show (fun (_ : ¬ P .key) => t.key) = (fun (_ : ¬ P .key) => s.key) from funext (fun h => hp .key h)]
  rw [show (fun (_ : ¬ P .twn) => t.twn) = (fun (_ : ¬ P .twn) => s.twn) from funext (fun h => hp .twn h)]
  rw [show (fun (_ : ¬ P .hif) => t.hif) = (fun (_ : ¬ P .hif) => s.hif) from funext (fun h => hp .hif h)]
  rw [show (fun (_ : ¬ P .chm) => t.chm) = (fun (_ : ¬ P .chm) => s.chm) from funext (fun h => hp .chm h)]
  rw [show (fun (_ : ¬ P .tab) => t.tab) = (fun (_ : ¬ P .tab) => s.tab) from funext (fun h => hp .tab h)]
  rw [show (fun (_ : ¬ P .jnl) => t.jnl) = (fun (_ : ¬ P .jnl) => s.jnl) from funext (fun h => hp .jnl h)]
  rw [show (fun (_ : ¬ P .tmp) => t.tmp) = (fun (_ : ¬ P .tmp) => s.tmp) from funext (fun h => hp .tmp h)]
  rw [show (fun (_ : ¬ P .pwr) => t.pwr) = (fun (_ : ¬ P .pwr) => s.pwr) from funext (fun h => hp .pwr h)]
  rw [show (fun (_ : ¬ P .out) => t.out) = (fun (_ : ¬ P .out) => s.out) from funext (fun h => hp .out h)]
  rw [show (fun (_ : ¬ P .free) => t.free) = (fun (_ : ¬ P .free) => s.free) from funext (fun h => hp .free h)]

/-- What agreement outside says. -/
theorem outside_only {s t : State} (h : outside K P t = outside K P s) :
    (∀ k, ¬ K k.reg → t.get k = s.get k) ∧ (∀ p, ¬ P p → p.same s t) ∧ t.pending = s.pending := by
  unfold outside at h
  simp only [Prod.mk.injEq] at h
  obtain ⟨hq, -, -, hr, hfus, hirq, htim, hcnt, hpel, hprt, hflx, htbl, hbuf, hsch, hpool, hsam, hkey, htwn, hhif, hchm, htab, hjnl, htmp, hpwr, hout, hfree⟩ := h
  refine ⟨fun k hk => congrFun (congrFun hr k) hk, fun p hp => ?_, hq⟩
  cases p
  · exact congrFun hfus hp
  · exact congrFun hirq hp
  · exact congrFun htim hp
  · exact congrFun hcnt hp
  · exact congrFun hpel hp
  · exact congrFun hprt hp
  · exact congrFun hflx hp
  · exact congrFun htbl hp
  · exact congrFun hbuf hp
  · exact congrFun hsch hp
  · exact congrFun hpool hp
  · exact congrFun hsam hp
  · exact congrFun hkey hp
  · exact congrFun htwn hp
  · exact congrFun hhif hp
  · exact congrFun hchm hp
  · exact congrFun htab hp
  · exact congrFun hjnl hp
  · exact congrFun htmp hp
  · exact congrFun hpwr hp
  · exact congrFun hout hp
  · exact congrFun hfree hp

@[simp] theorem outside_mk_irq (t : State) (x) (h : P .irq) : outside K P (State.mk t.regs t.fus x t.tim t.cnt t.pel t.prt t.flx t.tbl t.buf t.sch t.pool t.sam t.key t.twn t.hif t.chm t.tab t.jnl t.tmp t.pwr t.out t.free t.pending) = outside K P t :=
  outside_eq rfl rfl rfl (fun _ _ => rfl) (fun p hp => by cases p <;> first | rfl | exact absurd h hp)
@[simp] theorem outside_mk_tim (t : State) (x) (h : P .tim) : outside K P (State.mk t.regs t.fus t.irq x t.cnt t.pel t.prt t.flx t.tbl t.buf t.sch t.pool t.sam t.key t.twn t.hif t.chm t.tab t.jnl t.tmp t.pwr t.out t.free t.pending) = outside K P t :=
  outside_eq rfl rfl rfl (fun _ _ => rfl) (fun p hp => by cases p <;> first | rfl | exact absurd h hp)
@[simp] theorem outside_mk_cnt (t : State) (x) (h : P .cnt) : outside K P (State.mk t.regs t.fus t.irq t.tim x t.pel t.prt t.flx t.tbl t.buf t.sch t.pool t.sam t.key t.twn t.hif t.chm t.tab t.jnl t.tmp t.pwr t.out t.free t.pending) = outside K P t :=
  outside_eq rfl rfl rfl (fun _ _ => rfl) (fun p hp => by cases p <;> first | rfl | exact absurd h hp)
@[simp] theorem outside_mk_pel (t : State) (x) (h : P .pel) : outside K P (State.mk t.regs t.fus t.irq t.tim t.cnt x t.prt t.flx t.tbl t.buf t.sch t.pool t.sam t.key t.twn t.hif t.chm t.tab t.jnl t.tmp t.pwr t.out t.free t.pending) = outside K P t :=
  outside_eq rfl rfl rfl (fun _ _ => rfl) (fun p hp => by cases p <;> first | rfl | exact absurd h hp)
@[simp] theorem outside_mk_prt (t : State) (x) (h : P .prt) : outside K P (State.mk t.regs t.fus t.irq t.tim t.cnt t.pel x t.flx t.tbl t.buf t.sch t.pool t.sam t.key t.twn t.hif t.chm t.tab t.jnl t.tmp t.pwr t.out t.free t.pending) = outside K P t :=
  outside_eq rfl rfl rfl (fun _ _ => rfl) (fun p hp => by cases p <;> first | rfl | exact absurd h hp)
@[simp] theorem outside_mk_flx (t : State) (x) (h : P .flx) : outside K P (State.mk t.regs t.fus t.irq t.tim t.cnt t.pel t.prt x t.tbl t.buf t.sch t.pool t.sam t.key t.twn t.hif t.chm t.tab t.jnl t.tmp t.pwr t.out t.free t.pending) = outside K P t :=
  outside_eq rfl rfl rfl (fun _ _ => rfl) (fun p hp => by cases p <;> first | rfl | exact absurd h hp)
@[simp] theorem outside_mk_tbl (t : State) (x) (h : P .tbl) : outside K P (State.mk t.regs t.fus t.irq t.tim t.cnt t.pel t.prt t.flx x t.buf t.sch t.pool t.sam t.key t.twn t.hif t.chm t.tab t.jnl t.tmp t.pwr t.out t.free t.pending) = outside K P t :=
  outside_eq rfl rfl rfl (fun _ _ => rfl) (fun p hp => by cases p <;> first | rfl | exact absurd h hp)
@[simp] theorem outside_mk_buf (t : State) (x) (h : P .buf) : outside K P (State.mk t.regs t.fus t.irq t.tim t.cnt t.pel t.prt t.flx t.tbl x t.sch t.pool t.sam t.key t.twn t.hif t.chm t.tab t.jnl t.tmp t.pwr t.out t.free t.pending) = outside K P t :=
  outside_eq rfl rfl rfl (fun _ _ => rfl) (fun p hp => by cases p <;> first | rfl | exact absurd h hp)
@[simp] theorem outside_mk_sch (t : State) (x) (h : P .sch) : outside K P (State.mk t.regs t.fus t.irq t.tim t.cnt t.pel t.prt t.flx t.tbl t.buf x t.pool t.sam t.key t.twn t.hif t.chm t.tab t.jnl t.tmp t.pwr t.out t.free t.pending) = outside K P t :=
  outside_eq rfl rfl rfl (fun _ _ => rfl) (fun p hp => by cases p <;> first | rfl | exact absurd h hp)
@[simp] theorem outside_mk_pool (t : State) (x) (h : P .pool) : outside K P (State.mk t.regs t.fus t.irq t.tim t.cnt t.pel t.prt t.flx t.tbl t.buf t.sch x t.sam t.key t.twn t.hif t.chm t.tab t.jnl t.tmp t.pwr t.out t.free t.pending) = outside K P t :=
  outside_eq rfl rfl rfl (fun _ _ => rfl) (fun p hp => by cases p <;> first | rfl | exact absurd h hp)
@[simp] theorem outside_mk_sam (t : State) (x) (h : P .sam) : outside K P (State.mk t.regs t.fus t.irq t.tim t.cnt t.pel t.prt t.flx t.tbl t.buf t.sch t.pool x t.key t.twn t.hif t.chm t.tab t.jnl t.tmp t.pwr t.out t.free t.pending) = outside K P t :=
  outside_eq rfl rfl rfl (fun _ _ => rfl) (fun p hp => by cases p <;> first | rfl | exact absurd h hp)
@[simp] theorem outside_mk_key (t : State) (x) (h : P .key) : outside K P (State.mk t.regs t.fus t.irq t.tim t.cnt t.pel t.prt t.flx t.tbl t.buf t.sch t.pool t.sam x t.twn t.hif t.chm t.tab t.jnl t.tmp t.pwr t.out t.free t.pending) = outside K P t :=
  outside_eq rfl rfl rfl (fun _ _ => rfl) (fun p hp => by cases p <;> first | rfl | exact absurd h hp)
@[simp] theorem outside_mk_twn (t : State) (x) (h : P .twn) : outside K P (State.mk t.regs t.fus t.irq t.tim t.cnt t.pel t.prt t.flx t.tbl t.buf t.sch t.pool t.sam t.key x t.hif t.chm t.tab t.jnl t.tmp t.pwr t.out t.free t.pending) = outside K P t :=
  outside_eq rfl rfl rfl (fun _ _ => rfl) (fun p hp => by cases p <;> first | rfl | exact absurd h hp)
@[simp] theorem outside_mk_hif (t : State) (x) (h : P .hif) : outside K P (State.mk t.regs t.fus t.irq t.tim t.cnt t.pel t.prt t.flx t.tbl t.buf t.sch t.pool t.sam t.key t.twn x t.chm t.tab t.jnl t.tmp t.pwr t.out t.free t.pending) = outside K P t :=
  outside_eq rfl rfl rfl (fun _ _ => rfl) (fun p hp => by cases p <;> first | rfl | exact absurd h hp)
@[simp] theorem outside_mk_chm (t : State) (x) (h : P .chm) : outside K P (State.mk t.regs t.fus t.irq t.tim t.cnt t.pel t.prt t.flx t.tbl t.buf t.sch t.pool t.sam t.key t.twn t.hif x t.tab t.jnl t.tmp t.pwr t.out t.free t.pending) = outside K P t :=
  outside_eq rfl rfl rfl (fun _ _ => rfl) (fun p hp => by cases p <;> first | rfl | exact absurd h hp)
@[simp] theorem outside_mk_tab (t : State) (x) (h : P .tab) : outside K P (State.mk t.regs t.fus t.irq t.tim t.cnt t.pel t.prt t.flx t.tbl t.buf t.sch t.pool t.sam t.key t.twn t.hif t.chm x t.jnl t.tmp t.pwr t.out t.free t.pending) = outside K P t :=
  outside_eq rfl rfl rfl (fun _ _ => rfl) (fun p hp => by cases p <;> first | rfl | exact absurd h hp)
@[simp] theorem outside_mk_jnl (t : State) (x) (h : P .jnl) : outside K P (State.mk t.regs t.fus t.irq t.tim t.cnt t.pel t.prt t.flx t.tbl t.buf t.sch t.pool t.sam t.key t.twn t.hif t.chm t.tab x t.tmp t.pwr t.out t.free t.pending) = outside K P t :=
  outside_eq rfl rfl rfl (fun _ _ => rfl) (fun p hp => by cases p <;> first | rfl | exact absurd h hp)
@[simp] theorem outside_mk_tmp (t : State) (x) (h : P .tmp) : outside K P (State.mk t.regs t.fus t.irq t.tim t.cnt t.pel t.prt t.flx t.tbl t.buf t.sch t.pool t.sam t.key t.twn t.hif t.chm t.tab t.jnl x t.pwr t.out t.free t.pending) = outside K P t :=
  outside_eq rfl rfl rfl (fun _ _ => rfl) (fun p hp => by cases p <;> first | rfl | exact absurd h hp)
@[simp] theorem outside_mk_pwr (t : State) (x) (h : P .pwr) : outside K P (State.mk t.regs t.fus t.irq t.tim t.cnt t.pel t.prt t.flx t.tbl t.buf t.sch t.pool t.sam t.key t.twn t.hif t.chm t.tab t.jnl t.tmp x t.out t.free t.pending) = outside K P t :=
  outside_eq rfl rfl rfl (fun _ _ => rfl) (fun p hp => by cases p <;> first | rfl | exact absurd h hp)
@[simp] theorem outside_mk_out (t : State) (x) (h : P .out) : outside K P (State.mk t.regs t.fus t.irq t.tim t.cnt t.pel t.prt t.flx t.tbl t.buf t.sch t.pool t.sam t.key t.twn t.hif t.chm t.tab t.jnl t.tmp t.pwr x t.free t.pending) = outside K P t :=
  outside_eq rfl rfl rfl (fun _ _ => rfl) (fun p hp => by cases p <;> first | rfl | exact absurd h hp)
@[simp] theorem outside_mk_free (t : State) (x) (h : P .free) : outside K P (State.mk t.regs t.fus t.irq t.tim t.cnt t.pel t.prt t.flx t.tbl t.buf t.sch t.pool t.sam t.key t.twn t.hif t.chm t.tab t.jnl t.tmp t.pwr t.out x t.pending) = outside K P t :=
  outside_eq rfl rfl rfl (fun _ _ => rfl) (fun p hp => by cases p <;> first | rfl | exact absurd h hp)
theorem outside_mk_fus (t : State) (x : Fuses) (h : P .fus) (hv : x.variant = t.fus.variant) (hn : x.serial = t.fus.serial) :
    outside K P (State.mk t.regs x t.irq t.tim t.cnt t.pel t.prt t.flx t.tbl t.buf t.sch t.pool t.sam t.key t.twn t.hif t.chm t.tab t.jnl t.tmp t.pwr t.out t.free t.pending) = outside K P t :=
  outside_eq rfl hv hn (fun _ _ => rfl) (fun p hp => by cases p <;> first | rfl | exact absurd h hp)
@[simp] theorem outside_mk_tim_out (t : State) (x y) (h : P .tim) (g : P .out) : outside K P (State.mk t.regs t.fus t.irq x t.cnt t.pel t.prt t.flx t.tbl t.buf t.sch t.pool t.sam t.key t.twn t.hif t.chm t.tab t.jnl t.tmp t.pwr y t.free t.pending) = outside K P t :=
  outside_eq rfl rfl rfl (fun _ _ => rfl) (fun p hp => by cases p <;> first | rfl | exact absurd h hp | exact absurd g hp)
@[simp] theorem outside_mk_buf_sch (t : State) (x y) (h : P .buf) (g : P .sch) : outside K P (State.mk t.regs t.fus t.irq t.tim t.cnt t.pel t.prt t.flx t.tbl x y t.pool t.sam t.key t.twn t.hif t.chm t.tab t.jnl t.tmp t.pwr t.out t.free t.pending) = outside K P t :=
  outside_eq rfl rfl rfl (fun _ _ => rfl) (fun p hp => by cases p <;> first | rfl | exact absurd h hp | exact absurd g hp)
@[simp] theorem outside_mk_tmp_free (t : State) (x y) (h : P .tmp) (g : P .free) : outside K P (State.mk t.regs t.fus t.irq t.tim t.cnt t.pel t.prt t.flx t.tbl t.buf t.sch t.pool t.sam t.key t.twn t.hif t.chm t.tab t.jnl x t.pwr t.out y t.pending) = outside K P t :=
  outside_eq rfl rfl rfl (fun _ _ => rfl) (fun p hp => by cases p <;> first | rfl | exact absurd h hp | exact absurd g hp)
@[simp] theorem outside_mk_irq_out (t : State) (x y) (h : P .irq) (g : P .out) : outside K P (State.mk t.regs t.fus x t.tim t.cnt t.pel t.prt t.flx t.tbl t.buf t.sch t.pool t.sam t.key t.twn t.hif t.chm t.tab t.jnl t.tmp t.pwr y t.free t.pending) = outside K P t :=
  outside_eq rfl rfl rfl (fun _ _ => rfl) (fun p hp => by cases p <;> first | rfl | exact absurd h hp | exact absurd g hp)
@[simp] theorem outside_mk_twn_out (t : State) (x y) (h : P .twn) (g : P .out) : outside K P (State.mk t.regs t.fus t.irq t.tim t.cnt t.pel t.prt t.flx t.tbl t.buf t.sch t.pool t.sam t.key x t.hif t.chm t.tab t.jnl t.tmp t.pwr y t.free t.pending) = outside K P t :=
  outside_eq rfl rfl rfl (fun _ _ => rfl) (fun p hp => by cases p <;> first | rfl | exact absurd h hp | exact absurd g hp)
@[simp] theorem outside_mk_tbl_free (t : State) (x y) (h : P .tbl) (g : P .free) : outside K P (State.mk t.regs t.fus t.irq t.tim t.cnt t.pel t.prt t.flx x t.buf t.sch t.pool t.sam t.key t.twn t.hif t.chm t.tab t.jnl t.tmp t.pwr t.out y t.pending) = outside K P t :=
  outside_eq rfl rfl rfl (fun _ _ => rfl) (fun p hp => by cases p <;> first | rfl | exact absurd h hp | exact absurd g hp)


@[simp] theorem outside_set (s : State) (k : FKey) (v : Nat) (hk : K k.reg) : outside K P (State.set s k v) = outside K P s :=
  outside_eq rfl rfl rfl (fun j hj => get_set_other s v (fun e => hj (e ▸ hk))) (fun p _ => by cases p <;> rfl)
@[simp] theorem outside_sets (s : State) (l : List (FKey × Nat)) (hk : ∀ p ∈ l, K p.1.reg) : outside K P (State.sets s l) = outside K P s :=
  by
  unfold State.sets
  induction l generalizing s with
  | nil => rfl
  | cons a l ih => exact (ih (s := s.set a.1 a.2) (fun p hp => hk p (List.mem_cons_of_mem _ hp))).trans (outside_set s _ _ (hk a (List.mem_cons_self)))
@[simp] theorem outside_bump (s : State) (k : FKey) (w : Nat) (n : Nat) (hk : K k.reg) : outside K P (State.bump s k w n) = outside K P s :=
  by unfold State.bump; simp [*]
@[simp] theorem outside_setPwr (s : State) (p : Power) (p1 : P .pwr) : outside K P (State.setPwr s p) = outside K P s :=
  by unfold State.setPwr; simp [*]
@[simp] theorem outside_emit (s : State) (o : Output) (p1 : P .out) : outside K P (State.emit s o) = outside K P s :=
  by unfold State.emit; simp [*]
@[simp] theorem outside_drew (s : State) (p1 : P .free) : outside K P (State.drew s) = outside K P s :=
  by unfold State.drew; simp [*]
@[simp] theorem outside_refreshIrq (s : State) (vec : Nat) (p1 : P .irq) (p2 : P .out) : outside K P (State.refreshIrq s vec) = outside K P s :=
  by unfold State.refreshIrq; simp [*]
@[simp] theorem outside_fire (s : State) (vec : Nat) (p1 : P .out) : outside K P (State.fire s vec) = outside K P s :=
  by unfold State.fire; simp [*]
@[simp] theorem outside_post (s : State) (k : FKey) (i : Nat) (hk : K k.reg) (p1 : P .irq) (p2 : P .out) : outside K P (State.post s k i) = outside K P s :=
  by unfold State.post; split <;> simp [*]
@[simp] theorem outside_clearEvents (s : State) (k : FKey) (bits : Nat) (hk : K k.reg) (p1 : P .irq) (p2 : P .out) : outside K P (State.clearEvents s k bits) = outside K P s :=
  by unfold State.clearEvents; split <;> simp [*]
@[simp] theorem outside_ignored (s : State) (who : Nat) (blockFlag : FKey) (hk : K blockFlag.reg) (r1 : K .VF_STATUS) : outside K P (State.ignored s who blockFlag) = outside K P s :=
  by unfold State.ignored; simp [*]
@[simp] theorem outside_epPost (s : State) (ch : Nat) (k : Nat) (r1 : K .PRT_EP_EVENT) (p1 : P .irq) (p2 : P .out) : outside K P (State.epPost s ch k) = outside K P s :=
  by unfold State.epPost; simp [*]
@[simp] theorem outside_ppsFall (s : State) (p1 : P .tim) (p2 : P .out) : outside K P (State.ppsFall s) = outside K P s :=
  by unfold State.ppsFall; simp [*]
@[simp] theorem outside_outputsFall (s : State) (p1 : P .tim) (p2 : P .out) : outside K P (State.outputsFall s) = outside K P s :=
  by unfold State.outputsFall; simp [*]
@[simp] theorem outside_timeTick (s : State) (p1 : P .tim) (p2 : P .out) : outside K P (State.timeTick s) = outside K P s :=
  by unfold State.timeTick; simp [*]
@[simp] theorem outside_commitInc (s : State) (who : Nat) (val : Nat) (r1 : K .TIM_STATUS) (r2 : K .TIM_INC_NS) (r3 : K .VF_STATUS) (p1 : P .tim) : outside K P (State.commitInc s who val) = outside K P s :=
  by unfold State.commitInc; simp [*]
theorem outside_execTimIncCommit (who : Nat) (val : Nat) (s : State) (r1 : K .TIM_STATUS) (r2 : K .TIM_INC_NS) (r3 : K .VF_STATUS) (p1 : P .tim) : ∀ u, execTimIncCommit who val s = .next u → outside K P u = outside K P s :=
  by intro u h; unfold execTimIncCommit at h; cases h; simp [*]
@[simp] theorem outside_latchNow (s : State) (who : Nat) (p1 : P .tim) : outside K P (State.latchNow s who) = outside K P s :=
  by unfold State.latchNow; simp [*]
theorem outside_execTimNowLatch (who : Nat) (s : State) (p1 : P .tim) (p2 : P .out) : ∀ u, execTimNowLatch who s = .next u → outside K P u = outside K P s :=
  fun _ h => outside_next h (by simp [*])
theorem outside_execRefLost (s : State) (r1 : K .TIM_STATUS) (r2 : K .TIM_EVENT) (p1 : P .irq) (p2 : P .out) : ∀ u, execRefLost s = .next u → outside K P u = outside K P s :=
  by intro u h; unfold execRefLost at h; cases h; simp [*]
theorem outside_execRefLocked (s : State) (r1 : K .TIM_STATUS) (r2 : K .TIM_EVENT) (p1 : P .irq) (p2 : P .out) : ∀ u, execRefLocked s = .next u → outside K P u = outside K P s :=
  by intro u h; unfold execRefLocked at h; cases h; simp [*]
theorem outside_execPpsOutPulse (s : State) (p1 : P .tim) (p2 : P .out) : ∀ u, execPpsOutPulse s = .next u → outside K P u = outside K P s :=
  by intro u h; unfold execPpsOutPulse at h; cases h; simp [*]
@[simp] theorem outside_clkStep (s : State) (was : State) (p1 : P .tim) : outside K P (State.clkStep s was) = outside K P s :=
  by unfold State.clkStep; simp [*]
@[simp] theorem outside_capture (s : State) (k : Nat) (rising : Bool) (r1 : K .TIM_EVENT) (r2 : K .TIM_CAP_LOST) (p1 : P .irq) (p2 : P .tim) (p3 : P .out) : outside K P (State.capture s k rising) = outside K P s :=
  by unfold State.capture; simp [*]
theorem outside_execCaptureEdge (input : Nat) (rising : Bool) (s : State) (r1 : K .TIM_EVENT) (r2 : K .TIM_CAP_LOST) (p1 : P .irq) (p2 : P .tim) (p3 : P .out) : ∀ u, execCaptureEdge input rising s = .next u → outside K P u = outside K P s :=
  by intro u h; unfold execCaptureEdge at h; cases h; simp [*]
theorem outside_execTimCapPop (who : Nat) (fifo : Nat) (s : State) (r1 : K .TIM_STATUS) (r2 : K .TIM_EVENT) (r3 : K .VF_STATUS) (p1 : P .irq) (p2 : P .tim) (p3 : P .out) : ∀ u, execTimCapPop who fifo s = .next u → outside K P u = outside K P s :=
  by intro u h; unfold execTimCapPop at h; cases h; simp [*]
@[simp] theorem outside_txStamp (s : State) (e : TxStamp) (r1 : K .TIM_EVENT) (p1 : P .irq) (p2 : P .tim) (p3 : P .out) : outside K P (State.txStamp s e) = outside K P s :=
  by unfold State.txStamp; simp [*]
theorem outside_execTimTxtsPop (who : Nat) (s : State) (r1 : K .TIM_STATUS) (r2 : K .TIM_EVENT) (r3 : K .VF_STATUS) (p1 : P .irq) (p2 : P .tim) (p3 : P .out) : ∀ u, execTimTxtsPop who s = .next u → outside K P u = outside K P s :=
  by intro u h; unfold execTimTxtsPop at h; cases h; simp [*]
@[simp] theorem outside_completeTim (s : State) (op : Nat) (st : Status) (r1 : K .TIM_CMD_RESULT) : outside K P (State.completeTim s op st) = outside K P s :=
  by unfold State.completeTim; simp [*]
@[simp] theorem outside_setTrig (s : State) (t : Nat) (g : Trigger) (p1 : P .tim) : outside K P (State.setTrig s t g) = outside K P s :=
  by unfold State.setTrig; simp [*]
@[simp] theorem outside_armTrigger (s : State) (t : Nat) (r1 : K .TIM_CMD_RESULT) (r2 : K .TIM_TRIG_STATUS) (p1 : P .tim) : outside K P (State.armTrigger s t) = outside K P s :=
  by unfold State.armTrigger; simp [*]
theorem outside_execArm (who : Nat) (t : Nat) (s : State) (r1 : K .TIM_STATUS) (r2 : K .TIM_CMD_RESULT) (r3 : K .TIM_TRIG_STATUS) (r4 : K .VF_STATUS) (p1 : P .tim) : ∀ u, execArm who t s = .next u → outside K P u = outside K P s :=
  by
  intro u h
  refine outside_next h ?_
  split <;> simp [*]
theorem outside_execTriggerDisarm (who : Nat) (t : Nat) (s : State) (r1 : K .TIM_STATUS) (r2 : K .TIM_TRIG_STATUS) (r3 : K .VF_STATUS) (p1 : P .tim) (p2 : P .out) : ∀ u, execTriggerDisarm who t s = .next u → outside K P u = outside K P s :=
  by
  intro u h
  refine outside_next h ?_
  split
  · simp [*]
  · dsimp only
    split <;> simp [*]
@[simp] theorem outside_triggerEdge (s : State) (t : Nat) (r1 : K .TIM_TRIG_STATUS) (p1 : P .tim) (p2 : P .out) : outside K P (State.triggerEdge s t) = outside K P s :=
  by unfold State.triggerEdge; simp [*]
theorem outside_execTriggerEdge (t : Nat) (s : State) (r1 : K .TIM_TRIG_STATUS) (p1 : P .tim) (p2 : P .out) : ∀ u, execTriggerEdge t s = .next u → outside K P u = outside K P s :=
  by intro u h; unfold execTriggerEdge at h; cases h; simp [*]
@[simp] theorem outside_singleEdges (s : State) (r1 : K .TIM_TRIG_STATUS) (p1 : P .tim) (p2 : P .out) : outside K P (State.singleEdges s) = outside K P s :=
  by unfold State.singleEdges; simp [*]
@[simp] theorem outside_timeOutputsAfterStep (s : State) (p1 : P .tim) : outside K P (State.timeOutputsAfterStep s) = outside K P s :=
  by unfold State.timeOutputsAfterStep; simp [*]
@[simp] theorem outside_count (s : State) (off : Nat) (n : Nat) (p1 : P .cnt) : outside K P (State.count s off n) = outside K P s :=
  by unfold State.count; simp [*]
@[simp] theorem outside_chCount (s : State) (ch : Nat) (c : ChCnt) (n : optParam Nat 1) (p1 : P .cnt) : outside K P (State.chCount s ch c n) = outside K P s :=
  by unfold State.chCount; simp [*]
@[simp] theorem outside_qCount (s : State) (q : Nat) (c : QCnt) (n : optParam Nat 1) (p1 : P .cnt) : outside K P (State.qCount s q c n) = outside K P s :=
  by unfold State.qCount; simp [*]
@[simp] theorem outside_qDrop (s : State) (q : Nat) (c : QCnt) (len : Nat) (p1 : P .cnt) : outside K P (State.qDrop s q c len) = outside K P s :=
  by unfold State.qDrop; simp [*]
@[simp] theorem outside_saCount (s : State) (a : Nat) (i : Nat) (n : optParam Nat 1) (p1 : P .cnt) : outside K P (State.saCount s a i n) = outside K P s :=
  by unfold State.saCount; simp [*]
@[simp] theorem outside_scCount (s : State) (k : Nat) (c : ScCnt) (n : optParam Nat 1) (p1 : P .cnt) : outside K P (State.scCount s k c n) = outside K P s :=
  by unfold State.scCount; simp [*]
@[simp] theorem outside_saCountsClear (s : State) (a : Nat) (p1 : P .cnt) : outside K P (State.saCountsClear s a) = outside K P s :=
  by unfold State.saCountsClear; simp [*]
@[simp] theorem outside_progAdd (x1 : Nat) (x2 : State) (x3 : Nat) (x4 : Nat) (r1 : K .CNT_EVENT) (r2 : K .CNT_PROG_SEL) (p1 : P .irq) (p2 : P .cnt) (p3 : P .out) : outside K P (State.progAdd x1 x2 x3 x4) = outside K P x2 :=
  by induction x1 generalizing x2 x3 x4 with | zero => rfl | succ n ih => unfold State.progAdd; dsimp only; (repeat' split) <;> simp [*, ih]
@[simp] theorem outside_progTake (s : State) (e : ProgEvent) (n : Nat) (r1 : K .CNT_EVENT) (r2 : K .CNT_PROG_SEL) (p1 : P .irq) (p2 : P .cnt) (p3 : P .out) : outside K P (State.progTake s e n) = outside K P s :=
  by unfold State.progTake; simp [*]
@[simp] theorem outside_prog (s : State) (e : ProgEvent) (r1 : K .CNT_EVENT) (r2 : K .CNT_PROG_SEL) (p1 : P .irq) (p2 : P .cnt) (p3 : P .out) : outside K P (State.prog s e) = outside K P s :=
  by unfold State.prog; simp [*, outside_foldl]
@[simp] theorem outside_dropEvent (s : State) (ch : Nat) (cls : Nat) (code : Nat) (r1 : K .CNT_EVENT) (r2 : K .CNT_PROG_SEL) (p1 : P .irq) (p2 : P .cnt) (p3 : P .out) : outside K P (State.dropEvent s ch cls code) = outside K P s :=
  by unfold State.dropEvent; simp [*]
@[simp] theorem outside_progSelWrite (s : State) (who : Nat) (n : Nat) (val : Nat) (r1 : K .CNT_STATUS) (r2 : K .CNT_PROG_SEL) (r3 : K .VF_STATUS) (p1 : P .cnt) : outside K P (State.progSelWrite s who n val) = outside K P s :=
  by unfold State.progSelWrite; simp [*]
theorem outside_execCntProgSelWrite (who : Nat) (n : Nat) (val : Nat) (s : State) (r1 : K .CNT_STATUS) (r2 : K .CNT_PROG_SEL) (r3 : K .VF_STATUS) (p1 : P .cnt) : ∀ u, execCntProgSelWrite who n val s = .next u → outside K P u = outside K P s :=
  by intro u h; unfold execCntProgSelWrite at h; cases h; simp [*]
@[simp] theorem outside_sampleStart (s : State) (id : Nat) (ch : Nat) (cls : Nat) (len : Nat) (tIn : Nat) (p1 : P .cnt) (p2 : P .free) : outside K P (State.sampleStart s id ch cls len tIn) = outside K P s :=
  by unfold State.sampleStart; simp [*]
@[simp] theorem outside_sampleNote (s : State) (id : Nat) (f : SampleRec → SampleRec) (p1 : P .cnt) : outside K P (State.sampleNote s id f) = outside K P s :=
  by unfold State.sampleNote; split <;> simp [*]
@[simp] theorem outside_sampleEnd (s : State) (id : Nat) (dropCode : Nat) (r1 : K .CNT_EVENT) (p1 : P .irq) (p2 : P .cnt) (p3 : P .out) : outside K P (State.sampleEnd s id dropCode) = outside K P s :=
  by unfold State.sampleEnd; split <;> simp [*]
theorem outside_execCntSamplePop (who : Nat) (s : State) (r1 : K .CNT_STATUS) (r2 : K .CNT_EVENT) (r3 : K .VF_STATUS) (p1 : P .irq) (p2 : P .cnt) (p3 : P .out) : ∀ u, execCntSamplePop who s = .next u → outside K P u = outside K P s :=
  by intro u h; unfold execCntSamplePop at h; cases h; simp [*]
@[simp] theorem outside_setMac (s : State) (i : Nat) (e : MacEntry) (p1 : P .tbl) : outside K P (State.setMac s i e) = outside K P s :=
  by unfold State.setMac; simp [*]
theorem outside_macPlace (s : State) (e : MacEntry) (p1 : P .tbl) : ∀ t, State.macPlace s e = some t → outside K P t = outside K P s := by
  unfold State.macPlace; intro t h; simp only [Option.map_eq_some_iff] at h; obtain ⟨_, _, rfl⟩ := h; simp [*]
theorem outside_macPlaceD (s : State) (e : MacEntry) (p1 : P .tbl) : outside K P ((State.macPlace s e).getD s) = outside K P s := by
  cases h : State.macPlace s e with
  | none => rfl
  | some t => exact outside_macPlace s e p1 t h
@[simp] theorem outside_learnQueue (s : State) (ev : LearnEv) (r1 : K .TBL_EVENT) (r2 : K .CNT_EVENT) (r3 : K .CNT_PROG_SEL) (p1 : P .irq) (p2 : P .cnt) (p3 : P .tbl) (p4 : P .out) : outside K P (State.learnQueue s ev) = outside K P s :=
  by unfold State.learnQueue; simp [*]
@[simp] theorem outside_learnApply (s : State) (ev : LearnEv) (r1 : K .TBL_EVENT) (p1 : P .irq) (p2 : P .tbl) (p3 : P .out) : outside K P (State.learnApply s ev) = outside K P s :=
  by
  unfold State.learnApply
  split
  · split
    · rename_i h
      exact outside_macPlace _ _ (by assumption) _ h
    · simp [*]
  · dsimp only
    (repeat' split) <;> simp [*]
@[simp] theorem outside_learnDrain (x1 : Nat) (x2 : State) (r1 : K .TBL_EVENT) (p1 : P .irq) (p2 : P .tbl) (p3 : P .out) : outside K P (State.learnDrain x1 x2) = outside K P x2 :=
  by induction x1 generalizing x2 with | zero => rfl | succ n ih => unfold State.learnDrain; (repeat' split) <;> simp [*, ih]
theorem outside_execLearnEventApply (s : State) (r1 : K .TBL_EVENT) (p1 : P .irq) (p2 : P .tbl) (p3 : P .out) : ∀ u, execLearnEventApply s = .next u → outside K P u = outside K P s :=
  by intro u h; unfold execLearnEventApply at h; cases h; simp [*]
@[simp] theorem outside_brushVisit (s : State) (p1 : P .tbl) : outside K P (State.brushVisit s) = outside K P s :=
  by unfold State.brushVisit; simp [*]
theorem outside_execBrushVisit (s : State) (p1 : P .tbl) : ∀ u, execBrushVisit s = .next u → outside K P u = outside K P s :=
  by intro u h; unfold execBrushVisit at h; cases h; simp [*]
@[simp] theorem outside_setLpm (s : State) (fam : Nat) (t : Lpm) (p1 : P .tbl) : outside K P (State.setLpm s fam t) = outside K P s :=
  by unfold State.setLpm; simp [*]
theorem outside_execLpmNodeReturn (s : State) (p1 : P .tbl) : ∀ u, execLpmNodeReturn s = .next u → outside K P u = outside K P s :=
  fun _ h => outside_next h (by simp [*])
@[simp] theorem outside_completeTbl (s : State) (who : Nat) (op : Nat) (st : Status) (r1 : K .TBL_CMD_RESULT) (r2 : K .VF_EVENT) (p1 : P .irq) (p2 : P .out) : outside K P (State.completeTbl s who op st) = outside K P s :=
  by unfold State.completeTbl; simp [*]
@[simp] theorem outside_tblCommand (s : State) (who : Nat) (op : Nat) (checks : List (Bool × Status)) (ok : State → State) (hk : outside K P (ok s) = outside K P s) (r1 : K .TBL_STATUS) (r2 : K .TBL_CMD_RESULT) (r3 : K .VF_STATUS) (r4 : K .VF_EVENT) (p1 : P .irq) (p2 : P .out) : outside K P (State.tblCommand s who op checks ok) = outside K P s :=
  by unfold State.tblCommand; (repeat' split) <;> simp [*, hk]
@[simp] theorem outside_macInsert (s : State) (who : Nat) (r1 : K .TBL_STATUS) (r2 : K .TBL_CMD_RESULT) (r3 : K .VF_STATUS) (r4 : K .VF_EVENT) (p1 : P .irq) (p2 : P .tbl) (p3 : P .out) : outside K P (State.macInsert s who) = outside K P s :=
  by
  unfold State.macInsert
  dsimp only
  apply outside_tblCommand <;> (try assumption)
  split
  · simp [*]
  · apply outside_macPlaceD; assumption
theorem outside_execMacInsert (who : Nat) (s : State) (r1 : K .TBL_STATUS) (r2 : K .TBL_CMD_RESULT) (r3 : K .VF_STATUS) (r4 : K .VF_EVENT) (p1 : P .irq) (p2 : P .tbl) (p3 : P .out) : ∀ u, execMacInsert who s = .next u → outside K P u = outside K P s :=
  by intro u h; unfold execMacInsert at h; cases h; simp [*]
@[simp] theorem outside_macDelete (s : State) (who : Nat) (r1 : K .TBL_STATUS) (r2 : K .TBL_CMD_RESULT) (r3 : K .VF_STATUS) (r4 : K .VF_EVENT) (p1 : P .irq) (p2 : P .tbl) (p3 : P .out) : outside K P (State.macDelete s who) = outside K P s :=
  by unfold State.macDelete; simp only []; (repeat' split) <;> simp [*]
theorem outside_execMacDelete (who : Nat) (s : State) (r1 : K .TBL_STATUS) (r2 : K .TBL_CMD_RESULT) (r3 : K .VF_STATUS) (r4 : K .VF_EVENT) (p1 : P .irq) (p2 : P .tbl) (p3 : P .out) : ∀ u, execMacDelete who s = .next u → outside K P u = outside K P s :=
  by intro u h; unfold execMacDelete at h; cases h; simp [*]
@[simp] theorem outside_macDump (s : State) (who : Nat) (r1 : K .TBL_STATUS) (r2 : K .TBL_CMD_RESULT) (r3 : K .VF_STATUS) (r4 : K .VF_EVENT) (p1 : P .irq) (p2 : P .out) : outside K P (State.macDump s who) = outside K P s :=
  by unfold State.macDump; simp [*]
theorem outside_execMacDump (who : Nat) (s : State) (r1 : K .TBL_STATUS) (r2 : K .TBL_CMD_RESULT) (r3 : K .VF_STATUS) (r4 : K .VF_EVENT) (p1 : P .irq) (p2 : P .out) : ∀ u, execMacDump who s = .next u → outside K P u = outside K P s :=
  by intro u h; unfold execMacDump at h; cases h; simp [*]
@[simp] theorem outside_lpmAdd (s : State) (who : Nat) (r1 : K .TBL_STATUS) (r2 : K .TBL_CMD_RESULT) (r3 : K .VF_STATUS) (r4 : K .VF_EVENT) (p1 : P .irq) (p2 : P .tbl) (p3 : P .out) : outside K P (State.lpmAdd s who) = outside K P s :=
  by unfold State.lpmAdd; simp only []; (repeat' split) <;> simp [*]
theorem outside_execLpmAdd (who : Nat) (s : State) (r1 : K .TBL_STATUS) (r2 : K .TBL_CMD_RESULT) (r3 : K .VF_STATUS) (r4 : K .VF_EVENT) (p1 : P .irq) (p2 : P .tbl) (p3 : P .out) : ∀ u, execLpmAdd who s = .next u → outside K P u = outside K P s :=
  by intro u h; unfold execLpmAdd at h; cases h; simp [*]
@[simp] theorem outside_lpmDel (s : State) (who : Nat) (r1 : K .TBL_STATUS) (r2 : K .TBL_CMD_RESULT) (r3 : K .VF_STATUS) (r4 : K .VF_EVENT) (p1 : P .irq) (p2 : P .tbl) (p3 : P .out) : outside K P (State.lpmDel s who) = outside K P s :=
  by unfold State.lpmDel; simp only []; (repeat' split) <;> simp [*]
theorem outside_execLpmDel (who : Nat) (s : State) (r1 : K .TBL_STATUS) (r2 : K .TBL_CMD_RESULT) (r3 : K .VF_STATUS) (r4 : K .VF_EVENT) (p1 : P .irq) (p2 : P .tbl) (p3 : P .out) : ∀ u, execLpmDel who s = .next u → outside K P u = outside K P s :=
  by intro u h; unfold execLpmDel at h; cases h; simp [*]
@[simp] theorem outside_lpmDump (s : State) (who : Nat) (r1 : K .TBL_STATUS) (r2 : K .TBL_CMD_RESULT) (r3 : K .VF_STATUS) (r4 : K .VF_EVENT) (p1 : P .irq) (p2 : P .out) : outside K P (State.lpmDump s who) = outside K P s :=
  by unfold State.lpmDump; simp [*]
theorem outside_execLpmDump (who : Nat) (s : State) (r1 : K .TBL_STATUS) (r2 : K .TBL_CMD_RESULT) (r3 : K .VF_STATUS) (r4 : K .VF_EVENT) (p1 : P .irq) (p2 : P .out) : ∀ u, execLpmDump who s = .next u → outside K P u = outside K P s :=
  by intro u h; unfold execLpmDump at h; cases h; simp [*]
@[simp] theorem outside_setOwner (s : State) (p : Nat) (o : Option Nat) (p1 : P .tbl) : outside K P (State.setOwner s p o) = outside K P s :=
  by unfold State.setOwner; simp [*]
@[simp] theorem outside_startLease (s : State) (p : Nat) (us : Nat) (p1 : P .tbl) : outside K P (State.startLease s p us) = outside K P s :=
  by unfold State.startLease; simp [*]
@[simp] theorem outside_lockTake (s : State) (who : Nat) (p : Nat) (p1 : P .tbl) : outside K P (State.lockTake s who p) = outside K P s :=
  by unfold State.lockTake; simp [*]
@[simp] theorem outside_lockRead (s : State) (who : Nat) (p : Nat) (p1 : P .tbl) (p2 : P .out) : outside K P (State.lockRead s who p) = outside K P s :=
  by unfold State.lockRead; simp [*]
theorem outside_execTblLockRead (who : Nat) (part : Nat) (s : State) (p1 : P .tbl) (p2 : P .out) : ∀ u, execTblLockRead who part s = .next u → outside K P u = outside K P s :=
  by intro u h; unfold execTblLockRead at h; cases h; simp [*]
@[simp] theorem outside_unlock (s : State) (p : Nat) (r1 : K .TBL_EVENT) (p1 : P .irq) (p2 : P .tbl) (p3 : P .out) : outside K P (State.unlock s p) = outside K P s :=
  by unfold State.unlock; simp [*]
theorem outside_execRelease (who : Nat) (part : Nat) (s : State) (r1 : K .TBL_STATUS) (r2 : K .TBL_EVENT) (r3 : K .VF_STATUS) (p1 : P .irq) (p2 : P .tbl) (p3 : P .out) : ∀ u, execRelease who part s = .next u → outside K P u = outside K P s :=
  by intro u h; unfold execRelease at h; cases h; simp [*]
theorem outside_execRenew (who : Nat) (part : Nat) (s : State) (r1 : K .TBL_STATUS) (r2 : K .VF_STATUS) (p1 : P .tbl) : ∀ u, execRenew who part s = .next u → outside K P u = outside K P s :=
  by intro u h; unfold execRenew at h; cases h; simp [*]
@[simp] theorem outside_postExpired (s : State) (owner : Option Nat) (r1 : K .TBL_EVENT) (r2 : K .VF_EVENT) (p1 : P .irq) (p2 : P .out) : outside K P (State.postExpired s owner) = outside K P s :=
  by unfold State.postExpired; split <;> simp [*]
theorem outside_execLockExpired (part : Nat) (s : State) (r1 : K .TBL_EVENT) (r2 : K .VF_EVENT) (p1 : P .irq) (p2 : P .tbl) (p3 : P .out) : ∀ u, execLockExpired part s = .next u → outside K P u = outside K P s :=
  by intro u h; unfold execLockExpired at h; cases h; (repeat' split) <;> simp [*]
@[simp] theorem outside_releaseLocksOf (s : State) (who : Nat) (r1 : K .TBL_EVENT) (r2 : K .VF_EVENT) (p1 : P .irq) (p2 : P .tbl) (p3 : P .out) : outside K P (State.releaseLocksOf s who) = outside K P s :=
  by unfold State.releaseLocksOf; simp [*]
@[simp] theorem outside_setSlot (s : State) (level : Nat) (i : Nat) (v : KeySlot) (p1 : P .key) : outside K P (State.setSlot s level i v) = outside K P s :=
  by unfold State.setSlot; split <;> simp [*]
@[simp] theorem outside_setSc (s : State) (k : Nat) (v : Sc) (p1 : P .sam) : outside K P (State.setSc s k v) = outside K P s :=
  by unfold State.setSc; simp [*]
@[simp] theorem outside_setSa (s : State) (a : Nat) (v : Sa) (p1 : P .sam) : outside K P (State.setSa s a v) = outside K P s :=
  by unfold State.setSa; simp [*]
@[simp] theorem outside_saEvent (s : State) (code : Nat) (a : Nat) (r1 : K .SAM_EVENT) (r2 : K .SAM_EVQ_LOST) (p1 : P .irq) (p2 : P .sam) (p3 : P .out) : outside K P (State.saEvent s code a) = outside K P s :=
  by unfold State.saEvent; simp [*]
@[simp] theorem outside_evqPop (s : State) (p1 : P .sam) : outside K P (State.evqPop s) = outside K P s :=
  by unfold State.evqPop; simp [*]
theorem outside_execSamEvqPop (who : Nat) (s : State) (p1 : P .sam) (p2 : P .out) : ∀ u, execSamEvqPop who s = .next u → outside K P u = outside K P s :=
  by intro u h; unfold execSamEvqPop at h; cases h; (repeat' split) <;> simp [*]
@[simp] theorem outside_ddrWrite (s : State) (a : Nat) (p1 : P .out) : outside K P (State.ddrWrite s a) = outside K P s :=
  by unfold State.ddrWrite; simp [*]
@[simp] theorem outside_storeKeep (s : State) (l : List Nat) (p1 : P .sam) (p2 : P .out) : outside K P (State.storeKeep s l) = outside K P s :=
  by unfold State.storeKeep; simp [*, outside_foldl]
@[simp] theorem outside_toDie (s : State) (a : Nat) (p1 : P .sam) (p2 : P .out) : outside K P (State.toDie s a) = outside K P s :=
  by unfold State.toDie; simp [*]
@[simp] theorem outside_storeTrim (s : State) (p1 : P .sam) (p2 : P .out) : outside K P (State.storeTrim s) = outside K P s :=
  by unfold State.storeTrim; simp [*]
@[simp] theorem outside_dropKeySlots (s : State) (p : Nat → Bool) (p1 : P .pool) : outside K P (State.dropKeySlots s p) = outside K P s :=
  by unfold State.dropKeySlots; simp [*]
@[simp] theorem outside_freeSa (s : State) (a : Nat) (p1 : P .cnt) (p2 : P .pool) (p3 : P .sam) (p4 : P .out) : outside K P (State.freeSa s a) = outside K P s :=
  by unfold State.freeSa; simp [*]
@[simp] theorem outside_twinSend (s : State) (m : TwinMsg) (acked : Bool) (p1 : P .twn) (p2 : P .out) : outside K P (State.twinSend s m acked) = outside K P s :=
  by unfold State.twinSend; simp [*]
@[simp] theorem outside_mirrorSc (s : State) (mirrored : Bool) (k : Nat) (p1 : P .twn) (p2 : P .out) : outside K P (State.mirrorSc s mirrored k) = outside K P s :=
  by unfold State.mirrorSc; simp [*]
@[simp] theorem outside_mirrorSa (s : State) (mirrored : Bool) (a : Nat) (p1 : P .twn) (p2 : P .out) : outside K P (State.mirrorSa s mirrored a) = outside K P s :=
  by unfold State.mirrorSa; simp [*]
@[simp] theorem outside_reserveTo (s : State) (a : Nat) (newEnd : Nat) (p1 : P .twn) (p2 : P .out) : outside K P (State.reserveTo s a newEnd) = outside K P s :=
  by unfold State.reserveTo; simp [*]
@[simp] theorem outside_topUp (s : State) (a : Nat) (p1 : P .sam) (p2 : P .twn) (p3 : P .out) : outside K P (State.topUp s a) = outside K P s :=
  by unfold State.topUp; simp [*]
@[simp] theorem outside_samRes (s : State) (who : Nat) (ws : List Nat) (r1 : K .SAM_RES) : outside K P (State.samRes s who ws) = outside K P s :=
  by
  unfold State.samRes
  refine outside_sets _ _ (fun p hp => ?_)
  obtain ⟨q, -, rfl⟩ := List.mem_map.1 hp
  assumption
@[simp] theorem outside_completeSam (s : State) (who : Nat) (op : Nat) (st : Status) (r1 : K .SAM_CMD_RESULT) (r2 : K .SAM_RES) (r3 : K .VF_EVENT) (p1 : P .irq) (p2 : P .sam) (p3 : P .out) : outside K P (State.completeSam s who op st) = outside K P s :=
  by unfold State.completeSam; simp [*]
@[simp] theorem outside_samCommand (s : State) (who : Nat) (op : Nat) (checks : List (Bool × Status)) (ok : State → State) (hk : outside K P (ok s) = outside K P s) (r1 : K .SAM_CMD_RESULT) (r2 : K .SAM_RES) (r3 : K .VF_EVENT) (p1 : P .irq) (p2 : P .sam) (p3 : P .out) : outside K P (State.samCommand s who op checks ok) = outside K P s :=
  by unfold State.samCommand; (repeat' split) <;> simp [*, hk]
@[simp] theorem outside_samFetch (s : State) (r1 : K .CNT_EVENT) (r2 : K .CNT_PROG_SEL) (p1 : P .irq) (p2 : P .cnt) (p3 : P .sam) (p4 : P .out) : outside K P (State.samFetch s) = outside K P s :=
  by unfold State.samFetch; dsimp only; (repeat' split) <;> simp [*]
@[simp] theorem outside_samCommandOn (s : State) (who : Nat) (op : Nat) (a : Nat) (w : List Nat) (checks : List (Bool × Status)) (ok : State → State) (hk : ∀ t, outside K P (ok t) = outside K P t) (r1 : K .SAM_CMD_RESULT) (r2 : K .SAM_RES) (r3 : K .CNT_EVENT) (r4 : K .CNT_PROG_SEL) (r5 : K .VF_EVENT) (p1 : P .irq) (p2 : P .cnt) (p3 : P .sam) (p4 : P .out) : outside K P (State.samCommandOn s who op a w checks ok) = outside K P s :=
  by unfold State.samCommandOn; simp [*]
@[simp] theorem outside_activated (s : State) (a : Nat) (p1 : P .sam) : outside K P (State.activated s a) = outside K P s :=
  by unfold State.activated; simp [*]
@[simp] theorem outside_retire (s : State) (a : Nat) (p1 : P .sam) : outside K P (State.retire s a) = outside K P s :=
  by unfold State.retire; simp [*]
@[simp] theorem outside_rollFail (s : State) (k : Nat) (a : Nat) (r1 : K .SAM_EVENT) (r2 : K .SAM_EVQ_LOST) (p1 : P .irq) (p2 : P .sam) (p3 : P .out) : outside K P (State.rollFail s k a) = outside K P s :=
  by unfold State.rollFail; simp [*]
@[simp] theorem outside_rollFire (s : State) (k : Nat) (r1 : K .SAM_EVENT) (r2 : K .SAM_EVQ_LOST) (p1 : P .irq) (p2 : P .cnt) (p3 : P .sam) (p4 : P .twn) (p5 : P .out) : outside K P (State.rollFire s k) = outside K P s :=
  by unfold State.rollFire; simp only []; (repeat' split) <;> simp [*]
@[simp] theorem outside_rollIfDue (s : State) (k : Nat) (r1 : K .SAM_EVENT) (r2 : K .SAM_EVQ_LOST) (p1 : P .irq) (p2 : P .cnt) (p3 : P .sam) (p4 : P .twn) (p5 : P .out) : outside K P (State.rollIfDue s k) = outside K P s :=
  by unfold State.rollIfDue; simp [*]
@[simp] theorem outside_rollsDue (s : State) (r1 : K .SAM_EVENT) (r2 : K .SAM_EVQ_LOST) (p1 : P .irq) (p2 : P .cnt) (p3 : P .sam) (p4 : P .twn) (p5 : P .out) : outside K P (State.rollsDue s) = outside K P s :=
  by unfold State.rollsDue; simp [*, outside_foldl]
@[simp] theorem outside_samStart (s : State) (who : Nat) (op : Nat) (run : State → State) (hk : ∀ t, outside K P (run t) = outside K P t) (r1 : K .SAM_EVENT) (r2 : K .SAM_EVQ_LOST) (r3 : K .SAM_CMD_RESULT) (p1 : P .irq) (p2 : P .cnt) (p3 : P .sam) (p4 : P .twn) (p5 : P .out) : outside K P (State.samStart s who op run) = outside K P s :=
  by unfold State.samStart; simp [*]
@[simp] theorem outside_vfSlotTake (s : State) (vf : Nat) (k : Nat) (p1 : P .cnt) : outside K P (State.vfSlotTake s vf k) = outside K P s :=
  by unfold State.vfSlotTake; simp only []; (repeat' split) <;> simp [*]
theorem outside_sciPlaceD (s u : State) (k sci : Nat) (p1 : P .sam) (hu : outside K P u = outside K P s) : outside K P ((State.sciPlace s k sci).getD u) = outside K P s := by
  unfold State.sciPlace
  cases cuckooPlace _ _ _ with
  | none => exact hu
  | some c => simp [*]
@[simp] theorem outside_scCreate (s : State) (who : Nat) (r1 : K .SAM_CMD_RESULT) (r2 : K .SAM_RES) (r3 : K .VF_EVENT) (p1 : P .irq) (p2 : P .cnt) (p3 : P .sam) (p4 : P .twn) (p5 : P .out) : outside K P (State.scCreate s who) = outside K P s :=
  by
  unfold State.scCreate
  dsimp only
  apply outside_samCommand <;> (try assumption)
  have h : outside K P ((if (s.scArgs who).2.rx = true then s.sciPlace (s.scArgs who).1 (s.scArgs who).2.sci else some s).getD s) = outside K P s := by
    split
    · apply outside_sciPlaceD <;> first | assumption | rfl
    · rfl
  split <;> simp [*]
theorem outside_execScCreate (who : Nat) (s : State) (r1 : K .SAM_EVENT) (r2 : K .SAM_EVQ_LOST) (r3 : K .SAM_CMD_RESULT) (r4 : K .SAM_RES) (r5 : K .VF_EVENT) (p1 : P .irq) (p2 : P .cnt) (p3 : P .sam) (p4 : P .twn) (p5 : P .out) : ∀ u, execScCreate who s = .next u → outside K P u = outside K P s :=
  by intro u h; unfold execScCreate at h; cases h; simp [*]
@[simp] theorem outside_scModify (s : State) (who : Nat) (r1 : K .SAM_CMD_RESULT) (r2 : K .SAM_RES) (r3 : K .VF_EVENT) (p1 : P .irq) (p2 : P .sam) (p3 : P .twn) (p4 : P .out) : outside K P (State.scModify s who) = outside K P s :=
  by unfold State.scModify; simp [*]
theorem outside_execScModify (who : Nat) (s : State) (r1 : K .SAM_EVENT) (r2 : K .SAM_EVQ_LOST) (r3 : K .SAM_CMD_RESULT) (r4 : K .SAM_RES) (r5 : K .VF_EVENT) (p1 : P .irq) (p2 : P .cnt) (p3 : P .sam) (p4 : P .twn) (p5 : P .out) : ∀ u, execScModify who s = .next u → outside K P u = outside K P s :=
  by intro u h; unfold execScModify at h; cases h; simp [*]
@[simp] theorem outside_scDelete (s : State) (who : Nat) (r1 : K .SAM_CMD_RESULT) (r2 : K .SAM_RES) (r3 : K .VF_EVENT) (p1 : P .irq) (p2 : P .cnt) (p3 : P .sam) (p4 : P .twn) (p5 : P .out) : outside K P (State.scDelete s who) = outside K P s :=
  by
  unfold State.scDelete
  dsimp only
  apply outside_samCommand <;> (try assumption)
  split <;> simp [*]
theorem outside_execScDelete (who : Nat) (s : State) (r1 : K .SAM_EVENT) (r2 : K .SAM_EVQ_LOST) (r3 : K .SAM_CMD_RESULT) (r4 : K .SAM_RES) (r5 : K .VF_EVENT) (p1 : P .irq) (p2 : P .cnt) (p3 : P .sam) (p4 : P .twn) (p5 : P .out) : ∀ u, execScDelete who s = .next u → outside K P u = outside K P s :=
  by intro u h; unfold execScDelete at h; cases h; simp [*]
@[simp] theorem outside_scRead (s : State) (who : Nat) (r1 : K .SAM_CMD_RESULT) (r2 : K .SAM_RES) (r3 : K .VF_EVENT) (p1 : P .irq) (p2 : P .sam) (p3 : P .out) : outside K P (State.scRead s who) = outside K P s :=
  by unfold State.scRead; simp [*]
theorem outside_execScRead (who : Nat) (s : State) (r1 : K .SAM_EVENT) (r2 : K .SAM_EVQ_LOST) (r3 : K .SAM_CMD_RESULT) (r4 : K .SAM_RES) (r5 : K .VF_EVENT) (p1 : P .irq) (p2 : P .cnt) (p3 : P .sam) (p4 : P .twn) (p5 : P .out) : ∀ u, execScRead who s = .next u → outside K P u = outside K P s :=
  by intro u h; unfold execScRead at h; cases h; simp [*]
@[simp] theorem outside_saStage (s : State) (who : Nat) (r1 : K .SAM_CMD_RESULT) (r2 : K .SAM_RES) (r3 : K .VF_EVENT) (p1 : P .irq) (p2 : P .cnt) (p3 : P .sam) (p4 : P .out) (p5 : P .free) : outside K P (State.saStage s who) = outside K P s :=
  by unfold State.saStage; simp [*]
theorem outside_execSaStage (who : Nat) (s : State) (r1 : K .SAM_EVENT) (r2 : K .SAM_EVQ_LOST) (r3 : K .SAM_CMD_RESULT) (r4 : K .SAM_RES) (r5 : K .VF_EVENT) (p1 : P .irq) (p2 : P .cnt) (p3 : P .sam) (p4 : P .twn) (p5 : P .out) (p6 : P .free) : ∀ u, execSaStage who s = .next u → outside K P u = outside K P s :=
  by intro u h; unfold execSaStage at h; cases h; simp [*]
@[simp] theorem outside_saInstall (s : State) (who : Nat) (r1 : K .SAM_CMD_RESULT) (r2 : K .SAM_RES) (r3 : K .VF_EVENT) (p1 : P .irq) (p2 : P .sam) (p3 : P .twn) (p4 : P .out) : outside K P (State.saInstall s who) = outside K P s :=
  by unfold State.saInstall; simp [*]
theorem outside_execSaInstall (who : Nat) (s : State) (r1 : K .SAM_EVENT) (r2 : K .SAM_EVQ_LOST) (r3 : K .SAM_CMD_RESULT) (r4 : K .SAM_RES) (r5 : K .VF_EVENT) (p1 : P .irq) (p2 : P .cnt) (p3 : P .sam) (p4 : P .twn) (p5 : P .out) : ∀ u, execSaInstall who s = .next u → outside K P u = outside K P s :=
  by intro u h; unfold execSaInstall at h; cases h; simp [*]
@[simp] theorem outside_saActivate (s : State) (who : Nat) (w : List Nat) (r1 : K .SAM_CMD_RESULT) (r2 : K .SAM_RES) (r3 : K .CNT_EVENT) (r4 : K .CNT_PROG_SEL) (r5 : K .VF_EVENT) (p1 : P .irq) (p2 : P .cnt) (p3 : P .sam) (p4 : P .twn) (p5 : P .out) : outside K P (State.saActivate s who w) = outside K P s :=
  by unfold State.saActivate; dsimp only; (repeat' split) <;> simp [*]
theorem outside_execSaActivate (who : Nat) (s : State) (r1 : K .SAM_EVENT) (r2 : K .SAM_EVQ_LOST) (r3 : K .SAM_CMD_RESULT) (r4 : K .SAM_RES) (r5 : K .CNT_EVENT) (r6 : K .CNT_PROG_SEL) (r7 : K .VF_EVENT) (p1 : P .irq) (p2 : P .cnt) (p3 : P .sam) (p4 : P .twn) (p5 : P .out) : ∀ u, execSaActivate who s = .next u → outside K P u = outside K P s :=
  by intro u h; unfold execSaActivate at h; cases h; simp [*]
@[simp] theorem outside_saRetire (s : State) (who : Nat) (r1 : K .SAM_CMD_RESULT) (r2 : K .SAM_RES) (r3 : K .VF_EVENT) (p1 : P .irq) (p2 : P .sam) (p3 : P .twn) (p4 : P .out) : outside K P (State.saRetire s who) = outside K P s :=
  by unfold State.saRetire; simp [*]
theorem outside_execSaRetire (who : Nat) (s : State) (r1 : K .SAM_EVENT) (r2 : K .SAM_EVQ_LOST) (r3 : K .SAM_CMD_RESULT) (r4 : K .SAM_RES) (r5 : K .VF_EVENT) (p1 : P .irq) (p2 : P .cnt) (p3 : P .sam) (p4 : P .twn) (p5 : P .out) : ∀ u, execSaRetire who s = .next u → outside K P u = outside K P s :=
  by intro u h; unfold execSaRetire at h; cases h; simp [*]
@[simp] theorem outside_saDelete (s : State) (who : Nat) (r1 : K .SAM_CMD_RESULT) (r2 : K .SAM_RES) (r3 : K .VF_EVENT) (p1 : P .irq) (p2 : P .cnt) (p3 : P .pool) (p4 : P .sam) (p5 : P .twn) (p6 : P .out) : outside K P (State.saDelete s who) = outside K P s :=
  by unfold State.saDelete; simp [*]
@[simp] theorem outside_saSetPn (s : State) (who : Nat) (r1 : K .SAM_CMD_RESULT) (r2 : K .SAM_RES) (r3 : K .VF_EVENT) (p1 : P .irq) (p2 : P .sam) (p3 : P .twn) (p4 : P .out) : outside K P (State.saSetPn s who) = outside K P s :=
  by unfold State.saSetPn; simp [*]
theorem outside_execSaSetPn (who : Nat) (s : State) (r1 : K .SAM_EVENT) (r2 : K .SAM_EVQ_LOST) (r3 : K .SAM_CMD_RESULT) (r4 : K .SAM_RES) (r5 : K .VF_EVENT) (p1 : P .irq) (p2 : P .cnt) (p3 : P .sam) (p4 : P .twn) (p5 : P .out) : ∀ u, execSaSetPn who s = .next u → outside K P u = outside K P s :=
  by intro u h; unfold execSaSetPn at h; cases h; simp [*]
@[simp] theorem outside_saSetThreshold (s : State) (who : Nat) (r1 : K .SAM_CMD_RESULT) (r2 : K .SAM_RES) (r3 : K .VF_EVENT) (p1 : P .irq) (p2 : P .sam) (p3 : P .twn) (p4 : P .out) : outside K P (State.saSetThreshold s who) = outside K P s :=
  by unfold State.saSetThreshold; simp [*]
theorem outside_execSaSetThreshold (who : Nat) (s : State) (r1 : K .SAM_EVENT) (r2 : K .SAM_EVQ_LOST) (r3 : K .SAM_CMD_RESULT) (r4 : K .SAM_RES) (r5 : K .VF_EVENT) (p1 : P .irq) (p2 : P .cnt) (p3 : P .sam) (p4 : P .twn) (p5 : P .out) : ∀ u, execSaSetThreshold who s = .next u → outside K P u = outside K P s :=
  by intro u h; unfold execSaSetThreshold at h; cases h; simp [*]
@[simp] theorem outside_saPin (s : State) (who : Nat) (w : List Nat) (r1 : K .SAM_CMD_RESULT) (r2 : K .SAM_RES) (r3 : K .CNT_EVENT) (r4 : K .CNT_PROG_SEL) (r5 : K .VF_EVENT) (p1 : P .irq) (p2 : P .cnt) (p3 : P .sam) (p4 : P .out) : outside K P (State.saPin s who w) = outside K P s :=
  by unfold State.saPin; simp [*]
theorem outside_execSaPin (who : Nat) (s : State) (r1 : K .SAM_EVENT) (r2 : K .SAM_EVQ_LOST) (r3 : K .SAM_CMD_RESULT) (r4 : K .SAM_RES) (r5 : K .CNT_EVENT) (r6 : K .CNT_PROG_SEL) (r7 : K .VF_EVENT) (p1 : P .irq) (p2 : P .cnt) (p3 : P .sam) (p4 : P .twn) (p5 : P .out) : ∀ u, execSaPin who s = .next u → outside K P u = outside K P s :=
  by intro u h; unfold execSaPin at h; cases h; simp [*]
@[simp] theorem outside_saUnpin (s : State) (who : Nat) (r1 : K .SAM_CMD_RESULT) (r2 : K .SAM_RES) (r3 : K .VF_EVENT) (p1 : P .irq) (p2 : P .sam) (p3 : P .out) : outside K P (State.saUnpin s who) = outside K P s :=
  by unfold State.saUnpin; simp [*]
theorem outside_execSaUnpin (who : Nat) (s : State) (r1 : K .SAM_EVENT) (r2 : K .SAM_EVQ_LOST) (r3 : K .SAM_CMD_RESULT) (r4 : K .SAM_RES) (r5 : K .VF_EVENT) (p1 : P .irq) (p2 : P .cnt) (p3 : P .sam) (p4 : P .twn) (p5 : P .out) : ∀ u, execSaUnpin who s = .next u → outside K P u = outside K P s :=
  by intro u h; unfold execSaUnpin at h; cases h; simp [*]
@[simp] theorem outside_saRead (s : State) (who : Nat) (r1 : K .SAM_CMD_RESULT) (r2 : K .SAM_RES) (r3 : K .VF_EVENT) (p1 : P .irq) (p2 : P .sam) (p3 : P .out) : outside K P (State.saRead s who) = outside K P s :=
  by unfold State.saRead; simp [*]
theorem outside_execSaRead (who : Nat) (s : State) (r1 : K .SAM_EVENT) (r2 : K .SAM_EVQ_LOST) (r3 : K .SAM_CMD_RESULT) (r4 : K .SAM_RES) (r5 : K .VF_EVENT) (p1 : P .irq) (p2 : P .cnt) (p3 : P .sam) (p4 : P .twn) (p5 : P .out) : ∀ u, execSaRead who s = .next u → outside K P u = outside K P s :=
  by intro u h; unfold execSaRead at h; cases h; simp [*]
@[simp] theorem outside_rollArm (s : State) (who : Nat) (w : List Nat) (r1 : K .SAM_CMD_RESULT) (r2 : K .SAM_RES) (r3 : K .CNT_EVENT) (r4 : K .CNT_PROG_SEL) (r5 : K .VF_EVENT) (p1 : P .irq) (p2 : P .cnt) (p3 : P .sam) (p4 : P .twn) (p5 : P .out) : outside K P (State.rollArm s who w) = outside K P s :=
  by unfold State.rollArm; simp only []; (repeat' split) <;> simp [*]
theorem outside_execRollArm (who : Nat) (s : State) (r1 : K .SAM_EVENT) (r2 : K .SAM_EVQ_LOST) (r3 : K .SAM_CMD_RESULT) (r4 : K .SAM_RES) (r5 : K .CNT_EVENT) (r6 : K .CNT_PROG_SEL) (r7 : K .VF_EVENT) (p1 : P .irq) (p2 : P .cnt) (p3 : P .sam) (p4 : P .twn) (p5 : P .out) : ∀ u, execRollArm who s = .next u → outside K P u = outside K P s :=
  by intro u h; unfold execRollArm at h; cases h; simp [*]
@[simp] theorem outside_rollNow (s : State) (who : Nat) (w : List Nat) (r1 : K .SAM_EVENT) (r2 : K .SAM_EVQ_LOST) (r3 : K .SAM_CMD_RESULT) (r4 : K .SAM_RES) (r5 : K .CNT_EVENT) (r6 : K .CNT_PROG_SEL) (r7 : K .VF_EVENT) (p1 : P .irq) (p2 : P .cnt) (p3 : P .sam) (p4 : P .twn) (p5 : P .out) : outside K P (State.rollNow s who w) = outside K P s :=
  by unfold State.rollNow; simp [*]
theorem outside_execRollNow (who : Nat) (s : State) (r1 : K .SAM_EVENT) (r2 : K .SAM_EVQ_LOST) (r3 : K .SAM_CMD_RESULT) (r4 : K .SAM_RES) (r5 : K .CNT_EVENT) (r6 : K .CNT_PROG_SEL) (r7 : K .VF_EVENT) (p1 : P .irq) (p2 : P .cnt) (p3 : P .sam) (p4 : P .twn) (p5 : P .out) : ∀ u, execRollNow who s = .next u → outside K P u = outside K P s :=
  by intro u h; unfold execRollNow at h; cases h; simp [*]
@[simp] theorem outside_rollDisarm (s : State) (who : Nat) (r1 : K .SAM_CMD_RESULT) (r2 : K .SAM_RES) (r3 : K .VF_EVENT) (p1 : P .irq) (p2 : P .sam) (p3 : P .twn) (p4 : P .out) : outside K P (State.rollDisarm s who) = outside K P s :=
  by unfold State.rollDisarm; simp [*]
theorem outside_execRollDisarm (who : Nat) (s : State) (r1 : K .SAM_EVENT) (r2 : K .SAM_EVQ_LOST) (r3 : K .SAM_CMD_RESULT) (r4 : K .SAM_RES) (r5 : K .VF_EVENT) (p1 : P .irq) (p2 : P .cnt) (p3 : P .sam) (p4 : P .twn) (p5 : P .out) : ∀ u, execRollDisarm who s = .next u → outside K P u = outside K P s :=
  by intro u h; unfold execRollDisarm at h; cases h; simp [*]
theorem outside_execRollTimeReached (sc : Nat) (s : State) (r1 : K .SAM_EVENT) (r2 : K .SAM_EVQ_LOST) (p1 : P .irq) (p2 : P .cnt) (p3 : P .sam) (p4 : P .twn) (p5 : P .out) : ∀ u, execRollTimeReached sc s = .next u → outside K P u = outside K P s :=
  by intro u h; unfold execRollTimeReached at h; cases h; simp [*]
theorem outside_execRetireAtReached (sa : Nat) (s : State) (p1 : P .sam) (p2 : P .twn) (p3 : P .out) : ∀ u, execRetireAtReached sa s = .next u → outside K P u = outside K P s :=
  by intro u h; unfold execRetireAtReached at h; cases h; simp [*]
@[simp] theorem outside_samUnlisted (s : State) (who : Nat) (op : Nat) (r1 : K .SAM_CMD_RESULT) (r2 : K .SAM_RES) (r3 : K .VF_EVENT) (p1 : P .irq) (p2 : P .sam) (p3 : P .out) : outside K P (State.samUnlisted s who op) = outside K P s :=
  by unfold State.samUnlisted; simp [*]
@[simp] theorem outside_samRun (s : State) (who : Nat) (op : Nat) (r1 : K .SAM_EVENT) (r2 : K .SAM_EVQ_LOST) (r3 : K .SAM_CMD_RESULT) (r4 : K .SAM_RES) (r5 : K .CNT_EVENT) (r6 : K .CNT_PROG_SEL) (r7 : K .VF_EVENT) (p1 : P .irq) (p2 : P .cnt) (p3 : P .pool) (p4 : P .sam) (p5 : P .twn) (p6 : P .out) (p7 : P .free) : outside K P (State.samRun s who op) = outside K P s :=
  by unfold State.samRun; (repeat' split) <;> simp [*]
@[simp] theorem outside_samAgain (s : State) (w : SamWait) (r1 : K .SAM_EVENT) (r2 : K .SAM_EVQ_LOST) (r3 : K .SAM_CMD_RESULT) (r4 : K .SAM_RES) (r5 : K .CNT_EVENT) (r6 : K .CNT_PROG_SEL) (r7 : K .VF_EVENT) (p1 : P .irq) (p2 : P .cnt) (p3 : P .sam) (p4 : P .twn) (p5 : P .out) : outside K P (State.samAgain s w) = outside K P s :=
  by unfold State.samAgain; (repeat' split) <;> simp [*]
@[simp] theorem outside_samDrain (s : State) (r1 : K .SAM_EVENT) (r2 : K .SAM_EVQ_LOST) (r3 : K .SAM_CMD_RESULT) (r4 : K .SAM_RES) (r5 : K .CNT_EVENT) (r6 : K .CNT_PROG_SEL) (r7 : K .VF_EVENT) (p1 : P .irq) (p2 : P .cnt) (p3 : P .pool) (p4 : P .sam) (p5 : P .twn) (p6 : P .out) (p7 : P .free) : outside K P (State.samDrain s) = outside K P s :=
  by
  unfold State.samDrain
  split
  · rfl
  · rw [outside_foldl _ (fun s p => by simp [*])]
    simp [*]
@[simp] theorem outside_samResume (s : State) (r1 : K .SAM_EVENT) (r2 : K .SAM_EVQ_LOST) (r3 : K .SAM_CMD_RESULT) (r4 : K .SAM_RES) (r5 : K .CNT_EVENT) (r6 : K .CNT_PROG_SEL) (r7 : K .VF_EVENT) (p1 : P .irq) (p2 : P .cnt) (p3 : P .pool) (p4 : P .sam) (p5 : P .twn) (p6 : P .out) (p7 : P .free) : outside K P (State.samResume s) = outside K P s :=
  by unfold State.samResume; simp [*, outside_foldl]
theorem outside_execSaDelete (who : Nat) (s : State) (r1 : K .SAM_EVENT) (r2 : K .SAM_EVQ_LOST) (r3 : K .SAM_CMD_RESULT) (r4 : K .SAM_RES) (r5 : K .CNT_EVENT) (r6 : K .CNT_PROG_SEL) (r7 : K .VF_EVENT) (p1 : P .irq) (p2 : P .cnt) (p3 : P .pool) (p4 : P .sam) (p5 : P .twn) (p6 : P .out) (p7 : P .free) : ∀ u, execSaDelete who s = .next u → outside K P u = outside K P s :=
  by intro u h; unfold execSaDelete at h; cases h; simp [*]
@[simp] theorem outside_samAbort (s : State) (p : SamWait → Bool) (r1 : K .SAM_EVENT) (r2 : K .SAM_EVQ_LOST) (r3 : K .SAM_CMD_RESULT) (r4 : K .SAM_RES) (r5 : K .CNT_EVENT) (r6 : K .CNT_PROG_SEL) (r7 : K .VF_EVENT) (p1 : P .irq) (p2 : P .cnt) (p3 : P .pool) (p4 : P .sam) (p5 : P .twn) (p6 : P .out) (p7 : P .free) : outside K P (State.samAbort s p) = outside K P s :=
  by unfold State.samAbort; simp [*, outside_foldl]
@[simp] theorem outside_samAbortAll (s : State) (r1 : K .SAM_CMD_RESULT) (r2 : K .SAM_RES) (r3 : K .VF_EVENT) (p1 : P .irq) (p2 : P .sam) (p3 : P .out) : outside K P (State.samAbortAll s) = outside K P s :=
  by unfold State.samAbortAll; simp [*, outside_foldl]
@[simp] theorem outside_rollNowFails (s : State) (r1 : K .SAM_EVENT) (r2 : K .SAM_EVQ_LOST) (r3 : K .SAM_CMD_RESULT) (r4 : K .SAM_RES) (r5 : K .CNT_EVENT) (r6 : K .CNT_PROG_SEL) (r7 : K .VF_EVENT) (p1 : P .irq) (p2 : P .cnt) (p3 : P .pool) (p4 : P .sam) (p5 : P .twn) (p6 : P .out) (p7 : P .free) : outside K P (State.rollNowFails s) = outside K P s :=
  by unfold State.rollNowFails; simp [*, outside_foldl]
@[simp] theorem outside_rollsOrphaned (s : State) (r1 : K .SAM_EVENT) (r2 : K .SAM_EVQ_LOST) (r3 : K .SAM_CMD_RESULT) (r4 : K .SAM_RES) (r5 : K .CNT_EVENT) (r6 : K .CNT_PROG_SEL) (r7 : K .VF_EVENT) (p1 : P .irq) (p2 : P .cnt) (p3 : P .pool) (p4 : P .sam) (p5 : P .twn) (p6 : P .out) (p7 : P .free) : outside K P (State.rollsOrphaned s) = outside K P s :=
  by
  unfold State.rollsOrphaned
  rw [outside_rollNowFails] <;> try assumption
  refine outside_foldl _ (fun s p => ?_) _ _
  (repeat' split) <;> simp [*]
@[simp] theorem outside_setJnl (s : State) (j : Journal) (p1 : P .jnl) : outside K P (State.setJnl s j) = outside K P s :=
  by unfold State.setJnl; simp [*]
@[simp] theorem outside_snareLost (s : State) (sid : Nat) (r1 : K .SWC_SNR_LOST) (p1 : P .buf) : outside K P (State.snareLost s sid) = outside K P s :=
  by unfold State.snareLost; simp [*]
@[simp] theorem outside_noteTally (s : State) (t : JTally) (p1 : P .jnl) : outside K P (State.noteTally s t) = outside K P s :=
  by unfold State.noteTally; simp [*]
@[simp] theorem outside_stage (s : State) (r : JRec) (p1 : P .jnl) : outside K P (State.stage s r) = outside K P s :=
  by unfold State.stage; simp [*]
@[simp] theorem outside_jnlOffer (s : State) (r : JRec) (r1 : K .SWC_SNR_LOST) (r2 : K .JNL_DISCARDED) (p1 : P .buf) (p2 : P .jnl) : outside K P (State.jnlOffer s r) = outside K P s :=
  by unfold State.jnlOffer; simp [*]
@[simp] theorem outside_jnlUnwait (x1 : Nat) (x2 : State) (p1 : P .jnl) : outside K P (State.jnlUnwait x1 x2) = outside K P x2 :=
  by induction x1 generalizing x2 with | zero => rfl | succ n ih => unfold State.jnlUnwait; (repeat' split) <;> simp [*, ih]
@[simp] theorem outside_jnlMarks (s : State) (r1 : K .JNL_DURABLE_LO) (r2 : K .JNL_DURABLE_HI) (r3 : K .JNL_OLDEST_LO) (r4 : K .JNL_OLDEST_HI) : outside K P (State.jnlMarks s) = outside K P s :=
  by unfold State.jnlMarks; simp [*]
@[simp] theorem outside_jnlProgrammed (s : State) (system : Bool) (k : Nat) (r1 : K .JNL_DURABLE_LO) (r2 : K .JNL_DURABLE_HI) (r3 : K .JNL_OLDEST_LO) (r4 : K .JNL_OLDEST_HI) (p1 : P .jnl) : outside K P (State.jnlProgrammed s system k) = outside K P s :=
  by unfold State.jnlProgrammed; dsimp only; (repeat' split) <;> simp [*]
@[simp] theorem outside_jnlStagingLost (s : State) (p1 : P .jnl) : outside K P (State.jnlStagingLost s) = outside K P s :=
  by unfold State.jnlStagingLost; simp [*]
@[simp] theorem outside_superWrite (s : State) (p1 : P .jnl) : outside K P (State.superWrite s) = outside K P s :=
  by unfold State.superWrite; dsimp only; (repeat' split) <;> simp [*]
@[simp] theorem outside_jnlHealth (s : State) (r1 : K .JNL_STATUS) (r2 : K .JNL_EVENT) (p1 : P .irq) (p2 : P .out) : outside K P (State.jnlHealth s) = outside K P s :=
  by unfold State.jnlHealth; simp [*]
@[simp] theorem outside_jnlPlan (s : State) (gaps : PlanGaps) (r1 : K .SWC_SNR_LOST) (r2 : K .JNL_EVENT) (r3 : K .JNL_PLAN_RATE) (r4 : K .JNL_PLAN_WEAR) (r5 : K .JNL_PLAN_HEALTH) (r6 : K .JNL_PLAN_MISC) (r7 : K .JNL_DISCARDED) (p1 : P .irq) (p2 : P .buf) (p3 : P .jnl) (p4 : P .out) : outside K P (State.jnlPlan s gaps) = outside K P s :=
  by unfold State.jnlPlan; simp [*]
@[simp] theorem outside_blockRetired (s : State) (b : Nat) (gaps : PlanGaps) (r1 : K .SWC_SNR_LOST) (r2 : K .JNL_STATUS) (r3 : K .JNL_EVENT) (r4 : K .JNL_PLAN_RATE) (r5 : K .JNL_PLAN_WEAR) (r6 : K .JNL_PLAN_HEALTH) (r7 : K .JNL_PLAN_MISC) (r8 : K .JNL_DISCARDED) (p1 : P .irq) (p2 : P .buf) (p3 : P .jnl) (p4 : P .out) : outside K P (State.blockRetired s b gaps) = outside K P s :=
  by unfold State.blockRetired; simp [*]
@[simp] theorem outside_seqUsed (s : State) (r1 : K .TMP_LOG_SEQ) : outside K P (State.seqUsed s) = outside K P s :=
  by unfold State.seqUsed; simp [*]
@[simp] theorem outside_tamperToJournal (s : State) (r1 : K .SWC_SNR_LOST) (r2 : K .JNL_DISCARDED) (p1 : P .buf) (p2 : P .jnl) (p3 : P .tmp) : outside K P (State.tamperToJournal s) = outside K P s :=
  by unfold State.tamperToJournal; simp [*, outside_foldl]
@[simp] theorem outside_logPut (s : State) (e : LogEntry) (r1 : K .SWC_SNR_LOST) (r2 : K .JNL_DISCARDED) (r3 : K .TMP_EVENT) (r4 : K .TMP_LOG_INFO) (p1 : P .irq) (p2 : P .buf) (p3 : P .jnl) (p4 : P .tmp) (p5 : P .out) : outside K P (State.logPut s e) = outside K P s :=
  by unfold State.logPut; simp [*]
@[simp] theorem outside_batPut (s : State) (e : LogEntry) (copied : Bool) (r1 : K .TMP_EVENT) (r2 : K .TMP_BAT_INFO) (p1 : P .irq) (p2 : P .tmp) (p3 : P .out) : outside K P (State.batPut s e copied) = outside K P s :=
  by unfold State.batPut; simp only []; (repeat' split) <;> simp [*]
@[simp] theorem outside_log (s : State) (source : Nat) (kind : Nat) (mask : Nat) (value : Nat) (r1 : K .SWC_SNR_LOST) (r2 : K .JNL_DISCARDED) (r3 : K .TMP_EVENT) (r4 : K .TMP_LOG_INFO) (r5 : K .TMP_LOG_SEQ) (p1 : P .irq) (p2 : P .buf) (p3 : P .jnl) (p4 : P .tmp) (p5 : P .out) : outside K P (State.log s source kind mask value) = outside K P s :=
  by unfold State.log; simp [*]
@[simp] theorem outside_logFault (s : State) (number : Nat) (value : Nat) (r1 : K .SWC_SNR_LOST) (r2 : K .JNL_DISCARDED) (r3 : K .TMP_EVENT) (r4 : K .TMP_LOG_INFO) (r5 : K .TMP_LOG_SEQ) (p1 : P .irq) (p2 : P .buf) (p3 : P .jnl) (p4 : P .tmp) (p5 : P .out) : outside K P (State.logFault s number value) = outside K P s :=
  by unfold State.logFault; simp [*]
@[simp] theorem outside_completeJnl (s : State) (who : Nat) (op : Nat) (st : Status) (r1 : K .JNL_CMD_RESULT) : outside K P (State.completeJnl s who op st) = outside K P s :=
  by unfold State.completeJnl; simp [*]
@[simp] theorem outside_jnlFormat (s : State) (who : Nat) (r1 : K .SWC_SNR_LOST) (r2 : K .JNL_STATUS) (r3 : K .JNL_LIFE) (r4 : K .JNL_DURABLE_LO) (r5 : K .JNL_DURABLE_HI) (r6 : K .JNL_OLDEST_LO) (r7 : K .JNL_OLDEST_HI) (r8 : K .JNL_FORMAT) (r9 : K .JNL_DISCARDED) (r10 : K .JNL_CMD_RESULT) (p1 : P .buf) (p2 : P .jnl) (p3 : P .tmp) : outside K P (State.jnlFormat s who) = outside K P s :=
  by unfold State.jnlFormat; simp only []; (repeat' split) <;> simp [*]
@[simp] theorem outside_jnlRead (s : State) (who : Nat) (bad : List Nat) (r1 : K .JNL_EVENT) (r2 : K .JNL_DURABLE_LO) (r3 : K .JNL_DURABLE_HI) (r4 : K .JNL_OLDEST_LO) (r5 : K .JNL_OLDEST_HI) (r6 : K .JNL_CMD_RESULT) (r7 : K .JNL_RES) (p1 : P .irq) (p2 : P .jnl) (p3 : P .out) (p4 : P .free) : outside K P (State.jnlRead s who bad) = outside K P s :=
  by unfold State.jnlRead; split <;> simp [*]
theorem outside_jnlRunOne (s : State) (c : JnlCmd) (r1 : K .SWC_SNR_LOST) (r2 : K .JNL_STATUS) (r3 : K .JNL_LIFE) (r4 : K .JNL_EVENT) (r5 : K .JNL_DURABLE_LO) (r6 : K .JNL_DURABLE_HI) (r7 : K .JNL_OLDEST_LO) (r8 : K .JNL_OLDEST_HI) (r9 : K .JNL_FORMAT) (r10 : K .JNL_PLAN_RATE) (r11 : K .JNL_PLAN_WEAR) (r12 : K .JNL_PLAN_HEALTH) (r13 : K .JNL_PLAN_MISC) (r14 : K .JNL_DISCARDED) (r15 : K .JNL_CMD_RESULT) (r16 : K .JNL_RES) (p1 : P .irq) (p2 : P .buf) (p3 : P .jnl) (p4 : P .tmp) (p5 : P .out) (p6 : P .free) : ∀ t, State.jnlRunOne s c = some t → outside K P t = outside K P s := by
  unfold State.jnlRunOne; intro t h; (repeat' split at h) <;> (try cases h) <;> (repeat' split) <;> simp [*]
@[simp] theorem outside_jnlRun (x1 : Nat) (x2 : State) (r1 : K .SWC_SNR_LOST) (r2 : K .JNL_STATUS) (r3 : K .JNL_LIFE) (r4 : K .JNL_EVENT) (r5 : K .JNL_DURABLE_LO) (r6 : K .JNL_DURABLE_HI) (r7 : K .JNL_OLDEST_LO) (r8 : K .JNL_OLDEST_HI) (r9 : K .JNL_FORMAT) (r10 : K .JNL_PLAN_RATE) (r11 : K .JNL_PLAN_WEAR) (r12 : K .JNL_PLAN_HEALTH) (r13 : K .JNL_PLAN_MISC) (r14 : K .JNL_DISCARDED) (r15 : K .JNL_CMD_RESULT) (r16 : K .JNL_RES) (p1 : P .irq) (p2 : P .buf) (p3 : P .jnl) (p4 : P .tmp) (p5 : P .out) (p6 : P .free) : outside K P (State.jnlRun x1 x2) = outside K P x2 :=
  by
  induction x1 generalizing x2 with
  | zero => rfl
  | succ n ih =>
    unfold State.jnlRun
    split
    · rfl
    · split
      · rename_i h
        have e := outside_jnlRunOne (K := K) (P := P) _ _ (by assumption) (by assumption) (by assumption) (by assumption) (by assumption) (by assumption) (by assumption) (by assumption) (by assumption) (by assumption) (by assumption) (by assumption) (by assumption) (by assumption) (by assumption) (by assumption) (by assumption) (by assumption) (by assumption) (by assumption) (by assumption) (by assumption) _ h
        simp [ih, *]
      · simp [*]
@[simp] theorem outside_jnlCommand (s : State) (c : JnlCmd) (r1 : K .SWC_SNR_LOST) (r2 : K .JNL_STATUS) (r3 : K .JNL_LIFE) (r4 : K .JNL_EVENT) (r5 : K .JNL_DURABLE_LO) (r6 : K .JNL_DURABLE_HI) (r7 : K .JNL_OLDEST_LO) (r8 : K .JNL_OLDEST_HI) (r9 : K .JNL_FORMAT) (r10 : K .JNL_PLAN_RATE) (r11 : K .JNL_PLAN_WEAR) (r12 : K .JNL_PLAN_HEALTH) (r13 : K .JNL_PLAN_MISC) (r14 : K .JNL_DISCARDED) (r15 : K .JNL_CMD_RESULT) (r16 : K .JNL_RES) (r17 : K .VF_STATUS) (p1 : P .irq) (p2 : P .buf) (p3 : P .jnl) (p4 : P .tmp) (p5 : P .out) (p6 : P .free) : outside K P (State.jnlCommand s c) = outside K P s :=
  by unfold State.jnlCommand; simp [*]
theorem outside_execFormat (who : Nat) (s : State) (r1 : K .SWC_SNR_LOST) (r2 : K .JNL_STATUS) (r3 : K .JNL_LIFE) (r4 : K .JNL_EVENT) (r5 : K .JNL_DURABLE_LO) (r6 : K .JNL_DURABLE_HI) (r7 : K .JNL_OLDEST_LO) (r8 : K .JNL_OLDEST_HI) (r9 : K .JNL_FORMAT) (r10 : K .JNL_PLAN_RATE) (r11 : K .JNL_PLAN_WEAR) (r12 : K .JNL_PLAN_HEALTH) (r13 : K .JNL_PLAN_MISC) (r14 : K .JNL_DISCARDED) (r15 : K .JNL_CMD_RESULT) (r16 : K .JNL_RES) (r17 : K .VF_STATUS) (p1 : P .irq) (p2 : P .buf) (p3 : P .jnl) (p4 : P .tmp) (p5 : P .out) (p6 : P .free) : ∀ u, execFormat who s = .next u → outside K P u = outside K P s :=
  by intro u h; unfold execFormat at h; cases h; simp [*]
theorem outside_execRead (who : Nat) (bad : List Nat) (s : State) (r1 : K .SWC_SNR_LOST) (r2 : K .JNL_STATUS) (r3 : K .JNL_LIFE) (r4 : K .JNL_EVENT) (r5 : K .JNL_DURABLE_LO) (r6 : K .JNL_DURABLE_HI) (r7 : K .JNL_OLDEST_LO) (r8 : K .JNL_OLDEST_HI) (r9 : K .JNL_FORMAT) (r10 : K .JNL_PLAN_RATE) (r11 : K .JNL_PLAN_WEAR) (r12 : K .JNL_PLAN_HEALTH) (r13 : K .JNL_PLAN_MISC) (r14 : K .JNL_DISCARDED) (r15 : K .JNL_CMD_RESULT) (r16 : K .JNL_RES) (r17 : K .VF_STATUS) (p1 : P .irq) (p2 : P .buf) (p3 : P .jnl) (p4 : P .tmp) (p5 : P .out) (p6 : P .free) : ∀ u, execRead who bad s = .next u → outside K P u = outside K P s :=
  by intro u h; unfold execRead at h; cases h; simp [*]
theorem outside_execFlush (who : Nat) (s : State) (r1 : K .SWC_SNR_LOST) (r2 : K .JNL_STATUS) (r3 : K .JNL_LIFE) (r4 : K .JNL_EVENT) (r5 : K .JNL_DURABLE_LO) (r6 : K .JNL_DURABLE_HI) (r7 : K .JNL_OLDEST_LO) (r8 : K .JNL_OLDEST_HI) (r9 : K .JNL_FORMAT) (r10 : K .JNL_PLAN_RATE) (r11 : K .JNL_PLAN_WEAR) (r12 : K .JNL_PLAN_HEALTH) (r13 : K .JNL_PLAN_MISC) (r14 : K .JNL_DISCARDED) (r15 : K .JNL_CMD_RESULT) (r16 : K .JNL_RES) (r17 : K .VF_STATUS) (p1 : P .irq) (p2 : P .buf) (p3 : P .jnl) (p4 : P .tmp) (p5 : P .out) (p6 : P .free) : ∀ u, execFlush who s = .next u → outside K P u = outside K P s :=
  by intro u h; unfold execFlush at h; cases h; simp [*]
theorem outside_execSetLife (who : Nat) (gaps : PlanGaps) (s : State) (r1 : K .SWC_SNR_LOST) (r2 : K .JNL_STATUS) (r3 : K .JNL_LIFE) (r4 : K .JNL_EVENT) (r5 : K .JNL_DURABLE_LO) (r6 : K .JNL_DURABLE_HI) (r7 : K .JNL_OLDEST_LO) (r8 : K .JNL_OLDEST_HI) (r9 : K .JNL_FORMAT) (r10 : K .JNL_PLAN_RATE) (r11 : K .JNL_PLAN_WEAR) (r12 : K .JNL_PLAN_HEALTH) (r13 : K .JNL_PLAN_MISC) (r14 : K .JNL_DISCARDED) (r15 : K .JNL_CMD_RESULT) (r16 : K .JNL_RES) (r17 : K .VF_STATUS) (p1 : P .irq) (p2 : P .buf) (p3 : P .jnl) (p4 : P .tmp) (p5 : P .out) (p6 : P .free) : ∀ u, execSetLife who gaps s = .next u → outside K P u = outside K P s :=
  by intro u h; unfold execSetLife at h; cases h; simp [*]
theorem outside_execPlanNow (who : Nat) (gaps : PlanGaps) (s : State) (r1 : K .SWC_SNR_LOST) (r2 : K .JNL_STATUS) (r3 : K .JNL_LIFE) (r4 : K .JNL_EVENT) (r5 : K .JNL_DURABLE_LO) (r6 : K .JNL_DURABLE_HI) (r7 : K .JNL_OLDEST_LO) (r8 : K .JNL_OLDEST_HI) (r9 : K .JNL_FORMAT) (r10 : K .JNL_PLAN_RATE) (r11 : K .JNL_PLAN_WEAR) (r12 : K .JNL_PLAN_HEALTH) (r13 : K .JNL_PLAN_MISC) (r14 : K .JNL_DISCARDED) (r15 : K .JNL_CMD_RESULT) (r16 : K .JNL_RES) (r17 : K .VF_STATUS) (p1 : P .irq) (p2 : P .buf) (p3 : P .jnl) (p4 : P .tmp) (p5 : P .out) (p6 : P .free) : ∀ u, execPlanNow who gaps s = .next u → outside K P u = outside K P s :=
  by intro u h; unfold execPlanNow at h; cases h; simp [*]
@[simp] theorem outside_scanned (s : State) (m : MountScan) (b : Superblock) (r1 : K .JNL_STATUS) (r2 : K .JNL_LIFE) (r3 : K .JNL_FORMAT) (p1 : P .jnl) : outside K P (State.scanned s m b) = outside K P s :=
  by unfold State.scanned; simp [*]
@[simp] theorem outside_lossFound (s : State) (lost : Option (Nat × Nat)) (r1 : K .SWC_SNR_LOST) (r2 : K .JNL_EVENT) (r3 : K .JNL_DISCARDED) (p1 : P .irq) (p2 : P .buf) (p3 : P .jnl) (p4 : P .out) : outside K P (State.lossFound s lost) = outside K P s :=
  by unfold State.lossFound; (repeat' split) <;> simp [*]
@[simp] theorem outside_jnlMount (s : State) (m : MountScan) (gaps : PlanGaps) (r1 : K .SWC_SNR_LOST) (r2 : K .JNL_STATUS) (r3 : K .JNL_LIFE) (r4 : K .JNL_EVENT) (r5 : K .JNL_DURABLE_LO) (r6 : K .JNL_DURABLE_HI) (r7 : K .JNL_OLDEST_LO) (r8 : K .JNL_OLDEST_HI) (r9 : K .JNL_FORMAT) (r10 : K .JNL_PLAN_RATE) (r11 : K .JNL_PLAN_WEAR) (r12 : K .JNL_PLAN_HEALTH) (r13 : K .JNL_PLAN_MISC) (r14 : K .JNL_DISCARDED) (p1 : P .irq) (p2 : P .buf) (p3 : P .jnl) (p4 : P .tmp) (p5 : P .out) : outside K P (State.jnlMount s m gaps) = outside K P s :=
  by unfold State.jnlMount; simp only []; (repeat' split) <;> simp [*]
theorem outside_execJournalMount (scan : MountScan) (gaps : PlanGaps) (s : State) (r1 : K .SWC_SNR_LOST) (r2 : K .JNL_STATUS) (r3 : K .JNL_LIFE) (r4 : K .JNL_EVENT) (r5 : K .JNL_DURABLE_LO) (r6 : K .JNL_DURABLE_HI) (r7 : K .JNL_OLDEST_LO) (r8 : K .JNL_OLDEST_HI) (r9 : K .JNL_FORMAT) (r10 : K .JNL_PLAN_RATE) (r11 : K .JNL_PLAN_WEAR) (r12 : K .JNL_PLAN_HEALTH) (r13 : K .JNL_PLAN_MISC) (r14 : K .JNL_DISCARDED) (p1 : P .irq) (p2 : P .buf) (p3 : P .jnl) (p4 : P .tmp) (p5 : P .out) : ∀ u, execJournalMount scan gaps s = .next u → outside K P u = outside K P s :=
  by intro u h; unfold execJournalMount at h; cases h; simp [*]
theorem outside_execJournalRecordAccept (cls : JClass) (payload : Bytes) (s : State) (r1 : K .SWC_SNR_LOST) (r2 : K .JNL_DISCARDED) (p1 : P .buf) (p2 : P .jnl) : ∀ u, execJournalRecordAccept cls payload s = .next u → outside K P u = outside K P s :=
  by intro u h; unfold execJournalRecordAccept at h; cases h; simp [*]
theorem outside_execJournalFlushTimer (s : State) (p1 : P .jnl) : ∀ u, execJournalFlushTimer s = .next u → outside K P u = outside K P s :=
  by intro u h; unfold execJournalFlushTimer at h; cases h; (repeat' split) <;> simp [*]
@[simp] theorem outside_jnlProgram (s : State) (system : Bool) (bad : Option Nat) (gaps : PlanGaps) (r1 : K .SWC_SNR_LOST) (r2 : K .JNL_STATUS) (r3 : K .JNL_LIFE) (r4 : K .JNL_EVENT) (r5 : K .JNL_DURABLE_LO) (r6 : K .JNL_DURABLE_HI) (r7 : K .JNL_OLDEST_LO) (r8 : K .JNL_OLDEST_HI) (r9 : K .JNL_FORMAT) (r10 : K .JNL_PLAN_RATE) (r11 : K .JNL_PLAN_WEAR) (r12 : K .JNL_PLAN_HEALTH) (r13 : K .JNL_PLAN_MISC) (r14 : K .JNL_DISCARDED) (r15 : K .JNL_CMD_RESULT) (r16 : K .JNL_RES) (p1 : P .irq) (p2 : P .buf) (p3 : P .jnl) (p4 : P .tmp) (p5 : P .out) (p6 : P .free) : outside K P (State.jnlProgram s system bad gaps) = outside K P s :=
  by unfold State.jnlProgram; dsimp only; (repeat' split) <;> simp [*]
theorem outside_execProgramDone (system : Bool) (place : Nat) (page : Nat) (bad : Option Nat) (gaps : PlanGaps) (s : State) (r1 : K .SWC_SNR_LOST) (r2 : K .JNL_STATUS) (r3 : K .JNL_LIFE) (r4 : K .JNL_EVENT) (r5 : K .JNL_DURABLE_LO) (r6 : K .JNL_DURABLE_HI) (r7 : K .JNL_OLDEST_LO) (r8 : K .JNL_OLDEST_HI) (r9 : K .JNL_FORMAT) (r10 : K .JNL_PLAN_RATE) (r11 : K .JNL_PLAN_WEAR) (r12 : K .JNL_PLAN_HEALTH) (r13 : K .JNL_PLAN_MISC) (r14 : K .JNL_DISCARDED) (r15 : K .JNL_CMD_RESULT) (r16 : K .JNL_RES) (p1 : P .irq) (p2 : P .buf) (p3 : P .jnl) (p4 : P .tmp) (p5 : P .out) (p6 : P .free) : ∀ u, execProgramDone system place page bad gaps s = .next u → outside K P u = outside K P s :=
  by intro u h; unfold execProgramDone at h; cases h; simp [*]
@[simp] theorem outside_jnlOpen (s : State) (system : Bool) (place : Nat) (r1 : K .JNL_DURABLE_LO) (r2 : K .JNL_DURABLE_HI) (r3 : K .JNL_OLDEST_LO) (r4 : K .JNL_OLDEST_HI) (p1 : P .jnl) : outside K P (State.jnlOpen s system place) = outside K P s :=
  by unfold State.jnlOpen; simp [*]
@[simp] theorem outside_jnlErase (s : State) (system : Bool) (g : Nat) (bad : Option Nat) (gaps : PlanGaps) (r1 : K .SWC_SNR_LOST) (r2 : K .JNL_STATUS) (r3 : K .JNL_EVENT) (r4 : K .JNL_DURABLE_LO) (r5 : K .JNL_DURABLE_HI) (r6 : K .JNL_OLDEST_LO) (r7 : K .JNL_OLDEST_HI) (r8 : K .JNL_PLAN_RATE) (r9 : K .JNL_PLAN_WEAR) (r10 : K .JNL_PLAN_HEALTH) (r11 : K .JNL_PLAN_MISC) (r12 : K .JNL_DISCARDED) (p1 : P .irq) (p2 : P .buf) (p3 : P .jnl) (p4 : P .out) : outside K P (State.jnlErase s system g bad gaps) = outside K P s :=
  by unfold State.jnlErase; (repeat' split) <;> simp [*]
theorem outside_execEraseDone (system : Bool) (place : Nat) (bad : Option Nat) (gaps : PlanGaps) (s : State) (r1 : K .SWC_SNR_LOST) (r2 : K .JNL_STATUS) (r3 : K .JNL_EVENT) (r4 : K .JNL_DURABLE_LO) (r5 : K .JNL_DURABLE_HI) (r6 : K .JNL_OLDEST_LO) (r7 : K .JNL_OLDEST_HI) (r8 : K .JNL_PLAN_RATE) (r9 : K .JNL_PLAN_WEAR) (r10 : K .JNL_PLAN_HEALTH) (r11 : K .JNL_PLAN_MISC) (r12 : K .JNL_DISCARDED) (p1 : P .irq) (p2 : P .buf) (p3 : P .jnl) (p4 : P .out) : ∀ u, execEraseDone system place bad gaps s = .next u → outside K P u = outside K P s :=
  by intro u h; unfold execEraseDone at h; cases h; simp [*]
@[simp] theorem outside_patrolNote (s : State) (blk : Nat) (page : Nat) (corrected : Nat) (p1 : P .jnl) : outside K P (State.patrolNote s blk page corrected) = outside K P s :=
  by unfold State.patrolNote; simp [*]
@[simp] theorem outside_refresh (s : State) (g : Nat) (p1 : P .jnl) : outside K P (State.refresh s g) = outside K P s :=
  by unfold State.refresh; dsimp only; (repeat' split) <;> simp [*]
@[simp] theorem outside_patrolled (s : State) (blk : Nat) (page : Nat) (corrected : Nat) (level : Nat) (recovered : Bool) (recs : List Nat) (testOk : Bool) (gaps : PlanGaps) (r1 : K .SWC_SNR_LOST) (r2 : K .JNL_STATUS) (r3 : K .JNL_EVENT) (r4 : K .JNL_DURABLE_LO) (r5 : K .JNL_DURABLE_HI) (r6 : K .JNL_OLDEST_LO) (r7 : K .JNL_OLDEST_HI) (r8 : K .JNL_PLAN_RATE) (r9 : K .JNL_PLAN_WEAR) (r10 : K .JNL_PLAN_HEALTH) (r11 : K .JNL_PLAN_MISC) (r12 : K .JNL_DISCARDED) (p1 : P .irq) (p2 : P .buf) (p3 : P .jnl) (p4 : P .out) : outside K P (State.patrolled s blk page corrected level recovered recs testOk gaps) = outside K P s :=
  by unfold State.patrolled; simp [*]
theorem outside_execPatrolRead (blk : Nat) (page : Nat) (corrected : Nat) (level : Nat) (recovered : Bool) (recs : List Nat) (testOk : Bool) (gaps : PlanGaps) (s : State) (r1 : K .SWC_SNR_LOST) (r2 : K .JNL_STATUS) (r3 : K .JNL_EVENT) (r4 : K .JNL_DURABLE_LO) (r5 : K .JNL_DURABLE_HI) (r6 : K .JNL_OLDEST_LO) (r7 : K .JNL_OLDEST_HI) (r8 : K .JNL_PLAN_RATE) (r9 : K .JNL_PLAN_WEAR) (r10 : K .JNL_PLAN_HEALTH) (r11 : K .JNL_PLAN_MISC) (r12 : K .JNL_DISCARDED) (p1 : P .irq) (p2 : P .buf) (p3 : P .jnl) (p4 : P .out) : ∀ u, execPatrolRead blk page corrected level recovered recs testOk gaps s = .next u → outside K P u = outside K P s :=
  by intro u h; unfold execPatrolRead at h; cases h; simp [*]
theorem outside_execJournalPlan (gaps : PlanGaps) (s : State) (r1 : K .SWC_SNR_LOST) (r2 : K .JNL_STATUS) (r3 : K .JNL_EVENT) (r4 : K .JNL_PLAN_RATE) (r5 : K .JNL_PLAN_WEAR) (r6 : K .JNL_PLAN_HEALTH) (r7 : K .JNL_PLAN_MISC) (r8 : K .JNL_DISCARDED) (p1 : P .irq) (p2 : P .buf) (p3 : P .jnl) (p4 : P .out) : ∀ u, execJournalPlan gaps s = .next u → outside K P u = outside K P s :=
  by intro u h; unfold execJournalPlan at h; cases h; simp [*]
@[simp] theorem outside_jnlFlushArea (s : State) (system : Bool) (r1 : K .JNL_DURABLE_LO) (r2 : K .JNL_DURABLE_HI) (r3 : K .JNL_OLDEST_LO) (r4 : K .JNL_OLDEST_HI) (p1 : P .jnl) : outside K P (State.jnlFlushArea s system) = outside K P s :=
  by unfold State.jnlFlushArea; dsimp only; (repeat' split) <;> simp [*]
@[simp] theorem outside_setRing (s : State) (r : Nat) (v : RingSet) (p1 : P .hif) : outside K P (State.setRing s r v) = outside K P s :=
  by unfold State.setRing; simp [*]
@[simp] theorem outside_ringFire (s : State) (r : Nat) (p1 : P .irq) (p2 : P .hif) (p3 : P .out) : outside K P (State.ringFire s r) = outside K P s :=
  by unfold State.ringFire; split <;> simp [*]
@[simp] theorem outside_ringIrq (s : State) (r : Nat) (p1 : P .irq) (p2 : P .hif) (p3 : P .out) : outside K P (State.ringIrq s r) = outside K P s :=
  by unfold State.ringIrq; split <;> simp [*]
theorem outside_execRingIrqHoldoff (rs : Nat) (s : State) (p1 : P .irq) (p2 : P .hif) (p3 : P .out) : ∀ u, execRingIrqHoldoff rs s = .next u → outside K P u = outside K P s :=
  by intro u h; unfold execRingIrqHoldoff at h; cases h; simp [*]
@[simp] theorem outside_completion (s : State) (r : Nat) (tag : Nat) (st : Status) (reason : Nat) (tdQns : Nat) (r1 : K .HIF_CQ_PROD) (p1 : P .irq) (p2 : P .hif) (p3 : P .out) : outside K P (State.completion s r tag st reason tdQns) = outside K P s :=
  by unfold State.completion; simp [*]
@[simp] theorem outside_fate (s : State) (host : Option (Nat × Nat)) (st : Status) (reason : Nat) (tdQns : Nat) (r1 : K .HIF_CQ_PROD) (p1 : P .irq) (p2 : P .hif) (p3 : P .out) : outside K P (State.fate s host st reason tdQns) = outside K P s :=
  by unfold State.fate; split <;> simp [*]
@[simp] theorem outside_ringZero (s : State) (r : Nat) (r1 : K .HIF_TX_PROD) (r2 : K .HIF_TX_CONS) (r3 : K .HIF_RX_PROD) (r4 : K .HIF_RX_CONS) (r5 : K .HIF_CQ_PROD) (r6 : K .HIF_CQ_CONS) : outside K P (State.ringZero s r) = outside K P s :=
  by unfold State.ringZero; simp [*]
@[simp] theorem outside_ringCtl (s : State) (who : Nat) (r : Nat) (val : Nat) (r1 : K .HIF_STATUS) (r2 : K .HIF_RS_CTL) (r3 : K .HIF_TX_PROD) (r4 : K .HIF_TX_CONS) (r5 : K .HIF_RX_PROD) (r6 : K .HIF_RX_CONS) (r7 : K .HIF_CQ_PROD) (r8 : K .HIF_CQ_CONS) (r9 : K .VF_STATUS) : outside K P (State.ringCtl s who r val) = outside K P s :=
  by unfold State.ringCtl; simp [*]
theorem outside_execRingSetEnable (who : Nat) (rs : Nat) (val : Nat) (s : State) (r1 : K .HIF_STATUS) (r2 : K .HIF_RS_CTL) (r3 : K .HIF_TX_PROD) (r4 : K .HIF_TX_CONS) (r5 : K .HIF_RX_PROD) (r6 : K .HIF_RX_CONS) (r7 : K .HIF_CQ_PROD) (r8 : K .HIF_CQ_CONS) (r9 : K .VF_STATUS) : ∀ u, execRingSetEnable who rs val s = .next u → outside K P u = outside K P s :=
  by intro u h; unfold execRingSetEnable at h; cases h; (repeat' split) <;> simp [*]
theorem outside_execDmaError (rs : Nat) (s : State) (r1 : K .HIF_EVENT) (r2 : K .HIF_RS_CTL) (p1 : P .irq) (p2 : P .out) : ∀ u, execDmaError rs s = .next u → outside K P u = outside K P s :=
  by intro u h; unfold execDmaError at h; cases h; simp [*]
@[simp] theorem outside_ringReset (s : State) (rs : List Nat) (r1 : K .HIF_RS_CTL) (r2 : K .HIF_TX_BASE_LO) (r3 : K .HIF_TX_BASE_HI) (r4 : K .HIF_RX_BASE_LO) (r5 : K .HIF_RX_BASE_HI) (r6 : K .HIF_CQ_BASE_LO) (r7 : K .HIF_CQ_BASE_HI) (r8 : K .HIF_TX_PROD) (r9 : K .HIF_TX_CONS) (r10 : K .HIF_RX_PROD) (r11 : K .HIF_RX_CONS) (r12 : K .HIF_CQ_PROD) (r13 : K .HIF_CQ_CONS) (p1 : P .buf) (p2 : P .pool) (p3 : P .hif) : outside K P (State.ringReset s rs) = outside K P s :=
  by
  unfold State.ringReset
  refine outside_eq rfl rfl rfl (fun k hk => ?_) (fun p hp => by cases p <;> first | rfl | contradiction)
  refine get_filter _ _ _ k rfl (fun v => ?_)
  have : isRingReg k.reg = false := by
    cases e : isRingReg k.reg with
    | false => rfl
    | true =>
      refine absurd ?_ hk
      revert e
      generalize k.reg = r
      intro e
      unfold isRingReg at e
      split at e <;> first | assumption | cases e
  simp [this]
@[simp] theorem outside_setBox (s : State) (b : Nat) (m : Mailbox) (p1 : P .chm) : outside K P (State.setBox s b m) = outside K P s :=
  by unfold State.setBox; simp [*]
@[simp] theorem outside_chmRefresh (s : State) (vec : Nat) (p1 : P .irq) (p2 : P .out) : outside K P (State.chmRefresh s vec) = outside K P s :=
  by unfold State.chmRefresh; simp [*]
@[simp] theorem outside_chmRefreshAll (s : State) (p1 : P .irq) (p2 : P .out) : outside K P (State.chmRefreshAll s) = outside K P s :=
  by unfold State.chmRefreshAll; simp [*]
@[simp] theorem outside_chmPost (s : State) (v : Nat) (i : Nat) (r1 : K .CHM_EVENT) (p1 : P .irq) (p2 : P .out) : outside K P (State.chmPost s v i) = outside K P s :=
  by unfold State.chmPost; simp only []; (repeat' split) <;> simp [*]
@[simp] theorem outside_chmClear (s : State) (v : Nat) (bits : Nat) (r1 : K .CHM_EVENT) (p1 : P .irq) (p2 : P .out) : outside K P (State.chmClear s v bits) = outside K P s :=
  by unfold State.chmClear; simp only []; (repeat' split) <;> simp [*]
@[simp] theorem outside_notice (s : State) (v : Nat) (k : NoticeKind) (tag : Nat) (r1 : K .CHM_EVENT) (p1 : P .irq) (p2 : P .chm) (p3 : P .out) : outside K P (State.notice s v k tag) = outside K P s :=
  by unfold State.notice; simp [*]
@[simp] theorem outside_emptyBox (s : State) (b : Nat) (r1 : K .CHM_OUT_DATA) (p1 : P .chm) : outside K P (State.emptyBox s b) = outside K P s :=
  by
  unfold State.emptyBox
  dsimp only
  rw [outside_setBox _ _ _ (by assumption)]
  refine outside_eq rfl rfl rfl (fun k hk => ?_) (fun p hp => by cases p <;> first | rfl | contradiction)
  refine get_filter _ _ _ k rfl (fun v => ?_)
  have : k.reg ≠ .CHM_OUT_DATA := fun e => hk (by rw [e]; assumption)
  simp [this]
@[simp] theorem outside_fullWrite (s : State) (who : Nat) (v : Nat) (r1 : K .CHM_EVENT) (p1 : P .irq) (p2 : P .hif) (p3 : P .out) : outside K P (State.fullWrite s who v) = outside K P s :=
  by unfold State.fullWrite; simp [*]
theorem outside_execFullWrite (who : Nat) (pair : Nat) (s : State) (r1 : K .CHM_EVENT) (p1 : P .irq) (p2 : P .hif) (p3 : P .out) : ∀ u, execFullWrite who pair s = .next u → outside K P u = outside K P s :=
  by intro u h; unfold execFullWrite at h; cases h; (repeat' split) <;> simp [*]
@[simp] theorem outside_chmSend (s : State) (who : Nat) (v : Nat) (len : Nat) (ackReq : Bool) (tag : Nat) (r1 : K .CHM_EVENT) (p1 : P .irq) (p2 : P .hif) (p3 : P .chm) (p4 : P .out) : outside K P (State.chmSend s who v len ackReq tag) = outside K P s :=
  by unfold State.chmSend; simp [*]
theorem outside_execSend (who : Nat) (pair : Nat) (len : Nat) (ackReq : Bool) (tag : Nat) (s : State) (r1 : K .CHM_EVENT) (p1 : P .irq) (p2 : P .hif) (p3 : P .chm) (p4 : P .out) : ∀ u, execSend who pair len ackReq tag s = .next u → outside K P u = outside K P s :=
  by intro u h; unfold execSend at h; cases h; (repeat' split) <;> simp [*]
@[simp] theorem outside_chmPop (s : State) (who : Nat) (v : Nat) (r1 : K .CHM_STATUS) (r2 : K .CHM_OUT_DATA) (r3 : K .CHM_EVENT) (r4 : K .VF_STATUS) (p1 : P .irq) (p2 : P .chm) (p3 : P .out) : outside K P (State.chmPop s who v) = outside K P s :=
  by unfold State.chmPop; simp [*]
theorem outside_execPop (who : Nat) (pair : Nat) (s : State) (r1 : K .CHM_STATUS) (r2 : K .CHM_OUT_DATA) (r3 : K .CHM_EVENT) (r4 : K .VF_STATUS) (p1 : P .irq) (p2 : P .chm) (p3 : P .out) : ∀ u, execPop who pair s = .next u → outside K P u = outside K P s :=
  by intro u h; unfold execPop at h; cases h; (repeat' split) <;> simp [*]
theorem outside_execWithdraw (who : Nat) (pair : Nat) (s : State) (r1 : K .CHM_STATUS) (r2 : K .CHM_OUT_DATA) (r3 : K .CHM_EVENT) (r4 : K .VF_STATUS) (p1 : P .irq) (p2 : P .chm) (p3 : P .out) : ∀ u, execWithdraw who pair s = .next u → outside K P u = outside K P s :=
  by intro u h; unfold execWithdraw at h; cases h; (repeat' split) <;> simp [*]
@[simp] theorem outside_noticePop (s : State) (v : Nat) (p1 : P .chm) : outside K P (State.noticePop s v) = outside K P s :=
  by unfold State.noticePop; simp [*]
theorem outside_execChmNoticeRead (who : Nat) (pair : Nat) (s : State) (p1 : P .chm) (p2 : P .out) : ∀ u, execChmNoticeRead who pair s = .next u → outside K P u = outside K P s :=
  by intro u h; unfold execChmNoticeRead at h; cases h; (repeat' split) <;> simp [*]
theorem outside_execCrossed (pair : Nat) (s : State) (r1 : K .CHM_EVENT) (p1 : P .irq) (p2 : P .chm) (p3 : P .out) : ∀ u, execCrossed pair s = .next u → outside K P u = outside K P s :=
  by intro u h; unfold execCrossed at h; cases h; simp [*]
@[simp] theorem outside_abortBox (s : State) (b : Nat) (senderReset : Bool) (receiverReset : Bool) (r1 : K .CHM_OUT_DATA) (r2 : K .CHM_EVENT) (p1 : P .irq) (p2 : P .chm) (p3 : P .out) : outside K P (State.abortBox s b senderReset receiverReset) = outside K P s :=
  by unfold State.abortBox; simp [*]
@[simp] theorem outside_viewReset (s : State) (v : Nat) (r1 : K .CHM_OUT_DATA) (r2 : K .CHM_EVENT) (r3 : K .CHM_MASK) (p1 : P .irq) (p2 : P .chm) (p3 : P .out) : outside K P (State.viewReset s v) = outside K P s :=
  by
  unfold State.viewReset
  rw [outside_chmRefreshAll _ (by assumption) (by assumption)]
  refine outside_eq rfl rfl rfl (fun k hk => ?_) (fun p hp => by cases p <;> first | rfl | contradiction)
  refine get_filter _ _ _ k rfl (fun v => ?_)
  have h1 : k.reg ≠ .CHM_OUT_DATA := fun e => hk (by rw [e]; assumption)
  have h2 : k.reg ≠ .CHM_EVENT := fun e => hk (by rw [e]; assumption)
  have h3 : k.reg ≠ .CHM_MASK := fun e => hk (by rw [e]; assumption)
  simp [h1, h2, h3]
@[simp] theorem outside_chimeFunctionReset (s : State) (who : Nat) (r1 : K .CHM_OUT_DATA) (r2 : K .CHM_EVENT) (r3 : K .CHM_MASK) (p1 : P .irq) (p2 : P .chm) (p3 : P .out) : outside K P (State.chimeFunctionReset s who) = outside K P s :=
  by unfold State.chimeFunctionReset; simp [*, outside_foldl]
@[simp] theorem outside_chimeCoresReset (s : State) (r1 : K .CHM_OUT_DATA) (r2 : K .CHM_EVENT) (p1 : P .irq) (p2 : P .chm) (p3 : P .out) : outside K P (State.chimeCoresReset s) = outside K P s :=
  by unfold State.chimeCoresReset; simp [*, outside_foldl]
@[simp] theorem outside_windowReset (s : State) (who : Nat) (p1 : P .sam) : outside K P (State.windowReset s who) = outside K P s :=
  by unfold State.windowReset; simp [*]
@[simp] theorem outside_functionReset (s : State) (who : Nat) (r1 : K .TBL_EVENT) (r2 : K .HIF_RS_CTL) (r3 : K .HIF_TX_BASE_LO) (r4 : K .HIF_TX_BASE_HI) (r5 : K .HIF_RX_BASE_LO) (r6 : K .HIF_RX_BASE_HI) (r7 : K .HIF_CQ_BASE_LO) (r8 : K .HIF_CQ_BASE_HI) (r9 : K .HIF_TX_PROD) (r10 : K .HIF_TX_CONS) (r11 : K .HIF_RX_PROD) (r12 : K .HIF_RX_CONS) (r13 : K .HIF_CQ_PROD) (r14 : K .HIF_CQ_CONS) (r15 : K .CHM_OUT_DATA) (r16 : K .CHM_EVENT) (r17 : K .CHM_MASK) (r18 : K .VF_EVENT) (p1 : P .irq) (p2 : P .tbl) (p3 : P .buf) (p4 : P .pool) (p5 : P .sam) (p6 : P .hif) (p7 : P .chm) (p8 : P .out) : outside K P (State.functionReset s who) = outside K P s :=
  by unfold State.functionReset; simp [*]
theorem outside_execVfFlr (vf : Nat) (s : State) (r1 : K .TBL_EVENT) (r2 : K .HIF_EVENT) (r3 : K .HIF_RS_CTL) (r4 : K .HIF_TX_BASE_LO) (r5 : K .HIF_TX_BASE_HI) (r6 : K .HIF_RX_BASE_LO) (r7 : K .HIF_RX_BASE_HI) (r8 : K .HIF_CQ_BASE_LO) (r9 : K .HIF_CQ_BASE_HI) (r10 : K .HIF_TX_PROD) (r11 : K .HIF_TX_CONS) (r12 : K .HIF_RX_PROD) (r13 : K .HIF_RX_CONS) (r14 : K .HIF_CQ_PROD) (r15 : K .HIF_CQ_CONS) (r16 : K .CHM_OUT_DATA) (r17 : K .CHM_EVENT) (r18 : K .CHM_MASK) (r19 : K .VF_EVENT) (p1 : P .irq) (p2 : P .tbl) (p3 : P .buf) (p4 : P .pool) (p5 : P .sam) (p6 : P .hif) (p7 : P .chm) (p8 : P .out) : ∀ u, execVfFlr vf s = .next u → outside K P u = outside K P s :=
  by intro u h; unfold execVfFlr at h; cases h; simp [*]
@[simp] theorem outside_pfReset (s : State) (r1 : K .TBL_EVENT) (r2 : K .HIF_STATUS) (r3 : K .HIF_EVENT) (r4 : K .HIF_RS_CTL) (r5 : K .HIF_TX_BASE_LO) (r6 : K .HIF_TX_BASE_HI) (r7 : K .HIF_RX_BASE_LO) (r8 : K .HIF_RX_BASE_HI) (r9 : K .HIF_CQ_BASE_LO) (r10 : K .HIF_CQ_BASE_HI) (r11 : K .HIF_TX_PROD) (r12 : K .HIF_TX_CONS) (r13 : K .HIF_RX_PROD) (r14 : K .HIF_RX_CONS) (r15 : K .HIF_CQ_PROD) (r16 : K .HIF_CQ_CONS) (r17 : K .CHM_OUT_DATA) (r18 : K .CHM_EVENT) (r19 : K .CHM_MASK) (r20 : K .VF_EVENT) (p1 : P .irq) (p2 : P .tbl) (p3 : P .buf) (p4 : P .pool) (p5 : P .sam) (p6 : P .hif) (p7 : P .chm) (p8 : P .out) : outside K P (State.pfReset s) = outside K P s :=
  by unfold State.pfReset; simp [*, outside_foldl]
theorem outside_execPfFlr (s : State) (r1 : K .TBL_EVENT) (r2 : K .HIF_STATUS) (r3 : K .HIF_EVENT) (r4 : K .HIF_RS_CTL) (r5 : K .HIF_TX_BASE_LO) (r6 : K .HIF_TX_BASE_HI) (r7 : K .HIF_RX_BASE_LO) (r8 : K .HIF_RX_BASE_HI) (r9 : K .HIF_CQ_BASE_LO) (r10 : K .HIF_CQ_BASE_HI) (r11 : K .HIF_TX_PROD) (r12 : K .HIF_TX_CONS) (r13 : K .HIF_RX_PROD) (r14 : K .HIF_RX_CONS) (r15 : K .HIF_CQ_PROD) (r16 : K .HIF_CQ_CONS) (r17 : K .CHM_OUT_DATA) (r18 : K .CHM_EVENT) (r19 : K .CHM_MASK) (r20 : K .VF_EVENT) (p1 : P .irq) (p2 : P .tbl) (p3 : P .buf) (p4 : P .pool) (p5 : P .sam) (p6 : P .hif) (p7 : P .chm) (p8 : P .out) : ∀ u, execPfFlr s = .next u → outside K P u = outside K P s :=
  by
  intro u h
  refine outside_next h ?_
  simp [*]
theorem outside_execPcieHotReset (s : State) (r1 : K .TBL_EVENT) (r2 : K .HIF_STATUS) (r3 : K .HIF_EVENT) (r4 : K .HIF_RS_CTL) (r5 : K .HIF_TX_BASE_LO) (r6 : K .HIF_TX_BASE_HI) (r7 : K .HIF_RX_BASE_LO) (r8 : K .HIF_RX_BASE_HI) (r9 : K .HIF_CQ_BASE_LO) (r10 : K .HIF_CQ_BASE_HI) (r11 : K .HIF_TX_PROD) (r12 : K .HIF_TX_CONS) (r13 : K .HIF_RX_PROD) (r14 : K .HIF_RX_CONS) (r15 : K .HIF_CQ_PROD) (r16 : K .HIF_CQ_CONS) (r17 : K .CHM_OUT_DATA) (r18 : K .CHM_EVENT) (r19 : K .CHM_MASK) (r20 : K .VF_EVENT) (p1 : P .irq) (p2 : P .tbl) (p3 : P .buf) (p4 : P .pool) (p5 : P .sam) (p6 : P .hif) (p7 : P .chm) (p8 : P .out) : ∀ u, execPcieHotReset s = .next u → outside K P u = outside K P s :=
  by
  intro u h
  refine outside_next h ?_
  simp [*]
@[simp] theorem outside_setTab (s : State) (t : Tabor) (p1 : P .tab) : outside K P (State.setTab s t) = outside K P s :=
  by unfold State.setTab; simp [*]
@[simp] theorem outside_setFifo (s : State) (l : List TaborRec) (r1 : K .TAB_STATUS) (p1 : P .tab) : outside K P (State.setFifo s l) = outside K P s :=
  by unfold State.setFifo; simp [*]
@[simp] theorem outside_tabTime (s : State) (p1 : P .tab) (p2 : P .out) : outside K P (State.tabTime s) = outside K P s :=
  by unfold State.tabTime; simp [*]
theorem outside_execTaborTime (s : State) (p1 : P .tab) (p2 : P .out) : ∀ u, execTaborTime s = .next u → outside K P u = outside K P s :=
  by intro u h; unfold execTaborTime at h; cases h; simp [*]
@[simp] theorem outside_tabAged (s : State) (r1 : K .SWC_SNR_LOST) (r2 : K .TAB_STATUS) (p1 : P .buf) (p2 : P .tab) : outside K P (State.tabAged s) = outside K P s :=
  by unfold State.tabAged; simp [*, outside_foldl]
@[simp] theorem outside_tabBurst (s : State) (r1 : K .SWC_SNR_LOST) (r2 : K .TAB_STATUS) (r3 : K .TAB_CONSUMED) (r4 : K .TAB_BURSTS) (p1 : P .buf) (p2 : P .tab) (p3 : P .out) : outside K P (State.tabBurst s) = outside K P s :=
  by unfold State.tabBurst; simp [*]
theorem outside_execTaborBurst (s : State) (r1 : K .SWC_SNR_LOST) (r2 : K .TAB_STATUS) (r3 : K .TAB_CONSUMED) (r4 : K .TAB_BURSTS) (p1 : P .buf) (p2 : P .tab) (p3 : P .out) : ∀ u, execTaborBurst s = .next u → outside K P u = outside K P s :=
  by intro u h; unfold execTaborBurst at h; cases h; simp [*]
theorem outside_execCredit (typ : Byte) (rest : Bytes) (s : State) (r1 : K .TAB_GRANTED) (r2 : K .TAB_CREDIT_BAD) (p1 : P .tab) : ∀ u, execCredit typ rest s = .next u → outside K P u = outside K P s :=
  by intro u h; unfold execCredit at h; cases h; simp [*]
theorem outside_execTaborLinkUp (lane : Nat) (s : State) (r1 : K .TAB_STATUS) (r2 : K .TAB_EVENT) (r3 : K .TAB_CONSUMED) (p1 : P .irq) (p2 : P .tab) (p3 : P .out) : ∀ u, execTaborLinkUp lane s = .next u → outside K P u = outside K P s :=
  by intro u h; unfold execTaborLinkUp at h; cases h; simp [*]
@[simp] theorem outside_tabDown (s : State) (r1 : K .TAB_STATUS) (r2 : K .TAB_EVENT) (p1 : P .irq) (p2 : P .tab) (p3 : P .out) : outside K P (State.tabDown s) = outside K P s :=
  by unfold State.tabDown; simp [*]
@[simp] theorem outside_tabReset (s : State) (r1 : K .SWC_SNR_LOST) (r2 : K .TAB_STATUS) (r3 : K .TAB_EVENT) (p1 : P .irq) (p2 : P .buf) (p3 : P .tab) (p4 : P .out) : outside K P (State.tabReset s) = outside K P s :=
  by unfold State.tabReset; simp [*, outside_foldl]
theorem outside_execTaborLinkDown (s : State) (r1 : K .TAB_STATUS) (r2 : K .TAB_EVENT) (p1 : P .irq) (p2 : P .tab) (p3 : P .out) : ∀ u, execTaborLinkDown s = .next u → outside K P u = outside K P s :=
  by intro u h; unfold execTaborLinkDown at h; cases h; simp [*]
theorem outside_execCreditLost (s : State) (r1 : K .TAB_EVENT) (p1 : P .irq) (p2 : P .tab) (p3 : P .out) : ∀ u, execCreditLost s = .next u → outside K P u = outside K P s :=
  by intro u h; unfold execCreditLost at h; cases h; simp [*]
theorem outside_execTaborRefLost (s : State) (r1 : K .TAB_STATUS) (r2 : K .TAB_EVENT) (p1 : P .irq) (p2 : P .tab) (p3 : P .out) : ∀ u, execTaborRefLost s = .next u → outside K P u = outside K P s :=
  by intro u h; unfold execTaborRefLost at h; cases h; simp [*]
@[simp] theorem outside_setBuf (s : State) (b : Buffer) (p1 : P .buf) : outside K P (State.setBuf s b) = outside K P s :=
  by unfold State.setBuf; simp [*]
@[simp] theorem outside_setQueue (s : State) (q : Nat) (l : List Frame) (p1 : P .buf) (p2 : P .sch) : outside K P (State.setQueue s q l) = outside K P s :=
  by unfold State.setQueue; split <;> simp [*]
@[simp] theorem outside_queuesWithout (s : State) (bad : Frame → Bool) (p1 : P .buf) (p2 : P .sch) : outside K P (State.queuesWithout s bad) = outside K P s :=
  by unfold State.queuesWithout; simp [*, outside_foldl]
@[simp] theorem outside_setSnare (s : State) (sid : Nat) (n : Snare) (p1 : P .buf) : outside K P (State.setSnare s sid n) = outside K P s :=
  by unfold State.setSnare; simp [*]
@[simp] theorem outside_writeCells (s : State) (port : Nat) (n : Nat) (p1 : P .buf) : outside K P (State.writeCells s port n).2 = outside K P s :=
  by unfold State.writeCells; dsimp only; split <;> simp [*]
@[simp] theorem outside_pauseSync (s : State) (ch : Nat) (r1 : K .SWC_CH_STATUS) (p1 : P .out) : outside K P (State.pauseSync s ch) = outside K P s :=
  by unfold State.pauseSync; simp [*]
theorem outside_execPauseRepeat (ch : Nat) (s : State) (p1 : P .out) : ∀ u, execPauseRepeat ch s = .next u → outside K P u = outside K P s :=
  by intro u h; unfold execPauseRepeat at h; cases h; simp [*]
theorem outside_execPauseReceived (ch : Nat) (quanta : Nat) (s : State) (p1 : P .buf) : ∀ u, execPauseReceived ch quanta s = .next u → outside K P u = outside K P s :=
  by intro u h; unfold execPauseReceived at h; cases h; simp [*]
theorem outside_execPauseExpiry (ch : Nat) (s : State) (p1 : P .buf) : ∀ u, execPauseExpiry ch s = .next u → outside K P u = outside K P s :=
  fun _ h => outside_next h (by simp [*])
@[simp] theorem outside_copyCell (s : State) (f : Frame) (p1 : P .buf) : outside K P (State.copyCell s f).2 = outside K P s :=
  by unfold State.copyCell; split <;> simp [*]
@[simp] theorem outside_snareOne (s : State) (sid : Nat) (p : Frame × Option Nat) (r1 : K .SWC_SNR_LOST) (p1 : P .buf) (p2 : P .free) : outside K P (State.snareOne s sid p).1 = outside K P s :=
  by unfold State.snareOne; simp only []; (repeat' split) <;> simp [*]
@[simp] theorem outside_snareAll (s : State) (f : Frame) (code : Option Nat) (r1 : K .SWC_SNR_LOST) (p1 : P .buf) (p2 : P .free) : outside K P (State.snareAll s f code).1 = outside K P s :=
  by
  unfold State.snareAll
  generalize List.range 8 = l
  suffices h : ∀ r : State × Frame, outside K P (l.foldl (fun (r : State × Frame) sid => r.1.snareOne sid (r.2, code)) r).1 = outside K P r.1 from h (s, f)
  induction l with
  | nil => intro r; rfl
  | cons a l ih => intro r; exact (ih _).trans (by simp [*])
@[simp] theorem outside_discarded (s : State) (f : Frame) (ch : Nat) (code : Nat) (reason : Nat) (r1 : K .SWC_SNR_LOST) (r2 : K .HIF_CQ_PROD) (r3 : K .CNT_EVENT) (r4 : K .CNT_PROG_SEL) (p1 : P .irq) (p2 : P .cnt) (p3 : P .buf) (p4 : P .hif) (p5 : P .out) (p6 : P .free) : outside K P (State.discarded s f ch code reason) = outside K P s :=
  by unfold State.discarded; simp [*]
@[simp] theorem outside_quietDrop (s : State) (f : Frame) (reason : Nat) (r1 : K .HIF_CQ_PROD) (r2 : K .CNT_EVENT) (p1 : P .irq) (p2 : P .cnt) (p3 : P .hif) (p4 : P .out) : outside K P (State.quietDrop s f reason) = outside K P s :=
  by unfold State.quietDrop; simp [*]
@[simp] theorem outside_queueDrop (s : State) (f : Frame) (c : QCnt) (code : Nat) (r1 : K .SWC_SNR_LOST) (r2 : K .HIF_CQ_PROD) (r3 : K .CNT_EVENT) (r4 : K .CNT_PROG_SEL) (p1 : P .irq) (p2 : P .cnt) (p3 : P .buf) (p4 : P .hif) (p5 : P .out) (p6 : P .free) : outside K P (State.queueDrop s f c code) = outside K P s :=
  by unfold State.queueDrop; simp [*]
@[simp] theorem outside_enqueue (s : State) (f : Frame) (r1 : K .SWC_SNR_LOST) (r2 : K .SWC_CH_STATUS) (p1 : P .cnt) (p2 : P .buf) (p3 : P .sch) (p4 : P .out) (p5 : P .free) : outside K P (State.enqueue s f) = outside K P s :=
  by unfold State.enqueue; simp [*]
@[simp] theorem outside_offer (s : State) (f : Frame) (r1 : K .SWC_SNR_LOST) (r2 : K .SWC_CH_STATUS) (r3 : K .HIF_CQ_PROD) (r4 : K .CNT_EVENT) (r5 : K .CNT_PROG_SEL) (p1 : P .irq) (p2 : P .cnt) (p3 : P .buf) (p4 : P .sch) (p5 : P .hif) (p6 : P .out) (p7 : P .free) : outside K P (State.offer s f) = outside K P s :=
  by unfold State.offer; split <;> simp [*]
@[simp] theorem outside_flush (s : State) (q : Nat) (p : Frame → Bool) (c : QCnt) (code : Nat) (r1 : K .SWC_SNR_LOST) (r2 : K .SWC_CH_STATUS) (r3 : K .HIF_CQ_PROD) (r4 : K .CNT_EVENT) (r5 : K .CNT_PROG_SEL) (p1 : P .irq) (p2 : P .cnt) (p3 : P .buf) (p4 : P .sch) (p5 : P .hif) (p6 : P .out) (p7 : P .free) : outside K P (State.flush s q p c code) = outside K P s :=
  by unfold State.flush; simp [*, outside_foldl]
theorem outside_execHoldTimerExpiry (q : Nat) (s : State) (r1 : K .SWC_SNR_LOST) (r2 : K .SWC_CH_STATUS) (r3 : K .SWC_Q_STATUS) (r4 : K .HIF_CQ_PROD) (r5 : K .CNT_EVENT) (r6 : K .CNT_PROG_SEL) (p1 : P .irq) (p2 : P .cnt) (p3 : P .buf) (p4 : P .sch) (p5 : P .hif) (p6 : P .out) (p7 : P .free) : ∀ u, execHoldTimerExpiry q s = .next u → outside K P u = outside K P s :=
  by intro u h; unfold execHoldTimerExpiry at h; cases h; simp [*]
@[simp] theorem outside_queuesDown (s : State) (ch : Nat) (r1 : K .SWC_SNR_LOST) (r2 : K .SWC_CH_STATUS) (r3 : K .SWC_Q_STATUS) (r4 : K .HIF_CQ_PROD) (r5 : K .CNT_EVENT) (r6 : K .CNT_PROG_SEL) (p1 : P .irq) (p2 : P .cnt) (p3 : P .buf) (p4 : P .sch) (p5 : P .hif) (p6 : P .out) (p7 : P .free) : outside K P (State.queuesDown s ch) = outside K P s :=
  by unfold State.queuesDown; simp [*, outside_foldl]
@[simp] theorem outside_queuesUp (s : State) (ch : Nat) (r1 : K .SWC_Q_STATUS) : outside K P (State.queuesUp s ch) = outside K P s :=
  by unfold State.queuesUp; simp [*, outside_foldl]
@[simp] theorem outside_snrAdvance (s : State) (len : Nat) (r1 : K .SWC_SNR_PROD) : outside K P (State.snrAdvance s len) = outside K P s :=
  by unfold State.snrAdvance; simp [*]
@[simp] theorem outside_snrWrite (s : State) (r : Bytes) (r1 : K .SWC_SNR_PROD) (p1 : P .out) : outside K P (State.snrWrite s r) = outside K P s :=
  by unfold State.snrWrite; simp [*]
@[simp] theorem outside_snrDeliver (s : State) (sid : Nat) (tIn : Option Nat) (r : Bytes) (r1 : K .SWC_SNR_PROD) (r2 : K .SWC_SNR_LOST) (r3 : K .TAB_STATUS) (r4 : K .JNL_DISCARDED) (p1 : P .buf) (p2 : P .tab) (p3 : P .jnl) (p4 : P .out) : outside K P (State.snrDeliver s sid tIn r) = outside K P s :=
  by unfold State.snrDeliver; simp [*]
@[simp] theorem outside_snareRecordWrite (s : State) (r1 : K .SWC_SNR_PROD) (r2 : K .SWC_SNR_LOST) (r3 : K .TAB_STATUS) (r4 : K .JNL_DISCARDED) (p1 : P .buf) (p2 : P .tab) (p3 : P .jnl) (p4 : P .out) : outside K P (State.snareRecordWrite s) = outside K P s :=
  by unfold State.snareRecordWrite; simp only []; (repeat' split) <;> simp [*]
theorem outside_execSnareRecordWrite (s : State) (r1 : K .SWC_SNR_PROD) (r2 : K .SWC_SNR_LOST) (r3 : K .TAB_STATUS) (r4 : K .JNL_DISCARDED) (p1 : P .buf) (p2 : P .tab) (p3 : P .jnl) (p4 : P .out) : ∀ u, execSnareRecordWrite s = .next u → outside K P u = outside K P s :=
  by intro u h; unfold execSnareRecordWrite at h; cases h; simp [*]
theorem outside_execSnareRingResize (who : Nat) (log2 : Nat) (s : State) (r1 : K .SWC_STATUS) (r2 : K .SWC_SNR_SIZE) (r3 : K .SWC_SNR_PROD) (r4 : K .SWC_SNR_CONS) (r5 : K .VF_STATUS) : ∀ u, execSnareRingResize who log2 s = .next u → outside K P u = outside K P s :=
  by intro u h; unfold execSnareRingResize at h; cases h; simp [*]
@[simp] theorem outside_setTwn (s : State) (t : TwinUnit) (p1 : P .twn) : outside K P (State.setTwn s t) = outside K P s :=
  by unfold State.setTwn; simp [*]
@[simp] theorem outside_discardUncoded (s : State) (f : Frame) (ch : Nat) (r1 : K .SWC_SNR_LOST) (r2 : K .HIF_CQ_PROD) (r3 : K .CNT_EVENT) (r4 : K .CNT_PROG_SEL) (p1 : P .irq) (p2 : P .cnt) (p3 : P .buf) (p4 : P .hif) (p5 : P .out) (p6 : P .free) : outside K P (State.discardUncoded s f ch) = outside K P s :=
  by unfold State.discardUncoded; simp [*]
@[simp] theorem outside_stage5 (s : State) (f : Frame) (r1 : K .SWC_SNR_LOST) (r2 : K .SWC_CH_STATUS) (r3 : K .SCH_EVENT) (r4 : K .HIF_CQ_PROD) (r5 : K .CNT_EVENT) (r6 : K .CNT_PROG_SEL) (p1 : P .irq) (p2 : P .cnt) (p3 : P .buf) (p4 : P .sch) (p5 : P .hif) (p6 : P .out) (p7 : P .free) : outside K P (State.stage5 s f) = outside K P s :=
  by unfold State.stage5; simp [*]
@[simp] theorem outside_setGrp (s : State) (g : Nat) (v : FlexGrp) (p1 : P .flx) : outside K P (State.setGrp s g v) = outside K P s :=
  by unfold State.setGrp; simp [*]
@[simp] theorem outside_setInst (s : State) (i : Nat) (v : FlexInst) (p1 : P .flx) : outside K P (State.setInst s i v) = outside K P s :=
  by unfold State.setInst; simp [*]
@[simp] theorem outside_flexPost (s : State) (g : Nat) (k : Nat) (is : List Nat) (r1 : K .FLX_GRP_EVENT) (p1 : P .irq) (p2 : P .flx) (p3 : P .out) : outside K P (State.flexPost s g k is) = outside K P s :=
  by unfold State.flexPost; simp [*, outside_foldl]
@[simp] theorem outside_setCli (s : State) (ch : Nat) (v : FlexCli) (p1 : P .flx) : outside K P (State.setCli s ch v) = outside K P s :=
  by unfold State.setCli; simp [*]
@[simp] theorem outside_cliRx (s : State) (ch : Nat) (len : Nat) (p1 : P .flx) : outside K P (State.cliRx s ch len) = outside K P s :=
  by unfold State.cliRx; simp [*]
@[simp] theorem outside_cliErr (s : State) (ch : Nat) (len : Nat) (p1 : P .flx) : outside K P (State.cliErr s ch len) = outside K P s :=
  by unfold State.cliErr; simp [*]
@[simp] theorem outside_cliTx (s : State) (ch : Nat) (len : Nat) (p1 : P .flx) : outside K P (State.cliTx s ch len) = outside K P s :=
  by unfold State.cliTx; simp [*]
@[simp] theorem outside_sourceLookup (s : State) (ch : Nat) (l : Option Lookup) (p1 : P .tbl) : outside K P (State.sourceLookup s ch l).state = outside K P s := by
  unfold State.sourceLookup; dsimp only; (repeat' split) <;> simp [*]
@[simp] theorem outside_inputOf (s : State) (g : Image) (ch : Nat) (p1 : P .buf) : outside K P (State.inputOf s g ch).2 = outside K P s :=
  by unfold State.inputOf; simp [*]
@[simp] theorem outside_stage4Drop (s : State) (f : Frame) (code : Nat) (cnt : Option ChCnt) (sc : Option (Nat × ScCnt)) (r1 : K .SWC_SNR_LOST) (r2 : K .HIF_CQ_PROD) (r3 : K .CNT_EVENT) (r4 : K .CNT_PROG_SEL) (p1 : P .irq) (p2 : P .cnt) (p3 : P .buf) (p4 : P .hif) (p5 : P .out) (p6 : P .free) : outside K P (State.stage4Drop s f code cnt sc) = outside K P s :=
  by unfold State.stage4Drop; simp only []; (repeat' split) <;> simp [*]
@[simp] theorem outside_storeLook (s : State) (f : Frame) (r1 : K .SWC_SNR_LOST) (r2 : K .SWC_CH_STATUS) (r3 : K .SCH_EVENT) (r4 : K .HIF_CQ_PROD) (r5 : K .CNT_EVENT) (r6 : K .CNT_PROG_SEL) (p1 : P .irq) (p2 : P .cnt) (p3 : P .buf) (p4 : P .sch) (p5 : P .sam) (p6 : P .hif) (p7 : P .out) (p8 : P .free) : outside K P (State.storeLook s f) = outside K P s :=
  by unfold State.storeLook; dsimp only; (repeat' split) <;> simp [*]
@[simp] theorem outside_parse (s : State) (g : Image) (ch : Nat) (f : Frame) (r1 : K .TBL_EVENT) (r2 : K .SWC_SNR_LOST) (r3 : K .SWC_CH_STATUS) (r4 : K .SCH_EVENT) (r5 : K .HIF_CQ_PROD) (r6 : K .CNT_EVENT) (r7 : K .CNT_PROG_SEL) (p1 : P .irq) (p2 : P .cnt) (p3 : P .tbl) (p4 : P .buf) (p5 : P .sch) (p6 : P .sam) (p7 : P .hif) (p8 : P .out) (p9 : P .free) : outside K P (State.parse s g ch f) = outside K P s :=
  by unfold State.parse; dsimp only; (repeat' split) <;> simp [*, outside_foldl]
@[simp] theorem outside_newId (s : State) (p1 : P .buf) : outside K P (State.newId s).2 = outside K P s :=
  by unfold State.newId; simp [*]
@[simp] theorem outside_macErrors (s : State) (ch : Nat) (f : RxFrame) (r1 : K .PRT_EP_EVENT) (p1 : P .irq) (p2 : P .out) : outside K P (State.macErrors s ch f) = outside K P s :=
  by unfold State.macErrors; simp [*]
@[simp] theorem outside_rxError (s : State) (ch : Nat) (r1 : K .CNT_EVENT) (r2 : K .CNT_PROG_SEL) (p1 : P .irq) (p2 : P .cnt) (p3 : P .out) : outside K P (State.rxError s ch) = outside K P s :=
  by unfold State.rxError; simp [*]
@[simp] theorem outside_macReceive (s : State) (g : Image) (ch : Nat) (f : RxFrame) (r1 : K .PRT_EP_EVENT) (r2 : K .TBL_EVENT) (r3 : K .SWC_SNR_LOST) (r4 : K .SWC_CH_STATUS) (r5 : K .SCH_EVENT) (r6 : K .HIF_CQ_PROD) (r7 : K .CNT_EVENT) (r8 : K .CNT_PROG_SEL) (p1 : P .irq) (p2 : P .cnt) (p3 : P .tbl) (p4 : P .buf) (p5 : P .sch) (p6 : P .sam) (p7 : P .hif) (p8 : P .out) (p9 : P .free) : outside K P (State.macReceive s g ch f) = outside K P s :=
  by unfold State.macReceive; simp [*]
@[simp] theorem outside_transitFrame (s : State) (g : Image) (ch : Nat) (c : FlexClient) (f : RxFrame) (p1 : P .flx) (p2 : P .out) : outside K P (State.transitFrame s g ch c f) = outside K P s :=
  by unfold State.transitFrame; dsimp only; (repeat' split) <;> simp [*]
@[simp] theorem outside_clientReceive (s : State) (g : Image) (gr : FlexGroup) (c : FlexClient) (f : RxFrame) (r1 : K .PRT_EP_EVENT) (r2 : K .TBL_EVENT) (r3 : K .SWC_SNR_LOST) (r4 : K .SWC_CH_STATUS) (r5 : K .SCH_EVENT) (r6 : K .HIF_CQ_PROD) (r7 : K .CNT_EVENT) (r8 : K .CNT_PROG_SEL) (p1 : P .irq) (p2 : P .cnt) (p3 : P .flx) (p4 : P .tbl) (p5 : P .buf) (p6 : P .sch) (p7 : P .sam) (p8 : P .hif) (p9 : P .out) (p10 : P .free) : outside K P (State.clientReceive s g gr c f) = outside K P s :=
  by unfold State.clientReceive; simp [*]
@[simp] theorem outside_frameReceived (s : State) (ch : Nat) (f : RxFrame) (r1 : K .PRT_EP_EVENT) (r2 : K .TBL_EVENT) (r3 : K .SWC_SNR_LOST) (r4 : K .SWC_CH_STATUS) (r5 : K .SCH_EVENT) (r6 : K .HIF_CQ_PROD) (r7 : K .CNT_EVENT) (r8 : K .CNT_PROG_SEL) (p1 : P .irq) (p2 : P .cnt) (p3 : P .flx) (p4 : P .tbl) (p5 : P .buf) (p6 : P .sch) (p7 : P .sam) (p8 : P .hif) (p9 : P .out) (p10 : P .free) : outside K P (State.frameReceived s ch f) = outside K P s :=
  by unfold State.frameReceived; (repeat' split) <;> simp [*]
theorem outside_execFrameReceived (ch : Nat) (f : RxFrame) (s : State) (r1 : K .PRT_EP_EVENT) (r2 : K .TBL_EVENT) (r3 : K .SWC_SNR_LOST) (r4 : K .SWC_CH_STATUS) (r5 : K .SCH_EVENT) (r6 : K .HIF_CQ_PROD) (r7 : K .CNT_EVENT) (r8 : K .CNT_PROG_SEL) (p1 : P .irq) (p2 : P .cnt) (p3 : P .flx) (p4 : P .tbl) (p5 : P .buf) (p6 : P .sch) (p7 : P .sam) (p8 : P .hif) (p9 : P .out) (p10 : P .free) : ∀ u, execFrameReceived ch f s = .next u → outside K P u = outside K P s :=
  by intro u h; unfold execFrameReceived at h; cases h; simp [*]
@[simp] theorem outside_setSch (s : State) (x : Sched) (p1 : P .sch) : outside K P (State.setSch s x) = outside K P s :=
  by unfold State.setSch; simp [*]
@[simp] theorem outside_setGate (s : State) (ch : Nat) (g : Gate) (p1 : P .sch) : outside K P (State.setGate s ch g) = outside K P s :=
  by unfold State.setGate; simp [*]
theorem outside_execGateEvent (ch : Nat) (s : State) (r1 : K .SCH_EVENT) (p1 : P .irq) (p2 : P .sch) (p3 : P .out) : ∀ u, execGateEvent ch s = .next u → outside K P u = outside K P s :=
  by intro u h; unfold execGateEvent at h; dsimp only at h; (repeat' split at h) <;> (try cases h) <;> (repeat' split) <;> simp [*, outside_foldl]
@[simp] theorem outside_gateEn (s : State) (ch : Nat) (en : Bool) (r1 : K .SCH_CH_CFG) (p1 : P .sch) : outside K P (State.gateEn s ch en) = outside K P s :=
  by unfold State.gateEn; simp [*]
theorem outside_execGateEnWrite (who : Nat) (ch : Nat) (en : Bool) (s : State) (r1 : K .SCH_STATUS) (r2 : K .SCH_CH_CFG) (r3 : K .VF_STATUS) (p1 : P .sch) : ∀ u, execGateEnWrite who ch en s = .next u → outside K P u = outside K P s :=
  by intro u h; unfold execGateEnWrite at h; cases h; simp [*]
@[simp] theorem outside_setHorizon (s : State) (ch : Nat) (h : Nat) (p1 : P .sch) : outside K P (State.setHorizon s ch h) = outside K P s :=
  by unfold State.setHorizon; simp [*]
@[simp] theorem outside_setTokens (s : State) (k : Nat) (v : Int) (p1 : P .sch) : outside K P (State.setTokens s k v) = outside K P s :=
  by unfold State.setTokens; simp [*]
@[simp] theorem outside_debit (s : State) (q : Nat) (len : Nat) (p1 : P .sch) : outside K P (State.debit s q len) = outside K P s :=
  by unfold State.debit; simp [*, outside_foldl]
@[simp] theorem outside_refill (s : State) (k : Nat) (p1 : P .sch) : outside K P (State.refill s k) = outside K P s :=
  by unfold State.refill; simp [*]
theorem outside_execShaperRefill (s : State) (p1 : P .sch) : ∀ u, execShaperRefill s = .next u → outside K P u = outside K P s :=
  by
  intro u h
  refine outside_next h ?_
  exact outside_foldl _ (by simp [*]) _ _
@[simp] theorem outside_pShaperReset (s : State) (p : Nat) (p1 : P .sch) : outside K P (State.pShaperReset s p) = outside K P s :=
  by unfold State.pShaperReset; simp [*]
@[simp] theorem outside_clip (s : State) (k : FKey) (limit : Nat) (hk : K k.reg) (r1 : K .PEL_STATUS) : outside K P (State.clip s k limit) = outside K P s :=
  by unfold State.clip; simp [*]
@[simp] theorem outside_clipChannel (s : State) (g : Image) (ch : Nat) (r1 : K .PEL_STATUS) (r2 : K .PRT_EP_CFG) (r3 : K .SCH_P_RATE) (r4 : K .SCH_CH_RATE) (r5 : K .SCH_Q_RATE) : outside K P (State.clipChannel s g ch) = outside K P s :=
  by unfold State.clipChannel; dsimp only; (repeat' split) <;> simp [*, outside_foldl]
theorem outside_execProtShaperWrite (who : Nat) (shaper : Nat) (burst : Bool) (val : Nat) (s : State) (r1 : K .SCH_STATUS) (r2 : K .SCH_P_RATE) (r3 : K .SCH_P_BURST) (r4 : K .VF_STATUS) (p1 : P .sch) : ∀ u, execProtShaperWrite who shaper burst val s = .next u → outside K P u = outside K P s :=
  by intro u h; unfold execProtShaperWrite at h; cases h; simp [*]
@[simp] theorem outside_voidDrop (s : State) (f : Frame) (dest : Nat) (r1 : K .SWC_SNR_LOST) (r2 : K .HIF_CQ_PROD) (r3 : K .CNT_EVENT) (r4 : K .CNT_PROG_SEL) (p1 : P .irq) (p2 : P .cnt) (p3 : P .buf) (p4 : P .hif) (p5 : P .out) (p6 : P .free) : outside K P (State.voidDrop s f dest) = outside K P s :=
  by unfold State.voidDrop; (repeat' split) <;> simp [*]
@[simp] theorem outside_headDrop (s : State) (f : Frame) (h : HeadFate) (r1 : K .SWC_SNR_LOST) (r2 : K .SCH_EVENT) (r3 : K .HIF_CQ_PROD) (r4 : K .CNT_EVENT) (r5 : K .CNT_PROG_SEL) (p1 : P .irq) (p2 : P .cnt) (p3 : P .buf) (p4 : P .hif) (p5 : P .out) (p6 : P .free) : outside K P (State.headDrop s f h) = outside K P s :=
  by unfold State.headDrop; split <;> simp [*]
@[simp] theorem outside_popQueue (s : State) (q : Nat) (p1 : P .buf) (p2 : P .sch) : outside K P (State.popQueue s q) = outside K P s :=
  by unfold State.popQueue; simp [*]
@[simp] theorem outside_settle (x1 : Nat) (x2 : State) (x3 : Nat) (r1 : K .SWC_SNR_LOST) (r2 : K .SWC_CH_STATUS) (r3 : K .SCH_EVENT) (r4 : K .HIF_CQ_PROD) (r5 : K .CNT_EVENT) (r6 : K .CNT_PROG_SEL) (p1 : P .irq) (p2 : P .cnt) (p3 : P .buf) (p4 : P .sch) (p5 : P .hif) (p6 : P .out) (p7 : P .free) : outside K P (State.settle x1 x2 x3) = outside K P x2 :=
  by induction x1 generalizing x2 with | zero => rfl | succ n ih => unfold State.settle; (repeat' split) <;> simp [*, ih]
@[simp] theorem outside_settleAll (s : State) (r1 : K .SWC_SNR_LOST) (r2 : K .SWC_CH_STATUS) (r3 : K .SCH_EVENT) (r4 : K .HIF_CQ_PROD) (r5 : K .CNT_EVENT) (r6 : K .CNT_PROG_SEL) (p1 : P .irq) (p2 : P .cnt) (p3 : P .buf) (p4 : P .sch) (p5 : P .hif) (p6 : P .out) (p7 : P .free) : outside K P (State.settleAll s) = outside K P s :=
  by unfold State.settleAll; simp [*, outside_foldl]
@[simp] theorem outside_movePointers (s : State) (ms : List Request) (p1 : P .buf) : outside K P (State.movePointers s ms) = outside K P s :=
  by unfold State.movePointers; simp [*, outside_foldl]
@[simp] theorem outside_takeFirst (s : State) (o : Nat) (ch : Nat) (p : Pick) (p1 : P .buf) (p2 : P .sch) : outside K P (State.takeFirst s o ch p) = outside K P s :=
  by unfold State.takeFirst; simp only []; (repeat' split) <;> simp [*]
@[simp] theorem outside_recirculate (s : State) (f : Frame) (r1 : K .TBL_EVENT) (r2 : K .SWC_SNR_LOST) (r3 : K .SWC_CH_STATUS) (r4 : K .SCH_EVENT) (r5 : K .HIF_CQ_PROD) (r6 : K .CNT_EVENT) (r7 : K .CNT_PROG_SEL) (p1 : P .irq) (p2 : P .cnt) (p3 : P .tbl) (p4 : P .buf) (p5 : P .sch) (p6 : P .sam) (p7 : P .hif) (p8 : P .out) (p9 : P .free) : outside K P (State.recirculate s f) = outside K P s :=
  by unfold State.recirculate; dsimp only; (repeat' split) <;> simp [*]
@[simp] theorem outside_takeInternal (s : State) (o : Nat) (k : Nat) (input : Nat) (r1 : K .TBL_EVENT) (r2 : K .SWC_SNR_LOST) (r3 : K .SWC_CH_STATUS) (r4 : K .SCH_EVENT) (r5 : K .HIF_CQ_PROD) (r6 : K .CNT_EVENT) (r7 : K .CNT_PROG_SEL) (p1 : P .irq) (p2 : P .cnt) (p3 : P .tbl) (p4 : P .buf) (p5 : P .sch) (p6 : P .sam) (p7 : P .twn) (p8 : P .hif) (p9 : P .out) (p10 : P .free) : outside K P (State.takeInternal s o k input) = outside K P s :=
  by unfold State.takeInternal; dsimp only; (repeat' split) <;> simp [*]
@[simp] theorem outside_takeCell (s : State) (sel : List (Nat × Pick × Nat)) (r : Request) (r1 : K .TBL_EVENT) (r2 : K .SWC_SNR_LOST) (r3 : K .SWC_CH_STATUS) (r4 : K .SCH_EVENT) (r5 : K .HIF_CQ_PROD) (r6 : K .CNT_EVENT) (r7 : K .CNT_PROG_SEL) (p1 : P .irq) (p2 : P .cnt) (p3 : P .tbl) (p4 : P .buf) (p5 : P .sch) (p6 : P .sam) (p7 : P .twn) (p8 : P .hif) (p9 : P .out) (p10 : P .free) : outside K P (State.takeCell s sel r) = outside K P s :=
  by unfold State.takeCell; simp only []; (repeat' split) <;> simp [*]
@[simp] theorem outside_match' (s : State) (r1 : K .TBL_EVENT) (r2 : K .SWC_SNR_LOST) (r3 : K .SWC_CH_STATUS) (r4 : K .SCH_EVENT) (r5 : K .HIF_CQ_PROD) (r6 : K .CNT_EVENT) (r7 : K .CNT_PROG_SEL) (p1 : P .irq) (p2 : P .cnt) (p3 : P .tbl) (p4 : P .buf) (p5 : P .sch) (p6 : P .sam) (p7 : P .twn) (p8 : P .hif) (p9 : P .out) (p10 : P .free) : outside K P (State.match' s) = outside K P s :=
  by unfold State.match'; simp [*, outside_foldl]
theorem outside_execSchedulerMatch (s : State) (r1 : K .TBL_EVENT) (r2 : K .SWC_SNR_LOST) (r3 : K .SWC_CH_STATUS) (r4 : K .SCH_EVENT) (r5 : K .HIF_CQ_PROD) (r6 : K .CNT_EVENT) (r7 : K .CNT_PROG_SEL) (p1 : P .irq) (p2 : P .cnt) (p3 : P .tbl) (p4 : P .buf) (p5 : P .sch) (p6 : P .sam) (p7 : P .twn) (p8 : P .hif) (p9 : P .out) (p10 : P .free) : ∀ u, execSchedulerMatch s = .next u → outside K P u = outside K P s :=
  by
  intro u h
  refine outside_next h ?_
  simp [*]
@[simp] theorem outside_dupCheck (s : State) (ctx : Nat) (t : Nat × Nat × Nat) (r1 : K .SEQ_DUP_SMAX) (r2 : K .SEQ_DUP_STATUS) (p1 : P .pool) : outside K P (State.dupCheck s ctx t).1 = outside K P s :=
  by unfold State.dupCheck; simp only []; (repeat' split) <;> simp [*]
@[simp] theorem outside_setPool (s : State) (p : Pool) (p1 : P .pool) : outside K P (State.setPool s p) = outside K P s :=
  by unfold State.setPool; simp [*]
@[simp] theorem outside_stallCycles (s : State) (n : Nat) (r1 : K .SEQ_PORT_STALL) (r2 : K .CNT_EVENT) (r3 : K .CNT_PROG_SEL) (p1 : P .irq) (p2 : P .cnt) (p3 : P .out) : outside K P (State.stallCycles s n) = outside K P s :=
  by unfold State.stallCycles; simp [*, outside_foldl]
@[simp] theorem outside_tick (s : State) (r1 : K .SEQ_PORT_STALL) (r2 : K .CNT_EVENT) (r3 : K .CNT_PROG_SEL) (p1 : P .irq) (p2 : P .tim) (p3 : P .cnt) (p4 : P .out) : outside K P (State.tick s) = outside K P s :=
  by unfold State.tick; simp [*]
@[simp] theorem outside_cacheKey (s : State) (e : Nat) (a : Nat) (p1 : P .pool) : outside K P (State.cacheKey s e a) = outside K P s :=
  by unfold State.cacheKey; simp [*]
@[simp] theorem outside_serviceChanged (s : State) (r1 : K .DRM_EVENT) (p1 : P .irq) (p2 : P .out) : outside K P (State.serviceChanged s) = outside K P s :=
  by unfold State.serviceChanged; simp [*]
@[simp] theorem outside_poolStrike (s : State) (was : State) (r1 : K .DRM_EVENT) (p1 : P .irq) (p2 : P .out) : outside K P (State.poolStrike s was) = outside K P s :=
  by unfold State.poolStrike; simp [*]
@[simp] theorem outside_setSlot' (s : State) (t : Slot) (p1 : P .pool) : outside K P (State.setSlot' s t) = outside K P s :=
  by unfold State.setSlot'; simp [*]
@[simp] theorem outside_freeSlot (s : State) (t : Slot) (p1 : P .pool) : outside K P (State.freeSlot s t) = outside K P s :=
  by unfold State.freeSlot; simp [*]
@[simp] theorem outside_skipDropped (x1 : Nat) (x2 : State) (x3 : Nat) (r1 : K .SEQ_CH_DSN) (p1 : P .pool) : outside K P (State.skipDropped x1 x2 x3) = outside K P x2 :=
  by induction x1 generalizing x2 with | zero => rfl | succ n ih => unfold State.skipDropped; (repeat' split) <;> simp [*, ih]
@[simp] theorem outside_slotDone (s : State) (t : Slot) (r1 : K .SWC_CH_STATUS) (r2 : K .SEQ_CH_DSN) (p1 : P .pool) (p2 : P .out) : outside K P (State.slotDone s t) = outside K P s :=
  by unfold State.slotDone; simp [*]
@[simp] theorem outside_blockWait (s : State) (a : Nat) (r1 : K .SAM_EVENT) (r2 : K .SAM_EVQ_LOST) (p1 : P .irq) (p2 : P .cnt) (p3 : P .sam) (p4 : P .out) : outside K P (State.blockWait s a) = outside K P s :=
  by unfold State.blockWait; simp [*]
theorem outside_txGate (s : State) (k : Nat) (r1 : K .SAM_EVENT) (r2 : K .SAM_EVQ_LOST) (p1 : P .irq) (p2 : P .cnt) (p3 : P .sam) (p4 : P .twn) (p5 : P .out) : fateOutside K P s (State.txGate s k) := by
  have h : outside K P (if s.rollDue k then s.rollFire k else s) = outside K P s := by simp [*]
  unfold State.txGate; dsimp only
  generalize (if s.rollDue k = true then s.rollFire k else s) = s' at h
  (repeat' split) <;> simp [*, fateOutside]
@[simp] theorem outside_takePn (s : State) (k : Nat) (a : Nat) (r1 : K .SAM_EVENT) (r2 : K .SAM_EVQ_LOST) (p1 : P .irq) (p2 : P .cnt) (p3 : P .sam) (p4 : P .twn) (p5 : P .out) : outside K P (State.takePn s k a).2 = outside K P s :=
  by unfold State.takePn; simp [*]
@[simp] theorem outside_dualCopy (s : State) (k : Nat) (st : TwinStream) (seq : Nat) (f : Frame) (r1 : K .TWN_EVENT) (p1 : P .irq) (p2 : P .cnt) (p3 : P .buf) (p4 : P .sch) (p5 : P .out) : outside K P (State.dualCopy s k st seq f) = outside K P s :=
  by unfold State.dualCopy; simp [*]
@[simp] theorem outside_twinTag (s : State) (k : Nat) (f : Frame) (kept : Option Nat) (r1 : K .TWN_EVENT) (r2 : K .TWN_STR_SEQ) (r3 : K .TWN_STR_LAST) (p1 : P .irq) (p2 : P .cnt) (p3 : P .buf) (p4 : P .sch) (p5 : P .out) (p6 : P .free) : outside K P (State.twinTag s k f kept).1 = outside K P s :=
  by
  unfold State.twinTag
  split
  · rfl
  · split
    · dsimp only
      split
      · rfl
      · simp [*]
      · split <;> simp [*]
    · split
      · rfl
      · simp [*]
@[simp] theorem outside_process (s : State) (t : Slot) (e : Nat) (r1 : K .SAM_EVENT) (r2 : K .SAM_EVQ_LOST) (r3 : K .TWN_EVENT) (r4 : K .TWN_STR_SEQ) (r5 : K .TWN_STR_LAST) (p1 : P .irq) (p2 : P .cnt) (p3 : P .buf) (p4 : P .sch) (p5 : P .pool) (p6 : P .sam) (p7 : P .twn) (p8 : P .out) (p9 : P .free) : outside K P (State.process s t e).1 = outside K P s :=
  by
  unfold State.process
  dsimp only
  split
  · simp [*]
  · simp [*]
  · rfl
@[simp] theorem outside_holdBack (s : State) (q : Nat) (f : Frame) (p1 : P .buf) (p2 : P .sch) : outside K P (State.holdBack s q f) = outside K P s :=
  by unfold State.holdBack; simp only []; (repeat' split) <;> simp [*]
theorem outside_frameGate (s : State) (f : Frame) (r1 : K .SAM_EVENT) (r2 : K .SAM_EVQ_LOST) (p1 : P .irq) (p2 : P .cnt) (p3 : P .sam) (p4 : P .twn) (p5 : P .out) : fateOutside K P s (State.frameGate s f) := by
  unfold State.frameGate; (repeat' split) <;> simp [*, fateOutside] <;> (apply outside_txGate <;> assumption)
@[simp] theorem outside_dispatched (s : State) (f : Frame) (p1 : P .cnt) (p2 : P .sch) : outside K P (State.dispatched s f) = outside K P s :=
  by unfold State.dispatched; simp [*]
@[simp] theorem outside_noteDispatch (s : State) (t : Slot) (r1 : K .CNT_EVENT) (r2 : K .CNT_PROG_SEL) (p1 : P .irq) (p2 : P .cnt) (p3 : P .out) : outside K P (State.noteDispatch s t) = outside K P s :=
  by unfold State.noteDispatch; simp [*]
@[simp] theorem outside_dispatchHead (s : State) (q : Nat) (f : Frame) (r1 : K .SWC_SNR_LOST) (r2 : K .SWC_CH_STATUS) (r3 : K .DRM_EVENT) (r4 : K .SEQ_CH_DSN) (r5 : K .SAM_EVENT) (r6 : K .SAM_EVQ_LOST) (r7 : K .TWN_EVENT) (r8 : K .TWN_STR_SEQ) (r9 : K .TWN_STR_LAST) (r10 : K .HIF_CQ_PROD) (r11 : K .CNT_EVENT) (r12 : K .CNT_PROG_SEL) (p1 : P .irq) (p2 : P .cnt) (p3 : P .buf) (p4 : P .sch) (p5 : P .pool) (p6 : P .sam) (p7 : P .twn) (p8 : P .hif) (p9 : P .out) (p10 : P .free) : outside K P (State.dispatchHead s q f) = outside K P s :=
  by
  unfold State.dispatchHead
  dsimp only
  have h := outside_frameGate (K := K) (P := P) s f (by assumption) (by assumption) (by assumption) (by assumption) (by assumption) (by assumption) (by assumption)
  revert h
  cases State.frameGate s f with
  | wait u => intro h; simp [fateOutside] at h; simp [*, h]
  | drop u c n => intro h; simp [fateOutside] at h; simp [*, h]
  | go u =>
    intro h
    simp [fateOutside] at h
    dsimp only
    split
    · simp [*, h]
    · split
      · split <;> simp [*, h]
      · simp [*, h]
@[simp] theorem outside_redispatch (s : State) (t : Slot) (r1 : K .SWC_SNR_LOST) (r2 : K .SWC_CH_STATUS) (r3 : K .DRM_EVENT) (r4 : K .SEQ_CH_DSN) (r5 : K .SAM_EVENT) (r6 : K .SAM_EVQ_LOST) (r7 : K .TWN_EVENT) (r8 : K .TWN_STR_SEQ) (r9 : K .TWN_STR_LAST) (r10 : K .HIF_CQ_PROD) (r11 : K .CNT_EVENT) (r12 : K .CNT_PROG_SEL) (p1 : P .irq) (p2 : P .cnt) (p3 : P .buf) (p4 : P .sch) (p5 : P .pool) (p6 : P .sam) (p7 : P .twn) (p8 : P .hif) (p9 : P .out) (p10 : P .free) : outside K P (State.redispatch s t) = outside K P s :=
  by
  unfold State.redispatch
  dsimp only
  have h := outside_frameGate (K := K) (P := P) s t.frame (by assumption) (by assumption) (by assumption) (by assumption) (by assumption) (by assumption) (by assumption)
  revert h
  cases State.frameGate s t.frame with
  | wait u => exact id
  | drop u c n => intro h; simp [fateOutside] at h; simp [*, h]
  | go u =>
    intro h
    simp [fateOutside] at h
    dsimp only
    split
    · split <;> simp [*, h]
    · simp [*, h]
@[simp] theorem outside_dispatch (s : State) (q : Nat) (r1 : K .SWC_SNR_LOST) (r2 : K .SWC_CH_STATUS) (r3 : K .DRM_EVENT) (r4 : K .SEQ_CH_DSN) (r5 : K .SAM_EVENT) (r6 : K .SAM_EVQ_LOST) (r7 : K .TWN_EVENT) (r8 : K .TWN_STR_SEQ) (r9 : K .TWN_STR_LAST) (r10 : K .HIF_CQ_PROD) (r11 : K .CNT_EVENT) (r12 : K .CNT_PROG_SEL) (p1 : P .irq) (p2 : P .cnt) (p3 : P .buf) (p4 : P .sch) (p5 : P .pool) (p6 : P .sam) (p7 : P .twn) (p8 : P .hif) (p9 : P .out) (p10 : P .free) : outside K P (State.dispatch s q) = outside K P s :=
  by unfold State.dispatch; (repeat' split) <;> simp [*, outside_foldl]
theorem outside_execDispatch (q : Nat) (s : State) (r1 : K .SWC_SNR_LOST) (r2 : K .SWC_CH_STATUS) (r3 : K .DRM_EVENT) (r4 : K .SEQ_CH_DSN) (r5 : K .SAM_EVENT) (r6 : K .SAM_EVQ_LOST) (r7 : K .TWN_EVENT) (r8 : K .TWN_STR_SEQ) (r9 : K .TWN_STR_LAST) (r10 : K .HIF_CQ_PROD) (r11 : K .CNT_EVENT) (r12 : K .CNT_PROG_SEL) (p1 : P .irq) (p2 : P .cnt) (p3 : P .buf) (p4 : P .sch) (p5 : P .pool) (p6 : P .sam) (p7 : P .twn) (p8 : P .hif) (p9 : P .out) (p10 : P .free) : ∀ u, execDispatch q s = .next u → outside K P u = outside K P s :=
  by intro u h; unfold execDispatch at h; cases h; simp [*]
@[simp] theorem outside_ungate (s : State) (r1 : K .DRM_ENG_STATUS) : outside K P (State.ungate s) = outside K P s :=
  by unfold State.ungate; simp [*, outside_foldl]
@[simp] theorem outside_stompCount (s : State) (ch : Nat) (c : ChCnt) (p1 : P .cnt) : outside K P (State.stompCount s ch c) = outside K P s :=
  by unfold State.stompCount; dsimp only; split <;> simp [*]
@[simp] theorem outside_stompRecalled (s : State) (t : Slot) (p1 : P .cnt) (p2 : P .out) : outside K P (State.stompRecalled s t) = outside K P s :=
  by unfold State.stompRecalled; (repeat' split) <;> simp [*]
@[simp] theorem outside_recallSlot (s : State) (t : Slot) (r1 : K .SEQ_CH_RECALL) (p1 : P .cnt) (p2 : P .pool) (p3 : P .out) : outside K P (State.recallSlot s t) = outside K P s :=
  by unfold State.recallSlot; simp only []; (repeat' split) <;> simp [*]
@[simp] theorem outside_recall (s : State) (e : Nat) (r1 : K .SEQ_CH_RECALL) (p1 : P .cnt) (p2 : P .pool) (p3 : P .out) : outside K P (State.recall s e) = outside K P s :=
  by unfold State.recall; simp [*, outside_foldl]
@[simp] theorem outside_fenceEngine (s : State) (e : Nat) (cause : Nat) (r1 : K .SWC_SNR_LOST) (r2 : K .DRM_EVENT) (r3 : K .DRM_ENG_STATUS) (r4 : K .DRM_ENG_FAULT) (r5 : K .DRM_ENG_FAULT_NS) (r6 : K .SEQ_CH_RECALL) (r7 : K .JNL_DISCARDED) (r8 : K .TMP_EVENT) (r9 : K .TMP_LOG_INFO) (r10 : K .TMP_LOG_SEQ) (p1 : P .irq) (p2 : P .cnt) (p3 : P .buf) (p4 : P .pool) (p5 : P .jnl) (p6 : P .tmp) (p7 : P .out) : outside K P (State.fenceEngine s e cause) = outside K P s :=
  by unfold State.fenceEngine; simp [*]
theorem outside_execEngineFault (e : Nat) (cause : EngineCause) (s : State) (r1 : K .SWC_SNR_LOST) (r2 : K .DRM_EVENT) (r3 : K .DRM_ENG_STATUS) (r4 : K .DRM_ENG_FAULT) (r5 : K .DRM_ENG_FAULT_NS) (r6 : K .DRM_ENG_ECC) (r7 : K .SEQ_CH_RECALL) (r8 : K .JNL_DISCARDED) (r9 : K .TMP_EVENT) (r10 : K .TMP_LOG_INFO) (r11 : K .TMP_LOG_SEQ) (p1 : P .irq) (p2 : P .cnt) (p3 : P .buf) (p4 : P .pool) (p5 : P .jnl) (p6 : P .tmp) (p7 : P .out) : ∀ u, execEngineFault e cause s = .next u → outside K P u = outside K P s :=
  by intro u h; unfold execEngineFault at h; cases h; simp [*]
@[simp] theorem outside_completeDrm (s : State) (op : Nat) (e : Nat) (st : Status) (r1 : K .DRM_CMD_RESULT) : outside K P (State.completeDrm s op e st) = outside K P s :=
  by unfold State.completeDrm; simp [*]
@[simp] theorem outside_fenceCmd (s : State) (who : Nat) (e : Nat) (r1 : K .SWC_SNR_LOST) (r2 : K .DRM_STATUS) (r3 : K .DRM_CMD_RESULT) (r4 : K .DRM_EVENT) (r5 : K .DRM_ENG_STATUS) (r6 : K .DRM_ENG_FAULT) (r7 : K .DRM_ENG_FAULT_NS) (r8 : K .SEQ_CH_RECALL) (r9 : K .JNL_DISCARDED) (r10 : K .TMP_EVENT) (r11 : K .TMP_LOG_INFO) (r12 : K .TMP_LOG_SEQ) (r13 : K .VF_STATUS) (p1 : P .irq) (p2 : P .cnt) (p3 : P .buf) (p4 : P .pool) (p5 : P .jnl) (p6 : P .tmp) (p7 : P .out) : outside K P (State.fenceCmd s who e) = outside K P s :=
  by unfold State.fenceCmd; simp [*]
theorem outside_execFence (who : Nat) (e : Nat) (s : State) (r1 : K .SWC_SNR_LOST) (r2 : K .DRM_STATUS) (r3 : K .DRM_CMD_RESULT) (r4 : K .DRM_EVENT) (r5 : K .DRM_ENG_STATUS) (r6 : K .DRM_ENG_FAULT) (r7 : K .DRM_ENG_FAULT_NS) (r8 : K .SEQ_CH_RECALL) (r9 : K .JNL_DISCARDED) (r10 : K .TMP_EVENT) (r11 : K .TMP_LOG_INFO) (r12 : K .TMP_LOG_SEQ) (r13 : K .VF_STATUS) (p1 : P .irq) (p2 : P .cnt) (p3 : P .buf) (p4 : P .pool) (p5 : P .jnl) (p6 : P .tmp) (p7 : P .out) : ∀ u, execFence who e s = .next u → outside K P u = outside K P s :=
  by intro u h; unfold execFence at h; cases h; simp [*]
@[simp] theorem outside_restoreCmd (s : State) (who : Nat) (e : Nat) (r1 : K .DRM_STATUS) (r2 : K .DRM_CMD_RESULT) (r3 : K .DRM_ENG_STATUS) (r4 : K .VF_STATUS) (p1 : P .pool) : outside K P (State.restoreCmd s who e) = outside K P s :=
  by unfold State.restoreCmd; simp [*]
theorem outside_execRestore (who : Nat) (e : Nat) (s : State) (r1 : K .DRM_STATUS) (r2 : K .DRM_CMD_RESULT) (r3 : K .DRM_ENG_STATUS) (r4 : K .VF_STATUS) (p1 : P .pool) : ∀ u, execRestore who e s = .next u → outside K P u = outside K P s :=
  by intro u h; unfold execRestore at h; cases h; simp [*]
theorem outside_execRestoreTestsDone (e : Nat) (pass : Bool) (s : State) (r1 : K .DRM_CMD_RESULT) (r2 : K .DRM_EVENT) (r3 : K .DRM_ENG_STATUS) (p1 : P .irq) (p2 : P .pool) (p3 : P .out) : ∀ u, execRestoreTestsDone e pass s = .next u → outside K P u = outside K P s :=
  by intro u h; unfold execRestoreTestsDone at h; cases h; simp [*]
theorem outside_execEngineGate (e : Nat) (s : State) (r1 : K .DRM_ENG_STATUS) (p1 : P .pool) : ∀ u, execEngineGate e s = .next u → outside K P u = outside K P s :=
  by intro u h; unfold execEngineGate at h; cases h; simp [*]
@[simp] theorem outside_linkLost (s : State) (t : Slot) (r1 : K .SWC_CH_STATUS) (r2 : K .SEQ_CH_DSN) (r3 : K .HIF_CQ_PROD) (r4 : K .CNT_EVENT) (p1 : P .irq) (p2 : P .cnt) (p3 : P .pool) (p4 : P .hif) (p5 : P .out) : outside K P (State.linkLost s t) = outside K P s :=
  by unfold State.linkLost; simp [*]
@[simp] theorem outside_reseqDrop (s : State) (t : Slot) (code : Nat) (r1 : K .SWC_SNR_LOST) (r2 : K .SWC_CH_STATUS) (r3 : K .SEQ_CH_DSN) (r4 : K .HIF_CQ_PROD) (r5 : K .CNT_EVENT) (r6 : K .CNT_PROG_SEL) (p1 : P .irq) (p2 : P .cnt) (p3 : P .buf) (p4 : P .pool) (p5 : P .hif) (p6 : P .out) (p7 : P .free) : outside K P (State.reseqDrop s t code) = outside K P s :=
  by unfold State.reseqDrop; simp [*]
@[simp] theorem outside_rxAccept (s : State) (o : OpenInfo) (len : Nat) (r1 : K .SAM_EVENT) (r2 : K .SAM_EVQ_LOST) (p1 : P .irq) (p2 : P .cnt) (p3 : P .sam) (p4 : P .twn) (p5 : P .out) : outside K P (State.rxAccept s o len) = outside K P s :=
  by unfold State.rxAccept; simp [*, outside_foldl]
@[simp] theorem outside_learnSound (s : State) (t : Slot) (r1 : K .TBL_EVENT) (r2 : K .CNT_EVENT) (r3 : K .CNT_PROG_SEL) (p1 : P .irq) (p2 : P .cnt) (p3 : P .tbl) (p4 : P .out) : outside K P (State.learnSound s t) = outside K P s :=
  by unfold State.learnSound; (repeat' split) <;> simp [*]
@[simp] theorem outside_rxPass (s : State) (t : Slot) (o : OpenInfo) (r1 : K .TBL_EVENT) (r2 : K .SEQ_DUP_SMAX) (r3 : K .SEQ_DUP_STATUS) (r4 : K .SAM_EVENT) (r5 : K .SAM_EVQ_LOST) (r6 : K .CNT_EVENT) (r7 : K .CNT_PROG_SEL) (p1 : P .irq) (p2 : P .cnt) (p3 : P .tbl) (p4 : P .pool) (p5 : P .sam) (p6 : P .twn) (p7 : P .out) : outside K P (State.rxPass s t o).1 = outside K P s :=
  by
  unfold State.rxPass
  dsimp only
  have hs : outside K P ((s.learnSound t).rxAccept o t.frame.len) = outside K P s := by simp [*]
  revert hs
  generalize (s.learnSound t).rxAccept o t.frame.len = s'
  intro hs
  split
  · rename_i tw _
    have h := outside_dupCheck (K := K) (P := P) s' (s'.sc o.sc).dupCtx tw (by assumption) (by assumption) (by assumption)
    split
    · rename_i e; rw [e] at h; simp_all
    · rename_i e; rw [e] at h; simp_all
  · exact hs
@[simp] theorem outside_commitHead (s : State) (t : Slot) (r1 : K .TIM_EVENT) (p1 : P .irq) (p2 : P .tim) (p3 : P .cnt) (p4 : P .out) : outside K P (State.commitHead s t).1 = outside K P s :=
  by unfold State.commitHead; simp only []; (repeat' split) <;> simp [*]
@[simp] theorem outside_txSaCounts (s : State) (t : Slot) (p1 : P .cnt) : outside K P (State.txSaCounts s t) = outside K P s :=
  by unfold State.txSaCounts; split <;> simp [*]
@[simp] theorem outside_onWire (s : State) (t : Slot) (p1 : P .sch) : outside K P (State.onWire s t) = outside K P s :=
  by unfold State.onWire; simp [*]
@[simp] theorem outside_commitTail (s : State) (t : Slot) (dup : Nat) (r1 : K .SWC_CH_STATUS) (r2 : K .SEQ_CH_DSN) (r3 : K .HIF_CQ_PROD) (r4 : K .CNT_EVENT) (r5 : K .CNT_PROG_SEL) (p1 : P .irq) (p2 : P .cnt) (p3 : P .flx) (p4 : P .sch) (p5 : P .pool) (p6 : P .hif) (p7 : P .out) : outside K P (State.commitTail s t dup) = outside K P s :=
  by unfold State.commitTail; simp only []; (repeat' split) <;> simp [*]
@[simp] theorem outside_commitLast (s : State) (t : Slot) (r1 : K .TBL_EVENT) (r2 : K .SWC_CH_STATUS) (r3 : K .SEQ_CH_DSN) (r4 : K .SEQ_DUP_SMAX) (r5 : K .SEQ_DUP_STATUS) (r6 : K .SAM_EVENT) (r7 : K .SAM_EVQ_LOST) (r8 : K .HIF_CQ_PROD) (r9 : K .CNT_EVENT) (r10 : K .CNT_PROG_SEL) (p1 : P .irq) (p2 : P .cnt) (p3 : P .flx) (p4 : P .tbl) (p5 : P .sch) (p6 : P .pool) (p7 : P .sam) (p8 : P .twn) (p9 : P .hif) (p10 : P .out) : outside K P (State.commitLast s t) = outside K P s :=
  by unfold State.commitLast; split <;> simp [*]
@[simp] theorem outside_headChecks (s : State) (t : Slot) (r1 : K .TBL_EVENT) (r2 : K .SWC_SNR_LOST) (r3 : K .SWC_CH_STATUS) (r4 : K .SEQ_CH_DSN) (r5 : K .SEQ_DUP_SMAX) (r6 : K .SEQ_DUP_STATUS) (r7 : K .SAM_EVENT) (r8 : K .SAM_EVQ_LOST) (r9 : K .HIF_CQ_PROD) (r10 : K .CNT_EVENT) (r11 : K .CNT_PROG_SEL) (p1 : P .irq) (p2 : P .cnt) (p3 : P .tbl) (p4 : P .buf) (p5 : P .pool) (p6 : P .sam) (p7 : P .twn) (p8 : P .hif) (p9 : P .out) (p10 : P .free) : outside K P (State.headChecks s t).1 = outside K P s :=
  by unfold State.headChecks; simp only []; (repeat' split) <;> simp [*]
@[simp] theorem outside_commitSlot (s : State) (t : Slot) (r1 : K .TBL_EVENT) (r2 : K .SWC_SNR_LOST) (r3 : K .SWC_CH_STATUS) (r4 : K .SEQ_CH_DSN) (r5 : K .SEQ_DUP_SMAX) (r6 : K .SEQ_DUP_STATUS) (r7 : K .SAM_EVENT) (r8 : K .SAM_EVQ_LOST) (r9 : K .TIM_EVENT) (r10 : K .HIF_CQ_PROD) (r11 : K .CNT_EVENT) (r12 : K .CNT_PROG_SEL) (p1 : P .irq) (p2 : P .tim) (p3 : P .cnt) (p4 : P .flx) (p5 : P .tbl) (p6 : P .buf) (p7 : P .sch) (p8 : P .pool) (p9 : P .sam) (p10 : P .twn) (p11 : P .hif) (p12 : P .out) (p13 : P .free) : outside K P (State.commitSlot s t) = outside K P s :=
  by
  unfold State.commitSlot
  dsimp only
  split
  · simp [*]
  · have h : outside K P (if t.committed = 0 then
        match s.headChecks t with
        | (s, true) => (match s.commitHead t with | (s, t) => (s, t, true) : State × Slot × Bool)
        | (s, false) => (s, t, false)
      else (s, t, true)).1 = outside K P s := by
      split
      · have h1 := outside_headChecks (K := K) (P := P) s t (by assumption) (by assumption) (by assumption) (by assumption) (by assumption) (by assumption) (by assumption) (by assumption) (by assumption) (by assumption) (by assumption) (by assumption) (by assumption) (by assumption) (by assumption) (by assumption) (by assumption) (by assumption) (by assumption) (by assumption) (by assumption)
        split
        · rename_i e; rw [e] at h1; dsimp only; simpa [*] using h1
        · rename_i e; rw [e] at h1; exact h1
      · rfl
    revert h
    generalize (if t.committed = 0 then
        match s.headChecks t with
        | (s, true) => (match s.commitHead t with | (s, t) => (s, t, true) : State × Slot × Bool)
        | (s, false) => (s, t, false)
      else (s, t, true)) = r
    intro h
    (repeat' split) <;> simp [*]
@[simp] theorem outside_chunkCommit (s : State) (p : Nat) (r1 : K .TBL_EVENT) (r2 : K .SWC_SNR_LOST) (r3 : K .SWC_CH_STATUS) (r4 : K .SEQ_CH_DSN) (r5 : K .SEQ_DUP_SMAX) (r6 : K .SEQ_DUP_STATUS) (r7 : K .SAM_EVENT) (r8 : K .SAM_EVQ_LOST) (r9 : K .TIM_EVENT) (r10 : K .HIF_CQ_PROD) (r11 : K .CNT_EVENT) (r12 : K .CNT_PROG_SEL) (p1 : P .irq) (p2 : P .tim) (p3 : P .cnt) (p4 : P .flx) (p5 : P .tbl) (p6 : P .buf) (p7 : P .sch) (p8 : P .pool) (p9 : P .sam) (p10 : P .twn) (p11 : P .hif) (p12 : P .out) (p13 : P .free) : outside K P (State.chunkCommit s p) = outside K P s :=
  by unfold State.chunkCommit; split <;> simp [*]
theorem outside_execChunkCommit (port : Nat) (s : State) (r1 : K .TBL_EVENT) (r2 : K .SWC_SNR_LOST) (r3 : K .SWC_CH_STATUS) (r4 : K .SEQ_CH_DSN) (r5 : K .SEQ_DUP_SMAX) (r6 : K .SEQ_DUP_STATUS) (r7 : K .SAM_EVENT) (r8 : K .SAM_EVQ_LOST) (r9 : K .TIM_EVENT) (r10 : K .HIF_CQ_PROD) (r11 : K .CNT_EVENT) (r12 : K .CNT_PROG_SEL) (p1 : P .irq) (p2 : P .tim) (p3 : P .cnt) (p4 : P .flx) (p5 : P .tbl) (p6 : P .buf) (p7 : P .sch) (p8 : P .pool) (p9 : P .sam) (p10 : P .twn) (p11 : P .hif) (p12 : P .out) (p13 : P .free) : ∀ u, execChunkCommit port s = .next u → outside K P u = outside K P s :=
  by intro u h; unfold execChunkCommit at h; cases h; simp [*]
@[simp] theorem outside_direct (s : State) (f : Frame) (sc : Option Nat) (r1 : K .SWC_SNR_LOST) (r2 : K .SWC_CH_STATUS) (r3 : K .SCH_EVENT) (r4 : K .HIF_CQ_PROD) (r5 : K .CNT_EVENT) (r6 : K .CNT_PROG_SEL) (p1 : P .irq) (p2 : P .cnt) (p3 : P .buf) (p4 : P .sch) (p5 : P .sam) (p6 : P .hif) (p7 : P .out) (p8 : P .free) : outside K P (State.direct s f sc) = outside K P s :=
  by unfold State.direct; split <;> simp [*]
@[simp] theorem outside_sendReject (s : State) (r : Nat) (f : SendFrame) (st : Status) (r1 : K .SCH_EVENT) (r2 : K .HIF_CQ_PROD) (p1 : P .irq) (p2 : P .cnt) (p3 : P .hif) (p4 : P .out) : outside K P (State.sendReject s r f st) = outside K P s :=
  by unfold State.sendReject; simp [*]
@[simp] theorem outside_sendAccept (s : State) (r : Nat) (f : SendFrame) (r1 : K .TBL_EVENT) (r2 : K .SWC_SNR_LOST) (r3 : K .SWC_CH_STATUS) (r4 : K .SCH_EVENT) (r5 : K .HIF_CQ_PROD) (r6 : K .CNT_EVENT) (r7 : K .CNT_PROG_SEL) (p1 : P .irq) (p2 : P .cnt) (p3 : P .tbl) (p4 : P .buf) (p5 : P .sch) (p6 : P .sam) (p7 : P .hif) (p8 : P .out) (p9 : P .free) : outside K P (State.sendAccept s r f) = outside K P s :=
  by unfold State.sendAccept; split <;> simp [*]
@[simp] theorem outside_sendFetch (s : State) (r : Nat) (f : SendFrame) (r1 : K .TBL_EVENT) (r2 : K .SWC_SNR_LOST) (r3 : K .SWC_CH_STATUS) (r4 : K .SCH_EVENT) (r5 : K .HIF_TX_CONS) (r6 : K .HIF_CQ_PROD) (r7 : K .CNT_EVENT) (r8 : K .CNT_PROG_SEL) (p1 : P .irq) (p2 : P .cnt) (p3 : P .tbl) (p4 : P .buf) (p5 : P .sch) (p6 : P .sam) (p7 : P .hif) (p8 : P .out) (p9 : P .free) : outside K P (State.sendFetch s r f) = outside K P s :=
  by unfold State.sendFetch; simp only []; (repeat' split) <;> simp [*]
theorem outside_execSendDescriptorFetch (rs : Nat) (chain : SendChain) (s : State) (r1 : K .TBL_EVENT) (r2 : K .SWC_SNR_LOST) (r3 : K .SWC_CH_STATUS) (r4 : K .SCH_EVENT) (r5 : K .HIF_TX_CONS) (r6 : K .HIF_CQ_PROD) (r7 : K .CNT_EVENT) (r8 : K .CNT_PROG_SEL) (p1 : P .irq) (p2 : P .cnt) (p3 : P .tbl) (p4 : P .buf) (p5 : P .sch) (p6 : P .sam) (p7 : P .hif) (p8 : P .out) (p9 : P .free) : ∀ u, execSendDescriptorFetch rs chain s = .next u → outside K P u = outside K P s :=
  by intro u h; unfold execSendDescriptorFetch at h; cases h; simp [*]
@[simp] theorem outside_ptpTx (s : State) (r : PtpRequest) (r1 : K .SWC_SNR_LOST) (r2 : K .SWC_CH_STATUS) (r3 : K .SCH_EVENT) (r4 : K .HIF_CQ_PROD) (r5 : K .CNT_EVENT) (r6 : K .CNT_PROG_SEL) (p1 : P .irq) (p2 : P .cnt) (p3 : P .buf) (p4 : P .sch) (p5 : P .sam) (p6 : P .hif) (p7 : P .out) (p8 : P .free) : outside K P (State.ptpTx s r) = outside K P s :=
  by unfold State.ptpTx; simp [*]
theorem outside_execPtpTxRequest (req : PtpRequest) (s : State) (r1 : K .SWC_SNR_LOST) (r2 : K .SWC_CH_STATUS) (r3 : K .SCH_EVENT) (r4 : K .HIF_CQ_PROD) (r5 : K .CNT_EVENT) (r6 : K .CNT_PROG_SEL) (p1 : P .irq) (p2 : P .cnt) (p3 : P .buf) (p4 : P .sch) (p5 : P .sam) (p6 : P .hif) (p7 : P .out) (p8 : P .free) : ∀ u, execPtpTxRequest req s = .next u → outside K P u = outside K P s :=
  by intro u h; unfold execPtpTxRequest at h; cases h; simp [*]
@[simp] theorem outside_rxBack (s : State) (r : Nat) (flags : Nat) (n : Nat) (r1 : K .HIF_RX_CONS) (p1 : P .out) : outside K P (State.rxBack s r flags n) = outside K P s :=
  by unfold State.rxBack; simp [*]
@[simp] theorem outside_fillBufs (s : State) (r : Nat) (x1 : List (Nat × Nat)) (x2 : Bytes) (x3 : Bool) (r1 : K .HIF_RX_CONS) (p1 : P .out) : outside K P (State.fillBufs s r x1 x2 x3) = outside K P s :=
  by induction x1 generalizing s x2 x3 with | nil => rfl | cons a l ih => unfold State.fillBufs; (repeat' split) <;> simp [*, ih]
@[simp] theorem outside_returnShort (s : State) (r : Nat) (x1 : List (Nat × Nat)) (r1 : K .HIF_RX_CONS) (p1 : P .out) : outside K P (State.returnShort s r x1) = outside K P s :=
  by induction x1 generalizing s with | nil => rfl | cons a l ih => unfold State.returnShort; split <;> simp [*, ih]
@[simp] theorem outside_puntOut (s : State) (cls : Nat) (r : Nat) (f : Frame) (bufs : List (Nat × Nat)) (r1 : K .SWC_CH_STATUS) (r2 : K .HIF_RX_CONS) (r3 : K .HIF_CQ_PROD) (r4 : K .CNT_EVENT) (p1 : P .irq) (p2 : P .cnt) (p3 : P .buf) (p4 : P .sch) (p5 : P .hif) (p6 : P .out) : outside K P (State.puntOut s cls r f bufs) = outside K P s :=
  by unfold State.puntOut; simp [*]
@[simp] theorem outside_puntDeliver (s : State) (cls : Nat) (bufs : List (Nat × Nat)) (r1 : K .SWC_SNR_LOST) (r2 : K .SWC_CH_STATUS) (r3 : K .HIF_RX_CONS) (r4 : K .HIF_CQ_PROD) (r5 : K .CNT_EVENT) (r6 : K .CNT_PROG_SEL) (p1 : P .irq) (p2 : P .cnt) (p3 : P .buf) (p4 : P .sch) (p5 : P .hif) (p6 : P .out) (p7 : P .free) : outside K P (State.puntDeliver s cls bufs) = outside K P s :=
  by unfold State.puntDeliver; simp only []; (repeat' split) <;> simp [*]
theorem outside_execPuntDelivery (cls : Nat) (descs : List Bytes) (s : State) (r1 : K .SWC_SNR_LOST) (r2 : K .SWC_CH_STATUS) (r3 : K .HIF_RX_CONS) (r4 : K .HIF_CQ_PROD) (r5 : K .CNT_EVENT) (r6 : K .CNT_PROG_SEL) (p1 : P .irq) (p2 : P .cnt) (p3 : P .buf) (p4 : P .sch) (p5 : P .hif) (p6 : P .out) (p7 : P .free) : ∀ u, execPuntDelivery cls descs s = .next u → outside K P u = outside K P s :=
  by intro u h; unfold execPuntDelivery at h; cases h; simp [*]
@[simp] theorem outside_toTwin (s : State) (t : TwinState) (r1 : K .TWN_STATUS) : outside K P (State.toTwin s t) = outside K P s :=
  by unfold State.toTwin; simp [*]
@[simp] theorem outside_clapTo (s : State) (v : Clap) (r1 : K .TWN_STATUS) (p1 : P .twn) (p2 : P .out) : outside K P (State.clapTo s v) = outside K P s :=
  by unfold State.clapTo; simp [*]
@[simp] theorem outside_completeTwn (s : State) (op : Nat) (st : Status) (r1 : K .TWN_CMD_RESULT) : outside K P (State.completeTwn s op st) = outside K P s :=
  by unfold State.completeTwn; simp [*]
@[simp] theorem outside_yieldEnds (s : State) (st : Status) (r1 : K .TWN_CMD_RESULT) : outside K P (State.yieldEnds s st) = outside K P s :=
  by unfold State.yieldEnds; simp [*]
@[simp] theorem outside_holdOffCheck (s : State) (p1 : P .twn) : outside K P (State.holdOffCheck s) = outside K P s :=
  by unfold State.holdOffCheck; simp [*]
@[simp] theorem outside_newRandom (s : State) (p1 : P .twn) (p2 : P .free) : outside K P (State.newRandom s) = outside K P s :=
  by unfold State.newRandom; simp [*]
@[simp] theorem outside_sessionEnd (s : State) (p1 : P .twn) (p2 : P .free) : outside K P (State.sessionEnd s) = outside K P s :=
  by unfold State.sessionEnd; simp [*]
@[simp] theorem outside_twinDown (s : State) (r1 : K .TWN_STATUS) (r2 : K .TWN_EVENT) (r3 : K .TWN_CMD_RESULT) (p1 : P .irq) (p2 : P .twn) (p3 : P .out) (p4 : P .free) : outside K P (State.twinDown s) = outside K P s :=
  by unfold State.twinDown; simp [*]
@[simp] theorem outside_becomeActive (s : State) (permit : Bool) (r1 : K .TWN_STATUS) (p1 : P .twn) (p2 : P .out) : outside K P (State.becomeActive s permit) = outside K P s :=
  by unfold State.becomeActive; simp [*]
@[simp] theorem outside_claim (s : State) (epoch : Nat) (r1 : K .TWN_LEASE) (p1 : P .twn) (p2 : P .out) : outside K P (State.claim s epoch) = outside K P s :=
  by unfold State.claim; simp [*]
@[simp] theorem outside_advanceBlocks (s : State) (p1 : P .sam) : outside K P (State.advanceBlocks s) = outside K P s :=
  by unfold State.advanceBlocks; simp [*, outside_foldl]
@[simp] theorem outside_setSeqs (s : State) (f : Nat → TwinStream → Nat) (r1 : K .TWN_STR_SEQ) : outside K P (State.setSeqs s f) = outside K P s :=
  by
  unfold State.setSeqs
  split
  · refine outside_foldl _ ?_ _ _
    intro s a
    split <;> simp [*]
  · rfl
@[simp] theorem outside_seqsFresh (s : State) (r1 : K .TWN_STR_SEQ) : outside K P (State.seqsFresh s) = outside K P s :=
  by unfold State.seqsFresh; simp [*]
@[simp] theorem outside_seqsTaken (s : State) (r1 : K .TWN_STR_SEQ) : outside K P (State.seqsTaken s) = outside K P s :=
  by unfold State.seqsTaken; simp [*]
@[simp] theorem outside_sendSync (s : State) (p1 : P .twn) (p2 : P .out) : outside K P (State.sendSync s) = outside K P s :=
  by unfold State.sendSync; simp [*, outside_foldl]
@[simp] theorem outside_leaveActive (s : State) (r1 : K .TWN_STATUS) (p1 : P .twn) (p2 : P .out) : outside K P (State.leaveActive s) = outside K P s :=
  by unfold State.leaveActive; simp [*]
@[simp] theorem outside_collision (s : State) (was : State) (r1 : K .TWN_STATUS) (r2 : K .TWN_EVENT) (p1 : P .irq) (p2 : P .twn) (p3 : P .out) : outside K P (State.collision s was) = outside K P s :=
  by unfold State.collision; simp [*]
@[simp] theorem outside_twinNotify (s : State) (source : Nat) (mask : Nat) (r1 : K .TWN_STATUS) (p1 : P .twn) (p2 : P .out) : outside K P (State.twinNotify s source mask) = outside K P s :=
  by unfold State.twinNotify; simp [*]
@[simp] theorem outside_sendHello (s : State) (p1 : P .out) : outside K P (State.sendHello s) = outside K P s :=
  by unfold State.sendHello; split <;> simp [*]
@[simp] theorem outside_seek (s : State) (r1 : K .TWN_STATUS) (p1 : P .twn) (p2 : P .out) (p3 : P .free) : outside K P (State.seek s) = outside K P s :=
  by unfold State.seek; simp [*]
@[simp] theorem outside_twinDpReset (s : State) (r1 : K .TWN_STATUS) (r2 : K .TWN_EVENT) (r3 : K .TWN_CMD_RESULT) (p1 : P .irq) (p2 : P .twn) (p3 : P .out) (p4 : P .free) : outside K P (State.twinDpReset s) = outside K P s :=
  by unfold State.twinDpReset; simp [*]
@[simp] theorem outside_twinDpUp (s : State) (r1 : K .TWN_STATUS) (p1 : P .twn) (p2 : P .out) (p3 : P .free) : outside K P (State.twinDpUp s) = outside K P s :=
  by unfold State.twinDpUp; simp [*]
@[simp] theorem outside_moveStreams (s : State) (old : List TwinStream) (new : List TwinStream) (r1 : K .TWN_STR_SEQ) (r2 : K .TWN_STR_LAST) : outside K P (State.moveStreams s old new) = outside K P s :=
  by unfold State.moveStreams; simp [*, outside_foldl]
@[simp] theorem outside_twinStrike (s : State) (old : Option Image) (r1 : K .TWN_STATUS) (r2 : K .TWN_CFG) (r3 : K .TWN_EVENT) (r4 : K .TWN_CMD_RESULT) (r5 : K .TWN_STR_SEQ) (r6 : K .TWN_STR_LAST) (p1 : P .irq) (p2 : P .twn) (p3 : P .out) (p4 : P .free) : outside K P (State.twinStrike s old) = outside K P s :=
  by unfold State.twinStrike; simp [*]
@[simp] theorem outside_faultShown (s : State) (ch : Nat) (r1 : K .PRT_EP_STATUS) : outside K P (State.faultShown s ch) = outside K P s :=
  by unfold State.faultShown; simp [*]
@[simp] theorem outside_setLosses (s : State) (l : Nat) (c : List Nat) (r1 : K .PRT_EP_STATUS) (p1 : P .prt) : outside K P (State.setLosses s l c) = outside K P s :=
  by unfold State.setLosses; simp [*]
@[simp] theorem outside_slotLost (s : State) (t : Slot) (r1 : K .SWC_CH_STATUS) (r2 : K .HIF_CQ_PROD) (r3 : K .CNT_EVENT) (p1 : P .irq) (p2 : P .cnt) (p3 : P .pool) (p4 : P .hif) (p5 : P .out) : outside K P (State.slotLost s t) = outside K P s :=
  by unfold State.slotLost; simp [*]
@[simp] theorem outside_slotsLost (s : State) (ch : Nat) (r1 : K .SWC_CH_STATUS) (r2 : K .SEQ_CH_DSN) (r3 : K .HIF_CQ_PROD) (r4 : K .CNT_EVENT) (p1 : P .irq) (p2 : P .cnt) (p3 : P .pool) (p4 : P .hif) (p5 : P .out) : outside K P (State.slotsLost s ch) = outside K P s :=
  by unfold State.slotsLost; simp [*, outside_foldl]
@[simp] theorem outside_slotsBehindLost (s : State) (ch : Nat) (r1 : K .SWC_CH_STATUS) (r2 : K .SEQ_CH_DSN) (r3 : K .HIF_CQ_PROD) (r4 : K .CNT_EVENT) (p1 : P .irq) (p2 : P .cnt) (p3 : P .pool) (p4 : P .hif) (p5 : P .out) : outside K P (State.slotsBehindLost s ch) = outside K P s :=
  by unfold State.slotsBehindLost; simp [*, outside_foldl]
@[simp] theorem outside_unselect (s : State) (q : Nat) (p1 : P .buf) (p2 : P .sch) : outside K P (State.unselect s q) = outside K P s :=
  by unfold State.unselect; simp only []; (repeat' split) <;> simp [*]
@[simp] theorem outside_linkFalls (s : State) (ch : Nat) (strike : Bool) (fl : InFlight) (r1 : K .PRT_EP_STATUS) (r2 : K .PRT_EP_EVENT) (r3 : K .SWC_SNR_LOST) (r4 : K .SWC_CH_STATUS) (r5 : K .SWC_Q_STATUS) (r6 : K .DRM_ENG_STATUS) (r7 : K .SEQ_CH_DSN) (r8 : K .HIF_CQ_PROD) (r9 : K .CNT_EVENT) (r10 : K .CNT_PROG_SEL) (p1 : P .irq) (p2 : P .cnt) (p3 : P .prt) (p4 : P .buf) (p5 : P .sch) (p6 : P .pool) (p7 : P .hif) (p8 : P .out) (p9 : P .free) : outside K P (State.linkFalls s ch strike fl) = outside K P s :=
  by unfold State.linkFalls; dsimp only; (repeat' split) <;> simp [*, outside_foldl]
@[simp] theorem outside_declareDown (s : State) (ch : Nat) (strike : Bool) (r1 : K .PRT_EP_STATUS) (r2 : K .PRT_EP_EVENT) (r3 : K .SWC_SNR_LOST) (r4 : K .SWC_CH_STATUS) (r5 : K .SWC_Q_STATUS) (r6 : K .DRM_ENG_STATUS) (r7 : K .SEQ_CH_DSN) (r8 : K .HIF_CQ_PROD) (r9 : K .CNT_EVENT) (r10 : K .CNT_PROG_SEL) (p1 : P .irq) (p2 : P .cnt) (p3 : P .prt) (p4 : P .buf) (p5 : P .sch) (p6 : P .pool) (p7 : P .hif) (p8 : P .out) (p9 : P .free) : outside K P (State.declareDown s ch strike) = outside K P s :=
  by unfold State.declareDown; simp [*]
@[simp] theorem outside_declareUp (s : State) (ch : Nat) (r1 : K .PRT_EP_STATUS) (r2 : K .PRT_EP_EVENT) (r3 : K .SWC_Q_STATUS) (r4 : K .DRM_ENG_STATUS) (p1 : P .irq) (p2 : P .out) : outside K P (State.declareUp s ch) = outside K P s :=
  by unfold State.declareUp; simp [*]
theorem outside_execFecDegrade (ch : Nat) (symbols : Nat) (s : State) (r1 : K .PRT_EP_EVENT) (p1 : P .irq) (p2 : P .out) : ∀ u, execFecDegrade ch symbols s = .next u → outside K P u = outside K P s :=
  by intro u h; unfold execFecDegrade at h; cases h; simp [*]
theorem outside_execLpiEnter (ch : Nat) (s : State) (r1 : K .PRT_EP_STATUS) (p1 : P .out) : ∀ u, execLpiEnter ch s = .next u → outside K P u = outside K P s :=
  by intro u h; unfold execLpiEnter at h; cases h; simp [*]
theorem outside_execLpiExit (ch : Nat) (s : State) (r1 : K .PRT_EP_STATUS) (r2 : K .DRM_ENG_STATUS) (p1 : P .prt) (p2 : P .out) : ∀ u, execLpiExit ch s = .next u → outside K P u = outside K P s :=
  by intro u h; unfold execLpiExit at h; cases h; simp [*]
theorem outside_execLpiWakeDone (ch : Nat) (s : State) (p1 : P .prt) : ∀ u, execLpiWakeDone ch s = .next u → outside K P u = outside K P s :=
  fun _ h => outside_next h (by simp [*])
@[simp] theorem outside_writeStandby (s : State) (gr : FlexGroup) (p1 : P .flx) : outside K P (State.writeStandby s gr) = outside K P s :=
  by unfold State.writeStandby; simp [*]
@[simp] theorem outside_switchStart (s : State) (g : Nat) (r1 : K .FLX_GRP_STATUS) (p1 : P .flx) : outside K P (State.switchStart s g) = outside K P s :=
  by unfold State.switchStart; simp [*]
@[simp] theorem outside_switchIdle (s : State) (g : Nat) (dest : Nat) (r1 : K .FLX_GRP_STATUS) (p1 : P .flx) : outside K P (State.switchIdle s g dest) = outside K P s :=
  by unfold State.switchIdle; simp [*]
@[simp] theorem outside_leaveUp (s : State) (gr : FlexGroup) (dest : Nat) (r1 : K .PRT_EP_STATUS) (r2 : K .PRT_EP_EVENT) (r3 : K .FLX_GRP_STATUS) (r4 : K .SWC_SNR_LOST) (r5 : K .SWC_CH_STATUS) (r6 : K .SWC_Q_STATUS) (r7 : K .DRM_ENG_STATUS) (r8 : K .SEQ_CH_DSN) (r9 : K .HIF_CQ_PROD) (r10 : K .CNT_EVENT) (r11 : K .CNT_PROG_SEL) (p1 : P .irq) (p2 : P .cnt) (p3 : P .prt) (p4 : P .flx) (p5 : P .buf) (p6 : P .sch) (p7 : P .pool) (p8 : P .hif) (p9 : P .out) (p10 : P .free) : outside K P (State.leaveUp s gr dest) = outside K P s :=
  by unfold State.leaveUp; dsimp only; (repeat' split) <;> simp [*, outside_foldl]
@[simp] theorem outside_flexStart (s : State) (gr : FlexGroup) (r1 : K .FLX_GRP_STATUS) : outside K P (State.flexStart s gr) = outside K P s :=
  by unfold State.flexStart; simp [*]
@[simp] theorem outside_groupDownNow (s : State) (gr : FlexGroup) (r1 : K .PRT_EP_STATUS) (r2 : K .PRT_EP_EVENT) (r3 : K .FLX_GRP_STATUS) (r4 : K .FLX_GRP_EVENT) (r5 : K .SWC_SNR_LOST) (r6 : K .SWC_CH_STATUS) (r7 : K .SWC_Q_STATUS) (r8 : K .DRM_ENG_STATUS) (r9 : K .SEQ_CH_DSN) (r10 : K .HIF_CQ_PROD) (r11 : K .CNT_EVENT) (r12 : K .CNT_PROG_SEL) (p1 : P .irq) (p2 : P .cnt) (p3 : P .prt) (p4 : P .flx) (p5 : P .buf) (p6 : P .sch) (p7 : P .pool) (p8 : P .hif) (p9 : P .out) (p10 : P .free) : outside K P (State.groupDownNow s gr) = outside K P s :=
  by unfold State.groupDownNow; simp [*]
@[simp] theorem outside_groupCheck (s : State) (gr : FlexGroup) (r1 : K .PRT_EP_STATUS) (r2 : K .PRT_EP_EVENT) (r3 : K .FLX_GRP_STATUS) (r4 : K .FLX_GRP_EVENT) (r5 : K .SWC_SNR_LOST) (r6 : K .SWC_CH_STATUS) (r7 : K .SWC_Q_STATUS) (r8 : K .DRM_ENG_STATUS) (r9 : K .SEQ_CH_DSN) (r10 : K .HIF_CQ_PROD) (r11 : K .CNT_EVENT) (r12 : K .CNT_PROG_SEL) (p1 : P .irq) (p2 : P .cnt) (p3 : P .prt) (p4 : P .flx) (p5 : P .buf) (p6 : P .sch) (p7 : P .pool) (p8 : P .hif) (p9 : P .out) (p10 : P .free) : outside K P (State.groupCheck s gr) = outside K P s :=
  by unfold State.groupCheck; simp [*]
theorem outside_execGroupDown (g : Nat) (s : State) (r1 : K .PRT_EP_STATUS) (r2 : K .PRT_EP_EVENT) (r3 : K .FLX_GRP_STATUS) (r4 : K .FLX_GRP_EVENT) (r5 : K .SWC_SNR_LOST) (r6 : K .SWC_CH_STATUS) (r7 : K .SWC_Q_STATUS) (r8 : K .DRM_ENG_STATUS) (r9 : K .SEQ_CH_DSN) (r10 : K .HIF_CQ_PROD) (r11 : K .CNT_EVENT) (r12 : K .CNT_PROG_SEL) (p1 : P .irq) (p2 : P .cnt) (p3 : P .prt) (p4 : P .flx) (p5 : P .buf) (p6 : P .sch) (p7 : P .pool) (p8 : P .hif) (p9 : P .out) (p10 : P .free) : ∀ u, execGroupDown g s = .next u → outside K P u = outside K P s :=
  by intro u h; unfold execGroupDown at h; cases h; (repeat' split) <;> simp [*]
theorem outside_execGroupUp (g : Nat) (s : State) (r1 : K .PRT_EP_STATUS) (r2 : K .PRT_EP_EVENT) (r3 : K .FLX_GRP_EVENT) (r4 : K .SWC_Q_STATUS) (r5 : K .DRM_ENG_STATUS) (p1 : P .irq) (p2 : P .flx) (p3 : P .out) : ∀ u, execGroupUp g s = .next u → outside K P u = outside K P s :=
  by intro u h; unfold execGroupUp at h; dsimp only at h; (repeat' split at h) <;> (try cases h) <;> (repeat' split) <;> simp [*, outside_foldl]
@[simp] theorem outside_deskew (s : State) (gr : FlexGroup) (r1 : K .FLX_GRP_STATUS) (r2 : K .FLX_GRP_EVENT) (r3 : K .FLX_INST_STATUS) (p1 : P .irq) (p2 : P .flx) (p3 : P .out) : outside K P (State.deskew s gr) = outside K P s :=
  by unfold State.deskew; simp [*, outside_foldl]
@[simp] theorem outside_flexAlign (s : State) (gr : FlexGroup) (r1 : K .FLX_GRP_STATUS) : outside K P (State.flexAlign s gr) = outside K P s :=
  by unfold State.flexAlign; simp [*]
@[simp] theorem outside_flexArrived (s : State) (gr : FlexGroup) (r1 : K .PRT_EP_STATUS) (r2 : K .PRT_EP_EVENT) (r3 : K .FLX_GRP_STATUS) (r4 : K .FLX_GRP_EVENT) (r5 : K .FLX_INST_STATUS) (r6 : K .SWC_SNR_LOST) (r7 : K .SWC_CH_STATUS) (r8 : K .SWC_Q_STATUS) (r9 : K .DRM_ENG_STATUS) (r10 : K .SEQ_CH_DSN) (r11 : K .HIF_CQ_PROD) (r12 : K .CNT_EVENT) (r13 : K .CNT_PROG_SEL) (p1 : P .irq) (p2 : P .cnt) (p3 : P .prt) (p4 : P .flx) (p5 : P .buf) (p6 : P .sch) (p7 : P .pool) (p8 : P .hif) (p9 : P .out) (p10 : P .free) : outside K P (State.flexArrived s gr) = outside K P s :=
  by unfold State.flexArrived; simp [*, outside_foldl]
@[simp] theorem outside_instSearch (s : State) (i : Nat) (x : FlexInst) (r1 : K .FLX_INST_STATUS) (p1 : P .flx) : outside K P (State.instSearch s i x) = outside K P s :=
  by unfold State.instSearch; simp [*]
@[simp] theorem outside_mfStart (s : State) (gr : FlexGroup) (i : Nat) (c : FlexCand) (b : OhBlock) (r1 : K .FLX_GRP_EVENT) (r2 : K .FLX_INST_STATUS) (p1 : P .irq) (p2 : P .flx) (p3 : P .out) : outside K P (State.mfStart s gr i c b) = outside K P s :=
  by unfold State.mfStart; simp [*]
@[simp] theorem outside_lockedBlock (s : State) (gr : FlexGroup) (i : Nat) (c : FlexCand) (b : OhBlock) (r1 : K .FLX_GRP_EVENT) (r2 : K .FLX_INST_STATUS) (p1 : P .irq) (p2 : P .flx) (p3 : P .out) : outside K P (State.lockedBlock s gr i c b) = outside K P s :=
  by unfold State.lockedBlock; simp [*]
@[simp] theorem outside_searchBlock (s : State) (i : Nat) (b : OhBlock) (r1 : K .FLX_INST_STATUS) (p1 : P .flx) : outside K P (State.searchBlock s i b) = outside K P s :=
  by unfold State.searchBlock; simp only []; (repeat' split) <;> simp [*]
theorem outside_execOverheadBlockReceived (inst : Nat) (b : OhBlock) (s : State) (r1 : K .PRT_EP_STATUS) (r2 : K .PRT_EP_EVENT) (r3 : K .FLX_GRP_STATUS) (r4 : K .FLX_GRP_EVENT) (r5 : K .FLX_INST_STATUS) (r6 : K .SWC_SNR_LOST) (r7 : K .SWC_CH_STATUS) (r8 : K .SWC_Q_STATUS) (r9 : K .DRM_ENG_STATUS) (r10 : K .SEQ_CH_DSN) (r11 : K .HIF_CQ_PROD) (r12 : K .CNT_EVENT) (r13 : K .CNT_PROG_SEL) (p1 : P .irq) (p2 : P .cnt) (p3 : P .prt) (p4 : P .flx) (p5 : P .buf) (p6 : P .sch) (p7 : P .pool) (p8 : P .hif) (p9 : P .out) (p10 : P .free) : ∀ u, execOverheadBlockReceived inst b s = .next u → outside K P u = outside K P s :=
  by intro u h; unfold execOverheadBlockReceived at h; cases h; (repeat' split) <;> simp [*]
@[simp] theorem outside_useC (s : State) (gr : FlexGroup) (i : Nat) (c : Nat) (zero : Bool) (r1 : K .PRT_EP_STATUS) (r2 : K .PRT_EP_EVENT) (r3 : K .FLX_GRP_EVENT) (r4 : K .FLX_INST_STATUS) (r5 : K .SWC_SNR_LOST) (r6 : K .SWC_CH_STATUS) (r7 : K .SWC_Q_STATUS) (r8 : K .DRM_ENG_STATUS) (r9 : K .SEQ_CH_DSN) (r10 : K .HIF_CQ_PROD) (r11 : K .CNT_EVENT) (r12 : K .CNT_PROG_SEL) (p1 : P .irq) (p2 : P .cnt) (p3 : P .prt) (p4 : P .flx) (p5 : P .buf) (p6 : P .sch) (p7 : P .pool) (p8 : P .hif) (p9 : P .out) (p10 : P .free) : outside K P (State.useC s gr i c zero) = outside K P s :=
  by unfold State.useC; simp [*, outside_foldl]
@[simp] theorem outside_useCr (s : State) (gr : FlexGroup) (i : Nat) (cr : Nat) (zero : Bool) (r1 : K .FLX_GRP_EVENT) (p1 : P .irq) (p2 : P .flx) (p3 : P .out) : outside K P (State.useCr s gr i cr zero) = outside K P s :=
  by unfold State.useCr; simp [*]
@[simp] theorem outside_useCa (s : State) (gr : FlexGroup) (r1 : K .FLX_GRP_STATUS) : outside K P (State.useCa s gr) = outside K P s :=
  by unfold State.useCa; simp [*]
@[simp] theorem outside_goodFrame (s : State) (gr : FlexGroup) (i : Nat) (num : Nat) (at' : Option Nat) (f : OhFrame) (r1 : K .PRT_EP_STATUS) (r2 : K .PRT_EP_EVENT) (r3 : K .FLX_GRP_STATUS) (r4 : K .FLX_GRP_EVENT) (r5 : K .FLX_INST_STATUS) (r6 : K .SWC_SNR_LOST) (r7 : K .SWC_CH_STATUS) (r8 : K .SWC_Q_STATUS) (r9 : K .DRM_ENG_STATUS) (r10 : K .SEQ_CH_DSN) (r11 : K .HIF_CQ_PROD) (r12 : K .CNT_EVENT) (r13 : K .CNT_PROG_SEL) (p1 : P .irq) (p2 : P .cnt) (p3 : P .prt) (p4 : P .flx) (p5 : P .buf) (p6 : P .sch) (p7 : P .pool) (p8 : P .hif) (p9 : P .out) (p10 : P .free) : outside K P (State.goodFrame s gr i num at' f) = outside K P s :=
  by unfold State.goodFrame; simp [*]
theorem outside_execOverheadFrameReceived (inst : Nat) (f : OhFrame) (s : State) (r1 : K .PRT_EP_STATUS) (r2 : K .PRT_EP_EVENT) (r3 : K .FLX_GRP_STATUS) (r4 : K .FLX_GRP_EVENT) (r5 : K .FLX_INST_STATUS) (r6 : K .SWC_SNR_LOST) (r7 : K .SWC_CH_STATUS) (r8 : K .SWC_Q_STATUS) (r9 : K .DRM_ENG_STATUS) (r10 : K .SEQ_CH_DSN) (r11 : K .HIF_CQ_PROD) (r12 : K .CNT_EVENT) (r13 : K .CNT_PROG_SEL) (p1 : P .irq) (p2 : P .cnt) (p3 : P .prt) (p4 : P .flx) (p5 : P .buf) (p6 : P .sch) (p7 : P .pool) (p8 : P .hif) (p9 : P .out) (p10 : P .free) : ∀ u, execOverheadFrameReceived inst f s = .next u → outside K P u = outside K P s :=
  by intro u h; unfold execOverheadFrameReceived at h; cases h; (repeat' split) <;> simp [*]
@[simp] theorem outside_sendOverhead (s : State) (gr : FlexGroup) (n : Nat) (p1 : P .out) : outside K P (State.sendOverhead s gr n) = outside K P s :=
  by unfold State.sendOverhead; simp [*, outside_foldl]
@[simp] theorem outside_clipClients (s : State) (g : Nat) (r1 : K .PEL_STATUS) (r2 : K .PRT_EP_CFG) (r3 : K .SCH_P_RATE) (r4 : K .SCH_CH_RATE) (r5 : K .SCH_Q_RATE) : outside K P (State.clipClients s g) = outside K P s :=
  by unfold State.clipClients; split <;> simp [*, outside_foldl]
theorem outside_execTxSwapped (g : Nat) (s : State) (r1 : K .PEL_STATUS) (r2 : K .PRT_EP_CFG) (r3 : K .FLX_GRP_STATUS) (r4 : K .FLX_GRP_EVENT) (r5 : K .DRM_ENG_STATUS) (r6 : K .SCH_P_RATE) (r7 : K .SCH_CH_RATE) (r8 : K .SCH_Q_RATE) (p1 : P .irq) (p2 : P .flx) (p3 : P .out) : ∀ u, execTxSwapped g s = .next u → outside K P u = outside K P s :=
  by intro u h; unfold execTxSwapped at h; dsimp only at h; (repeat' split at h) <;> (try cases h) <;> (repeat' split) <;> simp [*, outside_foldl]
theorem outside_execCalSwStall (g : Nat) (s : State) (r1 : K .FLX_GRP_EVENT) (p1 : P .irq) (p2 : P .flx) (p3 : P .out) : ∀ u, execCalSwStall g s = .next u → outside K P u = outside K P s :=
  by intro u h; unfold execCalSwStall at h; cases h; (repeat' split) <;> simp [*]
@[simp] theorem outside_flexIgnored (s : State) (who : Nat) (r1 : K .FLX_STATUS) (r2 : K .VF_STATUS) : outside K P (State.flexIgnored s who) = outside K P s :=
  by unfold State.flexIgnored; simp [*]
theorem outside_execCancel (who : Nat) (g : Nat) (s : State) (r1 : K .FLX_STATUS) (r2 : K .FLX_GRP_STATUS) (r3 : K .VF_STATUS) (p1 : P .flx) : ∀ u, execCancel who g s = .next u → outside K P u = outside K P s :=
  by intro u h; unfold execCancel at h; cases h; simp [*]
theorem outside_execRetry (who : Nat) (g : Nat) (s : State) (r1 : K .FLX_STATUS) (r2 : K .FLX_GRP_STATUS) (r3 : K .VF_STATUS) (p1 : P .flx) : ∀ u, execRetry who g s = .next u → outside K P u = outside K P s :=
  by intro u h; unfold execRetry at h; cases h; simp [*]
@[simp] theorem outside_phyDown (s : State) (l : Nat) (r1 : K .PRT_EP_STATUS) (r2 : K .PRT_EP_EVENT) (r3 : K .FLX_GRP_STATUS) (r4 : K .FLX_GRP_EVENT) (r5 : K .FLX_INST_STATUS) (r6 : K .SWC_SNR_LOST) (r7 : K .SWC_CH_STATUS) (r8 : K .SWC_Q_STATUS) (r9 : K .DRM_ENG_STATUS) (r10 : K .SEQ_CH_DSN) (r11 : K .HIF_CQ_PROD) (r12 : K .CNT_EVENT) (r13 : K .CNT_PROG_SEL) (p1 : P .irq) (p2 : P .cnt) (p3 : P .prt) (p4 : P .flx) (p5 : P .buf) (p6 : P .sch) (p7 : P .pool) (p8 : P .hif) (p9 : P .out) (p10 : P .free) : outside K P (State.phyDown s l) = outside K P s :=
  by unfold State.phyDown; (repeat' split) <;> simp [*, outside_foldl]
@[simp] theorem outside_phyUp (s : State) (l : Nat) (r1 : K .FLX_GRP_STATUS) (p1 : P .prt) : outside K P (State.phyUp s l) = outside K P s :=
  by unfold State.phyUp; (repeat' split) <;> simp [*, outside_foldl]
@[simp] theorem outside_flexReset (s : State) (r1 : K .PRT_EP_STATUS) (r2 : K .PRT_EP_EVENT) (r3 : K .FLX_GRP_STATUS) (r4 : K .FLX_GRP_EVENT) (r5 : K .FLX_INST_STATUS) (r6 : K .SWC_SNR_LOST) (r7 : K .SWC_CH_STATUS) (r8 : K .SWC_Q_STATUS) (r9 : K .DRM_ENG_STATUS) (r10 : K .SEQ_CH_DSN) (r11 : K .HIF_CQ_PROD) (r12 : K .CNT_EVENT) (r13 : K .CNT_PROG_SEL) (p1 : P .irq) (p2 : P .cnt) (p3 : P .prt) (p4 : P .flx) (p5 : P .buf) (p6 : P .sch) (p7 : P .pool) (p8 : P .hif) (p9 : P .out) (p10 : P .free) : outside K P (State.flexReset s) = outside K P s :=
  by unfold State.flexReset; (repeat' split) <;> simp [*, outside_foldl]
@[simp] theorem outside_groupCreate (s : State) (gr : FlexGroup) (r1 : K .PRT_EP_STATUS) (r2 : K .PRT_EP_EVENT) (r3 : K .FLX_GRP_STATUS) (r4 : K .FLX_GRP_EVENT) (r5 : K .FLX_INST_STATUS) (r6 : K .SWC_SNR_LOST) (r7 : K .SWC_CH_STATUS) (r8 : K .SWC_Q_STATUS) (r9 : K .DRM_ENG_STATUS) (r10 : K .SEQ_CH_DSN) (r11 : K .HIF_CQ_PROD) (r12 : K .CNT_EVENT) (r13 : K .CNT_PROG_SEL) (p1 : P .irq) (p2 : P .cnt) (p3 : P .prt) (p4 : P .flx) (p5 : P .buf) (p6 : P .sch) (p7 : P .pool) (p8 : P .hif) (p9 : P .out) (p10 : P .free) : outside K P (State.groupCreate s gr) = outside K P s :=
  by unfold State.groupCreate; simp [*, outside_foldl]
@[simp] theorem outside_groupKeep (s : State) (a : FlexGroup) (b : FlexGroup) (r1 : K .FLX_GRP_STATUS) (p1 : P .flx) : outside K P (State.groupKeep s a b) = outside K P s :=
  by unfold State.groupKeep; simp [*]
@[simp] theorem outside_groupRemove (s : State) (gr : FlexGroup) (r1 : K .PRT_EP_STATUS) (r2 : K .PRT_EP_EVENT) (r3 : K .FLX_GRP_STATUS) (r4 : K .FLX_INST_STATUS) (r5 : K .SWC_SNR_LOST) (r6 : K .SWC_CH_STATUS) (r7 : K .SWC_Q_STATUS) (r8 : K .DRM_ENG_STATUS) (r9 : K .SEQ_CH_DSN) (r10 : K .HIF_CQ_PROD) (r11 : K .CNT_EVENT) (r12 : K .CNT_PROG_SEL) (p1 : P .irq) (p2 : P .cnt) (p3 : P .prt) (p4 : P .flx) (p5 : P .buf) (p6 : P .sch) (p7 : P .pool) (p8 : P .hif) (p9 : P .out) (p10 : P .free) : outside K P (State.groupRemove s gr) = outside K P s :=
  by unfold State.groupRemove; simp [*, outside_foldl]
@[simp] theorem outside_flexStrike (s : State) (old : Option Image) (r1 : K .PRT_EP_STATUS) (r2 : K .PRT_EP_EVENT) (r3 : K .FLX_GRP_STATUS) (r4 : K .FLX_GRP_EVENT) (r5 : K .FLX_INST_STATUS) (r6 : K .SWC_SNR_LOST) (r7 : K .SWC_CH_STATUS) (r8 : K .SWC_Q_STATUS) (r9 : K .DRM_ENG_STATUS) (r10 : K .SEQ_CH_DSN) (r11 : K .HIF_CQ_PROD) (r12 : K .CNT_EVENT) (r13 : K .CNT_PROG_SEL) (p1 : P .irq) (p2 : P .cnt) (p3 : P .prt) (p4 : P .flx) (p5 : P .buf) (p6 : P .sch) (p7 : P .pool) (p8 : P .hif) (p9 : P .out) (p10 : P .free) : outside K P (State.flexStrike s old) = outside K P s :=
  by unfold State.flexStrike; refine (outside_foldl _ ?_ _ _).trans ?_ <;> (try intros) <;> (repeat' split) <;> simp [*, outside_foldl]
@[simp] theorem outside_storeField (s : State) (p : Place) (v : Nat) (f : FieldRow) (hK : ∀ r, K r) (hP : ∀ p, P p) : outside K P (State.storeField s p v f) = outside K P s :=
  by unfold State.storeField; split <;> simp [*]
@[simp] theorem outside_storeWord (s : State) (p : Place) (v : Nat) (hK : ∀ r, K r) (hP : ∀ p, P p) : outside K P (State.storeWord s p v) = outside K P s :=
  by unfold State.storeWord; simp [*, outside_foldl]
@[simp] theorem outside_readyEvents (s : State) (r1 : K .TIM_EVENT) (r2 : K .CNT_EVENT) (p1 : P .irq) (p2 : P .out) : outside K P (State.readyEvents s) = outside K P s :=
  by unfold State.readyEvents; simp [*]
@[simp] theorem outside_afterWrite (s : State) (was : State) (p : Place) (r1 : K .SWC_CH_STATUS) (r2 : K .DRM_ENG_STATUS) (r3 : K .SEQ_DUP_STATUS) (r4 : K .TIM_STATUS) (r5 : K .TIM_EVENT) (r6 : K .TAB_STATUS) (r7 : K .TAB_EVENT) (r8 : K .CNT_EVENT) (p1 : P .irq) (p2 : P .tim) (p3 : P .cnt) (p4 : P .buf) (p5 : P .tab) (p6 : P .pwr) (p7 : P .out) : outside K P (State.afterWrite s was p) = outside K P s :=
  by
  unfold State.afterWrite
  dsimp only
  (repeat' split) <;> try (simp [*]; done)
@[simp] theorem outside_completeKey (s : State) (who : Nat) (op : Nat) (st : Status) (res : optParam (List Nat) []) (r1 : K .KEY_CMD_RESULT) (r2 : K .KEY_RES) : outside K P (State.completeKey s who op st res) = outside K P s :=
  by
  unfold State.completeKey
  refine outside_sets _ _ (fun p hp => ?_)
  rcases List.mem_append.1 hp with h | h
  · split at h
    · cases h
    · obtain ⟨q, -, rfl⟩ := List.mem_map.1 h
      assumption
  · simp only [List.mem_cons, List.not_mem_nil, or_false] at h
    rcases h with rfl | rfl <;> assumption
@[simp] theorem outside_keyCommand (s : State) (who : Nat) (op : Nat) (checks : List (Bool × Status)) (ok : State → State) (res : optParam (List Nat) []) (hk : outside K P (ok s) = outside K P s) (r1 : K .KEY_STATUS) (r2 : K .KEY_CMD_RESULT) (r3 : K .KEY_RES) (r4 : K .VF_STATUS) : outside K P (State.keyCommand s who op checks ok res) = outside K P s :=
  by unfold State.keyCommand; (repeat' split) <;> simp [*, hk]
@[simp] theorem outside_challengeCmd (s : State) (who : Nat) (r1 : K .KEY_STATUS) (r2 : K .KEY_CMD_RESULT) (r3 : K .KEY_RES) (r4 : K .VF_STATUS) (p1 : P .key) (p2 : P .free) : outside K P (State.challengeCmd s who) = outside K P s :=
  by unfold State.challengeCmd; simp [*]
theorem outside_execChallenge (who : Nat) (s : State) (r1 : K .KEY_STATUS) (r2 : K .KEY_CMD_RESULT) (r3 : K .KEY_RES) (r4 : K .VF_STATUS) (p1 : P .key) (p2 : P .free) : ∀ u, execChallenge who s = .next u → outside K P u = outside K P s :=
  by intro u h; unfold execChallenge at h; cases h; simp [*]
@[simp] theorem outside_domainImport (s : State) (who : Nat) (p : DomainPackage) (r1 : K .KEY_STATUS) (r2 : K .KEY_CMD_RESULT) (r3 : K .KEY_RES) (r4 : K .VF_STATUS) (p1 : P .key) : outside K P (State.domainImport s who p) = outside K P s :=
  by unfold State.domainImport; simp [*]
theorem outside_execDomainImport (who : Nat) (pkg : DomainPackage) (s : State) (r1 : K .KEY_STATUS) (r2 : K .KEY_CMD_RESULT) (r3 : K .KEY_RES) (r4 : K .VF_STATUS) (p1 : P .key) : ∀ u, execDomainImport who pkg s = .next u → outside K P u = outside K P s :=
  by intro u h; unfold execDomainImport at h; cases h; simp [*]
@[simp] theorem outside_groupDerive (s : State) (who : Nat) (r1 : K .KEY_STATUS) (r2 : K .KEY_CMD_RESULT) (r3 : K .KEY_RES) (r4 : K .VF_STATUS) (p1 : P .key) : outside K P (State.groupDerive s who) = outside K P s :=
  by unfold State.groupDerive; simp [*]
theorem outside_execGroupDerive (who : Nat) (s : State) (r1 : K .KEY_STATUS) (r2 : K .KEY_CMD_RESULT) (r3 : K .KEY_RES) (r4 : K .VF_STATUS) (p1 : P .key) : ∀ u, execGroupDerive who s = .next u → outside K P u = outside K P s :=
  by intro u h; unfold execGroupDerive at h; cases h; simp [*]
@[simp] theorem outside_cakDerive (s : State) (who : Nat) (r1 : K .KEY_STATUS) (r2 : K .KEY_CMD_RESULT) (r3 : K .KEY_RES) (r4 : K .VF_STATUS) (p1 : P .key) : outside K P (State.cakDerive s who) = outside K P s :=
  by unfold State.cakDerive; simp [*]
theorem outside_execCakDerive (who : Nat) (s : State) (r1 : K .KEY_STATUS) (r2 : K .KEY_CMD_RESULT) (r3 : K .KEY_RES) (r4 : K .VF_STATUS) (p1 : P .key) : ∀ u, execCakDerive who s = .next u → outside K P u = outside K P s :=
  by intro u h; unfold execCakDerive at h; cases h; simp [*]
@[simp] theorem outside_keyImport (s : State) (who : Nat) (r1 : K .KEY_STATUS) (r2 : K .KEY_CMD_RESULT) (r3 : K .KEY_RES) (r4 : K .VF_STATUS) (p1 : P .key) : outside K P (State.keyImport s who) = outside K P s :=
  by unfold State.keyImport; simp [*]
theorem outside_execKeyImport (who : Nat) (s : State) (r1 : K .KEY_STATUS) (r2 : K .KEY_CMD_RESULT) (r3 : K .KEY_RES) (r4 : K .VF_STATUS) (p1 : P .key) : ∀ u, execKeyImport who s = .next u → outside K P u = outside K P s :=
  by intro u h; unfold execKeyImport at h; cases h; simp [*]
@[simp] theorem outside_keyExport (s : State) (who : Nat) (r1 : K .KEY_STATUS) (r2 : K .KEY_CMD_RESULT) (r3 : K .KEY_RES) (r4 : K .VF_STATUS) : outside K P (State.keyExport s who) = outside K P s :=
  by unfold State.keyExport; simp [*]
theorem outside_execKeyExport (who : Nat) (s : State) (r1 : K .KEY_STATUS) (r2 : K .KEY_CMD_RESULT) (r3 : K .KEY_RES) (r4 : K .VF_STATUS) : ∀ u, execKeyExport who s = .next u → outside K P u = outside K P s :=
  by intro u h; unfold execKeyExport at h; cases h; simp [*]
@[simp] theorem outside_emptySlot (s : State) (level : Nat) (i : Nat) (p1 : P .key) : outside K P (State.emptySlot s level i) = outside K P s :=
  by unfold State.emptySlot; simp [*]
@[simp] theorem outside_keyInvalidate (s : State) (who : Nat) (r1 : K .SAM_EVENT) (r2 : K .SAM_EVQ_LOST) (r3 : K .SAM_CMD_RESULT) (r4 : K .SAM_RES) (r5 : K .KEY_STATUS) (r6 : K .KEY_CMD_RESULT) (r7 : K .KEY_RES) (r8 : K .CNT_EVENT) (r9 : K .CNT_PROG_SEL) (r10 : K .VF_STATUS) (r11 : K .VF_EVENT) (p1 : P .irq) (p2 : P .cnt) (p3 : P .pool) (p4 : P .sam) (p5 : P .key) (p6 : P .twn) (p7 : P .out) (p8 : P .free) : outside K P (State.keyInvalidate s who) = outside K P s :=
  by unfold State.keyInvalidate; simp [*]
theorem outside_execKeyInvalidate (who : Nat) (s : State) (r1 : K .SAM_EVENT) (r2 : K .SAM_EVQ_LOST) (r3 : K .SAM_CMD_RESULT) (r4 : K .SAM_RES) (r5 : K .KEY_STATUS) (r6 : K .KEY_CMD_RESULT) (r7 : K .KEY_RES) (r8 : K .CNT_EVENT) (r9 : K .CNT_PROG_SEL) (r10 : K .VF_STATUS) (r11 : K .VF_EVENT) (p1 : P .irq) (p2 : P .cnt) (p3 : P .pool) (p4 : P .sam) (p5 : P .key) (p6 : P .twn) (p7 : P .out) (p8 : P .free) : ∀ u, execKeyInvalidate who s = .next u → outside K P u = outside K P s :=
  by intro u h; unfold execKeyInvalidate at h; cases h; simp [*]
@[simp] theorem outside_orphanSa (s : State) (a : Nat) (r1 : K .SAM_EVENT) (r2 : K .SAM_EVQ_LOST) (p1 : P .irq) (p2 : P .sam) (p3 : P .twn) (p4 : P .out) : outside K P (State.orphanSa s a) = outside K P s :=
  by unfold State.orphanSa; simp [*]
@[simp] theorem outside_sweepDone (s : State) (r1 : K .SAM_EVENT) (r2 : K .SAM_EVQ_LOST) (r3 : K .KEY_EVENT) (p1 : P .irq) (p2 : P .sam) (p3 : P .key) (p4 : P .twn) (p5 : P .out) : outside K P (State.sweepDone s) = outside K P s :=
  by unfold State.sweepDone; (repeat' split) <;> simp [*, outside_foldl]
theorem outside_execSweepDone (s : State) (r1 : K .SAM_EVENT) (r2 : K .SAM_EVQ_LOST) (r3 : K .KEY_EVENT) (p1 : P .irq) (p2 : P .sam) (p3 : P .key) (p4 : P .twn) (p5 : P .out) : ∀ u, execSweepDone s = .next u → outside K P u = outside K P s :=
  by intro u h; unfold execSweepDone at h; cases h; simp [*]
@[simp] theorem outside_keyRead (s : State) (who : Nat) (r1 : K .KEY_STATUS) (r2 : K .KEY_CMD_RESULT) (r3 : K .KEY_RES) (r4 : K .VF_STATUS) : outside K P (State.keyRead s who) = outside K P s :=
  by unfold State.keyRead; simp [*]
theorem outside_execKeyRead (who : Nat) (s : State) (r1 : K .KEY_STATUS) (r2 : K .KEY_CMD_RESULT) (r3 : K .KEY_RES) (r4 : K .VF_STATUS) : ∀ u, execKeyRead who s = .next u → outside K P u = outside K P s :=
  by intro u h; unfold execKeyRead at h; cases h; simp [*]
@[simp] theorem outside_mkaIcv (s : State) (who : Nat) (data : Bytes) (r1 : K .KEY_STATUS) (r2 : K .KEY_CMD_RESULT) (r3 : K .KEY_RES) (r4 : K .VF_STATUS) : outside K P (State.mkaIcv s who data) = outside K P s :=
  by unfold State.mkaIcv; simp [*]
theorem outside_execMkaIcv (who : Nat) (data : Bytes) (s : State) (r1 : K .KEY_STATUS) (r2 : K .KEY_CMD_RESULT) (r3 : K .KEY_RES) (r4 : K .VF_STATUS) : ∀ u, execMkaIcv who data s = .next u → outside K P u = outside K P s :=
  by intro u h; unfold execMkaIcv at h; cases h; simp [*]
@[simp] theorem outside_hybSlot (s : State) (c : Nat) (d : Nat) (peer : Nat) (ckn : BitVec 128) (key : Key) (p1 : P .key) : outside K P (State.hybSlot s c d peer ckn key) = outside K P s :=
  by unfold State.hybSlot; simp [*]
@[simp] theorem outside_setHyb (s : State) (n : Nat) (h : Option HybSession) (p1 : P .key) : outside K P (State.setHyb s n h) = outside K P s :=
  by unfold State.setHyb; simp [*]
@[simp] theorem outside_hybStart (s : State) (who : Nat) (r1 : K .KEY_STATUS) (r2 : K .KEY_CMD_RESULT) (r3 : K .KEY_RES) (r4 : K .VF_STATUS) (p1 : P .key) (p2 : P .out) (p3 : P .free) : outside K P (State.hybStart s who) = outside K P s :=
  by unfold State.hybStart; simp [*]
theorem outside_execHybStart (who : Nat) (s : State) (r1 : K .KEY_STATUS) (r2 : K .KEY_CMD_RESULT) (r3 : K .KEY_RES) (r4 : K .VF_STATUS) (p1 : P .key) (p2 : P .out) (p3 : P .free) : ∀ u, execHybStart who s = .next u → outside K P u = outside K P s :=
  by intro u h; unfold execHybStart at h; cases h; simp [*]
@[simp] theorem outside_hybRespond (s : State) (who : Nat) (m1 : HybMsg) (r1 : K .KEY_STATUS) (r2 : K .KEY_CMD_RESULT) (r3 : K .KEY_RES) (r4 : K .VF_STATUS) (p1 : P .key) (p2 : P .out) (p3 : P .free) : outside K P (State.hybRespond s who m1) = outside K P s :=
  by unfold State.hybRespond; simp [*]
theorem outside_execHybRespond (who : Nat) (msg : HybMsg) (s : State) (r1 : K .KEY_STATUS) (r2 : K .KEY_CMD_RESULT) (r3 : K .KEY_RES) (r4 : K .VF_STATUS) (p1 : P .key) (p2 : P .out) (p3 : P .free) : ∀ u, execHybRespond who msg s = .next u → outside K P u = outside K P s :=
  by intro u h; unfold execHybRespond at h; cases h; simp [*]
@[simp] theorem outside_hybFinish (s : State) (who : Nat) (m2 : HybMsg) (r1 : K .KEY_STATUS) (r2 : K .KEY_CMD_RESULT) (r3 : K .KEY_RES) (r4 : K .VF_STATUS) (p1 : P .key) : outside K P (State.hybFinish s who m2) = outside K P s :=
  by unfold State.hybFinish; simp only []; (repeat' split) <;> simp [*]
theorem outside_execHybFinish (who : Nat) (msg : HybMsg) (s : State) (r1 : K .KEY_STATUS) (r2 : K .KEY_CMD_RESULT) (r3 : K .KEY_RES) (r4 : K .VF_STATUS) (p1 : P .key) : ∀ u, execHybFinish who msg s = .next u → outside K P u = outside K P s :=
  by intro u h; unfold execHybFinish at h; cases h; simp [*]
@[simp] theorem outside_hybCancel (s : State) (who : Nat) (r1 : K .KEY_STATUS) (r2 : K .KEY_CMD_RESULT) (r3 : K .KEY_RES) (r4 : K .VF_STATUS) (p1 : P .key) : outside K P (State.hybCancel s who) = outside K P s :=
  by unfold State.hybCancel; simp [*]
theorem outside_execHybCancel (who : Nat) (s : State) (r1 : K .KEY_STATUS) (r2 : K .KEY_CMD_RESULT) (r3 : K .KEY_RES) (r4 : K .VF_STATUS) (p1 : P .key) : ∀ u, execHybCancel who s = .next u → outside K P u = outside K P s :=
  by intro u h; unfold execHybCancel at h; cases h; simp [*]
theorem outside_execHybExpired (session : Nat) (s : State) (r1 : K .KEY_EVENT) (p1 : P .irq) (p2 : P .key) (p3 : P .out) : ∀ u, execHybExpired session s = .next u → outside K P u = outside K P s :=
  by intro u h; unfold execHybExpired at h; cases h; simp [*]
@[simp] theorem outside_idGet (s : State) (who : Nat) (r1 : K .KEY_STATUS) (r2 : K .KEY_CMD_RESULT) (r3 : K .KEY_RES) (r4 : K .VF_STATUS) (p1 : P .out) : outside K P (State.idGet s who) = outside K P s :=
  by unfold State.idGet; simp [*]
theorem outside_execIdGet (who : Nat) (s : State) (r1 : K .KEY_STATUS) (r2 : K .KEY_CMD_RESULT) (r3 : K .KEY_RES) (r4 : K .VF_STATUS) (p1 : P .out) : ∀ u, execIdGet who s = .next u → outside K P u = outside K P s :=
  by intro u h; unfold execIdGet at h; cases h; simp [*]
@[simp] theorem outside_attest (s : State) (who : Nat) (r1 : K .KEY_STATUS) (r2 : K .KEY_CMD_RESULT) (r3 : K .KEY_RES) (r4 : K .VF_STATUS) (p1 : P .out) : outside K P (State.attest s who) = outside K P s :=
  by unfold State.attest; simp [*]
theorem outside_execAttest (who : Nat) (s : State) (r1 : K .KEY_STATUS) (r2 : K .KEY_CMD_RESULT) (r3 : K .KEY_RES) (r4 : K .VF_STATUS) (p1 : P .out) : ∀ u, execAttest who s = .next u → outside K P u = outside K P s :=
  by intro u h; unfold execAttest at h; cases h; simp [*]
@[simp] theorem outside_clearSas (s : State) (r1 : K .SAM_CMD_RESULT) (r2 : K .SAM_RES) (r3 : K .VF_EVENT) (p1 : P .irq) (p2 : P .cnt) (p3 : P .pool) (p4 : P .sam) (p5 : P .key) (p6 : P .out) (p7 : P .free) : outside K P (State.clearSas s) = outside K P s :=
  by
  unfold State.clearSas
  refine Eq.trans (outside_eq (s := s.samAbortAll) rfl rfl rfl (fun _ _ => rfl) (fun p hp => by cases p <;> first | rfl | contradiction)) ?_
  simp [*]
@[simp] theorem outside_zeroizeSession (s : State) (r1 : K .SAM_CMD_RESULT) (r2 : K .SAM_RES) (r3 : K .KEY_EVENT) (r4 : K .VF_EVENT) (p1 : P .irq) (p2 : P .cnt) (p3 : P .pool) (p4 : P .sam) (p5 : P .key) (p6 : P .out) (p7 : P .free) : outside K P (State.zeroizeSession s) = outside K P s :=
  by unfold State.zeroizeSession; simp [*]
@[simp] theorem outside_zeroizeAll (s : State) (r1 : K .SAM_CMD_RESULT) (r2 : K .SAM_RES) (r3 : K .KEY_STATUS) (r4 : K .KEY_EVENT) (r5 : K .VF_EVENT) (p1 : P .irq) (p2 : P .cnt) (p3 : P .pool) (p4 : P .sam) (p5 : P .key) (p6 : P .out) (p7 : P .free) : outside K P (State.zeroizeAll s) = outside K P s :=
  by unfold State.zeroizeAll; simp [*]
@[simp] theorem outside_zeroizeBattery (s : State) (p1 : P .key) : outside K P (State.zeroizeBattery s) = outside K P s :=
  by unfold State.zeroizeBattery; simp [*]
@[simp] theorem outside_portDown (s : State) (l : Nat) (r1 : K .PRT_EP_STATUS) (r2 : K .PRT_EP_EVENT) (r3 : K .FLX_GRP_STATUS) (r4 : K .FLX_GRP_EVENT) (r5 : K .FLX_INST_STATUS) (r6 : K .SWC_SNR_LOST) (r7 : K .SWC_CH_STATUS) (r8 : K .SWC_Q_STATUS) (r9 : K .DRM_ENG_STATUS) (r10 : K .SEQ_CH_DSN) (r11 : K .HIF_CQ_PROD) (r12 : K .CNT_EVENT) (r13 : K .CNT_PROG_SEL) (p1 : P .irq) (p2 : P .cnt) (p3 : P .prt) (p4 : P .flx) (p5 : P .buf) (p6 : P .sch) (p7 : P .pool) (p8 : P .hif) (p9 : P .out) (p10 : P .free) : outside K P (State.portDown s l) = outside K P s :=
  by unfold State.portDown; simp [*]
@[simp] theorem outside_lossSet (s : State) (l : Nat) (kind : Nat) (r1 : K .PRT_EP_STATUS) (r2 : K .PRT_EP_EVENT) (r3 : K .FLX_GRP_STATUS) (r4 : K .FLX_GRP_EVENT) (r5 : K .FLX_INST_STATUS) (r6 : K .SWC_SNR_LOST) (r7 : K .SWC_CH_STATUS) (r8 : K .SWC_Q_STATUS) (r9 : K .DRM_ENG_STATUS) (r10 : K .SEQ_CH_DSN) (r11 : K .HIF_CQ_PROD) (r12 : K .CNT_EVENT) (r13 : K .CNT_PROG_SEL) (p1 : P .irq) (p2 : P .cnt) (p3 : P .prt) (p4 : P .flx) (p5 : P .buf) (p6 : P .sch) (p7 : P .pool) (p8 : P .hif) (p9 : P .out) (p10 : P .free) : outside K P (State.lossSet s l kind) = outside K P s :=
  by unfold State.lossSet; simp [*]
theorem outside_execLossConditionDetected (ch : Nat) (kind : Nat) (s : State) (r1 : K .PRT_EP_STATUS) (r2 : K .PRT_EP_EVENT) (r3 : K .FLX_GRP_STATUS) (r4 : K .FLX_GRP_EVENT) (r5 : K .FLX_INST_STATUS) (r6 : K .SWC_SNR_LOST) (r7 : K .SWC_CH_STATUS) (r8 : K .SWC_Q_STATUS) (r9 : K .DRM_ENG_STATUS) (r10 : K .SEQ_CH_DSN) (r11 : K .HIF_CQ_PROD) (r12 : K .CNT_EVENT) (r13 : K .CNT_PROG_SEL) (p1 : P .irq) (p2 : P .cnt) (p3 : P .prt) (p4 : P .flx) (p5 : P .buf) (p6 : P .sch) (p7 : P .pool) (p8 : P .hif) (p9 : P .out) (p10 : P .free) : ∀ u, execLossConditionDetected ch kind s = .next u → outside K P u = outside K P s :=
  by intro u h; unfold execLossConditionDetected at h; cases h; simp [*]
theorem outside_execLossConditionCleared (ch : Nat) (kind : Nat) (s : State) (r1 : K .PRT_EP_STATUS) (p1 : P .prt) : ∀ u, execLossConditionCleared ch kind s = .next u → outside K P u = outside K P s :=
  by intro u h; unfold execLossConditionCleared at h; cases h; simp [*]
theorem outside_execLinkDown (ch : Nat) (s : State) (r1 : K .PRT_EP_STATUS) (r2 : K .PRT_EP_EVENT) (r3 : K .FLX_GRP_STATUS) (r4 : K .FLX_GRP_EVENT) (r5 : K .FLX_INST_STATUS) (r6 : K .SWC_SNR_LOST) (r7 : K .SWC_CH_STATUS) (r8 : K .SWC_Q_STATUS) (r9 : K .DRM_ENG_STATUS) (r10 : K .SEQ_CH_DSN) (r11 : K .HIF_CQ_PROD) (r12 : K .CNT_EVENT) (r13 : K .CNT_PROG_SEL) (p1 : P .irq) (p2 : P .cnt) (p3 : P .prt) (p4 : P .flx) (p5 : P .buf) (p6 : P .sch) (p7 : P .pool) (p8 : P .hif) (p9 : P .out) (p10 : P .free) : ∀ u, execLinkDown ch s = .next u → outside K P u = outside K P s :=
  by intro u h; unfold execLinkDown at h; cases h; simp [*]
theorem outside_execLinkUp (ch : Nat) (rxDelay : Nat) (txDelay : Nat) (s : State) (r1 : K .PRT_EP_STATUS) (r2 : K .PRT_EP_EVENT) (r3 : K .FLX_GRP_STATUS) (r4 : K .SWC_Q_STATUS) (r5 : K .DRM_ENG_STATUS) (r6 : K .TIM_CH_RX_DLY) (r7 : K .TIM_CH_TX_DLY) (p1 : P .irq) (p2 : P .prt) (p3 : P .out) : ∀ u, execLinkUp ch rxDelay txDelay s = .next u → outside K P u = outside K P s :=
  by intro u h; unfold execLinkUp at h; cases h; simp [*]
theorem outside_execSerdesRefLost (grp : Nat) (s : State) (r1 : K .PRT_EP_STATUS) (r2 : K .PRT_EP_EVENT) (r3 : K .FLX_GRP_STATUS) (r4 : K .FLX_GRP_EVENT) (r5 : K .FLX_INST_STATUS) (r6 : K .SWC_SNR_LOST) (r7 : K .SWC_CH_STATUS) (r8 : K .SWC_Q_STATUS) (r9 : K .DRM_ENG_STATUS) (r10 : K .SEQ_CH_DSN) (r11 : K .HIF_CQ_PROD) (r12 : K .CNT_EVENT) (r13 : K .CNT_PROG_SEL) (p1 : P .irq) (p2 : P .cnt) (p3 : P .prt) (p4 : P .flx) (p5 : P .buf) (p6 : P .sch) (p7 : P .pool) (p8 : P .hif) (p9 : P .out) (p10 : P .free) : ∀ u, execSerdesRefLost grp s = .next u → outside K P u = outside K P s :=
  by
  intro u h
  refine outside_next h ?_
  split
  · refine outside_foldl _ ?_ _ _
    intro s l
    simp [*]
  · rfl
@[simp] theorem outside_completePel (s : State) (op : Nat) (st : Status) (step : optParam Nat 0) (sec : optParam Nat 15) (r1 : K .PEL_RESULT) (r2 : K .PEL_EVENT) (p1 : P .irq) (p2 : P .out) : outside K P (State.completePel s op st step sec) = outside K P s :=
  by unfold State.completePel; simp [*]
@[simp] theorem outside_shadowClear (s : State) (r1 : K .PEL_STATUS) (p1 : P .pel) : outside K P (State.shadowClear s) = outside K P s :=
  by unfold State.shadowClear; simp [*]
@[simp] theorem outside_strikeCancel (s : State) (r1 : K .PEL_RESULT) (r2 : K .PEL_STATUS) (r3 : K .PEL_EVENT) (p1 : P .irq) (p2 : P .pel) (p3 : P .out) : outside K P (State.strikeCancel s) = outside K P s :=
  by unfold State.strikeCancel; simp [*]
@[simp] theorem outside_shadowAbort (s : State) (r1 : K .PEL_RESULT) (r2 : K .PEL_STATUS) (r3 : K .PEL_EVENT) (p1 : P .irq) (p2 : P .pel) (p3 : P .out) : outside K P (State.shadowAbort s) = outside K P s :=
  by unfold State.shadowAbort; split <;> simp [*]
@[simp] theorem outside_bufferDown (s : State) (r1 : K .SWC_SNR_LOST) (r2 : K .SWC_CH_STATUS) (r3 : K .SWC_Q_STATUS) (r4 : K .HIF_CQ_PROD) (r5 : K .CNT_EVENT) (r6 : K .CNT_PROG_SEL) (p1 : P .irq) (p2 : P .cnt) (p3 : P .buf) (p4 : P .hif) (p5 : P .out) (p6 : P .free) : outside K P (State.bufferDown s) = outside K P s :=
  by
  unfold State.bufferDown
  rw [outside_foldl _ (fun s q => outside_set _ _ _ (by assumption)),
    outside_foldl _ (fun s i => by rw [outside_foldl _ (fun s _ => by simp [*])]; simp [*]),
    outside_foldl _ (fun s p => outside_foldl _ (fun s f => by simp [*]) _ _),
    outside_foldl _ (fun s ch => outside_set _ _ _ (by assumption))]
  simp [*]
@[simp] theorem outside_internalQueuesUp (s : State) (r1 : K .SWC_Q_STATUS) : outside K P (State.internalQueuesUp s) = outside K P s :=
  by unfold State.internalQueuesUp; simp [*, outside_foldl]
@[simp] theorem outside_enginesTested (s : State) (r1 : K .DRM_CMD_RESULT) (r2 : K .DRM_EVENT) (r3 : K .DRM_ENG_STATUS) (p1 : P .irq) (p2 : P .pool) (p3 : P .out) : outside K P (State.enginesTested s) = outside K P s :=
  by unfold State.enginesTested; (repeat' split) <;> simp [*, outside_foldl]
@[simp] theorem outside_dataPlaneReset (s : State) (r1 : K .PRT_EP_STATUS) (r2 : K .PRT_EP_EVENT) (r3 : K .FLX_GRP_STATUS) (r4 : K .FLX_GRP_EVENT) (r5 : K .FLX_INST_STATUS) (r6 : K .SWC_SNR_LOST) (r7 : K .SWC_CH_STATUS) (r8 : K .SWC_Q_STATUS) (r9 : K .DRM_CMD_RESULT) (r10 : K .DRM_EVENT) (r11 : K .DRM_ENG_STATUS) (r12 : K .SEQ_CH_DSN) (r13 : K .TWN_STATUS) (r14 : K .TWN_EVENT) (r15 : K .TWN_CMD_RESULT) (r16 : K .HIF_CQ_PROD) (r17 : K .CNT_EVENT) (r18 : K .CNT_PROG_SEL) (p1 : P .irq) (p2 : P .cnt) (p3 : P .prt) (p4 : P .flx) (p5 : P .buf) (p6 : P .sch) (p7 : P .pool) (p8 : P .twn) (p9 : P .hif) (p10 : P .pwr) (p11 : P .out) (p12 : P .free) : outside K P (State.dataPlaneReset s) = outside K P s :=
  by unfold State.dataPlaneReset; simp [*, outside_foldl]
@[simp] theorem outside_controlPlaneReset (s : State) (r1 : K .PEL_RESULT) (r2 : K .PEL_STATUS) (r3 : K .PEL_EVENT) (r4 : K .TBL_EVENT) (r5 : K .SWC_SNR_LOST) (r6 : K .SAM_CMD_RESULT) (r7 : K .SAM_RES) (r8 : K .TWN_STATUS) (r9 : K .TWN_EVENT) (r10 : K .TWN_CMD_RESULT) (r11 : K .HIF_RS_CTL) (r12 : K .CHM_OUT_DATA) (r13 : K .CHM_EVENT) (r14 : K .TAB_STATUS) (r15 : K .TAB_EVENT) (r16 : K .VF_EVENT) (p1 : P .irq) (p2 : P .pel) (p3 : P .tbl) (p4 : P .buf) (p5 : P .sam) (p6 : P .key) (p7 : P .twn) (p8 : P .chm) (p9 : P .tab) (p10 : P .pwr) (p11 : P .out) (p12 : P .free) : outside K P (State.controlPlaneReset s) = outside K P s :=
  by unfold State.controlPlaneReset; simp [*, outside_foldl]
@[simp] theorem outside_cleared (s : State) (keep : List FKey) (hK : ∀ r, K r) (hP : ∀ p, P p) : outside K P (State.cleared s keep) = outside K P s :=
  outside_eq rfl rfl rfl (fun k hk => absurd (hK k.reg) hk) (fun p hp => absurd (hP p) hp)
@[simp] theorem outside_loopSeed (s : State) (p1 : P .tmp) (p2 : P .free) : outside K P (State.loopSeed s) = outside K P s :=
  by unfold State.loopSeed; simp [*]
@[simp] theorem outside_loopKeep (s : State) (was : State) (p1 : P .tmp) : outside K P (State.loopKeep s was) = outside K P s :=
  by unfold State.loopKeep; simp [*]
@[simp] theorem outside_resetPins (s : State) (r1 : K .TWN_STATUS) (p1 : P .twn) (p2 : P .out) : outside K P (State.resetPins s) = outside K P s :=
  by unfold State.resetPins; simp [*]
@[simp] theorem outside_resetLoads (s : State) (cause : Nat) (r1 : K .DRM_CMD_RESULT) (r2 : K .DRM_EVENT) (r3 : K .DRM_ENG_STATUS) (r4 : K .PWR_STATUS) (r5 : K .FUS_STATUS) (p1 : P .irq) (p2 : P .pool) (p3 : P .out) : outside K P (State.resetLoads s cause) = outside K P s :=
  by unfold State.resetLoads; simp [*]
@[simp] theorem outside_deviceReset (s : State) (cause : Nat) (hK : ∀ r, K r) (hP : ∀ p, P p) : outside K P (State.deviceReset s cause) = outside K P s :=
  by unfold State.deviceReset; simp [*]
@[simp] theorem outside_wakeReset (s : State) (causes : Nat) (hK : ∀ r, K r) (hP : ∀ p, P p) : outside K P (State.wakeReset s causes) = outside K P s :=
  by
  unfold State.wakeReset
  dsimp only
  rw [outside_loopKeep _ _ (hP _), outside_resetLoads _ _ (hK _) (hK _) (hK _) (hK _) (hK _) (hP _) (hP _) (hP _), outside_set _ _ _ (hK _)]
  refine Eq.trans ?_ (Eq.trans (outside_cleared s.resetPins keptAtWake hK hP) (outside_resetPins s (hK _) (hP _) (hP _)))
  exact outside_eq rfl rfl rfl (fun _ _ => rfl) (fun p hp => absurd (hP p) hp)
@[simp] theorem outside_aonLost (s : State) (r1 : K .TMP_LOG_INFO) (r2 : K .PWR_AVS_STATUS) (p1 : P .hif) (p2 : P .tmp) (p3 : P .pwr) : outside K P (State.aonLost s) = outside K P s :=
  by
  refine Eq.trans ?_ (outside_sets s [(F.TMP_LOG_INFO_HEAD, 0), (F.TMP_LOG_INFO_WRAPPED, 0), (F.PWR_AVS_STATUS_VDD_CORE_MV, 800)]
    (by simp only [List.mem_cons, List.not_mem_nil, or_false]; rintro p (rfl | rfl | rfl) <;> assumption))
  exact outside_eq rfl rfl rfl (fun _ _ => rfl) (fun p hp => by cases p <;> first | rfl | contradiction)
@[simp] theorem outside_batteryLost (s : State) (r1 : K .TMP_STATUS) (r2 : K .TMP_LOG_SEQ) (r3 : K .TMP_BAT_INFO) (p1 : P .key) (p2 : P .tmp) : outside K P (State.batteryLost s) = outside K P s :=
  by
  refine Eq.trans ?_ (outside_sets s [(F.TMP_LOG_SEQ_NEXT_SEQ, 0), (F.TMP_BAT_INFO_HEAD, 0), (F.TMP_BAT_INFO_OVERFLOW, 0),
    (F.TMP_BAT_INFO_DEFERRED, 0), (F.TMP_STATUS_DEFERRED_PENDING, 0)]
    (by simp only [List.mem_cons, List.not_mem_nil, or_false]; rintro p (rfl | rfl | rfl | rfl | rfl) <;> assumption))
  exact outside_eq rfl rfl rfl (fun _ _ => rfl) (fun p hp => by cases p <;> first | rfl | contradiction)
@[simp] theorem outside_setTmp (s : State) (t : Tamper) (p1 : P .tmp) : outside K P (State.setTmp s t) = outside K P s :=
  by unfold State.setTmp; simp [*]
@[simp] theorem outside_completeTmp (s : State) (op : Nat) (st : Status) (r1 : K .TMP_CMD_RESULT) : outside K P (State.completeTmp s op st) = outside K P s :=
  by unfold State.completeTmp; simp [*]
@[simp] theorem outside_batWrite (s : State) (e : LogEntry) (r1 : K .TMP_EVENT) (r2 : K .TMP_LOG_SEQ) (r3 : K .TMP_BAT_INFO) (p1 : P .irq) (p2 : P .tmp) (p3 : P .out) : outside K P (State.batWrite s e) = outside K P s :=
  by unfold State.batWrite; split <;> simp [*]
@[simp] theorem outside_write (s : State) (e : LogEntry) (run : Nat) (r1 : K .SWC_SNR_LOST) (r2 : K .JNL_DISCARDED) (r3 : K .TMP_EVENT) (r4 : K .TMP_LOG_INFO) (r5 : K .TMP_LOG_SEQ) (r6 : K .TMP_BAT_INFO) (p1 : P .irq) (p2 : P .buf) (p3 : P .jnl) (p4 : P .tmp) (p5 : P .out) : outside K P (State.write s e run) = outside K P s :=
  by unfold State.write; simp [*]
@[simp] theorem outside_setDeferred (s : State) (m : Nat) (r1 : K .TMP_STATUS) (r2 : K .TMP_BAT_INFO) : outside K P (State.setDeferred s m) = outside K P s :=
  by unfold State.setDeferred; simp [*]
@[simp] theorem outside_deferDone (s : State) (i : Nat) (r1 : K .TMP_STATUS) (r2 : K .TMP_BAT_INFO) : outside K P (State.deferDone s i) = outside K P s :=
  by unfold State.deferDone; simp [*]
@[simp] theorem outside_deferredHold (s : State) (r1 : K .TMP_STATUS) (r2 : K .TMP_BAT_INFO) : outside K P (State.deferredHold s) = outside K P s :=
  by unfold State.deferredHold; simp [*]
@[simp] theorem outside_irqResponse (s : State) (fired : Bool) (p1 : P .irq) (p2 : P .out) : outside K P (State.irqResponse s fired) = outside K P s :=
  by unfold State.irqResponse; simp [*]
@[simp] theorem outside_deferredIrq (s : State) (r1 : K .TMP_STATUS) (r2 : K .TMP_BAT_INFO) (p1 : P .irq) (p2 : P .out) : outside K P (State.deferredIrq s) = outside K P s :=
  by unfold State.deferredIrq; simp [*]
@[simp] theorem outside_deferredNotice (s : State) (r1 : K .TMP_STATUS) (r2 : K .TMP_BAT_INFO) (p1 : P .twn) (p2 : P .out) : outside K P (State.deferredNotice s) = outside K P s :=
  by unfold State.deferredNotice; simp [*]
@[simp] theorem outside_tamperDrop (s : State) (t : Slot) (r1 : K .SWC_SNR_LOST) (r2 : K .SWC_CH_STATUS) (r3 : K .SEQ_CH_DSN) (r4 : K .HIF_CQ_PROD) (r5 : K .CNT_EVENT) (r6 : K .CNT_PROG_SEL) (p1 : P .irq) (p2 : P .cnt) (p3 : P .buf) (p4 : P .pool) (p5 : P .hif) (p6 : P .out) (p7 : P .free) : outside K P (State.tamperDrop s t) = outside K P s :=
  by unfold State.tamperDrop; simp only []; (repeat' split) <;> simp [*]
@[simp] theorem outside_tamperDiscard (s : State) (r1 : K .SWC_SNR_LOST) (r2 : K .SWC_CH_STATUS) (r3 : K .SEQ_CH_DSN) (r4 : K .HIF_CQ_PROD) (r5 : K .CNT_EVENT) (r6 : K .CNT_PROG_SEL) (p1 : P .irq) (p2 : P .cnt) (p3 : P .buf) (p4 : P .pool) (p5 : P .hif) (p6 : P .out) (p7 : P .free) : outside K P (State.tamperDiscard s) = outside K P s :=
  by unfold State.tamperDiscard; simp [*, outside_foldl]
@[simp] theorem outside_resetRun (s : State) (hold : Bool) (hK : ∀ r, K r) (hP : ∀ p, P p) : outside K P (State.resetRun s hold) = outside K P s :=
  by unfold State.resetRun; simp [*]
@[simp] theorem outside_runSteps (s : State) (mask : Nat) (src : Nat) (hK : ∀ r, K r) (hP : ∀ p, P p) : outside K P (State.runSteps s mask src) = outside K P s :=
  by unfold State.runSteps; simp [*]
@[simp] theorem outside_pendRun (s : State) (mask : Nat) (src : Nat) (p1 : P .tmp) : outside K P (State.pendRun s mask src) = outside K P s :=
  by unfold State.pendRun; simp [*]
@[simp] theorem outside_wakeEvent (s : State) (causes : Nat) (hK : ∀ r, K r) (hP : ∀ p, P p) : outside K P (State.wakeEvent s causes) = outside K P s :=
  by unfold State.wakeEvent; simp [*]
@[simp] theorem outside_respond (s : State) (mask : Nat) (src : Nat) (hK : ∀ r, K r) (hP : ∀ p, P p) : outside K P (State.respond s mask src) = outside K P s :=
  by unfold State.respond; simp [*]
@[simp] theorem outside_pended (s : State) (hK : ∀ r, K r) (hP : ∀ p, P p) : outside K P (State.pended s) = outside K P s :=
  by unfold State.pended; simp [*]
@[simp] theorem outside_noteAssert (s : State) (src : Nat) (value : Nat) (r1 : K .TMP_STATUS) (r2 : K .TMP_EVENT) (r3 : K .TMP_SRC_VALUE) (r4 : K .TMP_SRC_COUNT) (p1 : P .irq) (p2 : P .out) : outside K P (State.noteAssert s src value) = outside K P s :=
  by unfold State.noteAssert; simp [*]
@[simp] theorem outside_batteryAlarms (s : State) (hits : List (Nat × Nat)) (r1 : K .TMP_STATUS) (r2 : K .TMP_EVENT) (r3 : K .TMP_LOG_SEQ) (r4 : K .TMP_BAT_INFO) (r5 : K .TMP_SRC_VALUE) (r6 : K .TMP_SRC_COUNT) (p1 : P .irq) (p2 : P .key) (p3 : P .tmp) (p4 : P .out) : outside K P (State.batteryAlarms s hits) = outside K P s :=
  by unfold State.batteryAlarms; simp [*, outside_foldl]
@[simp] theorem outside_logAlarms (s : State) (hits : List (Nat × Nat)) (run : Nat) (r1 : K .SWC_SNR_LOST) (r2 : K .JNL_DISCARDED) (r3 : K .TMP_STATUS) (r4 : K .TMP_EVENT) (r5 : K .TMP_LOG_INFO) (r6 : K .TMP_LOG_SEQ) (r7 : K .TMP_BAT_INFO) (r8 : K .TMP_SRC_VALUE) (r9 : K .TMP_SRC_COUNT) (p1 : P .irq) (p2 : P .buf) (p3 : P .jnl) (p4 : P .tmp) (p5 : P .out) : outside K P (State.logAlarms s hits run) = outside K P s :=
  by unfold State.logAlarms; simp [*, outside_foldl]
@[simp] theorem outside_alarm (s : State) (alarms : List (Nat × Nat)) (hK : ∀ r, K r) (hP : ∀ p, P p) : outside K P (State.alarm s alarms) = outside K P s :=
  by unfold State.alarm; split <;> simp [*]
@[simp] theorem outside_timePllLost (s : State) (alarms : List (Nat × Nat)) (r1 : K .TIM_STATUS) (p1 : P .free) : outside K P (State.timePllLost s alarms) = outside K P s :=
  by unfold State.timePllLost; simp [*]
theorem outside_execTamperAssert (alarms : List (Nat × Nat)) (s : State) (hK : ∀ r, K r) (hP : ∀ p, P p) : ∀ u, execTamperAssert alarms s = .next u → outside K P u = outside K P s :=
  by intro u h; unfold execTamperAssert at h; cases h; simp [*]
@[simp] theorem outside_tamperClear (s : State) (src : Nat) (r1 : K .SWC_SNR_LOST) (r2 : K .JNL_DISCARDED) (r3 : K .TMP_STATUS) (r4 : K .TMP_EVENT) (r5 : K .TMP_LOG_INFO) (r6 : K .TMP_LOG_SEQ) (r7 : K .TMP_BAT_INFO) (p1 : P .irq) (p2 : P .buf) (p3 : P .jnl) (p4 : P .tmp) (p5 : P .out) (p6 : P .free) : outside K P (State.tamperClear s src) = outside K P s :=
  by unfold State.tamperClear; simp [*]
@[simp] theorem outside_pairAgrees (s : State) (pair : Nat → Bool) (r1 : K .SWC_SNR_LOST) (r2 : K .JNL_DISCARDED) (r3 : K .TMP_STATUS) (r4 : K .TMP_EVENT) (r5 : K .TMP_LOG_INFO) (r6 : K .TMP_LOG_SEQ) (r7 : K .TMP_BAT_INFO) (p1 : P .irq) (p2 : P .buf) (p3 : P .jnl) (p4 : P .tmp) (p5 : P .out) (p6 : P .free) : outside K P (State.pairAgrees s pair) = outside K P s :=
  by unfold State.pairAgrees; simp [*]
theorem outside_execTamperClear (src : Nat) (s : State) (r1 : K .SWC_SNR_LOST) (r2 : K .JNL_DISCARDED) (r3 : K .TMP_STATUS) (r4 : K .TMP_EVENT) (r5 : K .TMP_LOG_INFO) (r6 : K .TMP_LOG_SEQ) (r7 : K .TMP_BAT_INFO) (p1 : P .irq) (p2 : P .buf) (p3 : P .jnl) (p4 : P .tmp) (p5 : P .out) (p6 : P .free) : ∀ u, execTamperClear src s = .next u → outside K P u = outside K P s :=
  by intro u h; unfold execTamperClear at h; cases h; simp [*]
theorem outside_execSoft (who : Nat) (code : Nat) (s : State) (hK : ∀ r, K r) (hP : ∀ p, P p) : ∀ u, execSoft who code s = .next u → outside K P u = outside K P s :=
  by intro u h; unfold execSoft at h; cases h; simp [*]
theorem outside_execReleaseHold (who : Nat) (s : State) (r1 : K .SWC_SNR_LOST) (r2 : K .JNL_DISCARDED) (r3 : K .TMP_STATUS) (r4 : K .TMP_EVENT) (r5 : K .TMP_CMD_RESULT) (r6 : K .TMP_LOG_INFO) (r7 : K .TMP_LOG_SEQ) (r8 : K .TMP_BAT_INFO) (r9 : K .VF_STATUS) (p1 : P .irq) (p2 : P .buf) (p3 : P .jnl) (p4 : P .tmp) (p5 : P .out) (p6 : P .free) : ∀ u, execReleaseHold who s = .next u → outside K P u = outside K P s :=
  by intro u h; unfold execReleaseHold at h; cases h; simp [*]
@[simp] theorem outside_copyBattery (s : State) (r1 : K .SWC_SNR_LOST) (r2 : K .JNL_DISCARDED) (r3 : K .TMP_EVENT) (r4 : K .TMP_LOG_INFO) (p1 : P .irq) (p2 : P .buf) (p3 : P .jnl) (p4 : P .tmp) (p5 : P .out) : outside K P (State.copyBattery s) = outside K P s :=
  by unfold State.copyBattery; simp [*, outside_foldl]
@[simp] theorem outside_deferredRun (s : State) (hK : ∀ r, K r) (hP : ∀ p, P p) : outside K P (State.deferredRun s) = outside K P s :=
  by unfold State.deferredRun; simp [*]
@[simp] theorem outside_stillAsserted (s : State) (hK : ∀ r, K r) (hP : ∀ p, P p) : outside K P (State.stillAsserted s) = outside K P s :=
  by unfold State.stillAsserted; simp [*]
@[simp] theorem outside_coldFault (s : State) (a : Nat) (r1 : K .SWC_SNR_LOST) (r2 : K .SWC_CH_STATUS) (r3 : K .HIF_CQ_PROD) (r4 : K .CNT_EVENT) (r5 : K .CNT_PROG_SEL) (p1 : P .irq) (p2 : P .cnt) (p3 : P .buf) (p4 : P .sch) (p5 : P .hif) (p6 : P .out) (p7 : P .free) : outside K P (State.coldFault s a) = outside K P s :=
  by unfold State.coldFault; refine (outside_foldl _ ?_ _ _).trans ?_ <;> (try intros) <;> (repeat' split) <;> simp [*, outside_foldl]
@[simp] theorem outside_fetchOver (s : State) (a : Nat) (r1 : K .CNT_EVENT) (r2 : K .CNT_PROG_SEL) (p1 : P .irq) (p2 : P .cnt) (p3 : P .sam) (p4 : P .out) : outside K P (State.fetchOver s a) = outside K P s :=
  by unfold State.fetchOver; simp [*]
@[simp] theorem outside_coldFetchDone (s : State) (a : Nat) (ok : Bool) (hK : ∀ r, K r) (hP : ∀ p, P p) : outside K P (State.coldFetchDone s a ok) = outside K P s :=
  by unfold State.coldFetchDone; simp [*]
theorem outside_execColdFetchDone (sa : Nat) (ok : Bool) (s : State) (hK : ∀ r, K r) (hP : ∀ p, P p) : ∀ u, execColdFetchDone sa ok s = .next u → outside K P u = outside K P s :=
  by intro u h; unfold execColdFetchDone at h; cases h; simp [*]
@[simp] theorem outside_batteryOnly (s : State) (hK : ∀ r, K r) (hP : ∀ p, P p) : outside K P (State.batteryOnly s) = outside K P s :=
  by unfold State.batteryOnly; simp [*]
theorem outside_execBatteryOnly (s : State) (hK : ∀ r, K r) (hP : ∀ p, P p) : ∀ u, execBatteryOnly s = .next u → outside K P u = outside K P s :=
  by intro u h; unfold execBatteryOnly at h; cases h; simp [*]
@[simp] theorem outside_parityLost (s : State) (parity : List (Nat × Bool)) (p1 : P .fus) : outside K P (State.parityLost s parity) = outside K P s :=
  outside_mk_fus _ _ p1 rfl rfl
@[simp] theorem outside_powerOn (s : State) (vbatLost : Bool) (parity : List (Nat × Bool)) (hK : ∀ r, K r) (hP : ∀ p, P p) : outside K P (State.powerOn s vbatLost parity) = outside K P s :=
  by unfold State.powerOn; dsimp only; (repeat' split) <;> (try rfl) <;> simp [*]
theorem outside_execPowerOn (how : PowerUp) (s : State) (hK : ∀ r, K r) (hP : ∀ p, P p) : ∀ u, execPowerOn how s = .next u → outside K P u = outside K P s :=
  by intro u h; unfold execPowerOn at h; cases h; simp [*]
theorem outside_execResetN (s : State) (hK : ∀ r, K r) (hP : ∀ p, P p) : ∀ u, execResetN s = .next u → outside K P u = outside K P s :=
  by intro u h; unfold execResetN at h; cases h; simp [*]
theorem outside_execRailFault (rail : Nat) (s : State) (hK : ∀ r, K r) (hP : ∀ p, P p) : ∀ u, execRailFault rail s = .next u → outside K P u = outside K P s :=
  by intro u h; unfold execRailFault at h; cases h; simp [*]
@[simp] theorem outside_clearObjects (s : State) (chs : List Nat) (grps : List Nat) (hK : ∀ r, K r) (hP : ∀ p, P p) : outside K P (State.clearObjects s chs grps) = outside K P s :=
  outside_eq rfl rfl rfl (fun k hk => absurd (hK k.reg) hk) (fun p hp => absurd (hP p) hp)
@[simp] theorem outside_initField (s : State) (r : RegInit) (hK : ∀ r, K r) (hP : ∀ p, P p) : outside K P (State.initField s r) = outside K P s :=
  by unfold State.initField; split; · split <;> (repeat' split) <;> simp [*]
     · rfl
@[simp] theorem outside_maxFrames (s : State) (l : List RegInit) (ch : Nat) (r1 : K .SCH_Q_CFG) : outside K P (State.maxFrames s l ch) = outside K P s :=
  by unfold State.maxFrames; simp [*, outside_foldl]
@[simp] theorem outside_portStops (s : State) (b : Image) (p : PortDef) (r1 : K .PRT_EP_STATUS) (r2 : K .PRT_EP_EVENT) (r3 : K .SWC_SNR_LOST) (r4 : K .SWC_CH_STATUS) (r5 : K .SWC_Q_STATUS) (r6 : K .DRM_ENG_STATUS) (r7 : K .SEQ_CH_DSN) (r8 : K .HIF_CQ_PROD) (r9 : K .CNT_EVENT) (r10 : K .CNT_PROG_SEL) (p1 : P .irq) (p2 : P .cnt) (p3 : P .prt) (p4 : P .buf) (p5 : P .sch) (p6 : P .pool) (p7 : P .hif) (p8 : P .out) (p9 : P .free) : outside K P (State.portStops s b p) = outside K P s :=
  by unfold State.portStops; simp [*, outside_foldl]
@[simp] theorem outside_removeChannel (s : State) (ch : Nat) (r1 : K .SWC_SNR_LOST) (r2 : K .SWC_CH_STATUS) (r3 : K .SWC_Q_STATUS) (r4 : K .HIF_CQ_PROD) (r5 : K .CNT_EVENT) (r6 : K .CNT_PROG_SEL) (p1 : P .irq) (p2 : P .cnt) (p3 : P .buf) (p4 : P .sch) (p5 : P .hif) (p6 : P .out) (p7 : P .free) : outside K P (State.removeChannel s ch) = outside K P s :=
  by unfold State.removeChannel; simp [*, outside_foldl]
@[simp] theorem outside_createChannel (s : State) (ch : Nat) (r1 : K .SWC_Q_STATUS) : outside K P (State.createChannel s ch) = outside K P s :=
  by unfold State.createChannel; simp [*, outside_foldl]
@[simp] theorem outside_strikeShapers (s : State) (newCh : List Nat) (old : QueuesSection) (new : QueuesSection) (r1 : K .SCH_P_RATE) (r2 : K .SCH_P_BURST) (r3 : K .SCH_CH_RATE) (r4 : K .SCH_CH_BURST) (r5 : K .SCH_Q_RATE) (r6 : K .SCH_Q_BURST) (p1 : P .sch) : outside K P (State.strikeShapers s newCh old new) = outside K P s :=
  by unfold State.strikeShapers; simp [*, outside_foldl]
@[simp] theorem outside_strikeHolds (s : State) (first : Bool) (old : QueuesSection) (new : QueuesSection) (r1 : K .SWC_HOLD) : outside K P (State.strikeHolds s first old new) = outside K P s :=
  by unfold State.strikeHolds; simp [*, outside_foldl]
@[simp] theorem outside_strikeGates (s : State) (old : Option Image) (g : Image) (p1 : P .sch) : outside K P (State.strikeGates s old g) = outside K P s :=
  by unfold State.strikeGates; simp [*, outside_foldl]
@[simp] theorem outside_seedsDrawn (s : State) (first : Bool) (p1 : P .tbl) (p2 : P .free) : outside K P (State.seedsDrawn s first) = outside K P s :=
  by unfold State.seedsDrawn; simp [*]
@[simp] theorem outside_strikeTables (s : State) (first : Bool) (old : TablesSection) (new : TablesSection) (p1 : P .tbl) (p2 : P .sam) (p3 : P .out) (p4 : P .free) : outside K P (State.strikeTables s first old new) = outside K P s :=
  by unfold State.strikeTables; simp [*]
@[simp] theorem outside_seedSnare (s : State) (p1 : P .buf) (p2 : P .free) : outside K P (State.seedSnare s) = outside K P s :=
  by unfold State.seedSnare; simp [*, outside_foldl]
@[simp] theorem outside_strikeMasks (s : State) (r1 : K .SWC_SNR_LOST) (r2 : K .JNL_DISCARDED) (r3 : K .TMP_STATUS) (r4 : K .TMP_EVENT) (r5 : K .TMP_LOG_INFO) (r6 : K .TMP_LOG_SEQ) (r7 : K .TMP_BAT_INFO) (p1 : P .irq) (p2 : P .buf) (p3 : P .jnl) (p4 : P .tmp) (p5 : P .out) (p6 : P .free) : outside K P (State.strikeMasks s) = outside K P s :=
  by unfold State.strikeMasks; dsimp only; (repeat' split) <;> simp [*]
@[simp] theorem outside_strikePower (s : State) (first : Bool) (old : List Nat) (new : List Nat) (hK : ∀ r, K r) (hP : ∀ p, P p) : outside K P (State.strikePower s first old new) = outside K P s :=
  by unfold State.strikePower; simp [*]
@[simp] theorem outside_exchange (s : State) (g : Image) (r1 : K .PEL_STATUS) (r2 : K .PEL_ACTIVE_ID_LO) (r3 : K .PEL_ACTIVE_ID_HI) (r4 : K .PEL_STRIKE_COUNT) (p1 : P .pel) : outside K P (State.exchange s g) = outside K P s :=
  by unfold State.exchange; simp [*]
@[simp] theorem outside_leaveOld (s : State) (old : Option Image) (g : Image) (r1 : K .PRT_EP_STATUS) (r2 : K .PRT_EP_EVENT) (r3 : K .SWC_SNR_LOST) (r4 : K .SWC_CH_STATUS) (r5 : K .SWC_Q_STATUS) (r6 : K .DRM_ENG_STATUS) (r7 : K .SEQ_CH_DSN) (r8 : K .HIF_CQ_PROD) (r9 : K .CNT_EVENT) (r10 : K .CNT_PROG_SEL) (p1 : P .irq) (p2 : P .cnt) (p3 : P .prt) (p4 : P .buf) (p5 : P .sch) (p6 : P .pool) (p7 : P .hif) (p8 : P .out) (p9 : P .free) : outside K P (State.leaveOld s old g) = outside K P s :=
  by unfold State.leaveOld; (repeat' split) <;> simp [*, outside_foldl]
@[simp] theorem outside_strike (s : State) (op : Nat) (hK : ∀ r, K r) (hP : ∀ p, P p) : outside K P (State.strike s op) = outside K P s :=
  by unfold State.strike; dsimp only; (repeat' split) <;> simp [*, outside_foldl]
@[simp] theorem outside_completePwr (s : State) (op : Nat) (st : Status) (r1 : K .PWR_CMD_RESULT) (p1 : P .pwr) : outside K P (State.completePwr s op st) = outside K P s :=
  by unfold State.completePwr; simp [*]
@[simp] theorem outside_runPwr (s : State) (op : Nat) (r1 : K .PWR_CMD_RESULT) (p1 : P .pwr) : outside K P (State.runPwr s op) = outside K P s :=
  by unfold State.runPwr; simp [*]
@[simp] theorem outside_rejectPwr (s : State) (op : Nat) (st : Status) (r1 : K .PWR_CMD_RESULT) : outside K P (State.rejectPwr s op st) = outside K P s :=
  by unfold State.rejectPwr; simp [*]
@[simp] theorem outside_pwrCommand (s : State) (who : Nat) (op : Nat) (checks : List (Bool × Status)) (act : State → State) (hk : outside K P (act s) = outside K P s) (r1 : K .PWR_STATUS) (r2 : K .PWR_CMD_RESULT) (r3 : K .VF_STATUS) : outside K P (State.pwrCommand s who op checks act) = outside K P s :=
  by unfold State.pwrCommand; (repeat' split) <;> simp [*, hk]
@[simp] theorem outside_ledgerPut (s : State) (e : LedgerEntry) (r1 : K .SWC_SNR_LOST) (r2 : K .JNL_DISCARDED) (p1 : P .buf) (p2 : P .jnl) (p3 : P .pwr) : outside K P (State.ledgerPut s e) = outside K P s :=
  by unfold State.ledgerPut; simp [*]
@[simp] theorem outside_plan (s : State) (i : AvsInputs) (r1 : K .SWC_SNR_LOST) (r2 : K .JNL_DISCARDED) (r3 : K .TMP_EVENT) (r4 : K .TMP_LOG_INFO) (r5 : K .TMP_LOG_SEQ) (r6 : K .PWR_EVENT) (r7 : K .PWR_AVS_STATUS) (p1 : P .irq) (p2 : P .buf) (p3 : P .jnl) (p4 : P .tmp) (p5 : P .pwr) (p6 : P .out) (p7 : P .free) : outside K P (State.plan s i) = outside K P s :=
  by unfold State.plan; simp [*]
theorem outside_execAvsPlan (who : Nat) (i : AvsInputs) (s : State) (r1 : K .SWC_SNR_LOST) (r2 : K .JNL_DISCARDED) (r3 : K .TMP_EVENT) (r4 : K .TMP_LOG_INFO) (r5 : K .TMP_LOG_SEQ) (r6 : K .PWR_STATUS) (r7 : K .PWR_CMD_RESULT) (r8 : K .PWR_EVENT) (r9 : K .PWR_AVS_STATUS) (r10 : K .VF_STATUS) (p1 : P .irq) (p2 : P .buf) (p3 : P .jnl) (p4 : P .tmp) (p5 : P .pwr) (p6 : P .out) (p7 : P .free) : ∀ u, execAvsPlan who i s = .next u → outside K P u = outside K P s :=
  by intro u h; unfold execAvsPlan at h; cases h; simp [*]
theorem outside_execAvsPlanTimer (i : AvsInputs) (s : State) (r1 : K .SWC_SNR_LOST) (r2 : K .JNL_DISCARDED) (r3 : K .TMP_EVENT) (r4 : K .TMP_LOG_INFO) (r5 : K .TMP_LOG_SEQ) (r6 : K .PWR_EVENT) (r7 : K .PWR_AVS_STATUS) (p1 : P .irq) (p2 : P .buf) (p3 : P .jnl) (p4 : P .tmp) (p5 : P .pwr) (p6 : P .out) (p7 : P .free) : ∀ u, execAvsPlanTimer i s = .next u → outside K P u = outside K P s :=
  by intro u h; unfold execAvsPlanTimer at h; cases h; simp [*]
theorem outside_execLowMargin (s : State) (r1 : K .SWC_SNR_LOST) (r2 : K .JNL_DISCARDED) (r3 : K .TMP_EVENT) (r4 : K .TMP_LOG_INFO) (r5 : K .TMP_LOG_SEQ) (r6 : K .PWR_EVENT) (r7 : K .PWR_AVS_STATUS) (p1 : P .irq) (p2 : P .buf) (p3 : P .jnl) (p4 : P .tmp) (p5 : P .pwr) (p6 : P .out) (p7 : P .free) : ∀ u, execLowMargin s = .next u → outside K P u = outside K P s :=
  by intro u h; unfold execLowMargin at h; cases h; simp [*]
@[simp] theorem outside_authFail (s : State) (hK : ∀ r, K r) (hP : ∀ p, P p) : outside K P (State.authFail s) = outside K P s :=
  by unfold State.authFail; simp [*]
@[simp] theorem outside_twinRx (s : State) (h : TwinHdr) (m : TwinMsg) (epoch : Nat) (f : State → State) (hk : outside K P (f s) = outside K P s) (hK : ∀ r, K r) (hP : ∀ p, P p) : outside K P (State.twinRx s h m epoch f) = outside K P s :=
  by unfold State.twinRx; (repeat' split) <;> simp [*, hk]
@[simp] theorem outside_twinTake (s : State) (h : TwinHdr) (f : State → State) (hk : ∀ s, outside K P (f s) = outside K P s) (p1 : P .twn) (p2 : P .out) : outside K P (State.twinTake s h f) = outside K P s :=
  by unfold State.twinTake; dsimp only; (repeat' split) <;> simp [*, hk]
@[simp] theorem outside_joinPeer (s : State) (epoch : Nat) (r1 : K .TWN_STATUS) (r2 : K .TWN_LEASE) (p1 : P .twn) : outside K P (State.joinPeer s epoch) = outside K P s :=
  by unfold State.joinPeer; simp [*]
@[simp] theorem outside_linkUpState (s : State) (m : HelloMsg) (r1 : K .TWN_STATUS) (r2 : K .TWN_LEASE) (r3 : K .TWN_STR_SEQ) (p1 : P .twn) (p2 : P .out) : outside K P (State.linkUpState s m) = outside K P s :=
  by unfold State.linkUpState; split <;> simp [*]
@[simp] theorem outside_sessionStart (s : State) (h : TwinHdr) (m : HelloMsg) (skew : Nat) (r1 : K .TWN_STATUS) (r2 : K .TWN_LEASE) (r3 : K .TWN_SKEW) (r4 : K .TWN_EVENT) (r5 : K .TWN_STR_SEQ) (r6 : K .TMP_STATUS) (r7 : K .TMP_BAT_INFO) (p1 : P .irq) (p2 : P .twn) (p3 : P .out) : outside K P (State.sessionStart s h m skew) = outside K P s :=
  by unfold State.sessionStart; simp [*]
theorem outside_execHello (h : TwinHdr) (m : HelloMsg) (skewNs : Nat) (s : State) (hK : ∀ r, K r) (hP : ∀ p, P p) : ∀ u, execHello h m skewNs s = .next u → outside K P u = outside K P s :=
  by intro u h; unfold execHello at h; cases h; (repeat' split) <;> simp [*]
@[simp] theorem outside_heartbeatIn (s : State) (state : TwinState) (synced : Bool) (r1 : K .TWN_STATUS) (r2 : K .TWN_LEASE) (p1 : P .twn) (p2 : P .out) : outside K P (State.heartbeatIn s state synced) = outside K P s :=
  by unfold State.heartbeatIn; simp [*]
theorem outside_execHeartbeat (h : TwinHdr) (state : TwinState) (synced : Bool) (clap : Clap) (s : State) (hK : ∀ r, K r) (hP : ∀ p, P p) : ∀ u, execHeartbeat h state synced clap s = .next u → outside K P u = outside K P s :=
  by intro u h; unfold execHeartbeat at h; cases h; simp [*]
@[simp] theorem outside_sciDrop (s : State) (k : Nat) (p1 : P .sam) : outside K P (State.sciDrop s k) = outside K P s :=
  by unfold State.sciDrop; simp only []; (repeat' split) <;> simp [*]
@[simp] theorem outside_applySc (s : State) (r : ScRecord) (p1 : P .cnt) (p2 : P .sam) : outside K P (State.applySc s r) = outside K P s :=
  by
  unfold State.applySc
  dsimp only
  (repeat' split)
  · rw [outside_vfSlotTake]
    · rw [outside_setSc]
      · refine (outside_sciPlaceD (K := K) (P := P) _ _ _ _ (by assumption) rfl).trans ?_
        simp [*]
      all_goals assumption
    all_goals assumption
  · simp [*]
  · rw [outside_setSc]
    · refine (outside_sciPlaceD (K := K) (P := P) _ _ _ _ (by assumption) rfl).trans ?_
      simp [*]
    all_goals assumption
  · simp [*]
  · simp [*]
@[simp] theorem outside_applySa (s : State) (r : SaRecord) (p1 : P .cnt) (p2 : P .pool) (p3 : P .sam) (p4 : P .twn) (p5 : P .out) : outside K P (State.applySa s r) = outside K P s :=
  by unfold State.applySa; simp only []; (repeat' split) <;> simp [*]
@[simp] theorem outside_applyRec (s : State) (x1 : MirrorRec) (p1 : P .cnt) (p2 : P .pool) (p3 : P .sam) (p4 : P .twn) (p5 : P .out) : outside K P (State.applyRec s x1) = outside K P s :=
  by unfold State.applyRec; split <;> simp [*]
@[simp] theorem outside_syncDone (s : State) (r1 : K .TWN_STATUS) (r2 : K .TWN_EVENT) (p1 : P .irq) (p2 : P .cnt) (p3 : P .pool) (p4 : P .sam) (p5 : P .twn) (p6 : P .out) : outside K P (State.syncDone s) = outside K P s :=
  by unfold State.syncDone; simp [*, outside_foldl]
@[simp] theorem outside_mirrorIn (s : State) (r : MirrorRec) (r1 : K .TWN_STATUS) (r2 : K .TWN_EVENT) (p1 : P .irq) (p2 : P .cnt) (p3 : P .pool) (p4 : P .sam) (p5 : P .twn) (p6 : P .out) : outside K P (State.mirrorIn s r) = outside K P s :=
  by unfold State.mirrorIn; simp [*]
theorem outside_execMirror (h : TwinHdr) (r : MirrorRec) (s : State) (hK : ∀ r, K r) (hP : ∀ p, P p) : ∀ u, execMirror h r s = .next u → outside K P u = outside K P s :=
  by
  intro u h
  refine outside_next h (outside_twinRx _ _ _ _ _ (outside_twinTake _ _ _ (fun s => ?_) (hP _) (hP _)) hK hP)
  simp [*]
theorem outside_execSync (h : TwinHdr) (r : MirrorRec) (s : State) (hK : ∀ r, K r) (hP : ∀ p, P p) : ∀ u, execSync h r s = .next u → outside K P u = outside K P s :=
  by
  intro u h
  refine outside_next h (outside_twinRx _ _ _ _ _ (outside_twinTake _ _ _ (fun s => ?_) (hP _) (hP _)) hK hP)
  simp [*]
@[simp] theorem outside_reserveIn (s : State) (a : Nat) (newEnd : Nat) (p1 : P .sam) (p2 : P .twn) : outside K P (State.reserveIn s a newEnd) = outside K P s :=
  by unfold State.reserveIn; simp [*]
theorem outside_execReserve (h : TwinHdr) (sa : Nat) (newEnd : Nat) (s : State) (hK : ∀ r, K r) (hP : ∀ p, P p) : ∀ u, execReserve h sa newEnd s = .next u → outside K P u = outside K P s :=
  by
  intro u h
  refine outside_next h (outside_twinRx _ _ _ _ _ (outside_twinTake _ _ _ (fun s => ?_) (hP _) (hP _)) hK hP)
  simp [*]
@[simp] theorem outside_blockTo (s : State) (a : Nat) (e : Nat) (p1 : P .sam) : outside K P (State.blockTo s a e) = outside K P s :=
  by unfold State.blockTo; simp [*]
@[simp] theorem outside_ackedMsg (s : State) (u : TwinSent) (p1 : P .sam) (p2 : P .twn) : outside K P (State.ackedMsg s u) = outside K P s :=
  by unfold State.ackedMsg; split <;> simp [*]
@[simp] theorem outside_ackIn (s : State) (n : Nat) (p1 : P .sam) (p2 : P .twn) : outside K P (State.ackIn s n) = outside K P s :=
  by unfold State.ackIn; simp [*, outside_foldl]
theorem outside_execAck (h : TwinHdr) (seq : Nat) (s : State) (hK : ∀ r, K r) (hP : ∀ p, P p) : ∀ u, execAck h seq s = .next u → outside K P u = outside K P s :=
  by intro u h; unfold execAck at h; cases h; simp [*]
@[simp] theorem outside_leaseIn (s : State) (h : TwinHdr) (kind : LeaseKind) (holder : Nat) (ms : Nat) (test : Bool) (r1 : K .TWN_STATUS) (r2 : K .TWN_LEASE) (p1 : P .twn) : outside K P (State.leaseIn s h kind holder ms test) = outside K P s :=
  by unfold State.leaseIn; split <;> simp [*]
theorem outside_execLease (h : TwinHdr) (kind : LeaseKind) (epoch : Nat) (holder : Nat) (ms : Nat) (test : Bool) (s : State) (hK : ∀ r, K r) (hP : ∀ p, P p) : ∀ u, execLease h kind epoch holder ms test s = .next u → outside K P u = outside K P s :=
  by
  intro u h
  refine outside_next h (outside_twinRx _ _ _ _ _ (outside_twinTake _ _ _ (fun s => ?_) (hP _) (hP _)) hK hP)
  simp [*]
@[simp] theorem outside_granted (s : State) (seqs : List (Nat × Nat)) (r1 : K .TWN_STATUS) (r2 : K .TWN_LEASE) (r3 : K .TWN_EVENT) (r4 : K .TWN_STR_SEQ) (p1 : P .irq) (p2 : P .sam) (p3 : P .twn) (p4 : P .out) : outside K P (State.granted s seqs) = outside K P s :=
  by unfold State.granted; simp [*]
@[simp] theorem outside_handedOver (s : State) (r1 : K .TWN_STATUS) (r2 : K .TWN_LEASE) (r3 : K .TWN_EVENT) (r4 : K .TWN_CMD_RESULT) (p1 : P .irq) (p2 : P .sam) (p3 : P .twn) (p4 : P .out) : outside K P (State.handedOver s) = outside K P s :=
  by unfold State.handedOver; simp [*, outside_foldl]
@[simp] theorem outside_handing (s : State) (r1 : K .TWN_STATUS) (p1 : P .twn) : outside K P (State.handing s) = outside K P s :=
  by unfold State.handing; simp [*]
@[simp] theorem outside_roleIn (s : State) (x1 : RoleKind) (r1 : K .TWN_STATUS) (r2 : K .TWN_LEASE) (r3 : K .TWN_EVENT) (r4 : K .TWN_CMD_RESULT) (r5 : K .TWN_STR_SEQ) (p1 : P .irq) (p2 : P .sam) (p3 : P .twn) (p4 : P .out) : outside K P (State.roleIn s x1) = outside K P s :=
  by unfold State.roleIn; split <;> simp [*]
theorem outside_execRole (h : TwinHdr) (kind : RoleKind) (s : State) (hK : ∀ r, K r) (hP : ∀ p, P p) : ∀ u, execRole h kind s = .next u → outside K P u = outside K P s :=
  by
  intro u h
  refine outside_next h (outside_twinRx _ _ _ _ _ (outside_twinTake _ _ _ (fun s => ?_) (hP _) (hP _)) hK hP)
  simp [*]
@[simp] theorem outside_dualIn (s : State) (stream : Nat) (seq : Nat) (tIn : Nat) (bytes : Bytes) (r1 : K .SWC_SNR_LOST) (r2 : K .SWC_CH_STATUS) (r3 : K .SCH_EVENT) (r4 : K .HIF_CQ_PROD) (r5 : K .CNT_EVENT) (r6 : K .CNT_PROG_SEL) (p1 : P .irq) (p2 : P .cnt) (p3 : P .buf) (p4 : P .sch) (p5 : P .sam) (p6 : P .hif) (p7 : P .out) (p8 : P .free) : outside K P (State.dualIn s stream seq tIn bytes) = outside K P s :=
  by unfold State.dualIn; split <;> simp [*]
theorem outside_execDual (h : TwinHdr) (stream : Nat) (seqNo : Nat) (tIn : Nat) (frame : Bytes) (s : State) (hK : ∀ r, K r) (hP : ∀ p, P p) : ∀ u, execDual h stream seqNo tIn frame s = .next u → outside K P u = outside K P s :=
  by intro u h; unfold execDual at h; cases h; simp [*]
theorem outside_execNotice (h : TwinHdr) (source : Nat) (mask : Nat) (s : State) (hK : ∀ r, K r) (hP : ∀ p, P p) : ∀ u, execNotice h source mask s = .next u → outside K P u = outside K P s :=
  by
  intro u h
  refine outside_next h (outside_twinRx _ _ _ _ _ (outside_twinTake _ _ _ (fun s => ?_) (hP _) (hP _)) hK hP)
  simp [*]
theorem outside_execTwinRetransmit (s : State) (r1 : K .TWN_STATUS) (r2 : K .TWN_EVENT) (r3 : K .TWN_CMD_RESULT) (p1 : P .irq) (p2 : P .twn) (p3 : P .out) (p4 : P .free) : ∀ u, execTwinRetransmit s = .next u → outside K P u = outside K P s :=
  by intro u h; unfold execTwinRetransmit at h; dsimp only at h; (repeat' split at h) <;> (try cases h) <;> (repeat' split) <;> simp [*, outside_foldl]
theorem outside_execTwinLinkDown (s : State) (r1 : K .TWN_STATUS) (r2 : K .TWN_EVENT) (r3 : K .TWN_CMD_RESULT) (p1 : P .irq) (p2 : P .twn) (p3 : P .out) (p4 : P .free) : ∀ u, execTwinLinkDown s = .next u → outside K P u = outside K P s :=
  by intro u h; unfold execTwinLinkDown at h; cases h; simp [*]
theorem outside_execHelloTimer (s : State) (p1 : P .out) : ∀ u, execHelloTimer s = .next u → outside K P u = outside K P s :=
  by intro u h; unfold execHelloTimer at h; cases h; simp [*]
theorem outside_execHeartbeatTimer (s : State) (p1 : P .twn) (p2 : P .out) : ∀ u, execHeartbeatTimer s = .next u → outside K P u = outside K P s :=
  by intro u h; unfold execHeartbeatTimer at h; dsimp only at h; (repeat' split at h) <;> (try cases h) <;> (repeat' split) <;> simp [*, outside_foldl]
theorem outside_execLeaseRenewTimer (s : State) (p1 : P .twn) (p2 : P .out) : ∀ u, execLeaseRenewTimer s = .next u → outside K P u = outside K P s :=
  by intro u h; unfold execLeaseRenewTimer at h; cases h; simp [*]
@[simp] theorem outside_clapperIn (s : State) (v : Clap) (r1 : K .TWN_STATUS) (r2 : K .TWN_EVENT) (p1 : P .irq) (p2 : P .twn) (p3 : P .out) : outside K P (State.clapperIn s v) = outside K P s :=
  by unfold State.clapperIn; simp [*]
theorem outside_execClapperInputChange (v : Clap) (s : State) (r1 : K .TWN_STATUS) (r2 : K .TWN_EVENT) (p1 : P .irq) (p2 : P .twn) (p3 : P .out) : ∀ u, execClapperInputChange v s = .next u → outside K P u = outside K P s :=
  by intro u h; unfold execClapperInputChange at h; cases h; simp [*]
theorem outside_execClapperFault (s : State) (hK : ∀ r, K r) (hP : ∀ p, P p) : ∀ u, execClapperFault s = .next u → outside K P u = outside K P s :=
  by intro u h; unfold execClapperFault at h; cases h; simp [*]
theorem outside_execClapperFaultClear (s : State) (r1 : K .TWN_STATUS) (r2 : K .TWN_EVENT) (p1 : P .irq) (p2 : P .twn) (p3 : P .out) : ∀ u, execClapperFaultClear s = .next u → outside K P u = outside K P s :=
  by intro u h; unfold execClapperFaultClear at h; cases h; simp [*]
theorem outside_execSeekTimeout (s : State) (r1 : K .TWN_STATUS) (r2 : K .TWN_LEASE) (r3 : K .TWN_EVENT) (r4 : K .TWN_STR_SEQ) (p1 : P .irq) (p2 : P .twn) (p3 : P .out) : ∀ u, execSeekTimeout s = .next u → outside K P u = outside K P s :=
  by intro u h; unfold execSeekTimeout at h; cases h; simp [*]
@[simp] theorem outside_takeover (s : State) (r1 : K .TWN_STATUS) (r2 : K .TWN_LEASE) (r3 : K .TWN_EVENT) (r4 : K .TWN_TAKEOVERS) (r5 : K .TWN_STR_SEQ) (p1 : P .irq) (p2 : P .sam) (p3 : P .twn) (p4 : P .out) : outside K P (State.takeover s) = outside K P s :=
  by unfold State.takeover; simp [*]
theorem outside_execTakeover (s : State) (r1 : K .TWN_STATUS) (r2 : K .TWN_LEASE) (r3 : K .TWN_EVENT) (r4 : K .TWN_TAKEOVERS) (r5 : K .TWN_STR_SEQ) (p1 : P .irq) (p2 : P .sam) (p3 : P .twn) (p4 : P .out) : ∀ u, execTakeover s = .next u → outside K P u = outside K P s :=
  by intro u h; unfold execTakeover at h; cases h; simp [*]
theorem outside_execBulkPermit (s : State) (p1 : P .twn) : ∀ u, execBulkPermit s = .next u → outside K P u = outside K P s :=
  by intro u h; unfold execBulkPermit at h; cases h; simp [*]
theorem outside_execLeaseLapsed (s : State) (r1 : K .TWN_STATUS) (r2 : K .TWN_LEASE) (r3 : K .TWN_EVENT) (p1 : P .irq) (p2 : P .twn) (p3 : P .out) : ∀ u, execLeaseLapsed s = .next u → outside K P u = outside K P s :=
  by intro u h; unfold execLeaseLapsed at h; cases h; simp [*]
theorem outside_execRevertHoldoffExpiry (s : State) (p1 : P .twn) (p2 : P .out) : ∀ u, execRevertHoldoffExpiry s = .next u → outside K P u = outside K P s :=
  by intro u h; unfold execRevertHoldoffExpiry at h; cases h; simp [*]
theorem outside_execHandoverGrant (s : State) (r1 : K .TWN_STATUS) (p1 : P .twn) (p2 : P .out) : ∀ u, execHandoverGrant s = .next u → outside K P u = outside K P s :=
  by intro u h; unfold execHandoverGrant at h; cases h; simp [*]
@[simp] theorem outside_twnCommand (s : State) (who : Nat) (op : Nat) (conflict : Bool) (f : State → State) (hk : outside K P (f s) = outside K P s) (r1 : K .TWN_STATUS) (r2 : K .TWN_CMD_RESULT) (r3 : K .VF_STATUS) : outside K P (State.twnCommand s who op conflict f) = outside K P s :=
  by unfold State.twnCommand; (repeat' split) <;> simp [*, hk]
theorem outside_execYield (who : Nat) (s : State) (r1 : K .TWN_STATUS) (r2 : K .TWN_CMD_RESULT) (r3 : K .VF_STATUS) (p1 : P .twn) : ∀ u, execYield who s = .next u → outside K P u = outside K P s :=
  by intro u h; unfold execYield at h; cases h; simp [*]
theorem outside_execTake (who : Nat) (s : State) (r1 : K .TWN_STATUS) (r2 : K .TWN_LEASE) (r3 : K .TWN_CMD_RESULT) (r4 : K .TWN_STR_SEQ) (r5 : K .VF_STATUS) (p1 : P .sam) (p2 : P .twn) (p3 : P .out) : ∀ u, execTake who s = .next u → outside K P u = outside K P s :=
  by
  intro u h
  refine outside_next h ?_
  apply outside_twnCommand <;> (try assumption)
  dsimp only
  split <;> simp [*]
@[simp] theorem outside_testTo (s : State) (op : Nat) (v : Nat) (r1 : K .TWN_STATUS) (r2 : K .TWN_EVENT) (r3 : K .TWN_CMD_RESULT) (p1 : P .irq) (p2 : P .twn) (p3 : P .out) : outside K P (State.testTo s op v) = outside K P s :=
  by unfold State.testTo; simp [*]
theorem outside_execTestEnter (who : Nat) (s : State) (r1 : K .TWN_STATUS) (r2 : K .TWN_EVENT) (r3 : K .TWN_CMD_RESULT) (r4 : K .VF_STATUS) (p1 : P .irq) (p2 : P .twn) (p3 : P .out) : ∀ u, execTestEnter who s = .next u → outside K P u = outside K P s :=
  by intro u h; unfold execTestEnter at h; cases h; simp [*]
theorem outside_execTestExit (who : Nat) (s : State) (r1 : K .TWN_STATUS) (r2 : K .TWN_EVENT) (r3 : K .TWN_CMD_RESULT) (r4 : K .VF_STATUS) (p1 : P .irq) (p2 : P .twn) (p3 : P .out) : ∀ u, execTestExit who s = .next u → outside K P u = outside K P s :=
  by intro u h; unfold execTestExit at h; cases h; simp [*]
@[simp] theorem outside_pelCommand (s : State) (who : Nat) (op : Nat) (checks : List (Bool × Status)) (act : State → State) (hk : outside K P (act s) = outside K P s) (r1 : K .PEL_RESULT) (r2 : K .PEL_STATUS) (r3 : K .PEL_EVENT) (r4 : K .VF_STATUS) (p1 : P .irq) (p2 : P .out) : outside K P (State.pelCommand s who op checks act) = outside K P s :=
  by unfold State.pelCommand; (repeat' split) <;> simp [*, hk]
@[simp] theorem outside_loadStart (s : State) (addr : Nat) (len : Nat) (r1 : K .PEL_STATUS) (p1 : P .pel) : outside K P (State.loadStart s addr len) = outside K P s :=
  by unfold State.loadStart; simp [*]
theorem outside_execLoad (who : Nat) (s : State) (r1 : K .PEL_RESULT) (r2 : K .PEL_STATUS) (r3 : K .PEL_EVENT) (r4 : K .VF_STATUS) (p1 : P .irq) (p2 : P .pel) (p3 : P .out) : ∀ u, execLoad who s = .next u → outside K P u = outside K P s :=
  by intro u h; unfold execLoad at h; cases h; simp [*]
@[simp] theorem outside_verificationDone (s : State) (img : Image) (hK : ∀ r, K r) (hP : ∀ p, P p) : outside K P (State.verificationDone s img) = outside K P s :=
  by unfold State.verificationDone; simp only []; (repeat' split) <;> simp [*]
theorem outside_execVerificationDone (copy : PealCopy) (s : State) (hK : ∀ r, K r) (hP : ∀ p, P p) : ∀ u, execVerificationDone copy s = .next u → outside K P u = outside K P s :=
  by intro u h; unfold execVerificationDone at h; cases h; simp [*]
@[simp] theorem outside_armNow (s : State) (who : Nat) (alarm : Bool) (hK : ∀ r, K r) (hP : ∀ p, P p) : outside K P (State.armNow s who alarm) = outside K P s :=
  by unfold State.armNow; simp [*]
theorem outside_execArmNow (who : Nat) (alarm : Bool) (s : State) (hK : ∀ r, K r) (hP : ∀ p, P p) : ∀ u, execArmNow who alarm s = .next u → outside K P u = outside K P s :=
  by intro u h; unfold execArmNow at h; cases h; simp [*]
theorem outside_execArmAt (who : Nat) (s : State) (r1 : K .PEL_RESULT) (r2 : K .PEL_STATUS) (r3 : K .PEL_EVENT) (r4 : K .VF_STATUS) (p1 : P .irq) (p2 : P .pel) (p3 : P .out) : ∀ u, execArmAt who s = .next u → outside K P u = outside K P s :=
  by intro u h; unfold execArmAt at h; cases h; simp [*]
theorem outside_execDisarm (who : Nat) (s : State) (hK : ∀ r, K r) (hP : ∀ p, P p) : ∀ u, execDisarm who s = .next u → outside K P u = outside K P s :=
  by intro u h; unfold execDisarm at h; cases h; simp [*]
theorem outside_execClearShadow (who : Nat) (s : State) (r1 : K .PEL_RESULT) (r2 : K .PEL_STATUS) (r3 : K .PEL_EVENT) (r4 : K .VF_STATUS) (p1 : P .irq) (p2 : P .pel) (p3 : P .out) : ∀ u, execClearShadow who s = .next u → outside K P u = outside K P s :=
  by intro u h; unfold execClearShadow at h; cases h; simp [*]
theorem outside_floor (t : State) (n : Nat) (h : P .fus) :
    outside K P { t with fus := { t.fus with floor := n } } = outside K P t := outside_mk_fus t _ h rfl rfl
theorem outside_words (t : State) (w : List (Nat × Nat)) (h : P .fus) :
    outside K P { t with fus := { t.fus with words := w } } = outside K P t := outside_mk_fus t _ h rfl rfl
theorem outside_execAdvanceFloor (who : Nat) (s : State) (r1 : K .PEL_RESULT) (r2 : K .PEL_STATUS) (r3 : K .PEL_EVENT) (r4 : K .FUS_STATUS) (r5 : K .VF_STATUS) (p1 : P .fus) (p2 : P .irq) (p3 : P .out) : ∀ u, execAdvanceFloor who s = .next u → outside K P u = outside K P s :=
  by
  intro u h
  refine outside_next h ?_
  apply outside_pelCommand <;> (try assumption)
  rw [outside_completePel, outside_set, outside_floor] <;> assumption
@[simp] theorem outside_timedStrike (s : State) (hK : ∀ r, K r) (hP : ∀ p, P p) : outside K P (State.timedStrike s) = outside K P s :=
  by unfold State.timedStrike; simp [*]
theorem outside_execTimedStrike (s : State) (hK : ∀ r, K r) (hP : ∀ p, P p) : ∀ u, execTimedStrike s = .next u → outside K P u = outside K P s :=
  by intro u h; unfold execTimedStrike at h; cases h; simp [*]
theorem outside_execDrainComplete (s : State) (r1 : K .PEL_STATUS) (p1 : P .pel) : ∀ u, execDrainComplete s = .next u → outside K P u = outside K P s :=
  by intro u h; unfold execDrainComplete at h; cases h; simp [*]
@[simp] theorem outside_perSecLatch (s : State) (r1 : K .CNT_SEC_STAMP) (p1 : P .cnt) : outside K P (State.perSecLatch s) = outside K P s :=
  by unfold State.perSecLatch; simp [*]
@[simp] theorem outside_instLatch (s : State) (i : Nat) (r1 : K .FLX_INST_SEC_CRC) (r2 : K .FLX_INST_SEC_MISS) (r3 : K .FLX_INST_SEC_FALSE) (r4 : K .FLX_INST_SEC_DEFECT) (p1 : P .flx) : outside K P (State.instLatch s i) = outside K P s :=
  by unfold State.instLatch; simp [*]
@[simp] theorem outside_clientLatch (s : State) (ch : Nat) (r1 : K .FLX_CLI_SEC_RX_LO) (r2 : K .FLX_CLI_SEC_RX_HI) (r3 : K .FLX_CLI_SEC_ERR) (r4 : K .FLX_CLI_SEC_INS) (r5 : K .FLX_CLI_SEC_DEL) (r6 : K .FLX_CLI_SEC_TX_LO) (r7 : K .FLX_CLI_SEC_TX_HI) (p1 : P .flx) (p2 : P .free) : outside K P (State.clientLatch s ch) = outside K P s :=
  by unfold State.clientLatch; simp [*]
@[simp] theorem outside_flexLatch (s : State) (r1 : K .FLX_SEC_STAMP) (r2 : K .FLX_INST_SEC_CRC) (r3 : K .FLX_INST_SEC_MISS) (r4 : K .FLX_INST_SEC_FALSE) (r5 : K .FLX_INST_SEC_DEFECT) (r6 : K .FLX_CLI_SEC_RX_LO) (r7 : K .FLX_CLI_SEC_RX_HI) (r8 : K .FLX_CLI_SEC_ERR) (r9 : K .FLX_CLI_SEC_INS) (r10 : K .FLX_CLI_SEC_DEL) (r11 : K .FLX_CLI_SEC_TX_LO) (r12 : K .FLX_CLI_SEC_TX_HI) (p1 : P .flx) (p2 : P .free) : outside K P (State.flexLatch s) = outside K P s :=
  by
  unfold State.flexLatch
  dsimp only
  rw [outside_set _ _ _ (by assumption)]
  split
  · rw [outside_foldl _ (fun s c => by simp [*]), outside_foldl _ (fun s gr => outside_foldl _ (fun s i => by simp [*]) _ _)]
  · rfl
@[simp] theorem outside_secondsLatch (s : State) (r1 : K .FLX_SEC_STAMP) (r2 : K .FLX_INST_SEC_CRC) (r3 : K .FLX_INST_SEC_MISS) (r4 : K .FLX_INST_SEC_FALSE) (r5 : K .FLX_INST_SEC_DEFECT) (r6 : K .FLX_CLI_SEC_RX_LO) (r7 : K .FLX_CLI_SEC_RX_HI) (r8 : K .FLX_CLI_SEC_ERR) (r9 : K .FLX_CLI_SEC_INS) (r10 : K .FLX_CLI_SEC_DEL) (r11 : K .FLX_CLI_SEC_TX_LO) (r12 : K .FLX_CLI_SEC_TX_HI) (r13 : K .CNT_SEC_STAMP) (p1 : P .cnt) (p2 : P .flx) (p3 : P .free) : outside K P (State.secondsLatch s) = outside K P s :=
  by unfold State.secondsLatch; simp [*]
theorem outside_execSecondsRollover (s : State) (r1 : K .FLX_SEC_STAMP) (r2 : K .FLX_INST_SEC_CRC) (r3 : K .FLX_INST_SEC_MISS) (r4 : K .FLX_INST_SEC_FALSE) (r5 : K .FLX_INST_SEC_DEFECT) (r6 : K .FLX_CLI_SEC_RX_LO) (r7 : K .FLX_CLI_SEC_RX_HI) (r8 : K .FLX_CLI_SEC_ERR) (r9 : K .FLX_CLI_SEC_INS) (r10 : K .FLX_CLI_SEC_DEL) (r11 : K .FLX_CLI_SEC_TX_LO) (r12 : K .FLX_CLI_SEC_TX_HI) (r13 : K .CNT_SEC_STAMP) (p1 : P .cnt) (p2 : P .flx) (p3 : P .free) : ∀ u, execSecondsRollover s = .next u → outside K P u = outside K P s :=
  by intro u h; unfold execSecondsRollover at h; cases h; simp [*]
@[simp] theorem outside_rollLatch (s : State) (r1 : K .CNT_EVENT) (p1 : P .irq) (p2 : P .cnt) (p3 : P .out) : outside K P (State.rollLatch s) = outside K P s :=
  by unfold State.rollLatch; simp [*]
theorem outside_execRollLatch (s : State) (r1 : K .CNT_EVENT) (p1 : P .irq) (p2 : P .cnt) (p3 : P .out) : ∀ u, execRollLatch s = .next u → outside K P u = outside K P s :=
  by intro u h; unfold execRollLatch at h; cases h; simp [*]
@[simp] theorem outside_rollToHost (s : State) (r : RollLatch) (p1 : P .out) : outside K P (State.rollToHost s r) = outside K P s :=
  by unfold State.rollToHost; simp [*]
@[simp] theorem outside_rollToJournal (s : State) (r : RollLatch) (r1 : K .SWC_SNR_LOST) (r2 : K .JNL_DISCARDED) (p1 : P .cnt) (p2 : P .buf) (p3 : P .jnl) : outside K P (State.rollToJournal s r) = outside K P s :=
  by unfold State.rollToJournal; simp [*, outside_foldl]
theorem outside_execRollDumpWritten (s : State) (r1 : K .SWC_SNR_LOST) (r2 : K .JNL_DISCARDED) (r3 : K .CNT_ROLL_SEQ_LO) (r4 : K .CNT_ROLL_SEQ_HI) (r5 : K .CNT_EVENT) (p1 : P .irq) (p2 : P .cnt) (p3 : P .buf) (p4 : P .jnl) (p5 : P .out) : ∀ u, execRollDumpWritten s = .next u → outside K P u = outside K P s :=
  by intro u h; unfold execRollDumpWritten at h; cases h; (repeat' split) <;> simp [*]
@[simp] theorem outside_moveTimers (s : State) (o : Int) (p1 : P .tim) : outside K P (State.moveTimers s o) = outside K P s :=
  by unfold State.moveTimers; simp [*]
@[simp] theorem outside_moveClocks (s : State) (o : Int) (p1 : P .tbl) (p2 : P .key) (p3 : P .twn) (p4 : P .hif) (p5 : P .tab) (p6 : P .jnl) (p7 : P .tmp) (p8 : P .pwr) : outside K P (State.moveClocks s o) = outside K P s :=
  outside_eq rfl rfl rfl (fun _ _ => rfl) (fun p hp => by cases p <;> first | rfl | contradiction)
@[simp] theorem outside_moveFrames (s : State) (o : Int) (p1 : P .buf) (p2 : P .sch) (p3 : P .pool) : outside K P (State.moveFrames s o) = outside K P s :=
  outside_eq rfl rfl rfl (fun _ _ => rfl) (fun p hp => by cases p <;> first | rfl | contradiction)
@[simp] theorem outside_launchRecheck (s : State) (r1 : K .SWC_CH_STATUS) (r2 : K .HIF_CQ_PROD) (r3 : K .CNT_EVENT) (p1 : P .irq) (p2 : P .cnt) (p3 : P .buf) (p4 : P .sch) (p5 : P .hif) (p6 : P .out) : outside K P (State.launchRecheck s) = outside K P s :=
  by unfold State.launchRecheck; simp [*, outside_foldl]
@[simp] theorem outside_gateOverruns (s : State) (r1 : K .SCH_EVENT) (p1 : P .irq) (p2 : P .cnt) (p3 : P .out) : outside K P (State.gateOverruns s) = outside K P s :=
  by unfold State.gateOverruns; simp [*, outside_foldl]
@[simp] theorem outside_oneShots (s : State) (hK : ∀ r, K r) (hP : ∀ p, P p) : outside K P (State.oneShots s) = outside K P s :=
  by unfold State.oneShots; simp [*]
@[simp] theorem outside_stepTaken (s : State) (was : Nat) (o : Int) (hK : ∀ r, K r) (hP : ∀ p, P p) : outside K P (State.stepTaken s was o) = outside K P s :=
  by unfold State.stepTaken; dsimp only; (repeat' split) <;> (try rfl) <;> simp [*]
@[simp] theorem outside_stepCmd (s : State) (who : Nat) (pending : Bool) (hK : ∀ r, K r) (hP : ∀ p, P p) : outside K P (State.stepCmd s who pending) = outside K P s :=
  by unfold State.stepCmd; dsimp only; (repeat' split) <;> simp [*]
theorem outside_execStep (who : Nat) (pending : Bool) (s : State) (hK : ∀ r, K r) (hP : ∀ p, P p) : ∀ u, execStep who pending s = .next u → outside K P u = outside K P s :=
  by intro u h; unfold execStep at h; cases h; simp [*]
@[simp] theorem outside_jnlFlushAll (s : State) (r1 : K .JNL_DURABLE_LO) (r2 : K .JNL_DURABLE_HI) (r3 : K .JNL_OLDEST_LO) (r4 : K .JNL_OLDEST_HI) (p1 : P .jnl) : outside K P (State.jnlFlushAll s) = outside K P s :=
  by unfold State.jnlFlushAll; simp [*]
@[simp] theorem outside_switched (s : State) (close : Bool) (d : Nat) (r1 : K .JNL_STATUS) (r2 : K .JNL_DURABLE_LO) (r3 : K .JNL_DURABLE_HI) (r4 : K .JNL_OLDEST_LO) (r5 : K .JNL_OLDEST_HI) (p1 : P .jnl) (p2 : P .pwr) : outside K P (State.switched s close d) = outside K P s :=
  by unfold State.switched; simp [*]
@[simp] theorem outside_gatesReload (s : State) (p1 : P .sch) : outside K P (State.gatesReload s) = outside K P s :=
  by unfold State.gatesReload; (repeat' split) <;> simp [*, outside_foldl]
@[simp] theorem outside_planeUp (s : State) (r1 : K .FLX_GRP_STATUS) (r2 : K .SWC_Q_STATUS) (r3 : K .TWN_STATUS) (p1 : P .sch) (p2 : P .twn) (p3 : P .out) (p4 : P .free) : outside K P (State.planeUp s) = outside K P s :=
  by unfold State.planeUp; simp [*, outside_foldl]
@[simp] theorem outside_planeStops (s : State) (r1 : K .PRT_EP_STATUS) (r2 : K .PRT_EP_EVENT) (r3 : K .FLX_GRP_STATUS) (r4 : K .FLX_GRP_EVENT) (r5 : K .FLX_INST_STATUS) (r6 : K .SWC_SNR_LOST) (r7 : K .SWC_CH_STATUS) (r8 : K .SWC_Q_STATUS) (r9 : K .DRM_ENG_STATUS) (r10 : K .SEQ_CH_DSN) (r11 : K .TWN_STATUS) (r12 : K .TWN_EVENT) (r13 : K .TWN_CMD_RESULT) (r14 : K .HIF_CQ_PROD) (r15 : K .TAB_STATUS) (r16 : K .TAB_EVENT) (r17 : K .CNT_EVENT) (r18 : K .CNT_PROG_SEL) (p1 : P .irq) (p2 : P .cnt) (p3 : P .prt) (p4 : P .flx) (p5 : P .buf) (p6 : P .sch) (p7 : P .pool) (p8 : P .twn) (p9 : P .hif) (p10 : P .tab) (p11 : P .out) (p12 : P .free) : outside K P (State.planeStops s) = outside K P s :=
  by unfold State.planeStops; simp [*, outside_foldl]
@[simp] theorem outside_arrive (s : State) (dest : PowerState) (r1 : K .PWR_EVENT) (p1 : P .irq) (p2 : P .pwr) (p3 : P .out) : outside K P (State.arrive s dest) = outside K P s :=
  by unfold State.arrive; simp [*]
@[simp] theorem outside_endPwr (s : State) (op : Nat) (r1 : K .PWR_CMD_RESULT) (p1 : P .pwr) : outside K P (State.endPwr s op) = outside K P s :=
  by unfold State.endPwr; simp [*]
@[simp] theorem outside_endPwrs (s : State) (ops : List Nat) (r1 : K .PWR_CMD_RESULT) (p1 : P .pwr) : outside K P (State.endPwrs s ops) = outside K P s :=
  by unfold State.endPwrs; simp [*, outside_foldr]
@[simp] theorem outside_startIfStruck (s : State) (p1 : P .pwr) : outside K P (State.startIfStruck s) = outside K P s :=
  by unfold State.startIfStruck; simp [*]
@[simp] theorem outside_bootSlotsEnd (s : State) (hK : ∀ r, K r) (hP : ∀ p, P p) : outside K P (State.bootSlotsEnd s) = outside K P s :=
  by unfold State.bootSlotsEnd; simp [*]
@[simp] theorem outside_asleep (s : State) (hK : ∀ r, K r) (hP : ∀ p, P p) : outside K P (State.asleep s) = outside K P s :=
  by unfold State.asleep; simp [*]
@[simp] theorem outside_seqEnd (s : State) (hK : ∀ r, K r) (hP : ∀ p, P p) : outside K P (State.seqEnd s) = outside K P s :=
  by unfold State.seqEnd; split <;> simp [*]
@[simp] theorem outside_slotStep (s : State) (hK : ∀ r, K r) (hP : ∀ p, P p) : outside K P (State.slotStep s) = outside K P s :=
  by unfold State.slotStep; simp only []; (repeat' split) <;> simp [*]
theorem outside_execPowerSequenceSlot (s : State) (hK : ∀ r, K r) (hP : ∀ p, P p) : ∀ u, execPowerSequenceSlot s = .next u → outside K P u = outside K P s :=
  by intro u h; unfold execPowerSequenceSlot at h; cases h; simp [*]
theorem outside_execDataPlaneStart (s : State) (p1 : P .pwr) : ∀ u, execDataPlaneStart s = .next u → outside K P u = outside K P s :=
  by intro u h; unfold execDataPlaneStart at h; cases h; (repeat' split) <;> simp [*]
@[simp] theorem outside_toPlane (s : State) (who : Nat) (op : Nat) (dest : PowerState) (r1 : K .DRM_ENG_STATUS) (r2 : K .PWR_STATUS) (r3 : K .PWR_CMD_RESULT) (r4 : K .PWR_EVENT) (r5 : K .VF_STATUS) (p1 : P .irq) (p2 : P .pwr) (p3 : P .out) : outside K P (State.toPlane s who op dest) = outside K P s :=
  by unfold State.toPlane; simp [*]
theorem outside_execActive (who : Nat) (s : State) (r1 : K .DRM_ENG_STATUS) (r2 : K .PWR_STATUS) (r3 : K .PWR_CMD_RESULT) (r4 : K .PWR_EVENT) (r5 : K .VF_STATUS) (p1 : P .irq) (p2 : P .pwr) (p3 : P .out) : ∀ u, execActive who s = .next u → outside K P u = outside K P s :=
  by intro u h; unfold execActive at h; cases h; simp [*]
theorem outside_execDoze (who : Nat) (s : State) (r1 : K .DRM_ENG_STATUS) (r2 : K .PWR_STATUS) (r3 : K .PWR_CMD_RESULT) (r4 : K .PWR_EVENT) (r5 : K .VF_STATUS) (p1 : P .irq) (p2 : P .pwr) (p3 : P .out) : ∀ u, execDoze who s = .next u → outside K P u = outside K P s :=
  by intro u h; unfold execDoze at h; cases h; simp [*]
@[simp] theorem outside_toRest (s : State) (who : Nat) (op : Nat) (dest : PowerState) (r1 : K .PRT_EP_STATUS) (r2 : K .PRT_EP_EVENT) (r3 : K .FLX_GRP_STATUS) (r4 : K .FLX_GRP_EVENT) (r5 : K .FLX_INST_STATUS) (r6 : K .SWC_SNR_LOST) (r7 : K .SWC_CH_STATUS) (r8 : K .SWC_Q_STATUS) (r9 : K .DRM_ENG_STATUS) (r10 : K .SEQ_CH_DSN) (r11 : K .TWN_STATUS) (r12 : K .TWN_EVENT) (r13 : K .TWN_CMD_RESULT) (r14 : K .HIF_CQ_PROD) (r15 : K .TAB_STATUS) (r16 : K .TAB_EVENT) (r17 : K .PWR_STATUS) (r18 : K .PWR_CMD_RESULT) (r19 : K .CNT_EVENT) (r20 : K .CNT_PROG_SEL) (r21 : K .VF_STATUS) (p1 : P .irq) (p2 : P .cnt) (p3 : P .prt) (p4 : P .flx) (p5 : P .buf) (p6 : P .sch) (p7 : P .pool) (p8 : P .twn) (p9 : P .hif) (p10 : P .tab) (p11 : P .pwr) (p12 : P .out) (p13 : P .free) : outside K P (State.toRest s who op dest) = outside K P s :=
  by unfold State.toRest; simp [*]
theorem outside_execStandby (who : Nat) (s : State) (r1 : K .PRT_EP_STATUS) (r2 : K .PRT_EP_EVENT) (r3 : K .FLX_GRP_STATUS) (r4 : K .FLX_GRP_EVENT) (r5 : K .FLX_INST_STATUS) (r6 : K .SWC_SNR_LOST) (r7 : K .SWC_CH_STATUS) (r8 : K .SWC_Q_STATUS) (r9 : K .DRM_ENG_STATUS) (r10 : K .SEQ_CH_DSN) (r11 : K .TWN_STATUS) (r12 : K .TWN_EVENT) (r13 : K .TWN_CMD_RESULT) (r14 : K .HIF_CQ_PROD) (r15 : K .TAB_STATUS) (r16 : K .TAB_EVENT) (r17 : K .PWR_STATUS) (r18 : K .PWR_CMD_RESULT) (r19 : K .CNT_EVENT) (r20 : K .CNT_PROG_SEL) (r21 : K .VF_STATUS) (p1 : P .irq) (p2 : P .cnt) (p3 : P .prt) (p4 : P .flx) (p5 : P .buf) (p6 : P .sch) (p7 : P .pool) (p8 : P .twn) (p9 : P .hif) (p10 : P .tab) (p11 : P .pwr) (p12 : P .out) (p13 : P .free) : ∀ u, execStandby who s = .next u → outside K P u = outside K P s :=
  by intro u h; unfold execStandby at h; cases h; simp [*]
theorem outside_execHibernate (who : Nat) (s : State) (r1 : K .PRT_EP_STATUS) (r2 : K .PRT_EP_EVENT) (r3 : K .FLX_GRP_STATUS) (r4 : K .FLX_GRP_EVENT) (r5 : K .FLX_INST_STATUS) (r6 : K .SWC_SNR_LOST) (r7 : K .SWC_CH_STATUS) (r8 : K .SWC_Q_STATUS) (r9 : K .DRM_ENG_STATUS) (r10 : K .SEQ_CH_DSN) (r11 : K .TWN_STATUS) (r12 : K .TWN_EVENT) (r13 : K .TWN_CMD_RESULT) (r14 : K .HIF_CQ_PROD) (r15 : K .TAB_STATUS) (r16 : K .TAB_EVENT) (r17 : K .PWR_STATUS) (r18 : K .PWR_CMD_RESULT) (r19 : K .CNT_EVENT) (r20 : K .CNT_PROG_SEL) (r21 : K .VF_STATUS) (p1 : P .irq) (p2 : P .cnt) (p3 : P .prt) (p4 : P .flx) (p5 : P .buf) (p6 : P .sch) (p7 : P .pool) (p8 : P .twn) (p9 : P .hif) (p10 : P .tab) (p11 : P .pwr) (p12 : P .out) (p13 : P .free) : ∀ u, execHibernate who s = .next u → outside K P u = outside K P s :=
  by intro u h; unfold execHibernate at h; cases h; simp [*]
theorem outside_execWake (cause : Nat) (s : State) (hK : ∀ r, K r) (hP : ∀ p, P p) : ∀ u, execWake cause s = .next u → outside K P u = outside K P s :=
  by intro u h; unfold execWake at h; cases h; simp [*]
theorem outside_execDpReset (who : Nat) (s : State) (r1 : K .PRT_EP_STATUS) (r2 : K .PRT_EP_EVENT) (r3 : K .FLX_GRP_STATUS) (r4 : K .FLX_GRP_EVENT) (r5 : K .FLX_INST_STATUS) (r6 : K .SWC_SNR_LOST) (r7 : K .SWC_CH_STATUS) (r8 : K .SWC_Q_STATUS) (r9 : K .DRM_CMD_RESULT) (r10 : K .DRM_EVENT) (r11 : K .DRM_ENG_STATUS) (r12 : K .SEQ_CH_DSN) (r13 : K .TWN_STATUS) (r14 : K .TWN_EVENT) (r15 : K .TWN_CMD_RESULT) (r16 : K .HIF_CQ_PROD) (r17 : K .PWR_STATUS) (r18 : K .PWR_CMD_RESULT) (r19 : K .CNT_EVENT) (r20 : K .CNT_PROG_SEL) (r21 : K .VF_STATUS) (p1 : P .irq) (p2 : P .cnt) (p3 : P .prt) (p4 : P .flx) (p5 : P .buf) (p6 : P .sch) (p7 : P .pool) (p8 : P .twn) (p9 : P .hif) (p10 : P .pwr) (p11 : P .out) (p12 : P .free) : ∀ u, execDpReset who s = .next u → outside K P u = outside K P s :=
  by intro u h; unfold execDpReset at h; cases h; simp [*]
theorem outside_execCpReset (who : Nat) (s : State) (r1 : K .PEL_RESULT) (r2 : K .PEL_STATUS) (r3 : K .PEL_EVENT) (r4 : K .TBL_EVENT) (r5 : K .SWC_SNR_LOST) (r6 : K .SAM_CMD_RESULT) (r7 : K .SAM_RES) (r8 : K .TWN_STATUS) (r9 : K .TWN_EVENT) (r10 : K .TWN_CMD_RESULT) (r11 : K .HIF_RS_CTL) (r12 : K .CHM_OUT_DATA) (r13 : K .CHM_EVENT) (r14 : K .TAB_STATUS) (r15 : K .TAB_EVENT) (r16 : K .PWR_STATUS) (r17 : K .PWR_CMD_RESULT) (r18 : K .VF_STATUS) (r19 : K .VF_EVENT) (p1 : P .irq) (p2 : P .pel) (p3 : P .tbl) (p4 : P .buf) (p5 : P .sam) (p6 : P .key) (p7 : P .twn) (p8 : P .chm) (p9 : P .tab) (p10 : P .pwr) (p11 : P .out) (p12 : P .free) : ∀ u, execCpReset who s = .next u → outside K P u = outside K P s :=
  by intro u h; unfold execCpReset at h; cases h; simp [*]
theorem outside_execDeviceReset (who : Nat) (s : State) (hK : ∀ r, K r) (hP : ∀ p, P p) : ∀ u, execDeviceReset who s = .next u → outside K P u = outside K P s :=
  by intro u h; unfold execDeviceReset at h; cases h; simp [*]
theorem outside_execDataPlaneResetEnd (s : State) (hK : ∀ r, K r) (hP : ∀ p, P p) : ∀ u, execDataPlaneResetEnd s = .next u → outside K P u = outside K P s :=
  by intro u h; unfold execDataPlaneResetEnd at h; cases h; simp [*]
theorem outside_execControlPlaneResetEnd (s : State) (hK : ∀ r, K r) (hP : ∀ p, P p) : ∀ u, execControlPlaneResetEnd s = .next u → outside K P u = outside K P s :=
  by intro u h; unfold execControlPlaneResetEnd at h; cases h; simp [*]
theorem outside_execKick (who : Nat) (timeout : Nat) (s : State) (r1 : K .PWR_STATUS) (r2 : K .PWR_WDOG) (r3 : K .VF_STATUS) (p1 : P .pwr) : ∀ u, execKick who timeout s = .next u → outside K P u = outside K P s :=
  by intro u h; unfold execKick at h; cases h; simp [*]
theorem outside_execWdog (s : State) (hK : ∀ r, K r) (hP : ∀ p, P p) : ∀ u, execWdog s = .next u → outside K P u = outside K P s :=
  by intro u h; unfold execWdog at h; cases h; simp [*]
@[simp] theorem outside_rootUp (s : State) (puf : Option Key) (hK : ∀ r, K r) (hP : ∀ p, P p) : outside K P (State.rootUp s puf) = outside K P s :=
  by unfold State.rootUp; split <;> simp [*]
@[simp] theorem outside_firmware (s : State) (b : BootSlot) (result : Nat) (r1 : K .PWR_STATUS) (p1 : P .pwr) (p2 : P .out) : outside K P (State.firmware s b result) = outside K P s :=
  by unfold State.firmware; simp [*]
@[simp] theorem outside_loadPeal (s : State) (c : PealCopy) (hK : ∀ r, K r) (hP : ∀ p, P p) : outside K P (State.loadPeal s c) = outside K P s :=
  by unfold State.loadPeal; simp [*]
@[simp] theorem outside_bootPeal (s : State) (one : PealCopy) (two : PealCopy) (hK : ∀ r, K r) (hP : ∀ p, P p) : outside K P (State.bootPeal s one two) = outside K P s :=
  by unfold State.bootPeal; simp [*]
@[simp] theorem outside_bootRun (s : State) (fl : BootFlash) (hK : ∀ r, K r) (hP : ∀ p, P p) : outside K P (State.bootRun s fl) = outside K P s :=
  by unfold State.bootRun; simp [*]
theorem outside_execBoot (flash : BootFlash) (s : State) (hK : ∀ r, K r) (hP : ∀ p, P p) : ∀ u, execBoot flash s = .next u → outside K P u = outside K P s :=
  by intro u h; unfold execBoot at h; cases h; simp [*]
theorem outside_execRecover (who : Nat) (img : BootSlot) (s : State) (hK : ∀ r, K r) (hP : ∀ p, P p) : ∀ u, execRecover who img s = .next u → outside K P u = outside K P s :=
  by
  intro u h
  refine outside_next h ?_
  apply outside_pwrCommand <;> (try first | assumption | exact hK _)
  dsimp only
  split <;> simp [*]
theorem outside_execDbgTokenWrite (who : Nat) (token : DebugToken) (s : State) (hK : ∀ r, K r) (hP : ∀ p, P p) : ∀ u, execDbgTokenWrite who token s = .next u → outside K P u = outside K P s :=
  by intro u h; unfold execDbgTokenWrite at h; cases h; simp [*]
@[simp] theorem outside_completeFus (s : State) (op : Nat) (st : Status) (r1 : K .FUS_CMD_RESULT) : outside K P (State.completeFus s op st) = outside K P s :=
  by unfold State.completeFus; simp [*]
@[simp] theorem outside_blown (s : State) (w : Nat) (new : Nat) (p1 : P .fus) : outside K P (State.blown s w new) = outside K P s :=
  outside_mk_fus _ _ p1 rfl rfl
@[simp] theorem outside_blow (s : State) (who : Nat) (r1 : K .FUS_STATUS) (r2 : K .FUS_CMD_RESULT) (r3 : K .VF_STATUS) (p1 : P .fus) : outside K P (State.blow s who) = outside K P s :=
  by unfold State.blow; dsimp only; (repeat' split) <;> simp [*, outside_foldl]
theorem outside_execBlow (who : Nat) (s : State) (r1 : K .FUS_STATUS) (r2 : K .FUS_CMD_RESULT) (r3 : K .VF_STATUS) (p1 : P .fus) : ∀ u, execBlow who s = .next u → outside K P u = outside K P s :=
  by intro u h; unfold execBlow at h; cases h; simp [*]
theorem outside_execPcieLinkUp (gen : Nat) (width : Nat) (s : State) (r1 : K .HIF_STATUS) (r2 : K .TMP_STATUS) (r3 : K .TMP_BAT_INFO) (p1 : P .irq) (p2 : P .hif) (p3 : P .out) : ∀ u, execPcieLinkUp gen width s = .next u → outside K P u = outside K P s :=
  by intro u h; unfold execPcieLinkUp at h; cases h; simp [*]
@[simp] theorem outside_plainWrite (s : State) (who : Nat) (p : Place) (v : Nat) (hK : ∀ r, K r) (hP : ∀ p, P p) : outside K P (State.plainWrite s who p v) = outside K P s :=
  by unfold State.plainWrite; simp [*]
theorem outside_pelWrite (who : Nat) (op : Nat) (s : State) (hK : ∀ r, K r) (hP : ∀ p, P p) : ∀ u, pelWrite who op s = .next u → outside K P u = outside K P s :=
  by
  intro u h
  unfold pelWrite at h
  split at h
  · apply outside_execLoad <;> first | exact h | exact hK _ | exact hP _ | assumption
  · apply outside_execArmNow <;> first | exact h | exact hK _ | exact hP _ | assumption
  · apply outside_execArmAt <;> first | exact h | exact hK _ | exact hP _ | assumption
  · apply outside_execDisarm <;> first | exact h | exact hK _ | exact hP _ | assumption
  · apply outside_execClearShadow <;> first | exact h | exact hK _ | exact hP _ | assumption
  · apply outside_execAdvanceFloor <;> first | exact h | exact hK _ | exact hP _ | assumption
  · exact outside_next h (by simp [*])
theorem outside_drmWrite (who : Nat) (op : Nat) (e : Nat) (s : State) (r1 : K .SWC_SNR_LOST) (r2 : K .DRM_STATUS) (r3 : K .DRM_CMD_RESULT) (r4 : K .DRM_EVENT) (r5 : K .DRM_ENG_STATUS) (r6 : K .DRM_ENG_FAULT) (r7 : K .DRM_ENG_FAULT_NS) (r8 : K .SEQ_CH_RECALL) (r9 : K .JNL_DISCARDED) (r10 : K .TMP_EVENT) (r11 : K .TMP_LOG_INFO) (r12 : K .TMP_LOG_SEQ) (r13 : K .VF_STATUS) (p1 : P .irq) (p2 : P .cnt) (p3 : P .buf) (p4 : P .pool) (p5 : P .jnl) (p6 : P .tmp) (p7 : P .out) : ∀ u, drmWrite who op e s = .next u → outside K P u = outside K P s :=
  by intro u h; unfold drmWrite at h; (repeat' split at h) <;> cases h <;> simp [*]
theorem outside_tblWrite (who : Nat) (op : Nat) (s : State) (r1 : K .TBL_STATUS) (r2 : K .TBL_CMD_RESULT) (r3 : K .VF_STATUS) (r4 : K .VF_EVENT) (p1 : P .irq) (p2 : P .tbl) (p3 : P .out) : ∀ u, tblWrite who op s = .next u → outside K P u = outside K P s :=
  by intro u h; unfold tblWrite at h; (repeat' split at h) <;> cases h <;> simp [*]
theorem outside_samWrite (who : Nat) (op : Nat) (s : State) (r1 : K .SAM_EVENT) (r2 : K .SAM_EVQ_LOST) (r3 : K .SAM_CMD_RESULT) (r4 : K .SAM_RES) (r5 : K .CNT_EVENT) (r6 : K .CNT_PROG_SEL) (r7 : K .VF_EVENT) (p1 : P .irq) (p2 : P .cnt) (p3 : P .pool) (p4 : P .sam) (p5 : P .twn) (p6 : P .out) (p7 : P .free) : ∀ u, samWrite who op s = .next u → outside K P u = outside K P s :=
  by intro u h; unfold samWrite at h; (repeat' split at h) <;> cases h <;> simp [*]
theorem outside_keyWrite (who : Nat) (op : Nat) (dma : Bytes) (s : State) (r1 : K .SAM_EVENT) (r2 : K .SAM_EVQ_LOST) (r3 : K .SAM_CMD_RESULT) (r4 : K .SAM_RES) (r5 : K .KEY_STATUS) (r6 : K .KEY_CMD_RESULT) (r7 : K .KEY_RES) (r8 : K .CNT_EVENT) (r9 : K .CNT_PROG_SEL) (r10 : K .VF_STATUS) (r11 : K .VF_EVENT) (p1 : P .irq) (p2 : P .cnt) (p3 : P .pool) (p4 : P .sam) (p5 : P .key) (p6 : P .twn) (p7 : P .out) (p8 : P .free) : ∀ u, keyWrite who op dma s = .next u → outside K P u = outside K P s :=
  by intro u h; unfold keyWrite at h; (repeat' split at h) <;> cases h <;> simp [*]
theorem outside_jnlWrite (who : Nat) (op : Nat) (s : State) (r1 : K .SWC_SNR_LOST) (r2 : K .JNL_STATUS) (r3 : K .JNL_LIFE) (r4 : K .JNL_EVENT) (r5 : K .JNL_DURABLE_LO) (r6 : K .JNL_DURABLE_HI) (r7 : K .JNL_OLDEST_LO) (r8 : K .JNL_OLDEST_HI) (r9 : K .JNL_FORMAT) (r10 : K .JNL_PLAN_RATE) (r11 : K .JNL_PLAN_WEAR) (r12 : K .JNL_PLAN_HEALTH) (r13 : K .JNL_PLAN_MISC) (r14 : K .JNL_DISCARDED) (r15 : K .JNL_CMD_RESULT) (r16 : K .JNL_RES) (r17 : K .VF_STATUS) (p1 : P .irq) (p2 : P .buf) (p3 : P .jnl) (p4 : P .tmp) (p5 : P .out) (p6 : P .free) : ∀ u, jnlWrite who op s = .next u → outside K P u = outside K P s :=
  by intro u h; unfold jnlWrite at h; (repeat' split at h) <;> cases h <;> simp [*]
theorem outside_twnWrite (who : Nat) (op : Nat) (s : State) (r1 : K .TWN_STATUS) (r2 : K .TWN_LEASE) (r3 : K .TWN_EVENT) (r4 : K .TWN_CMD_RESULT) (r5 : K .TWN_STR_SEQ) (r6 : K .VF_STATUS) (p1 : P .irq) (p2 : P .sam) (p3 : P .twn) (p4 : P .out) : ∀ u, twnWrite who op s = .next u → outside K P u = outside K P s :=
  by
  intro u h
  unfold twnWrite at h
  split at h
  · apply outside_execYield <;> first | exact h | exact hK _ | exact hP _ | assumption
  · apply outside_execTake <;> first | exact h | exact hK _ | exact hP _ | assumption
  · apply outside_execTestEnter <;> first | exact h | exact hK _ | exact hP _ | assumption
  · apply outside_execTestExit <;> first | exact h | exact hK _ | exact hP _ | assumption
  · exact outside_next h (by simp [*])
theorem outside_tmpWrite (who : Nat) (op : Nat) (code : Nat) (s : State) (hK : ∀ r, K r) (hP : ∀ p, P p) : ∀ u, tmpWrite who op code s = .next u → outside K P u = outside K P s :=
  by intro u h; unfold tmpWrite at h; (repeat' split at h) <;> cases h <;> simp [*]
theorem outside_pwrWrite (who : Nat) (op : Nat) (key : Nat) (s : State) (hK : ∀ r, K r) (hP : ∀ p, P p) : ∀ u, pwrWrite who op key s = .next u → outside K P u = outside K P s :=
  by
  intro u h
  unfold pwrWrite at h
  by_cases hk : key ≠ (if op = 5 ∨ op = 6 ∨ op = 7 then 0xD5 else 0)
  · rw [if_pos hk] at h
    cases h
    simp [*]
  · rw [if_neg hk] at h
    split at h
    · apply outside_execActive <;> first | exact h | exact hK _ | exact hP _ | assumption
    · apply outside_execDoze <;> first | exact h | exact hK _ | exact hP _ | assumption
    · apply outside_execStandby <;> first | exact h | exact hK _ | exact hP _ | assumption
    · apply outside_execHibernate <;> first | exact h | exact hK _ | exact hP _ | assumption
    · apply outside_execDpReset <;> first | exact h | exact hK _ | exact hP _ | assumption
    · apply outside_execCpReset <;> first | exact h | exact hK _ | exact hP _ | assumption
    · apply outside_execDeviceReset <;> first | exact h | exact hK _ | exact hP _ | assumption
    · refine Eq.trans (b := outside K P _) (by apply outside_execAvsPlan <;> first | exact h | exact hK _ | exact hP _ | assumption) (by simp [*])
    · refine Eq.trans (b := outside K P _) (by apply outside_execRecover <;> first | exact h | exact hK _ | exact hP _ | assumption) (by simp [*])
    · exact outside_next h (by simp [*])
theorem outside_fusWrite (who : Nat) (op : Nat) (key : Nat) (s : State) (r1 : K .FUS_STATUS) (r2 : K .FUS_CMD_RESULT) (r3 : K .VF_STATUS) (p1 : P .fus) : ∀ u, fusWrite who op key s = .next u → outside K P u = outside K P s :=
  by intro u h; unfold fusWrite at h; (repeat' split at h) <;> cases h <;> simp [*]
theorem outside_flxWrite (who : Nat) (g : Nat) (v : Nat) (s : State) (r1 : K .FLX_STATUS) (r2 : K .FLX_GRP_STATUS) (r3 : K .VF_STATUS) (p1 : P .flx) : ∀ u, flxWrite who g v s = .next u → outside K P u = outside K P s :=
  by intro u h; unfold flxWrite at h; (repeat' split at h) <;> cases h <;> simp [*]
@[simp] theorem outside_schChWrite (e : Nat) (v : Nat) (s : State) (r1 : K .SCH_CH_CFG) (p1 : P .sch) : outside K P (schChWrite e v s) = outside K P s :=
  by unfold schChWrite; simp [*]
theorem outside_onBit (v : Nat) (act : State → Host.Outcome State Fault Refusal) (s : State) : (∀ u, act s = .next u → outside K P u = outside K P s) → ∀ u, onBit v act s = .next u → outside K P u = outside K P s :=
  by
  intro hk u h
  unfold onBit at h
  split at h
  · exact hk u h
  · exact outside_next h rfl
theorem outside_regWrite (who : Nat) (p : Place) (v : Nat) (dma : Bytes) (s : State) (hK : ∀ r, K r) (hP : ∀ p, P p) : ∀ u, regWrite who p v dma s = .next u → outside K P u = outside K P s :=
  by
  intro u h
  unfold regWrite at h
  dsimp only at h
  split at h
  case h_1 => apply outside_pelWrite <;> first | exact h | exact hK _ | exact hP _ | assumption
  case h_2 => apply outside_flxWrite <;> first | exact h | exact hK _ | exact hP _ | assumption
  case h_3 =>
    (repeat' split at h)
    · apply outside_execRelease <;> first | exact h | exact hK _ | exact hP _ | assumption
    · apply outside_execRenew <;> first | exact h | exact hK _ | exact hP _ | assumption
    · exact outside_next h rfl
  case h_4 => apply outside_tblWrite <;> first | exact h | exact hK _ | exact hP _ | assumption
  case h_5 => apply outside_execSnareRingResize <;> first | exact h | exact hK _ | exact hP _ | assumption
  case h_6 => apply outside_drmWrite <;> first | exact h | exact hK _ | exact hP _ | assumption
  case h_7 => apply outside_samWrite <;> first | exact h | exact hK _ | exact hP _ | assumption
  case h_8 => apply outside_keyWrite <;> first | exact h | exact hK _ | exact hP _ | assumption
  case h_9 => apply outside_execProtShaperWrite <;> first | exact h | exact hK _ | exact hP _ | assumption
  case h_10 => apply outside_execProtShaperWrite <;> first | exact h | exact hK _ | exact hP _ | assumption
  case h_11 => exact outside_next h (by simp [*])
  case h_12 => apply outside_execTimIncCommit <;> first | exact h | exact hK _ | exact hP _ | assumption
  case h_13 =>
    split at h
    · apply outside_execStep <;> first | exact h | exact hK _ | exact hP _ | assumption
    · exact outside_next h (by simp [*])
  case h_14 =>
    refine outside_onBit _ _ _ (fun u h => ?_) _ h
    apply outside_execTimTxtsPop <;> first | exact h | exact hK _ | exact hP _ | assumption
  case h_15 =>
    refine outside_onBit _ _ _ (fun u h => ?_) _ h
    apply outside_execTimCapPop <;> first | exact h | exact hK _ | exact hP _ | assumption
  case h_16 =>
    (repeat' split at h)
    · apply outside_execTriggerDisarm <;> first | exact h | exact hK _ | exact hP _ | assumption
    · apply outside_execArm <;> first | exact h | exact hK _ | exact hP _ | assumption
    · exact outside_next h rfl
  case h_17 => apply outside_twnWrite <;> first | exact h | exact hK _ | exact hP _ | assumption
  case h_18 => exact outside_next h (by simp [*])
  case h_19 => exact outside_next h (by split <;> simp [*])
  case h_20 => exact outside_next h (by simp [*])
  case h_21 =>
    refine outside_onBit _ _ _ (fun u h => ?_) _ h
    apply outside_execWithdraw <;> first | exact h | exact hK _ | exact hP _ | assumption
  case h_22 =>
    refine outside_onBit _ _ _ (fun u h => ?_) _ h
    apply outside_execPop <;> first | exact h | exact hK _ | exact hP _ | assumption
  case h_23 => exact outside_next h (by simp [*])
  case h_24 => exact outside_next h (by simp [*])
  case h_25 => apply outside_jnlWrite <;> first | exact h | exact hK _ | exact hP _ | assumption
  case h_26 => apply outside_tmpWrite <;> first | exact h | exact hK _ | exact hP _ | assumption
  case h_27 => apply outside_pwrWrite <;> first | exact h | exact hK _ | exact hP _ | assumption
  case h_28 =>
    split at h
    · apply outside_execKick <;> first | exact h | exact hK _ | exact hP _ | assumption
    · exact outside_next h (by simp [*])
  case h_29 =>
    refine outside_onBit _ _ _ (fun u h => ?_) _ h
    apply outside_execCntSamplePop <;> first | exact h | exact hK _ | exact hP _ | assumption
  case h_30 => apply outside_execCntProgSelWrite <;> first | exact h | exact hK _ | exact hP _ | assumption
  case h_31 => apply outside_fusWrite <;> first | exact h | exact hK _ | exact hP _ | assumption
  case h_32 => exact outside_next h (by simp [*])
@[simp] theorem outside_postUnmapped (s : State) (who : Nat) (off : Nat) (write : Bool) (r1 : K .TOP_EVENT) (r2 : K .TOP_UNMAPPED) (p1 : P .irq) (p2 : P .out) : outside K P (State.postUnmapped s who off write) = outside K P s :=
  by unfold State.postUnmapped; simp [*]
@[simp] theorem outside_unmappedAccess (s : State) (who : Nat) (off : Nat) (write : Bool) (r1 : K .TOP_EVENT) (r2 : K .TOP_UNMAPPED) (p1 : P .irq) (p2 : P .out) : outside K P (State.unmappedAccess s who off write) = outside K P s :=
  by unfold State.unmappedAccess; simp [*]
@[simp] theorem outside_ignoredWrite (s : State) (who : Nat) (p : Place) (hK : ∀ r, K r) (hP : ∀ p, P p) : outside K P (State.ignoredWrite s who p) = outside K P s :=
  by unfold State.ignoredWrite; simp [*]
theorem outside_wordWrite (who : Nat) (off : Nat) (v : Nat) (dma : Bytes) (s : State) (hK : ∀ r, K r) (hP : ∀ p, P p) : ∀ u, wordWrite who off v dma s = .next u → outside K P u = outside K P s :=
  by
  intro u h
  unfold wordWrite at h
  split at h
  · exact outside_next h (by simp [*])
  · exact outside_next h (by simp [*])
  · exact outside_next h rfl
  · split at h
    · exact outside_next h rfl
    · split at h
      · exact outside_next h rfl
      · split at h
        · exact outside_next h (by simp [*])
        · apply outside_regWrite <;> first | exact h | exact hK _ | exact hP _ | assumption
theorem outside_thenRun (o : Host.Outcome State Fault Refusal) (f : State → Host.Outcome State Fault Refusal) : (∀ s u, f s = .next u → outside K P u = outside K P s) → ∀ u, thenRun o f = .next u → ∃ s, o = .next s ∧ outside K P u = outside K P s :=
  by
  intro hf u h
  unfold thenRun at h
  split at h
  · exact ⟨_, rfl, hf _ _ h⟩
  · cases h
  · cases h
theorem outside_execRegisterWrite (who : Nat) (off : Nat) (size : Nat) (val : BitVec 64) (dma : Bytes) (s : State) (hK : ∀ r, K r) (hP : ∀ p, P p) : ∀ u, execRegisterWrite who off size val dma s = .next u → outside K P u = outside K P s :=
  by
  intro u h
  unfold execRegisterWrite at h
  dsimp only at h
  (repeat' split at h)
  all_goals first
    | (cases h; done)
    | exact outside_next h (by simp [*])
    | exact outside_wordWrite _ _ _ _ _ hK hP _ h
    | (obtain ⟨t, ht, e⟩ := outside_thenRun _ _ (fun s u h => outside_wordWrite _ _ _ _ s hK hP u h) _ h
       exact e.trans (outside_wordWrite _ _ _ _ _ hK hP _ ht))
theorem outside_execSubwordWrite (who : Nat) (off : Nat) (size : Nat) (s : State) (r1 : K .TOP_EVENT) (r2 : K .TOP_UNMAPPED) (r3 : K .CHM_EVENT) (p1 : P .irq) (p2 : P .hif) (p3 : P .out) : ∀ u, execSubwordWrite who off size s = .next u → outside K P u = outside K P s :=
  by intro u h; unfold execSubwordWrite at h; (repeat' split at h) <;> cases h <;> simp [*]
@[simp] theorem outside_readEffect (s : State) (who : Nat) (p : Place) (hK : ∀ r, K r) (hP : ∀ p, P p) : outside K P (State.readEffect s who p) = outside K P s :=
  by unfold State.readEffect; split <;> (try (simp [*]; done)); refine outside_foldl _ (fun s f => ?_) _ _; split <;> simp [*]
@[simp] theorem outside_wordRead (s : State) (who : Nat) (off : Nat) (hK : ∀ r, K r) (hP : ∀ p, P p) : outside K P (State.wordRead s who off) = outside K P s :=
  by unfold State.wordRead; (repeat' split) <;> simp [*]
@[simp] theorem outside_read8 (s : State) (who : Nat) (off : Nat) (hK : ∀ r, K r) (hP : ∀ p, P p) : outside K P (State.read8 s who off) = outside K P s :=
  by unfold State.read8; simp [*]
@[simp] theorem outside_readPart (s : State) (who : Nat) (off : Nat) (size : Nat) (hK : ∀ r, K r) (hP : ∀ p, P p) : outside K P (State.readPart s who off size) = outside K P s :=
  by unfold State.readPart; simp [*]
@[simp] theorem outside_counterRead (s : State) (who : Nat) (x : Nat) (size : Nat) (p1 : P .out) (p2 : P .free) : outside K P (State.counterRead s who x size) = outside K P s :=
  by unfold State.counterRead; simp [*]
theorem outside_execUnmapped (who : Nat) (off : Nat) (acc : Access) (s : State) (hK : ∀ r, K r) (hP : ∀ p, P p) : ∀ u, execUnmapped who off acc s = .next u → outside K P u = outside K P s :=
  by
  intro u h
  unfold execUnmapped at h
  dsimp only at h
  by_cases a : 13 ≤ who ∨ acc.size ∉ [1, 2, 4, 8]
  · rw [if_pos a] at h; exact nomatch h
  rw [if_neg a] at h
  by_cases b : inBar2 who off acc.size
  · rw [if_pos b] at h; exact outside_next h (by split <;> simp [*])
  rw [if_neg b] at h
  by_cases c : bar0Bytes who < off + acc.size
  · rw [if_pos c] at h; exact nomatch h
  rw [if_neg c] at h
  split at h <;> exact outside_next h (by (repeat' split) <;> simp [*])

/-- A footprint in the terms of the statements. -/
theorem onlyWhere_of_outside {K : FKey → Prop} {R : Reg → Prop} {ps : List Part} {s t : State}
    (h : outside R (· ∈ ps) t = outside R (· ∈ ps) s) (hk : ∀ k, ¬ K k → R k.reg → t.get k = s.get k) : OnlyWhere K ps s t := by
  obtain ⟨hr, hp, hq⟩ := outside_only h
  refine ⟨fun k n => ?_, hp, hq⟩
  by_cases r : R k.reg
  · exact hk k n r
  · exact hr k r

theorem onlyIn_of_outside {rs : List Reg} {ps : List Part} {s t : State}
    (h : outside (· ∈ rs) (· ∈ ps) t = outside (· ∈ rs) (· ∈ ps) s) : OnlyIn rs ps s t :=
  onlyWhere_of_outside h (fun _ n r => absurd r n)

/-- A field of a register that an operation does not change: `simp [hK, hP]` with the lemmas above meets the premise. -/
theorem get_of_outside {s t : State} {k : FKey} (h : ∀ (K : Reg → Prop) (P : Part → Prop), (∀ r, r ≠ k.reg → K r) → (∀ p, P p) →
    outside K P t = outside K P s) : t.get k = s.get k :=
  (outside_only (h (· ≠ k.reg) (fun _ => True) (fun _ h => h) (fun _ => trivial))).1 k (fun h => h rfl)

/-- A part of the state that an operation does not change. -/
theorem part_of_outside {s t : State} {p : Part} (h : ∀ (K : Reg → Prop) (P : Part → Prop), (∀ r, K r) → (∀ q, q ≠ p → P q) →
    outside K P t = outside K P s) : p.same s t :=
  (outside_only (h (fun _ => True) (· ≠ p) (fun _ => trivial) (fun _ h => h))).2.1 p (fun h => h rfl)

/-- The frame of an operation by registers and parts. -/
theorem onlyIn_of {rs : List Reg} {ps : List Part} {s t : State} (h : ∀ (K : Reg → Prop) (P : Part → Prop), (∀ r ∈ rs, K r) →
    (∀ p ∈ ps, P p) → outside K P t = outside K P s) : OnlyIn rs ps s t :=
  onlyIn_of_outside (h (· ∈ rs) (· ∈ ps) (fun _ h => h) (fun _ h => h))

end Sys2Proof.Laws
end

