-- ==== Sys2Proof/Laws/Canonical.lean ====
section
/-! SUPPORT. Every operation keeps the register file in its canonical form. One lemma for each operation of the model, by
its name. -/

namespace Sys2Proof.Laws
open Sys2Proof Sys2Proof.Machine

set_option linter.unusedSimpArgs false
set_option linter.unusedVariables false

@[simp] theorem wf_regs {s : State} (h : registersCanonical s) : Tab.wf FKey.code FKey.reset s.regs = true := h

@[simp] theorem canon_mk (r a b c d e f g h i j k l m n o p q u v w x y z) :
    registersCanonical (State.mk r a b c d e f g h i j k l m n o p q u v w x y z) ↔ Tab.wf FKey.code FKey.reset r = true := Iff.rfl

@[simp] theorem wf_filter {t : Tab FKey Nat} (f : FKey × Nat → Bool) (h : Tab.wf FKey.code FKey.reset t = true) :
    Tab.wf FKey.code FKey.reset (t.filter f) = true := tab_wf_filter _ _ _ _ h

@[simp] theorem canon_ite (c : Prop) [Decidable c] (s t : State) :
    registersCanonical (if c then s else t) ↔ (c → registersCanonical s) ∧ (¬ c → registersCanonical t) := by split <;> simp [*]

theorem canon_next {x u : State} (h : (Host.Outcome.next x : Host.Outcome State Fault Refusal) = .next u)
    (hx : registersCanonical x) : registersCanonical u := (Host.Outcome.next.inj h) ▸ hx

@[simp] theorem canon_foldl {α : Type} (f : State → α → State) (l : List α) (s : State)
    (h : ∀ s a, registersCanonical s → registersCanonical (f s a)) (h0 : registersCanonical s) :
    registersCanonical (l.foldl f s) := by
  induction l generalizing s with
  | nil => exact h0
  | cons a l ih => exact ih _ (h _ _ h0)

@[simp] theorem canon_foldr {α : Type} (f : α → State → State) (l : List α) (s : State)
    (h : ∀ a s, registersCanonical s → registersCanonical (f a s)) (h0 : registersCanonical s) :
    registersCanonical (l.foldr f s) := by
  induction l with
  | nil => exact h0
  | cons a l ih => exact h _ _ ih

@[simp] theorem canon_set (s : State) (k : FKey) (v : Nat) (h0 : registersCanonical s) : registersCanonical (State.set s k v) :=
  tab_wf_put FKey.code fkey_code_inj FKey.reset s.regs k v h0

@[simp] theorem canon_sets (s : State) (l : List (FKey × Nat)) (h0 : registersCanonical s) : registersCanonical (State.sets s l) :=
  canon_foldl _ l s (fun s p h => canon_set s p.1 p.2 h) h0

/-- The state that a dispatch fate carries is canonical. -/
def fateCanonical (d : DispatchFate) : Prop :=
  match d with
  | .wait t | .drop t _ _ | .go t => registersCanonical t

@[simp] theorem canon_bump (s : State) (k : FKey) (w : Nat) (n : Nat) (h0 : registersCanonical s) : registersCanonical (State.bump s k w n) :=
  by unfold State.bump; simp +contextual (maxDischargeDepth := 30) [*]
@[simp] theorem canon_setPwr (s : State) (p : Power) (h0 : registersCanonical s) : registersCanonical (State.setPwr s p) :=
  by unfold State.setPwr; simp +contextual (maxDischargeDepth := 30) [*]
@[simp] theorem canon_emit (s : State) (o : Output) (h0 : registersCanonical s) : registersCanonical (State.emit s o) :=
  by unfold State.emit; simp +contextual (maxDischargeDepth := 30) [*]
@[simp] theorem canon_drew (s : State) (h0 : registersCanonical s) : registersCanonical (State.drew s) :=
  by unfold State.drew; simp +contextual (maxDischargeDepth := 30) [*]
@[simp] theorem canon_refreshIrq (s : State) (vec : Nat) (h0 : registersCanonical s) : registersCanonical (State.refreshIrq s vec) :=
  by unfold State.refreshIrq; simp +contextual (maxDischargeDepth := 30) [*]
@[simp] theorem canon_fire (s : State) (vec : Nat) (h0 : registersCanonical s) : registersCanonical (State.fire s vec) :=
  by unfold State.fire; simp +contextual (maxDischargeDepth := 30) [*]
@[simp] theorem canon_post (s : State) (k : FKey) (i : Nat) (h0 : registersCanonical s) : registersCanonical (State.post s k i) :=
  by unfold State.post; split <;> simp +contextual (maxDischargeDepth := 30) [*]
@[simp] theorem canon_clearEvents (s : State) (k : FKey) (bits : Nat) (h0 : registersCanonical s) : registersCanonical (State.clearEvents s k bits) :=
  by unfold State.clearEvents; split <;> simp +contextual (maxDischargeDepth := 30) [*]
@[simp] theorem canon_ignored (s : State) (who : Nat) (blockFlag : FKey) (h0 : registersCanonical s) : registersCanonical (State.ignored s who blockFlag) :=
  by unfold State.ignored; simp +contextual (maxDischargeDepth := 30) [*]
@[simp] theorem canon_epPost (s : State) (ch : Nat) (k : Nat) (h0 : registersCanonical s) : registersCanonical (State.epPost s ch k) :=
  by unfold State.epPost; simp +contextual (maxDischargeDepth := 30) [*]
@[simp] theorem canon_ppsFall (s : State) (h0 : registersCanonical s) : registersCanonical (State.ppsFall s) :=
  by unfold State.ppsFall; simp +contextual (maxDischargeDepth := 30) [*]
@[simp] theorem canon_outputsFall (s : State) (h0 : registersCanonical s) : registersCanonical (State.outputsFall s) :=
  by unfold State.outputsFall; simp +contextual (maxDischargeDepth := 30) [*]
@[simp] theorem canon_timeTick (s : State) (h0 : registersCanonical s) : registersCanonical (State.timeTick s) :=
  by unfold State.timeTick; simp +contextual (maxDischargeDepth := 30) [*]
@[simp] theorem canon_commitInc (s : State) (who : Nat) (val : Nat) (h0 : registersCanonical s) : registersCanonical (State.commitInc s who val) :=
  by unfold State.commitInc; simp +contextual (maxDischargeDepth := 30) [*]
theorem canon_execTimIncCommit (who : Nat) (val : Nat) (s : State) (h0 : registersCanonical s) : ∀ u, execTimIncCommit who val s = .next u → registersCanonical u :=
  by intro u h; unfold execTimIncCommit at h; cases h; simp +contextual (maxDischargeDepth := 30) [*]
@[simp] theorem canon_latchNow (s : State) (who : Nat) (h0 : registersCanonical s) : registersCanonical (State.latchNow s who) :=
  by unfold State.latchNow; simp +contextual (maxDischargeDepth := 30) [*]
theorem canon_execTimNowLatch (who : Nat) (s : State) (h0 : registersCanonical s) : ∀ u, execTimNowLatch who s = .next u → registersCanonical u :=
  fun _ h => canon_next h (by simp +contextual (maxDischargeDepth := 30) [*])
theorem canon_execRefLost (s : State) (h0 : registersCanonical s) : ∀ u, execRefLost s = .next u → registersCanonical u :=
  by intro u h; unfold execRefLost at h; cases h; simp +contextual (maxDischargeDepth := 30) [*]
theorem canon_execRefLocked (s : State) (h0 : registersCanonical s) : ∀ u, execRefLocked s = .next u → registersCanonical u :=
  by intro u h; unfold execRefLocked at h; cases h; simp +contextual (maxDischargeDepth := 30) [*]
theorem canon_execPpsOutPulse (s : State) (h0 : registersCanonical s) : ∀ u, execPpsOutPulse s = .next u → registersCanonical u :=
  by intro u h; unfold execPpsOutPulse at h; cases h; simp +contextual (maxDischargeDepth := 30) [*]
@[simp] theorem canon_clkStep (s : State) (was : State) (h0 : registersCanonical s) : registersCanonical (State.clkStep s was) :=
  by unfold State.clkStep; simp +contextual (maxDischargeDepth := 30) [*]
@[simp] theorem canon_capture (s : State) (k : Nat) (rising : Bool) (h0 : registersCanonical s) : registersCanonical (State.capture s k rising) :=
  by unfold State.capture; simp +contextual (maxDischargeDepth := 30) [*]
theorem canon_execCaptureEdge (input : Nat) (rising : Bool) (s : State) (h0 : registersCanonical s) : ∀ u, execCaptureEdge input rising s = .next u → registersCanonical u :=
  by intro u h; unfold execCaptureEdge at h; cases h; simp +contextual (maxDischargeDepth := 30) [*]
theorem canon_execTimCapPop (who : Nat) (fifo : Nat) (s : State) (h0 : registersCanonical s) : ∀ u, execTimCapPop who fifo s = .next u → registersCanonical u :=
  by intro u h; unfold execTimCapPop at h; cases h; simp +contextual (maxDischargeDepth := 30) [*]
@[simp] theorem canon_txStamp (s : State) (e : TxStamp) (h0 : registersCanonical s) : registersCanonical (State.txStamp s e) :=
  by unfold State.txStamp; simp +contextual (maxDischargeDepth := 30) [*]
theorem canon_execTimTxtsPop (who : Nat) (s : State) (h0 : registersCanonical s) : ∀ u, execTimTxtsPop who s = .next u → registersCanonical u :=
  by intro u h; unfold execTimTxtsPop at h; cases h; simp +contextual (maxDischargeDepth := 30) [*]
@[simp] theorem canon_completeTim (s : State) (op : Nat) (st : Status) (h0 : registersCanonical s) : registersCanonical (State.completeTim s op st) :=
  by unfold State.completeTim; simp +contextual (maxDischargeDepth := 30) [*]
@[simp] theorem canon_setTrig (s : State) (t : Nat) (g : Trigger) (h0 : registersCanonical s) : registersCanonical (State.setTrig s t g) :=
  by unfold State.setTrig; simp +contextual (maxDischargeDepth := 30) [*]
@[simp] theorem canon_armTrigger (s : State) (t : Nat) (h0 : registersCanonical s) : registersCanonical (State.armTrigger s t) :=
  by unfold State.armTrigger; simp +contextual (maxDischargeDepth := 30) [*]
theorem canon_execArm (who : Nat) (t : Nat) (s : State) (h0 : registersCanonical s) : ∀ u, execArm who t s = .next u → registersCanonical u :=
  by
  intro u h
  refine canon_next h ?_
  split <;> simp +contextual (maxDischargeDepth := 30) [*]
theorem canon_execTriggerDisarm (who : Nat) (t : Nat) (s : State) (h0 : registersCanonical s) : ∀ u, execTriggerDisarm who t s = .next u → registersCanonical u :=
  by
  intro u h
  refine canon_next h ?_
  split
  · simp +contextual (maxDischargeDepth := 30) [*]
  · dsimp only
    split <;> simp +contextual (maxDischargeDepth := 30) [*]
@[simp] theorem canon_triggerEdge (s : State) (t : Nat) (h0 : registersCanonical s) : registersCanonical (State.triggerEdge s t) :=
  by unfold State.triggerEdge; simp +contextual (maxDischargeDepth := 30) [*]
theorem canon_execTriggerEdge (t : Nat) (s : State) (h0 : registersCanonical s) : ∀ u, execTriggerEdge t s = .next u → registersCanonical u :=
  by intro u h; unfold execTriggerEdge at h; cases h; simp +contextual (maxDischargeDepth := 30) [*]
@[simp] theorem canon_singleEdges (s : State) (h0 : registersCanonical s) : registersCanonical (State.singleEdges s) :=
  by unfold State.singleEdges; simp +contextual (maxDischargeDepth := 30) [*]
@[simp] theorem canon_timeOutputsAfterStep (s : State) (h0 : registersCanonical s) : registersCanonical (State.timeOutputsAfterStep s) :=
  by unfold State.timeOutputsAfterStep; simp +contextual (maxDischargeDepth := 30) [*]
@[simp] theorem canon_count (s : State) (off : Nat) (n : Nat) (h0 : registersCanonical s) : registersCanonical (State.count s off n) :=
  by unfold State.count; simp +contextual (maxDischargeDepth := 30) [*]
@[simp] theorem canon_chCount (s : State) (ch : Nat) (c : ChCnt) (n : optParam Nat 1) (h0 : registersCanonical s) : registersCanonical (State.chCount s ch c n) :=
  by unfold State.chCount; simp +contextual (maxDischargeDepth := 30) [*]
@[simp] theorem canon_qCount (s : State) (q : Nat) (c : QCnt) (n : optParam Nat 1) (h0 : registersCanonical s) : registersCanonical (State.qCount s q c n) :=
  by unfold State.qCount; simp +contextual (maxDischargeDepth := 30) [*]
@[simp] theorem canon_qDrop (s : State) (q : Nat) (c : QCnt) (len : Nat) (h0 : registersCanonical s) : registersCanonical (State.qDrop s q c len) :=
  by unfold State.qDrop; simp +contextual (maxDischargeDepth := 30) [*]
@[simp] theorem canon_saCount (s : State) (a : Nat) (i : Nat) (n : optParam Nat 1) (h0 : registersCanonical s) : registersCanonical (State.saCount s a i n) :=
  by unfold State.saCount; simp +contextual (maxDischargeDepth := 30) [*]
@[simp] theorem canon_scCount (s : State) (k : Nat) (c : ScCnt) (n : optParam Nat 1) (h0 : registersCanonical s) : registersCanonical (State.scCount s k c n) :=
  by unfold State.scCount; simp +contextual (maxDischargeDepth := 30) [*]
@[simp] theorem canon_saCountsClear (s : State) (a : Nat) (h0 : registersCanonical s) : registersCanonical (State.saCountsClear s a) :=
  by unfold State.saCountsClear; simp +contextual (maxDischargeDepth := 30) [*]
@[simp] theorem canon_progAdd (x1 : Nat) (x2 : State) (x3 : Nat) (x4 : Nat) (h0 : registersCanonical x2) : registersCanonical (State.progAdd x1 x2 x3 x4) :=
  by induction x1 generalizing x2 x3 x4 with | zero => exact h0 | succ n ih => unfold State.progAdd; dsimp only; (repeat' split) <;> simp +contextual (maxDischargeDepth := 30) [*, ih]
@[simp] theorem canon_progTake (s : State) (e : ProgEvent) (n : Nat) (h0 : registersCanonical s) : registersCanonical (State.progTake s e n) :=
  by unfold State.progTake; simp +contextual (maxDischargeDepth := 30) [*]
@[simp] theorem canon_prog (s : State) (e : ProgEvent) (h0 : registersCanonical s) : registersCanonical (State.prog s e) :=
  by unfold State.prog; simp +contextual (maxDischargeDepth := 30) [*, canon_foldl]
@[simp] theorem canon_dropEvent (s : State) (ch : Nat) (cls : Nat) (code : Nat) (h0 : registersCanonical s) : registersCanonical (State.dropEvent s ch cls code) :=
  by unfold State.dropEvent; simp +contextual (maxDischargeDepth := 30) [*]
@[simp] theorem canon_progSelWrite (s : State) (who : Nat) (n : Nat) (val : Nat) (h0 : registersCanonical s) : registersCanonical (State.progSelWrite s who n val) :=
  by unfold State.progSelWrite; simp +contextual (maxDischargeDepth := 30) [*]
theorem canon_execCntProgSelWrite (who : Nat) (n : Nat) (val : Nat) (s : State) (h0 : registersCanonical s) : ∀ u, execCntProgSelWrite who n val s = .next u → registersCanonical u :=
  by intro u h; unfold execCntProgSelWrite at h; cases h; simp +contextual (maxDischargeDepth := 30) [*]
@[simp] theorem canon_sampleStart (s : State) (id : Nat) (ch : Nat) (cls : Nat) (len : Nat) (tIn : Nat) (h0 : registersCanonical s) : registersCanonical (State.sampleStart s id ch cls len tIn) :=
  by unfold State.sampleStart; simp +contextual (maxDischargeDepth := 30) [*]
@[simp] theorem canon_sampleNote (s : State) (id : Nat) (f : SampleRec → SampleRec) (h0 : registersCanonical s) : registersCanonical (State.sampleNote s id f) :=
  by unfold State.sampleNote; split <;> simp +contextual (maxDischargeDepth := 30) [*]
@[simp] theorem canon_sampleEnd (s : State) (id : Nat) (dropCode : Nat) (h0 : registersCanonical s) : registersCanonical (State.sampleEnd s id dropCode) :=
  by unfold State.sampleEnd; split <;> simp +contextual (maxDischargeDepth := 30) [*]
theorem canon_execCntSamplePop (who : Nat) (s : State) (h0 : registersCanonical s) : ∀ u, execCntSamplePop who s = .next u → registersCanonical u :=
  by intro u h; unfold execCntSamplePop at h; cases h; simp +contextual (maxDischargeDepth := 30) [*]
@[simp] theorem canon_setMac (s : State) (i : Nat) (e : MacEntry) (h0 : registersCanonical s) : registersCanonical (State.setMac s i e) :=
  by unfold State.setMac; simp +contextual (maxDischargeDepth := 30) [*]
theorem canon_macPlace (s : State) (e : MacEntry) (h0 : registersCanonical s) : ∀ t, State.macPlace s e = some t → registersCanonical t :=
  by
  unfold State.macPlace; intro t h; simp only [Option.map_eq_some_iff] at h; obtain ⟨_, _, rfl⟩ := h; simp +contextual (maxDischargeDepth := 30) [*]
theorem canon_macPlaceD (s : State) (e : MacEntry) (h0 : registersCanonical s) : registersCanonical ((State.macPlace s e).getD s) :=
  by
  cases h : State.macPlace s e with
  | none => exact h0
  | some t => exact canon_macPlace s e h0 t h
@[simp] theorem canon_learnQueue (s : State) (ev : LearnEv) (h0 : registersCanonical s) : registersCanonical (State.learnQueue s ev) :=
  by unfold State.learnQueue; simp +contextual (maxDischargeDepth := 30) [*]
@[simp] theorem canon_learnApply (s : State) (ev : LearnEv) (h0 : registersCanonical s) : registersCanonical (State.learnApply s ev) :=
  by
  unfold State.learnApply
  split
  · split
    · rename_i h
      exact canon_macPlace _ _ (by assumption) _ h
    · simp +contextual (maxDischargeDepth := 30) [*]
  · dsimp only
    (repeat' split) <;> simp +contextual (maxDischargeDepth := 30) [*]
@[simp] theorem canon_learnDrain (x1 : Nat) (x2 : State) (h0 : registersCanonical x2) : registersCanonical (State.learnDrain x1 x2) :=
  by induction x1 generalizing x2 with | zero => exact h0 | succ n ih => unfold State.learnDrain; (repeat' split) <;> simp +contextual (maxDischargeDepth := 30) [*, ih]
theorem canon_execLearnEventApply (s : State) (h0 : registersCanonical s) : ∀ u, execLearnEventApply s = .next u → registersCanonical u :=
  by intro u h; unfold execLearnEventApply at h; cases h; simp +contextual (maxDischargeDepth := 30) [*]
@[simp] theorem canon_brushVisit (s : State) (h0 : registersCanonical s) : registersCanonical (State.brushVisit s) :=
  by unfold State.brushVisit; simp +contextual (maxDischargeDepth := 30) [*]
theorem canon_execBrushVisit (s : State) (h0 : registersCanonical s) : ∀ u, execBrushVisit s = .next u → registersCanonical u :=
  by intro u h; unfold execBrushVisit at h; cases h; simp +contextual (maxDischargeDepth := 30) [*]
@[simp] theorem canon_setLpm (s : State) (fam : Nat) (t : Lpm) (h0 : registersCanonical s) : registersCanonical (State.setLpm s fam t) :=
  by unfold State.setLpm; simp +contextual (maxDischargeDepth := 30) [*]
theorem canon_execLpmNodeReturn (s : State) (h0 : registersCanonical s) : ∀ u, execLpmNodeReturn s = .next u → registersCanonical u :=
  fun _ h => canon_next h (by simp +contextual (maxDischargeDepth := 30) [*])
@[simp] theorem canon_completeTbl (s : State) (who : Nat) (op : Nat) (st : Status) (h0 : registersCanonical s) : registersCanonical (State.completeTbl s who op st) :=
  by unfold State.completeTbl; simp +contextual (maxDischargeDepth := 30) [*]
@[simp] theorem canon_tblCommand (s : State) (who : Nat) (op : Nat) (checks : List (Bool × Status)) (ok : State → State) (hk : registersCanonical (ok s)) (h0 : registersCanonical s) : registersCanonical (State.tblCommand s who op checks ok) :=
  by unfold State.tblCommand; (repeat' split) <;> simp +contextual (maxDischargeDepth := 30) [*, hk]
@[simp] theorem canon_macInsert (s : State) (who : Nat) (h0 : registersCanonical s) : registersCanonical (State.macInsert s who) :=
  by
  unfold State.macInsert
  dsimp only
  apply canon_tblCommand <;> (try assumption)
  split
  · simp +contextual (maxDischargeDepth := 30) [*]
  · apply canon_macPlaceD; assumption
theorem canon_execMacInsert (who : Nat) (s : State) (h0 : registersCanonical s) : ∀ u, execMacInsert who s = .next u → registersCanonical u :=
  by intro u h; unfold execMacInsert at h; cases h; simp +contextual (maxDischargeDepth := 30) [*]
@[simp] theorem canon_macDelete (s : State) (who : Nat) (h0 : registersCanonical s) : registersCanonical (State.macDelete s who) :=
  by unfold State.macDelete; simp only []; (repeat' split) <;> simp +contextual (maxDischargeDepth := 30) [*]
theorem canon_execMacDelete (who : Nat) (s : State) (h0 : registersCanonical s) : ∀ u, execMacDelete who s = .next u → registersCanonical u :=
  by intro u h; unfold execMacDelete at h; cases h; simp +contextual (maxDischargeDepth := 30) [*]
@[simp] theorem canon_macDump (s : State) (who : Nat) (h0 : registersCanonical s) : registersCanonical (State.macDump s who) :=
  by unfold State.macDump; simp +contextual (maxDischargeDepth := 30) [*]
theorem canon_execMacDump (who : Nat) (s : State) (h0 : registersCanonical s) : ∀ u, execMacDump who s = .next u → registersCanonical u :=
  by intro u h; unfold execMacDump at h; cases h; simp +contextual (maxDischargeDepth := 30) [*]
@[simp] theorem canon_lpmAdd (s : State) (who : Nat) (h0 : registersCanonical s) : registersCanonical (State.lpmAdd s who) :=
  by unfold State.lpmAdd; simp only []; (repeat' split) <;> simp +contextual (maxDischargeDepth := 30) [*]
theorem canon_execLpmAdd (who : Nat) (s : State) (h0 : registersCanonical s) : ∀ u, execLpmAdd who s = .next u → registersCanonical u :=
  by intro u h; unfold execLpmAdd at h; cases h; simp +contextual (maxDischargeDepth := 30) [*]
@[simp] theorem canon_lpmDel (s : State) (who : Nat) (h0 : registersCanonical s) : registersCanonical (State.lpmDel s who) :=
  by unfold State.lpmDel; simp only []; (repeat' split) <;> simp +contextual (maxDischargeDepth := 30) [*]
theorem canon_execLpmDel (who : Nat) (s : State) (h0 : registersCanonical s) : ∀ u, execLpmDel who s = .next u → registersCanonical u :=
  by intro u h; unfold execLpmDel at h; cases h; simp +contextual (maxDischargeDepth := 30) [*]
@[simp] theorem canon_lpmDump (s : State) (who : Nat) (h0 : registersCanonical s) : registersCanonical (State.lpmDump s who) :=
  by unfold State.lpmDump; simp +contextual (maxDischargeDepth := 30) [*]
theorem canon_execLpmDump (who : Nat) (s : State) (h0 : registersCanonical s) : ∀ u, execLpmDump who s = .next u → registersCanonical u :=
  by intro u h; unfold execLpmDump at h; cases h; simp +contextual (maxDischargeDepth := 30) [*]
@[simp] theorem canon_setOwner (s : State) (p : Nat) (o : Option Nat) (h0 : registersCanonical s) : registersCanonical (State.setOwner s p o) :=
  by unfold State.setOwner; simp +contextual (maxDischargeDepth := 30) [*]
@[simp] theorem canon_startLease (s : State) (p : Nat) (us : Nat) (h0 : registersCanonical s) : registersCanonical (State.startLease s p us) :=
  by unfold State.startLease; simp +contextual (maxDischargeDepth := 30) [*]
@[simp] theorem canon_lockTake (s : State) (who : Nat) (p : Nat) (h0 : registersCanonical s) : registersCanonical (State.lockTake s who p) :=
  by unfold State.lockTake; simp +contextual (maxDischargeDepth := 30) [*]
@[simp] theorem canon_lockRead (s : State) (who : Nat) (p : Nat) (h0 : registersCanonical s) : registersCanonical (State.lockRead s who p) :=
  by unfold State.lockRead; simp +contextual (maxDischargeDepth := 30) [*]
theorem canon_execTblLockRead (who : Nat) (part : Nat) (s : State) (h0 : registersCanonical s) : ∀ u, execTblLockRead who part s = .next u → registersCanonical u :=
  by intro u h; unfold execTblLockRead at h; cases h; simp +contextual (maxDischargeDepth := 30) [*]
@[simp] theorem canon_unlock (s : State) (p : Nat) (h0 : registersCanonical s) : registersCanonical (State.unlock s p) :=
  by unfold State.unlock; simp +contextual (maxDischargeDepth := 30) [*]
theorem canon_execRelease (who : Nat) (part : Nat) (s : State) (h0 : registersCanonical s) : ∀ u, execRelease who part s = .next u → registersCanonical u :=
  by intro u h; unfold execRelease at h; cases h; simp +contextual (maxDischargeDepth := 30) [*]
theorem canon_execRenew (who : Nat) (part : Nat) (s : State) (h0 : registersCanonical s) : ∀ u, execRenew who part s = .next u → registersCanonical u :=
  by intro u h; unfold execRenew at h; cases h; simp +contextual (maxDischargeDepth := 30) [*]
@[simp] theorem canon_postExpired (s : State) (owner : Option Nat) (h0 : registersCanonical s) : registersCanonical (State.postExpired s owner) :=
  by unfold State.postExpired; split <;> simp +contextual (maxDischargeDepth := 30) [*]
theorem canon_execLockExpired (part : Nat) (s : State) (h0 : registersCanonical s) : ∀ u, execLockExpired part s = .next u → registersCanonical u :=
  by intro u h; unfold execLockExpired at h; cases h; (repeat' split) <;> simp +contextual (maxDischargeDepth := 30) [*]
@[simp] theorem canon_releaseLocksOf (s : State) (who : Nat) (h0 : registersCanonical s) : registersCanonical (State.releaseLocksOf s who) :=
  by unfold State.releaseLocksOf; simp +contextual (maxDischargeDepth := 30) [*]
@[simp] theorem canon_setSlot (s : State) (level : Nat) (i : Nat) (v : KeySlot) (h0 : registersCanonical s) : registersCanonical (State.setSlot s level i v) :=
  by unfold State.setSlot; split <;> simp +contextual (maxDischargeDepth := 30) [*]
@[simp] theorem canon_setSc (s : State) (k : Nat) (v : Sc) (h0 : registersCanonical s) : registersCanonical (State.setSc s k v) :=
  by unfold State.setSc; simp +contextual (maxDischargeDepth := 30) [*]
@[simp] theorem canon_setSa (s : State) (a : Nat) (v : Sa) (h0 : registersCanonical s) : registersCanonical (State.setSa s a v) :=
  by unfold State.setSa; simp +contextual (maxDischargeDepth := 30) [*]
@[simp] theorem canon_saEvent (s : State) (code : Nat) (a : Nat) (h0 : registersCanonical s) : registersCanonical (State.saEvent s code a) :=
  by unfold State.saEvent; simp +contextual (maxDischargeDepth := 30) [*]
@[simp] theorem canon_evqPop (s : State) (h0 : registersCanonical s) : registersCanonical (State.evqPop s) :=
  by unfold State.evqPop; simp +contextual (maxDischargeDepth := 30) [*]
theorem canon_execSamEvqPop (who : Nat) (s : State) (h0 : registersCanonical s) : ∀ u, execSamEvqPop who s = .next u → registersCanonical u :=
  by intro u h; unfold execSamEvqPop at h; cases h; (repeat' split) <;> simp +contextual (maxDischargeDepth := 30) [*]
@[simp] theorem canon_ddrWrite (s : State) (a : Nat) (h0 : registersCanonical s) : registersCanonical (State.ddrWrite s a) :=
  by unfold State.ddrWrite; simp +contextual (maxDischargeDepth := 30) [*]
@[simp] theorem canon_storeKeep (s : State) (l : List Nat) (h0 : registersCanonical s) : registersCanonical (State.storeKeep s l) :=
  by unfold State.storeKeep; simp +contextual (maxDischargeDepth := 30) [*]
@[simp] theorem canon_toDie (s : State) (a : Nat) (h0 : registersCanonical s) : registersCanonical (State.toDie s a) :=
  by unfold State.toDie; simp +contextual (maxDischargeDepth := 30) [*]
@[simp] theorem canon_storeTrim (s : State) (h0 : registersCanonical s) : registersCanonical (State.storeTrim s) :=
  by unfold State.storeTrim; simp +contextual (maxDischargeDepth := 30) [*]
@[simp] theorem canon_dropKeySlots (s : State) (p : Nat → Bool) (h0 : registersCanonical s) : registersCanonical (State.dropKeySlots s p) :=
  by unfold State.dropKeySlots; simp +contextual (maxDischargeDepth := 30) [*]
@[simp] theorem canon_freeSa (s : State) (a : Nat) (h0 : registersCanonical s) : registersCanonical (State.freeSa s a) :=
  by unfold State.freeSa; simp +contextual (maxDischargeDepth := 30) [*]
@[simp] theorem canon_twinSend (s : State) (m : TwinMsg) (acked : Bool) (h0 : registersCanonical s) : registersCanonical (State.twinSend s m acked) :=
  by unfold State.twinSend; simp +contextual (maxDischargeDepth := 30) [*]
@[simp] theorem canon_mirrorSc (s : State) (mirrored : Bool) (k : Nat) (h0 : registersCanonical s) : registersCanonical (State.mirrorSc s mirrored k) :=
  by unfold State.mirrorSc; simp +contextual (maxDischargeDepth := 30) [*]
@[simp] theorem canon_mirrorSa (s : State) (mirrored : Bool) (a : Nat) (h0 : registersCanonical s) : registersCanonical (State.mirrorSa s mirrored a) :=
  by unfold State.mirrorSa; simp +contextual (maxDischargeDepth := 30) [*]
@[simp] theorem canon_reserveTo (s : State) (a : Nat) (newEnd : Nat) (h0 : registersCanonical s) : registersCanonical (State.reserveTo s a newEnd) :=
  by unfold State.reserveTo; simp +contextual (maxDischargeDepth := 30) [*]
@[simp] theorem canon_topUp (s : State) (a : Nat) (h0 : registersCanonical s) : registersCanonical (State.topUp s a) :=
  by unfold State.topUp; simp +contextual (maxDischargeDepth := 30) [*]
@[simp] theorem canon_samRes (s : State) (who : Nat) (ws : List Nat) (h0 : registersCanonical s) : registersCanonical (State.samRes s who ws) :=
  canon_sets _ _ h0
@[simp] theorem canon_completeSam (s : State) (who : Nat) (op : Nat) (st : Status) (h0 : registersCanonical s) : registersCanonical (State.completeSam s who op st) :=
  by unfold State.completeSam; simp +contextual (maxDischargeDepth := 30) [*]
@[simp] theorem canon_samCommand (s : State) (who : Nat) (op : Nat) (checks : List (Bool × Status)) (ok : State → State) (hk : registersCanonical (ok s)) (h0 : registersCanonical s) : registersCanonical (State.samCommand s who op checks ok) :=
  by unfold State.samCommand; (repeat' split) <;> simp +contextual (maxDischargeDepth := 30) [*, hk]
@[simp] theorem canon_samFetch (s : State) (h0 : registersCanonical s) : registersCanonical (State.samFetch s) :=
  by unfold State.samFetch; dsimp only; (repeat' split) <;> simp +contextual (maxDischargeDepth := 30) [*]
@[simp] theorem canon_samCommandOn (s : State) (who : Nat) (op : Nat) (a : Nat) (w : List Nat) (checks : List (Bool × Status)) (ok : State → State) (hk : ∀ t, registersCanonical t → registersCanonical (ok t)) (h0 : registersCanonical s) : registersCanonical (State.samCommandOn s who op a w checks ok) :=
  by unfold State.samCommandOn; simp +contextual (maxDischargeDepth := 30) [*]
@[simp] theorem canon_activated (s : State) (a : Nat) (h0 : registersCanonical s) : registersCanonical (State.activated s a) :=
  by unfold State.activated; simp +contextual (maxDischargeDepth := 30) [*]
@[simp] theorem canon_retire (s : State) (a : Nat) (h0 : registersCanonical s) : registersCanonical (State.retire s a) :=
  by unfold State.retire; simp +contextual (maxDischargeDepth := 30) [*]
@[simp] theorem canon_rollFail (s : State) (k : Nat) (a : Nat) (h0 : registersCanonical s) : registersCanonical (State.rollFail s k a) :=
  by unfold State.rollFail; simp +contextual (maxDischargeDepth := 30) [*]
@[simp] theorem canon_rollFire (s : State) (k : Nat) (h0 : registersCanonical s) : registersCanonical (State.rollFire s k) :=
  by unfold State.rollFire; simp only []; (repeat' split) <;> simp +contextual (maxDischargeDepth := 30) [*]
@[simp] theorem canon_rollIfDue (s : State) (k : Nat) (h0 : registersCanonical s) : registersCanonical (State.rollIfDue s k) :=
  by unfold State.rollIfDue; simp +contextual (maxDischargeDepth := 30) [*]
@[simp] theorem canon_rollsDue (s : State) (h0 : registersCanonical s) : registersCanonical (State.rollsDue s) :=
  by unfold State.rollsDue; simp +contextual (maxDischargeDepth := 30) [*]
@[simp] theorem canon_samStart (s : State) (who : Nat) (op : Nat) (run : State → State) (hk : ∀ t, registersCanonical t → registersCanonical (run t)) (h0 : registersCanonical s) : registersCanonical (State.samStart s who op run) :=
  by unfold State.samStart; simp +contextual (maxDischargeDepth := 30) [*]
@[simp] theorem canon_vfSlotTake (s : State) (vf : Nat) (k : Nat) (h0 : registersCanonical s) : registersCanonical (State.vfSlotTake s vf k) :=
  by unfold State.vfSlotTake; simp only []; (repeat' split) <;> simp +contextual (maxDischargeDepth := 30) [*]
theorem canon_sciPlaceD (s u : State) (k sci : Nat) (hu : registersCanonical u) (h0 : registersCanonical s) : registersCanonical ((State.sciPlace s k sci).getD u) :=
  by
  unfold State.sciPlace
  cases cuckooPlace _ _ _ with
  | none => exact hu
  | some c => simp +contextual (maxDischargeDepth := 30) [*]
@[simp] theorem canon_scCreate (s : State) (who : Nat) (h0 : registersCanonical s) : registersCanonical (State.scCreate s who) :=
  by
  unfold State.scCreate
  dsimp only
  apply canon_samCommand <;> (try assumption)
  have h : registersCanonical ((if (s.scArgs who).2.rx = true then s.sciPlace (s.scArgs who).1 (s.scArgs who).2.sci else some s).getD s) := by
    split
    · exact canon_sciPlaceD _ _ _ _ h0 h0
    · exact h0
  split <;> simp +contextual (maxDischargeDepth := 30) [*]
theorem canon_execScCreate (who : Nat) (s : State) (h0 : registersCanonical s) : ∀ u, execScCreate who s = .next u → registersCanonical u :=
  by intro u h; unfold execScCreate at h; cases h; simp +contextual (maxDischargeDepth := 30) [*]
@[simp] theorem canon_scModify (s : State) (who : Nat) (h0 : registersCanonical s) : registersCanonical (State.scModify s who) :=
  by unfold State.scModify; simp +contextual (maxDischargeDepth := 30) [*]
theorem canon_execScModify (who : Nat) (s : State) (h0 : registersCanonical s) : ∀ u, execScModify who s = .next u → registersCanonical u :=
  by intro u h; unfold execScModify at h; cases h; simp +contextual (maxDischargeDepth := 30) [*]
@[simp] theorem canon_scDelete (s : State) (who : Nat) (h0 : registersCanonical s) : registersCanonical (State.scDelete s who) :=
  by
  unfold State.scDelete
  dsimp only
  apply canon_samCommand <;> (try assumption)
  split <;> simp +contextual (maxDischargeDepth := 30) [*]
theorem canon_execScDelete (who : Nat) (s : State) (h0 : registersCanonical s) : ∀ u, execScDelete who s = .next u → registersCanonical u :=
  by intro u h; unfold execScDelete at h; cases h; simp +contextual (maxDischargeDepth := 30) [*]
@[simp] theorem canon_scRead (s : State) (who : Nat) (h0 : registersCanonical s) : registersCanonical (State.scRead s who) :=
  by unfold State.scRead; simp +contextual (maxDischargeDepth := 30) [*]
theorem canon_execScRead (who : Nat) (s : State) (h0 : registersCanonical s) : ∀ u, execScRead who s = .next u → registersCanonical u :=
  by intro u h; unfold execScRead at h; cases h; simp +contextual (maxDischargeDepth := 30) [*]
@[simp] theorem canon_saStage (s : State) (who : Nat) (h0 : registersCanonical s) : registersCanonical (State.saStage s who) :=
  by unfold State.saStage; simp +contextual (maxDischargeDepth := 30) [*]
theorem canon_execSaStage (who : Nat) (s : State) (h0 : registersCanonical s) : ∀ u, execSaStage who s = .next u → registersCanonical u :=
  by intro u h; unfold execSaStage at h; cases h; simp +contextual (maxDischargeDepth := 30) [*]
@[simp] theorem canon_saInstall (s : State) (who : Nat) (h0 : registersCanonical s) : registersCanonical (State.saInstall s who) :=
  by unfold State.saInstall; simp +contextual (maxDischargeDepth := 30) [*]
theorem canon_execSaInstall (who : Nat) (s : State) (h0 : registersCanonical s) : ∀ u, execSaInstall who s = .next u → registersCanonical u :=
  by intro u h; unfold execSaInstall at h; cases h; simp +contextual (maxDischargeDepth := 30) [*]
@[simp] theorem canon_saActivate (s : State) (who : Nat) (w : List Nat) (h0 : registersCanonical s) : registersCanonical (State.saActivate s who w) :=
  by unfold State.saActivate; dsimp only; (repeat' split) <;> simp +contextual (maxDischargeDepth := 30) [*]
theorem canon_execSaActivate (who : Nat) (s : State) (h0 : registersCanonical s) : ∀ u, execSaActivate who s = .next u → registersCanonical u :=
  by intro u h; unfold execSaActivate at h; cases h; simp +contextual (maxDischargeDepth := 30) [*]
@[simp] theorem canon_saRetire (s : State) (who : Nat) (h0 : registersCanonical s) : registersCanonical (State.saRetire s who) :=
  by unfold State.saRetire; simp +contextual (maxDischargeDepth := 30) [*]
theorem canon_execSaRetire (who : Nat) (s : State) (h0 : registersCanonical s) : ∀ u, execSaRetire who s = .next u → registersCanonical u :=
  by intro u h; unfold execSaRetire at h; cases h; simp +contextual (maxDischargeDepth := 30) [*]
@[simp] theorem canon_saDelete (s : State) (who : Nat) (h0 : registersCanonical s) : registersCanonical (State.saDelete s who) :=
  by unfold State.saDelete; simp +contextual (maxDischargeDepth := 30) [*]
@[simp] theorem canon_saSetPn (s : State) (who : Nat) (h0 : registersCanonical s) : registersCanonical (State.saSetPn s who) :=
  by unfold State.saSetPn; simp +contextual (maxDischargeDepth := 30) [*]
theorem canon_execSaSetPn (who : Nat) (s : State) (h0 : registersCanonical s) : ∀ u, execSaSetPn who s = .next u → registersCanonical u :=
  by intro u h; unfold execSaSetPn at h; cases h; simp +contextual (maxDischargeDepth := 30) [*]
@[simp] theorem canon_saSetThreshold (s : State) (who : Nat) (h0 : registersCanonical s) : registersCanonical (State.saSetThreshold s who) :=
  by unfold State.saSetThreshold; simp +contextual (maxDischargeDepth := 30) [*]
theorem canon_execSaSetThreshold (who : Nat) (s : State) (h0 : registersCanonical s) : ∀ u, execSaSetThreshold who s = .next u → registersCanonical u :=
  by intro u h; unfold execSaSetThreshold at h; cases h; simp +contextual (maxDischargeDepth := 30) [*]
@[simp] theorem canon_saPin (s : State) (who : Nat) (w : List Nat) (h0 : registersCanonical s) : registersCanonical (State.saPin s who w) :=
  by unfold State.saPin; simp +contextual (maxDischargeDepth := 30) [*]
theorem canon_execSaPin (who : Nat) (s : State) (h0 : registersCanonical s) : ∀ u, execSaPin who s = .next u → registersCanonical u :=
  by intro u h; unfold execSaPin at h; cases h; simp +contextual (maxDischargeDepth := 30) [*]
@[simp] theorem canon_saUnpin (s : State) (who : Nat) (h0 : registersCanonical s) : registersCanonical (State.saUnpin s who) :=
  by unfold State.saUnpin; simp +contextual (maxDischargeDepth := 30) [*]
theorem canon_execSaUnpin (who : Nat) (s : State) (h0 : registersCanonical s) : ∀ u, execSaUnpin who s = .next u → registersCanonical u :=
  by intro u h; unfold execSaUnpin at h; cases h; simp +contextual (maxDischargeDepth := 30) [*]
@[simp] theorem canon_saRead (s : State) (who : Nat) (h0 : registersCanonical s) : registersCanonical (State.saRead s who) :=
  by unfold State.saRead; simp +contextual (maxDischargeDepth := 30) [*]
theorem canon_execSaRead (who : Nat) (s : State) (h0 : registersCanonical s) : ∀ u, execSaRead who s = .next u → registersCanonical u :=
  by intro u h; unfold execSaRead at h; cases h; simp +contextual (maxDischargeDepth := 30) [*]
@[simp] theorem canon_rollArm (s : State) (who : Nat) (w : List Nat) (h0 : registersCanonical s) : registersCanonical (State.rollArm s who w) :=
  by unfold State.rollArm; simp only []; (repeat' split) <;> simp +contextual (maxDischargeDepth := 30) [*]
theorem canon_execRollArm (who : Nat) (s : State) (h0 : registersCanonical s) : ∀ u, execRollArm who s = .next u → registersCanonical u :=
  by intro u h; unfold execRollArm at h; cases h; simp +contextual (maxDischargeDepth := 30) [*]
@[simp] theorem canon_rollNow (s : State) (who : Nat) (w : List Nat) (h0 : registersCanonical s) : registersCanonical (State.rollNow s who w) :=
  by unfold State.rollNow; simp +contextual (maxDischargeDepth := 30) [*]
theorem canon_execRollNow (who : Nat) (s : State) (h0 : registersCanonical s) : ∀ u, execRollNow who s = .next u → registersCanonical u :=
  by intro u h; unfold execRollNow at h; cases h; simp +contextual (maxDischargeDepth := 30) [*]
@[simp] theorem canon_rollDisarm (s : State) (who : Nat) (h0 : registersCanonical s) : registersCanonical (State.rollDisarm s who) :=
  by unfold State.rollDisarm; simp +contextual (maxDischargeDepth := 30) [*]
theorem canon_execRollDisarm (who : Nat) (s : State) (h0 : registersCanonical s) : ∀ u, execRollDisarm who s = .next u → registersCanonical u :=
  by intro u h; unfold execRollDisarm at h; cases h; simp +contextual (maxDischargeDepth := 30) [*]
theorem canon_execRollTimeReached (sc : Nat) (s : State) (h0 : registersCanonical s) : ∀ u, execRollTimeReached sc s = .next u → registersCanonical u :=
  by intro u h; unfold execRollTimeReached at h; cases h; simp +contextual (maxDischargeDepth := 30) [*]
theorem canon_execRetireAtReached (sa : Nat) (s : State) (h0 : registersCanonical s) : ∀ u, execRetireAtReached sa s = .next u → registersCanonical u :=
  by intro u h; unfold execRetireAtReached at h; cases h; simp +contextual (maxDischargeDepth := 30) [*]
@[simp] theorem canon_samUnlisted (s : State) (who : Nat) (op : Nat) (h0 : registersCanonical s) : registersCanonical (State.samUnlisted s who op) :=
  by unfold State.samUnlisted; simp +contextual (maxDischargeDepth := 30) [*]
@[simp] theorem canon_samRun (s : State) (who : Nat) (op : Nat) (h0 : registersCanonical s) : registersCanonical (State.samRun s who op) :=
  by unfold State.samRun; (repeat' split) <;> simp +contextual (maxDischargeDepth := 30) [*]
@[simp] theorem canon_samAgain (s : State) (w : SamWait) (h0 : registersCanonical s) : registersCanonical (State.samAgain s w) :=
  by unfold State.samAgain; (repeat' split) <;> simp +contextual (maxDischargeDepth := 30) [*]
@[simp] theorem canon_samDrain (s : State) (h0 : registersCanonical s) : registersCanonical (State.samDrain s) :=
  by unfold State.samDrain; simp +contextual (maxDischargeDepth := 30) [*]
@[simp] theorem canon_samResume (s : State) (h0 : registersCanonical s) : registersCanonical (State.samResume s) :=
  by unfold State.samResume; simp +contextual (maxDischargeDepth := 30) [*]
theorem canon_execSaDelete (who : Nat) (s : State) (h0 : registersCanonical s) : ∀ u, execSaDelete who s = .next u → registersCanonical u :=
  by intro u h; unfold execSaDelete at h; cases h; simp +contextual (maxDischargeDepth := 30) [*]
@[simp] theorem canon_samAbort (s : State) (p : SamWait → Bool) (h0 : registersCanonical s) : registersCanonical (State.samAbort s p) :=
  by unfold State.samAbort; simp +contextual (maxDischargeDepth := 30) [*]
@[simp] theorem canon_samAbortAll (s : State) (h0 : registersCanonical s) : registersCanonical (State.samAbortAll s) :=
  by unfold State.samAbortAll; simp +contextual (maxDischargeDepth := 30) [*]
@[simp] theorem canon_rollNowFails (s : State) (h0 : registersCanonical s) : registersCanonical (State.rollNowFails s) :=
  by unfold State.rollNowFails; simp +contextual (maxDischargeDepth := 30) [*]
@[simp] theorem canon_rollsOrphaned (s : State) (h0 : registersCanonical s) : registersCanonical (State.rollsOrphaned s) :=
  by
  unfold State.rollsOrphaned
  refine canon_rollNowFails _ (canon_foldl _ _ _ (fun s a h => ?_) h0)
  (repeat' split) <;> simp +contextual (maxDischargeDepth := 30) [*]
@[simp] theorem canon_setJnl (s : State) (j : Journal) (h0 : registersCanonical s) : registersCanonical (State.setJnl s j) :=
  by unfold State.setJnl; simp +contextual (maxDischargeDepth := 30) [*]
@[simp] theorem canon_snareLost (s : State) (sid : Nat) (h0 : registersCanonical s) : registersCanonical (State.snareLost s sid) :=
  by unfold State.snareLost; simp +contextual (maxDischargeDepth := 30) [*]
@[simp] theorem canon_noteTally (s : State) (t : JTally) (h0 : registersCanonical s) : registersCanonical (State.noteTally s t) :=
  by unfold State.noteTally; simp +contextual (maxDischargeDepth := 30) [*]
@[simp] theorem canon_stage (s : State) (r : JRec) (h0 : registersCanonical s) : registersCanonical (State.stage s r) :=
  by unfold State.stage; simp +contextual (maxDischargeDepth := 30) [*]
@[simp] theorem canon_jnlOffer (s : State) (r : JRec) (h0 : registersCanonical s) : registersCanonical (State.jnlOffer s r) :=
  by unfold State.jnlOffer; simp +contextual (maxDischargeDepth := 30) [*]
@[simp] theorem canon_jnlUnwait (x1 : Nat) (x2 : State) (h0 : registersCanonical x2) : registersCanonical (State.jnlUnwait x1 x2) :=
  by induction x1 generalizing x2 with | zero => exact h0 | succ n ih => unfold State.jnlUnwait; (repeat' split) <;> simp +contextual (maxDischargeDepth := 30) [*, ih]
@[simp] theorem canon_jnlMarks (s : State) (h0 : registersCanonical s) : registersCanonical (State.jnlMarks s) :=
  by unfold State.jnlMarks; simp +contextual (maxDischargeDepth := 30) [*]
@[simp] theorem canon_jnlProgrammed (s : State) (system : Bool) (k : Nat) (h0 : registersCanonical s) : registersCanonical (State.jnlProgrammed s system k) :=
  by unfold State.jnlProgrammed; dsimp only; (repeat' split) <;> simp +contextual (maxDischargeDepth := 30) [*]
@[simp] theorem canon_jnlStagingLost (s : State) (h0 : registersCanonical s) : registersCanonical (State.jnlStagingLost s) :=
  by unfold State.jnlStagingLost; simp +contextual (maxDischargeDepth := 30) [*]
@[simp] theorem canon_superWrite (s : State) (h0 : registersCanonical s) : registersCanonical (State.superWrite s) :=
  by unfold State.superWrite; dsimp only; (repeat' split) <;> simp +contextual (maxDischargeDepth := 30) [*]
@[simp] theorem canon_jnlHealth (s : State) (h0 : registersCanonical s) : registersCanonical (State.jnlHealth s) :=
  by unfold State.jnlHealth; simp +contextual (maxDischargeDepth := 30) [*]
@[simp] theorem canon_jnlPlan (s : State) (gaps : PlanGaps) (h0 : registersCanonical s) : registersCanonical (State.jnlPlan s gaps) :=
  by unfold State.jnlPlan; simp +contextual (maxDischargeDepth := 30) [*]
@[simp] theorem canon_blockRetired (s : State) (b : Nat) (gaps : PlanGaps) (h0 : registersCanonical s) : registersCanonical (State.blockRetired s b gaps) :=
  by unfold State.blockRetired; simp +contextual (maxDischargeDepth := 30) [*]
@[simp] theorem canon_seqUsed (s : State) (h0 : registersCanonical s) : registersCanonical (State.seqUsed s) :=
  by unfold State.seqUsed; simp +contextual (maxDischargeDepth := 30) [*]
@[simp] theorem canon_tamperToJournal (s : State) (h0 : registersCanonical s) : registersCanonical (State.tamperToJournal s) :=
  by unfold State.tamperToJournal; simp +contextual (maxDischargeDepth := 30) [*, canon_foldl]
@[simp] theorem canon_logPut (s : State) (e : LogEntry) (h0 : registersCanonical s) : registersCanonical (State.logPut s e) :=
  by unfold State.logPut; simp +contextual (maxDischargeDepth := 30) [*]
@[simp] theorem canon_batPut (s : State) (e : LogEntry) (copied : Bool) (h0 : registersCanonical s) : registersCanonical (State.batPut s e copied) :=
  by unfold State.batPut; simp only []; (repeat' split) <;> simp +contextual (maxDischargeDepth := 30) [*]
@[simp] theorem canon_log (s : State) (source : Nat) (kind : Nat) (mask : Nat) (value : Nat) (h0 : registersCanonical s) : registersCanonical (State.log s source kind mask value) :=
  by unfold State.log; simp +contextual (maxDischargeDepth := 30) [*]
@[simp] theorem canon_logFault (s : State) (number : Nat) (value : Nat) (h0 : registersCanonical s) : registersCanonical (State.logFault s number value) :=
  by unfold State.logFault; simp +contextual (maxDischargeDepth := 30) [*]
@[simp] theorem canon_completeJnl (s : State) (who : Nat) (op : Nat) (st : Status) (h0 : registersCanonical s) : registersCanonical (State.completeJnl s who op st) :=
  by unfold State.completeJnl; simp +contextual (maxDischargeDepth := 30) [*]
@[simp] theorem canon_jnlFormat (s : State) (who : Nat) (h0 : registersCanonical s) : registersCanonical (State.jnlFormat s who) :=
  by unfold State.jnlFormat; simp only []; (repeat' split) <;> simp +contextual (maxDischargeDepth := 30) [*]
@[simp] theorem canon_jnlRead (s : State) (who : Nat) (bad : List Nat) (h0 : registersCanonical s) : registersCanonical (State.jnlRead s who bad) :=
  by unfold State.jnlRead; split <;> simp +contextual (maxDischargeDepth := 30) [*]
theorem canon_jnlRunOne (s : State) (c : JnlCmd) (h0 : registersCanonical s) : ∀ t, State.jnlRunOne s c = some t → registersCanonical t :=
  by
  unfold State.jnlRunOne; intro t h; (repeat' split at h) <;> (try cases h) <;> (repeat' split) <;> simp +contextual (maxDischargeDepth := 30) [*]
@[simp] theorem canon_jnlRun (x1 : Nat) (x2 : State) (h0 : registersCanonical x2) : registersCanonical (State.jnlRun x1 x2) :=
  by
  induction x1 generalizing x2 with
  | zero => exact h0
  | succ n ih =>
    unfold State.jnlRun
    split
    · exact h0
    · split
      · rename_i h
        have e := canon_jnlRunOne _ _ h0 _ h
        exact ih _ e
      · exact h0
@[simp] theorem canon_jnlCommand (s : State) (c : JnlCmd) (h0 : registersCanonical s) : registersCanonical (State.jnlCommand s c) :=
  by unfold State.jnlCommand; simp +contextual (maxDischargeDepth := 30) [*]
theorem canon_execFormat (who : Nat) (s : State) (h0 : registersCanonical s) : ∀ u, execFormat who s = .next u → registersCanonical u :=
  by intro u h; unfold execFormat at h; cases h; simp +contextual (maxDischargeDepth := 30) [*]
theorem canon_execRead (who : Nat) (bad : List Nat) (s : State) (h0 : registersCanonical s) : ∀ u, execRead who bad s = .next u → registersCanonical u :=
  by intro u h; unfold execRead at h; cases h; simp +contextual (maxDischargeDepth := 30) [*]
theorem canon_execFlush (who : Nat) (s : State) (h0 : registersCanonical s) : ∀ u, execFlush who s = .next u → registersCanonical u :=
  by intro u h; unfold execFlush at h; cases h; simp +contextual (maxDischargeDepth := 30) [*]
theorem canon_execSetLife (who : Nat) (gaps : PlanGaps) (s : State) (h0 : registersCanonical s) : ∀ u, execSetLife who gaps s = .next u → registersCanonical u :=
  by intro u h; unfold execSetLife at h; cases h; simp +contextual (maxDischargeDepth := 30) [*]
theorem canon_execPlanNow (who : Nat) (gaps : PlanGaps) (s : State) (h0 : registersCanonical s) : ∀ u, execPlanNow who gaps s = .next u → registersCanonical u :=
  by intro u h; unfold execPlanNow at h; cases h; simp +contextual (maxDischargeDepth := 30) [*]
@[simp] theorem canon_scanned (s : State) (m : MountScan) (b : Superblock) (h0 : registersCanonical s) : registersCanonical (State.scanned s m b) :=
  by unfold State.scanned; simp +contextual (maxDischargeDepth := 30) [*]
@[simp] theorem canon_lossFound (s : State) (lost : Option (Nat × Nat)) (h0 : registersCanonical s) : registersCanonical (State.lossFound s lost) :=
  by unfold State.lossFound; (repeat' split) <;> simp +contextual (maxDischargeDepth := 30) [*]
@[simp] theorem canon_jnlMount (s : State) (m : MountScan) (gaps : PlanGaps) (h0 : registersCanonical s) : registersCanonical (State.jnlMount s m gaps) :=
  by unfold State.jnlMount; simp only []; (repeat' split) <;> simp +contextual (maxDischargeDepth := 30) [*]
theorem canon_execJournalMount (scan : MountScan) (gaps : PlanGaps) (s : State) (h0 : registersCanonical s) : ∀ u, execJournalMount scan gaps s = .next u → registersCanonical u :=
  by intro u h; unfold execJournalMount at h; cases h; simp +contextual (maxDischargeDepth := 30) [*]
theorem canon_execJournalRecordAccept (cls : JClass) (payload : Bytes) (s : State) (h0 : registersCanonical s) : ∀ u, execJournalRecordAccept cls payload s = .next u → registersCanonical u :=
  by intro u h; unfold execJournalRecordAccept at h; cases h; simp +contextual (maxDischargeDepth := 30) [*]
theorem canon_execJournalFlushTimer (s : State) (h0 : registersCanonical s) : ∀ u, execJournalFlushTimer s = .next u → registersCanonical u :=
  by intro u h; unfold execJournalFlushTimer at h; cases h; (repeat' split) <;> simp +contextual (maxDischargeDepth := 30) [*]
@[simp] theorem canon_jnlProgram (s : State) (system : Bool) (bad : Option Nat) (gaps : PlanGaps) (h0 : registersCanonical s) : registersCanonical (State.jnlProgram s system bad gaps) :=
  by unfold State.jnlProgram; dsimp only; (repeat' split) <;> simp +contextual (maxDischargeDepth := 30) [*]
theorem canon_execProgramDone (system : Bool) (place : Nat) (page : Nat) (bad : Option Nat) (gaps : PlanGaps) (s : State) (h0 : registersCanonical s) : ∀ u, execProgramDone system place page bad gaps s = .next u → registersCanonical u :=
  by intro u h; unfold execProgramDone at h; cases h; simp +contextual (maxDischargeDepth := 30) [*]
@[simp] theorem canon_jnlOpen (s : State) (system : Bool) (place : Nat) (h0 : registersCanonical s) : registersCanonical (State.jnlOpen s system place) :=
  by unfold State.jnlOpen; simp +contextual (maxDischargeDepth := 30) [*]
@[simp] theorem canon_jnlErase (s : State) (system : Bool) (g : Nat) (bad : Option Nat) (gaps : PlanGaps) (h0 : registersCanonical s) : registersCanonical (State.jnlErase s system g bad gaps) :=
  by unfold State.jnlErase; (repeat' split) <;> simp +contextual (maxDischargeDepth := 30) [*]
theorem canon_execEraseDone (system : Bool) (place : Nat) (bad : Option Nat) (gaps : PlanGaps) (s : State) (h0 : registersCanonical s) : ∀ u, execEraseDone system place bad gaps s = .next u → registersCanonical u :=
  by intro u h; unfold execEraseDone at h; cases h; simp +contextual (maxDischargeDepth := 30) [*]
@[simp] theorem canon_patrolNote (s : State) (blk : Nat) (page : Nat) (corrected : Nat) (h0 : registersCanonical s) : registersCanonical (State.patrolNote s blk page corrected) :=
  by unfold State.patrolNote; simp +contextual (maxDischargeDepth := 30) [*]
@[simp] theorem canon_refresh (s : State) (g : Nat) (h0 : registersCanonical s) : registersCanonical (State.refresh s g) :=
  by unfold State.refresh; dsimp only; (repeat' split) <;> simp +contextual (maxDischargeDepth := 30) [*]
@[simp] theorem canon_patrolled (s : State) (blk : Nat) (page : Nat) (corrected : Nat) (level : Nat) (recovered : Bool) (recs : List Nat) (testOk : Bool) (gaps : PlanGaps) (h0 : registersCanonical s) : registersCanonical (State.patrolled s blk page corrected level recovered recs testOk gaps) :=
  by unfold State.patrolled; simp +contextual (maxDischargeDepth := 30) [*]
theorem canon_execPatrolRead (blk : Nat) (page : Nat) (corrected : Nat) (level : Nat) (recovered : Bool) (recs : List Nat) (testOk : Bool) (gaps : PlanGaps) (s : State) (h0 : registersCanonical s) : ∀ u, execPatrolRead blk page corrected level recovered recs testOk gaps s = .next u → registersCanonical u :=
  by intro u h; unfold execPatrolRead at h; cases h; simp +contextual (maxDischargeDepth := 30) [*]
theorem canon_execJournalPlan (gaps : PlanGaps) (s : State) (h0 : registersCanonical s) : ∀ u, execJournalPlan gaps s = .next u → registersCanonical u :=
  by intro u h; unfold execJournalPlan at h; cases h; simp +contextual (maxDischargeDepth := 30) [*]
@[simp] theorem canon_jnlFlushArea (s : State) (system : Bool) (h0 : registersCanonical s) : registersCanonical (State.jnlFlushArea s system) :=
  by unfold State.jnlFlushArea; dsimp only; (repeat' split) <;> simp +contextual (maxDischargeDepth := 30) [*]
@[simp] theorem canon_setRing (s : State) (r : Nat) (v : RingSet) (h0 : registersCanonical s) : registersCanonical (State.setRing s r v) :=
  by unfold State.setRing; simp +contextual (maxDischargeDepth := 30) [*]
@[simp] theorem canon_ringFire (s : State) (r : Nat) (h0 : registersCanonical s) : registersCanonical (State.ringFire s r) :=
  by unfold State.ringFire; split <;> simp +contextual (maxDischargeDepth := 30) [*]
@[simp] theorem canon_ringIrq (s : State) (r : Nat) (h0 : registersCanonical s) : registersCanonical (State.ringIrq s r) :=
  by unfold State.ringIrq; split <;> simp +contextual (maxDischargeDepth := 30) [*]
theorem canon_execRingIrqHoldoff (rs : Nat) (s : State) (h0 : registersCanonical s) : ∀ u, execRingIrqHoldoff rs s = .next u → registersCanonical u :=
  by intro u h; unfold execRingIrqHoldoff at h; cases h; simp +contextual (maxDischargeDepth := 30) [*]
@[simp] theorem canon_completion (s : State) (r : Nat) (tag : Nat) (st : Status) (reason : Nat) (tdQns : Nat) (h0 : registersCanonical s) : registersCanonical (State.completion s r tag st reason tdQns) :=
  by unfold State.completion; simp +contextual (maxDischargeDepth := 30) [*]
@[simp] theorem canon_fate (s : State) (host : Option (Nat × Nat)) (st : Status) (reason : Nat) (tdQns : Nat) (h0 : registersCanonical s) : registersCanonical (State.fate s host st reason tdQns) :=
  by unfold State.fate; split <;> simp +contextual (maxDischargeDepth := 30) [*]
@[simp] theorem canon_ringZero (s : State) (r : Nat) (h0 : registersCanonical s) : registersCanonical (State.ringZero s r) :=
  by unfold State.ringZero; simp +contextual (maxDischargeDepth := 30) [*]
@[simp] theorem canon_ringCtl (s : State) (who : Nat) (r : Nat) (val : Nat) (h0 : registersCanonical s) : registersCanonical (State.ringCtl s who r val) :=
  by unfold State.ringCtl; simp +contextual (maxDischargeDepth := 30) [*]
theorem canon_execRingSetEnable (who : Nat) (rs : Nat) (val : Nat) (s : State) (h0 : registersCanonical s) : ∀ u, execRingSetEnable who rs val s = .next u → registersCanonical u :=
  by intro u h; unfold execRingSetEnable at h; cases h; (repeat' split) <;> simp +contextual (maxDischargeDepth := 30) [*]
theorem canon_execDmaError (rs : Nat) (s : State) (h0 : registersCanonical s) : ∀ u, execDmaError rs s = .next u → registersCanonical u :=
  by intro u h; unfold execDmaError at h; cases h; simp +contextual (maxDischargeDepth := 30) [*]
@[simp] theorem canon_ringReset (s : State) (rs : List Nat) (h0 : registersCanonical s) : registersCanonical (State.ringReset s rs) :=
  by
  unfold State.ringReset
  simp [h0]
@[simp] theorem canon_setBox (s : State) (b : Nat) (m : Mailbox) (h0 : registersCanonical s) : registersCanonical (State.setBox s b m) :=
  by unfold State.setBox; simp +contextual (maxDischargeDepth := 30) [*]
@[simp] theorem canon_chmRefresh (s : State) (vec : Nat) (h0 : registersCanonical s) : registersCanonical (State.chmRefresh s vec) :=
  by unfold State.chmRefresh; simp +contextual (maxDischargeDepth := 30) [*]
@[simp] theorem canon_chmRefreshAll (s : State) (h0 : registersCanonical s) : registersCanonical (State.chmRefreshAll s) :=
  by unfold State.chmRefreshAll; simp +contextual (maxDischargeDepth := 30) [*]
@[simp] theorem canon_chmPost (s : State) (v : Nat) (i : Nat) (h0 : registersCanonical s) : registersCanonical (State.chmPost s v i) :=
  by unfold State.chmPost; simp only []; (repeat' split) <;> simp +contextual (maxDischargeDepth := 30) [*]
@[simp] theorem canon_chmClear (s : State) (v : Nat) (bits : Nat) (h0 : registersCanonical s) : registersCanonical (State.chmClear s v bits) :=
  by unfold State.chmClear; simp only []; (repeat' split) <;> simp +contextual (maxDischargeDepth := 30) [*]
@[simp] theorem canon_notice (s : State) (v : Nat) (k : NoticeKind) (tag : Nat) (h0 : registersCanonical s) : registersCanonical (State.notice s v k tag) :=
  by unfold State.notice; simp +contextual (maxDischargeDepth := 30) [*]
@[simp] theorem canon_emptyBox (s : State) (b : Nat) (h0 : registersCanonical s) : registersCanonical (State.emptyBox s b) :=
  by
  unfold State.emptyBox
  exact canon_setBox _ _ _ (wf_filter _ h0)
@[simp] theorem canon_fullWrite (s : State) (who : Nat) (v : Nat) (h0 : registersCanonical s) : registersCanonical (State.fullWrite s who v) :=
  by unfold State.fullWrite; simp +contextual (maxDischargeDepth := 30) [*]
theorem canon_execFullWrite (who : Nat) (pair : Nat) (s : State) (h0 : registersCanonical s) : ∀ u, execFullWrite who pair s = .next u → registersCanonical u :=
  by intro u h; unfold execFullWrite at h; cases h; (repeat' split) <;> simp +contextual (maxDischargeDepth := 30) [*]
@[simp] theorem canon_chmSend (s : State) (who : Nat) (v : Nat) (len : Nat) (ackReq : Bool) (tag : Nat) (h0 : registersCanonical s) : registersCanonical (State.chmSend s who v len ackReq tag) :=
  by unfold State.chmSend; simp +contextual (maxDischargeDepth := 30) [*]
theorem canon_execSend (who : Nat) (pair : Nat) (len : Nat) (ackReq : Bool) (tag : Nat) (s : State) (h0 : registersCanonical s) : ∀ u, execSend who pair len ackReq tag s = .next u → registersCanonical u :=
  by intro u h; unfold execSend at h; cases h; (repeat' split) <;> simp +contextual (maxDischargeDepth := 30) [*]
@[simp] theorem canon_chmPop (s : State) (who : Nat) (v : Nat) (h0 : registersCanonical s) : registersCanonical (State.chmPop s who v) :=
  by unfold State.chmPop; simp +contextual (maxDischargeDepth := 30) [*]
theorem canon_execPop (who : Nat) (pair : Nat) (s : State) (h0 : registersCanonical s) : ∀ u, execPop who pair s = .next u → registersCanonical u :=
  by intro u h; unfold execPop at h; cases h; (repeat' split) <;> simp +contextual (maxDischargeDepth := 30) [*]
theorem canon_execWithdraw (who : Nat) (pair : Nat) (s : State) (h0 : registersCanonical s) : ∀ u, execWithdraw who pair s = .next u → registersCanonical u :=
  by intro u h; unfold execWithdraw at h; cases h; (repeat' split) <;> simp +contextual (maxDischargeDepth := 30) [*]
@[simp] theorem canon_noticePop (s : State) (v : Nat) (h0 : registersCanonical s) : registersCanonical (State.noticePop s v) :=
  by unfold State.noticePop; simp +contextual (maxDischargeDepth := 30) [*]
theorem canon_execChmNoticeRead (who : Nat) (pair : Nat) (s : State) (h0 : registersCanonical s) : ∀ u, execChmNoticeRead who pair s = .next u → registersCanonical u :=
  by intro u h; unfold execChmNoticeRead at h; cases h; (repeat' split) <;> simp +contextual (maxDischargeDepth := 30) [*]
theorem canon_execCrossed (pair : Nat) (s : State) (h0 : registersCanonical s) : ∀ u, execCrossed pair s = .next u → registersCanonical u :=
  by intro u h; unfold execCrossed at h; cases h; simp +contextual (maxDischargeDepth := 30) [*]
@[simp] theorem canon_abortBox (s : State) (b : Nat) (senderReset : Bool) (receiverReset : Bool) (h0 : registersCanonical s) : registersCanonical (State.abortBox s b senderReset receiverReset) :=
  by unfold State.abortBox; simp +contextual (maxDischargeDepth := 30) [*]
@[simp] theorem canon_viewReset (s : State) (v : Nat) (h0 : registersCanonical s) : registersCanonical (State.viewReset s v) :=
  by
  unfold State.viewReset
  exact canon_chmRefreshAll _ (wf_filter _ h0)
@[simp] theorem canon_chimeFunctionReset (s : State) (who : Nat) (h0 : registersCanonical s) : registersCanonical (State.chimeFunctionReset s who) :=
  by unfold State.chimeFunctionReset; simp +contextual (maxDischargeDepth := 30) [*, canon_foldl]
@[simp] theorem canon_chimeCoresReset (s : State) (h0 : registersCanonical s) : registersCanonical (State.chimeCoresReset s) :=
  by unfold State.chimeCoresReset; simp +contextual (maxDischargeDepth := 30) [*, canon_foldl]
@[simp] theorem canon_windowReset (s : State) (who : Nat) (h0 : registersCanonical s) : registersCanonical (State.windowReset s who) :=
  by unfold State.windowReset; simp +contextual (maxDischargeDepth := 30) [*]
@[simp] theorem canon_functionReset (s : State) (who : Nat) (h0 : registersCanonical s) : registersCanonical (State.functionReset s who) :=
  by unfold State.functionReset; simp +contextual (maxDischargeDepth := 30) [*]
theorem canon_execVfFlr (vf : Nat) (s : State) (h0 : registersCanonical s) : ∀ u, execVfFlr vf s = .next u → registersCanonical u :=
  by intro u h; unfold execVfFlr at h; cases h; simp +contextual (maxDischargeDepth := 30) [*]
@[simp] theorem canon_pfReset (s : State) (h0 : registersCanonical s) : registersCanonical (State.pfReset s) :=
  by unfold State.pfReset; simp +contextual (maxDischargeDepth := 30) [*, canon_foldl]
theorem canon_execPfFlr (s : State) (h0 : registersCanonical s) : ∀ u, execPfFlr s = .next u → registersCanonical u :=
  by
  intro u h
  refine canon_next h ?_
  simp +contextual (maxDischargeDepth := 30) [*]
theorem canon_execPcieHotReset (s : State) (h0 : registersCanonical s) : ∀ u, execPcieHotReset s = .next u → registersCanonical u :=
  by
  intro u h
  refine canon_next h ?_
  simp +contextual (maxDischargeDepth := 30) [*]
@[simp] theorem canon_setTab (s : State) (t : Tabor) (h0 : registersCanonical s) : registersCanonical (State.setTab s t) :=
  by unfold State.setTab; simp +contextual (maxDischargeDepth := 30) [*]
@[simp] theorem canon_setFifo (s : State) (l : List TaborRec) (h0 : registersCanonical s) : registersCanonical (State.setFifo s l) :=
  by unfold State.setFifo; simp +contextual (maxDischargeDepth := 30) [*]
@[simp] theorem canon_tabTime (s : State) (h0 : registersCanonical s) : registersCanonical (State.tabTime s) :=
  by unfold State.tabTime; simp +contextual (maxDischargeDepth := 30) [*]
theorem canon_execTaborTime (s : State) (h0 : registersCanonical s) : ∀ u, execTaborTime s = .next u → registersCanonical u :=
  by intro u h; unfold execTaborTime at h; cases h; simp +contextual (maxDischargeDepth := 30) [*]
@[simp] theorem canon_tabAged (s : State) (h0 : registersCanonical s) : registersCanonical (State.tabAged s) :=
  by unfold State.tabAged; simp +contextual (maxDischargeDepth := 30) [*, canon_foldl]
@[simp] theorem canon_tabBurst (s : State) (h0 : registersCanonical s) : registersCanonical (State.tabBurst s) :=
  by unfold State.tabBurst; simp +contextual (maxDischargeDepth := 30) [*]
theorem canon_execTaborBurst (s : State) (h0 : registersCanonical s) : ∀ u, execTaborBurst s = .next u → registersCanonical u :=
  by intro u h; unfold execTaborBurst at h; cases h; simp +contextual (maxDischargeDepth := 30) [*]
theorem canon_execCredit (typ : Byte) (rest : Bytes) (s : State) (h0 : registersCanonical s) : ∀ u, execCredit typ rest s = .next u → registersCanonical u :=
  by intro u h; unfold execCredit at h; cases h; simp +contextual (maxDischargeDepth := 30) [*]
theorem canon_execTaborLinkUp (lane : Nat) (s : State) (h0 : registersCanonical s) : ∀ u, execTaborLinkUp lane s = .next u → registersCanonical u :=
  by intro u h; unfold execTaborLinkUp at h; cases h; simp +contextual (maxDischargeDepth := 30) [*]
@[simp] theorem canon_tabDown (s : State) (h0 : registersCanonical s) : registersCanonical (State.tabDown s) :=
  by unfold State.tabDown; simp +contextual (maxDischargeDepth := 30) [*]
@[simp] theorem canon_tabReset (s : State) (h0 : registersCanonical s) : registersCanonical (State.tabReset s) :=
  by unfold State.tabReset; simp +contextual (maxDischargeDepth := 30) [*]
theorem canon_execTaborLinkDown (s : State) (h0 : registersCanonical s) : ∀ u, execTaborLinkDown s = .next u → registersCanonical u :=
  by intro u h; unfold execTaborLinkDown at h; cases h; simp +contextual (maxDischargeDepth := 30) [*]
theorem canon_execCreditLost (s : State) (h0 : registersCanonical s) : ∀ u, execCreditLost s = .next u → registersCanonical u :=
  by intro u h; unfold execCreditLost at h; cases h; simp +contextual (maxDischargeDepth := 30) [*]
theorem canon_execTaborRefLost (s : State) (h0 : registersCanonical s) : ∀ u, execTaborRefLost s = .next u → registersCanonical u :=
  by intro u h; unfold execTaborRefLost at h; cases h; simp +contextual (maxDischargeDepth := 30) [*]
@[simp] theorem canon_setBuf (s : State) (b : Buffer) (h0 : registersCanonical s) : registersCanonical (State.setBuf s b) :=
  by unfold State.setBuf; simp +contextual (maxDischargeDepth := 30) [*]
@[simp] theorem canon_setQueue (s : State) (q : Nat) (l : List Frame) (h0 : registersCanonical s) : registersCanonical (State.setQueue s q l) :=
  by unfold State.setQueue; simp +contextual (maxDischargeDepth := 30) [*]
@[simp] theorem canon_queuesWithout (s : State) (bad : Frame → Bool) (h0 : registersCanonical s) : registersCanonical (State.queuesWithout s bad) :=
  by unfold State.queuesWithout; simp +contextual (maxDischargeDepth := 30) [*]
@[simp] theorem canon_setSnare (s : State) (sid : Nat) (n : Snare) (h0 : registersCanonical s) : registersCanonical (State.setSnare s sid n) :=
  by unfold State.setSnare; simp +contextual (maxDischargeDepth := 30) [*]
@[simp] theorem canon_writeCells (s : State) (port : Nat) (n : Nat) (h0 : registersCanonical s) : registersCanonical (State.writeCells s port n).2 :=
  by unfold State.writeCells; dsimp only; split <;> simp +contextual (maxDischargeDepth := 30) [*]
@[simp] theorem canon_pauseSync (s : State) (ch : Nat) (h0 : registersCanonical s) : registersCanonical (State.pauseSync s ch) :=
  by unfold State.pauseSync; simp +contextual (maxDischargeDepth := 30) [*]
theorem canon_execPauseRepeat (ch : Nat) (s : State) (h0 : registersCanonical s) : ∀ u, execPauseRepeat ch s = .next u → registersCanonical u :=
  by intro u h; unfold execPauseRepeat at h; cases h; simp +contextual (maxDischargeDepth := 30) [*]
theorem canon_execPauseReceived (ch : Nat) (quanta : Nat) (s : State) (h0 : registersCanonical s) : ∀ u, execPauseReceived ch quanta s = .next u → registersCanonical u :=
  by intro u h; unfold execPauseReceived at h; cases h; simp +contextual (maxDischargeDepth := 30) [*]
theorem canon_execPauseExpiry (ch : Nat) (s : State) (h0 : registersCanonical s) : ∀ u, execPauseExpiry ch s = .next u → registersCanonical u :=
  fun _ h => canon_next h (by simp +contextual (maxDischargeDepth := 30) [*])
@[simp] theorem canon_copyCell (s : State) (f : Frame) (h0 : registersCanonical s) : registersCanonical (State.copyCell s f).2 :=
  by unfold State.copyCell; split <;> simp +contextual (maxDischargeDepth := 30) [*]
@[simp] theorem canon_snareOne (s : State) (sid : Nat) (p : Frame × Option Nat) (h0 : registersCanonical s) : registersCanonical (State.snareOne s sid p).1 :=
  by unfold State.snareOne; simp only []; (repeat' split) <;> simp +contextual (maxDischargeDepth := 30) [*]
@[simp] theorem canon_snareAll (s : State) (f : Frame) (code : Option Nat) (h0 : registersCanonical s) : registersCanonical (State.snareAll s f code).1 :=
  by
  unfold State.snareAll
  generalize List.range 8 = l
  suffices h : ∀ r : State × Frame, registersCanonical r.1 →
      registersCanonical (l.foldl (fun (r : State × Frame) sid => r.1.snareOne sid (r.2, code)) r).1 from h (s, f) h0
  induction l with
  | nil => intro r h; exact h
  | cons a l ih => intro r h; exact ih _ (by simp [h])
@[simp] theorem canon_discarded (s : State) (f : Frame) (ch : Nat) (code : Nat) (reason : Nat) (h0 : registersCanonical s) : registersCanonical (State.discarded s f ch code reason) :=
  by unfold State.discarded; simp +contextual (maxDischargeDepth := 30) [*]
@[simp] theorem canon_quietDrop (s : State) (f : Frame) (reason : Nat) (h0 : registersCanonical s) : registersCanonical (State.quietDrop s f reason) :=
  by unfold State.quietDrop; simp +contextual (maxDischargeDepth := 30) [*]
@[simp] theorem canon_queueDrop (s : State) (f : Frame) (c : QCnt) (code : Nat) (h0 : registersCanonical s) : registersCanonical (State.queueDrop s f c code) :=
  by unfold State.queueDrop; simp +contextual (maxDischargeDepth := 30) [*]
@[simp] theorem canon_enqueue (s : State) (f : Frame) (h0 : registersCanonical s) : registersCanonical (State.enqueue s f) :=
  by unfold State.enqueue; simp +contextual (maxDischargeDepth := 30) [*]
@[simp] theorem canon_offer (s : State) (f : Frame) (h0 : registersCanonical s) : registersCanonical (State.offer s f) :=
  by unfold State.offer; split <;> simp +contextual (maxDischargeDepth := 30) [*]
@[simp] theorem canon_flush (s : State) (q : Nat) (p : Frame → Bool) (c : QCnt) (code : Nat) (h0 : registersCanonical s) : registersCanonical (State.flush s q p c code) :=
  by unfold State.flush; simp +contextual (maxDischargeDepth := 30) [*, canon_foldl]
theorem canon_execHoldTimerExpiry (q : Nat) (s : State) (h0 : registersCanonical s) : ∀ u, execHoldTimerExpiry q s = .next u → registersCanonical u :=
  by intro u h; unfold execHoldTimerExpiry at h; cases h; simp +contextual (maxDischargeDepth := 30) [*]
@[simp] theorem canon_queuesDown (s : State) (ch : Nat) (h0 : registersCanonical s) : registersCanonical (State.queuesDown s ch) :=
  by unfold State.queuesDown; simp +contextual (maxDischargeDepth := 30) [*, canon_foldl]
@[simp] theorem canon_queuesUp (s : State) (ch : Nat) (h0 : registersCanonical s) : registersCanonical (State.queuesUp s ch) :=
  by unfold State.queuesUp; simp +contextual (maxDischargeDepth := 30) [*, canon_foldl]
@[simp] theorem canon_snrAdvance (s : State) (len : Nat) (h0 : registersCanonical s) : registersCanonical (State.snrAdvance s len) :=
  by unfold State.snrAdvance; simp +contextual (maxDischargeDepth := 30) [*]
@[simp] theorem canon_snrWrite (s : State) (r : Bytes) (h0 : registersCanonical s) : registersCanonical (State.snrWrite s r) :=
  by unfold State.snrWrite; simp +contextual (maxDischargeDepth := 30) [*]
@[simp] theorem canon_snrDeliver (s : State) (sid : Nat) (tIn : Option Nat) (r : Bytes) (h0 : registersCanonical s) : registersCanonical (State.snrDeliver s sid tIn r) :=
  by unfold State.snrDeliver; simp +contextual (maxDischargeDepth := 30) [*]
@[simp] theorem canon_snareRecordWrite (s : State) (h0 : registersCanonical s) : registersCanonical (State.snareRecordWrite s) :=
  by unfold State.snareRecordWrite; simp only []; (repeat' split) <;> simp +contextual (maxDischargeDepth := 30) [*]
theorem canon_execSnareRecordWrite (s : State) (h0 : registersCanonical s) : ∀ u, execSnareRecordWrite s = .next u → registersCanonical u :=
  by intro u h; unfold execSnareRecordWrite at h; cases h; simp +contextual (maxDischargeDepth := 30) [*]
theorem canon_execSnareRingResize (who : Nat) (log2 : Nat) (s : State) (h0 : registersCanonical s) : ∀ u, execSnareRingResize who log2 s = .next u → registersCanonical u :=
  by intro u h; unfold execSnareRingResize at h; cases h; simp +contextual (maxDischargeDepth := 30) [*]
@[simp] theorem canon_setTwn (s : State) (t : TwinUnit) (h0 : registersCanonical s) : registersCanonical (State.setTwn s t) :=
  by unfold State.setTwn; simp +contextual (maxDischargeDepth := 30) [*]
@[simp] theorem canon_discardUncoded (s : State) (f : Frame) (ch : Nat) (h0 : registersCanonical s) : registersCanonical (State.discardUncoded s f ch) :=
  by unfold State.discardUncoded; simp +contextual (maxDischargeDepth := 30) [*]
@[simp] theorem canon_stage5 (s : State) (f : Frame) (h0 : registersCanonical s) : registersCanonical (State.stage5 s f) :=
  by unfold State.stage5; simp +contextual (maxDischargeDepth := 30) [*]
@[simp] theorem canon_setGrp (s : State) (g : Nat) (v : FlexGrp) (h0 : registersCanonical s) : registersCanonical (State.setGrp s g v) :=
  by unfold State.setGrp; simp +contextual (maxDischargeDepth := 30) [*]
@[simp] theorem canon_setInst (s : State) (i : Nat) (v : FlexInst) (h0 : registersCanonical s) : registersCanonical (State.setInst s i v) :=
  by unfold State.setInst; simp +contextual (maxDischargeDepth := 30) [*]
@[simp] theorem canon_flexPost (s : State) (g : Nat) (k : Nat) (is : List Nat) (h0 : registersCanonical s) : registersCanonical (State.flexPost s g k is) :=
  by unfold State.flexPost; simp +contextual (maxDischargeDepth := 30) [*, canon_foldl]
@[simp] theorem canon_setCli (s : State) (ch : Nat) (v : FlexCli) (h0 : registersCanonical s) : registersCanonical (State.setCli s ch v) :=
  by unfold State.setCli; simp +contextual (maxDischargeDepth := 30) [*]
@[simp] theorem canon_cliRx (s : State) (ch : Nat) (len : Nat) (h0 : registersCanonical s) : registersCanonical (State.cliRx s ch len) :=
  by unfold State.cliRx; simp +contextual (maxDischargeDepth := 30) [*]
@[simp] theorem canon_cliErr (s : State) (ch : Nat) (len : Nat) (h0 : registersCanonical s) : registersCanonical (State.cliErr s ch len) :=
  by unfold State.cliErr; simp +contextual (maxDischargeDepth := 30) [*]
@[simp] theorem canon_cliTx (s : State) (ch : Nat) (len : Nat) (h0 : registersCanonical s) : registersCanonical (State.cliTx s ch len) :=
  by unfold State.cliTx; simp +contextual (maxDischargeDepth := 30) [*]
@[simp] theorem canon_sourceLookup (s : State) (ch : Nat) (l : Option Lookup) (h0 : registersCanonical s) : registersCanonical (State.sourceLookup s ch l).state :=
  by
  unfold State.sourceLookup; dsimp only; (repeat' split) <;> simp +contextual (maxDischargeDepth := 30) [*]
@[simp] theorem canon_inputOf (s : State) (g : Image) (ch : Nat) (h0 : registersCanonical s) : registersCanonical (State.inputOf s g ch).2 :=
  by unfold State.inputOf; simp +contextual (maxDischargeDepth := 30) [*]
@[simp] theorem canon_stage4Drop (s : State) (f : Frame) (code : Nat) (cnt : Option ChCnt) (sc : Option (Nat × ScCnt)) (h0 : registersCanonical s) : registersCanonical (State.stage4Drop s f code cnt sc) :=
  by unfold State.stage4Drop; simp only []; (repeat' split) <;> simp +contextual (maxDischargeDepth := 30) [*]
@[simp] theorem canon_storeLook (s : State) (f : Frame) (h0 : registersCanonical s) : registersCanonical (State.storeLook s f) :=
  by unfold State.storeLook; dsimp only; (repeat' split) <;> simp +contextual (maxDischargeDepth := 30) [*]
@[simp] theorem canon_parse (s : State) (g : Image) (ch : Nat) (f : Frame) (h0 : registersCanonical s) : registersCanonical (State.parse s g ch f) :=
  by unfold State.parse; dsimp only; (repeat' split) <;> simp +contextual (maxDischargeDepth := 30) [*, canon_foldl]
@[simp] theorem canon_newId (s : State) (h0 : registersCanonical s) : registersCanonical (State.newId s).2 :=
  by unfold State.newId; simp +contextual (maxDischargeDepth := 30) [*]
@[simp] theorem canon_macErrors (s : State) (ch : Nat) (f : RxFrame) (h0 : registersCanonical s) : registersCanonical (State.macErrors s ch f) :=
  by unfold State.macErrors; simp +contextual (maxDischargeDepth := 30) [*]
@[simp] theorem canon_rxError (s : State) (ch : Nat) (h0 : registersCanonical s) : registersCanonical (State.rxError s ch) :=
  by unfold State.rxError; simp +contextual (maxDischargeDepth := 30) [*]
@[simp] theorem canon_macReceive (s : State) (g : Image) (ch : Nat) (f : RxFrame) (h0 : registersCanonical s) : registersCanonical (State.macReceive s g ch f) :=
  by unfold State.macReceive; simp +contextual (maxDischargeDepth := 30) [*]
@[simp] theorem canon_transitFrame (s : State) (g : Image) (ch : Nat) (c : FlexClient) (f : RxFrame) (h0 : registersCanonical s) : registersCanonical (State.transitFrame s g ch c f) :=
  by unfold State.transitFrame; dsimp only; (repeat' split) <;> simp +contextual (maxDischargeDepth := 30) [*]
@[simp] theorem canon_clientReceive (s : State) (g : Image) (gr : FlexGroup) (c : FlexClient) (f : RxFrame) (h0 : registersCanonical s) : registersCanonical (State.clientReceive s g gr c f) :=
  by unfold State.clientReceive; simp +contextual (maxDischargeDepth := 30) [*]
@[simp] theorem canon_frameReceived (s : State) (ch : Nat) (f : RxFrame) (h0 : registersCanonical s) : registersCanonical (State.frameReceived s ch f) :=
  by unfold State.frameReceived; (repeat' split) <;> simp +contextual (maxDischargeDepth := 30) [*]
theorem canon_execFrameReceived (ch : Nat) (f : RxFrame) (s : State) (h0 : registersCanonical s) : ∀ u, execFrameReceived ch f s = .next u → registersCanonical u :=
  by intro u h; unfold execFrameReceived at h; cases h; simp +contextual (maxDischargeDepth := 30) [*]
@[simp] theorem canon_setSch (s : State) (x : Sched) (h0 : registersCanonical s) : registersCanonical (State.setSch s x) :=
  by unfold State.setSch; simp +contextual (maxDischargeDepth := 30) [*]
@[simp] theorem canon_setGate (s : State) (ch : Nat) (g : Gate) (h0 : registersCanonical s) : registersCanonical (State.setGate s ch g) :=
  by unfold State.setGate; simp +contextual (maxDischargeDepth := 30) [*]
theorem canon_execGateEvent (ch : Nat) (s : State) (h0 : registersCanonical s) : ∀ u, execGateEvent ch s = .next u → registersCanonical u :=
  by intro u h; unfold execGateEvent at h; dsimp only at h; (repeat' split at h) <;> (try cases h) <;> (repeat' split) <;> simp +contextual (maxDischargeDepth := 30) [*, canon_foldl]
@[simp] theorem canon_gateEn (s : State) (ch : Nat) (en : Bool) (h0 : registersCanonical s) : registersCanonical (State.gateEn s ch en) :=
  by unfold State.gateEn; simp +contextual (maxDischargeDepth := 30) [*]
theorem canon_execGateEnWrite (who : Nat) (ch : Nat) (en : Bool) (s : State) (h0 : registersCanonical s) : ∀ u, execGateEnWrite who ch en s = .next u → registersCanonical u :=
  by intro u h; unfold execGateEnWrite at h; cases h; simp +contextual (maxDischargeDepth := 30) [*]
@[simp] theorem canon_setHorizon (s : State) (ch : Nat) (h : Nat) (h0 : registersCanonical s) : registersCanonical (State.setHorizon s ch h) :=
  by unfold State.setHorizon; simp +contextual (maxDischargeDepth := 30) [*]
@[simp] theorem canon_setTokens (s : State) (k : Nat) (v : Int) (h0 : registersCanonical s) : registersCanonical (State.setTokens s k v) :=
  by unfold State.setTokens; simp +contextual (maxDischargeDepth := 30) [*]
@[simp] theorem canon_debit (s : State) (q : Nat) (len : Nat) (h0 : registersCanonical s) : registersCanonical (State.debit s q len) :=
  by unfold State.debit; simp +contextual (maxDischargeDepth := 30) [*, canon_foldl]
@[simp] theorem canon_refill (s : State) (k : Nat) (h0 : registersCanonical s) : registersCanonical (State.refill s k) :=
  by unfold State.refill; simp +contextual (maxDischargeDepth := 30) [*]
theorem canon_execShaperRefill (s : State) (h0 : registersCanonical s) : ∀ u, execShaperRefill s = .next u → registersCanonical u :=
  by
  intro u h
  refine canon_next h ?_
  exact canon_foldl _ _ _ (by intros; simp +contextual (maxDischargeDepth := 30) [*]) h0
@[simp] theorem canon_pShaperReset (s : State) (p : Nat) (h0 : registersCanonical s) : registersCanonical (State.pShaperReset s p) :=
  by unfold State.pShaperReset; simp +contextual (maxDischargeDepth := 30) [*]
@[simp] theorem canon_clip (s : State) (k : FKey) (limit : Nat) (h0 : registersCanonical s) : registersCanonical (State.clip s k limit) :=
  by unfold State.clip; simp +contextual (maxDischargeDepth := 30) [*]
@[simp] theorem canon_clipChannel (s : State) (g : Image) (ch : Nat) (h0 : registersCanonical s) : registersCanonical (State.clipChannel s g ch) :=
  by unfold State.clipChannel; dsimp only; (repeat' split) <;> simp +contextual (maxDischargeDepth := 30) [*, canon_foldl]
theorem canon_execProtShaperWrite (who : Nat) (shaper : Nat) (burst : Bool) (val : Nat) (s : State) (h0 : registersCanonical s) : ∀ u, execProtShaperWrite who shaper burst val s = .next u → registersCanonical u :=
  by intro u h; unfold execProtShaperWrite at h; cases h; simp +contextual (maxDischargeDepth := 30) [*]
@[simp] theorem canon_voidDrop (s : State) (f : Frame) (dest : Nat) (h0 : registersCanonical s) : registersCanonical (State.voidDrop s f dest) :=
  by unfold State.voidDrop; (repeat' split) <;> simp +contextual (maxDischargeDepth := 30) [*]
@[simp] theorem canon_headDrop (s : State) (f : Frame) (h : HeadFate) (h0 : registersCanonical s) : registersCanonical (State.headDrop s f h) :=
  by unfold State.headDrop; split <;> simp +contextual (maxDischargeDepth := 30) [*]
@[simp] theorem canon_popQueue (s : State) (q : Nat) (h0 : registersCanonical s) : registersCanonical (State.popQueue s q) :=
  by unfold State.popQueue; simp +contextual (maxDischargeDepth := 30) [*]
@[simp] theorem canon_settle (x1 : Nat) (x2 : State) (x3 : Nat) (h0 : registersCanonical x2) : registersCanonical (State.settle x1 x2 x3) :=
  by induction x1 generalizing x2 with | zero => exact h0 | succ n ih => unfold State.settle; (repeat' split) <;> simp +contextual (maxDischargeDepth := 30) [*, ih]
@[simp] theorem canon_settleAll (s : State) (h0 : registersCanonical s) : registersCanonical (State.settleAll s) :=
  by unfold State.settleAll; simp +contextual (maxDischargeDepth := 30) [*, canon_foldl]
@[simp] theorem canon_movePointers (s : State) (ms : List Request) (h0 : registersCanonical s) : registersCanonical (State.movePointers s ms) :=
  by unfold State.movePointers; simp +contextual (maxDischargeDepth := 30) [*, canon_foldl]
@[simp] theorem canon_takeFirst (s : State) (o : Nat) (ch : Nat) (p : Pick) (h0 : registersCanonical s) : registersCanonical (State.takeFirst s o ch p) :=
  by unfold State.takeFirst; simp only []; (repeat' split) <;> simp +contextual (maxDischargeDepth := 30) [*]
@[simp] theorem canon_recirculate (s : State) (f : Frame) (h0 : registersCanonical s) : registersCanonical (State.recirculate s f) :=
  by unfold State.recirculate; dsimp only; (repeat' split) <;> simp +contextual (maxDischargeDepth := 30) [*]
@[simp] theorem canon_takeInternal (s : State) (o : Nat) (k : Nat) (input : Nat) (h0 : registersCanonical s) : registersCanonical (State.takeInternal s o k input) :=
  by unfold State.takeInternal; dsimp only; (repeat' split) <;> simp +contextual (maxDischargeDepth := 30) [*]
@[simp] theorem canon_takeCell (s : State) (sel : List (Nat × Pick × Nat)) (r : Request) (h0 : registersCanonical s) : registersCanonical (State.takeCell s sel r) :=
  by unfold State.takeCell; simp only []; (repeat' split) <;> simp +contextual (maxDischargeDepth := 30) [*]
@[simp] theorem canon_match' (s : State) (h0 : registersCanonical s) : registersCanonical (State.match' s) :=
  by unfold State.match'; simp +contextual (maxDischargeDepth := 30) [*, canon_foldl]
theorem canon_execSchedulerMatch (s : State) (h0 : registersCanonical s) : ∀ u, execSchedulerMatch s = .next u → registersCanonical u :=
  by
  intro u h
  refine canon_next h ?_
  simp +contextual (maxDischargeDepth := 30) [*]
@[simp] theorem canon_dupCheck (s : State) (ctx : Nat) (t : Nat × Nat × Nat) (h0 : registersCanonical s) : registersCanonical (State.dupCheck s ctx t).1 :=
  by unfold State.dupCheck; simp only []; (repeat' split) <;> simp +contextual (maxDischargeDepth := 30) [*]
@[simp] theorem canon_setPool (s : State) (p : Pool) (h0 : registersCanonical s) : registersCanonical (State.setPool s p) :=
  by unfold State.setPool; simp +contextual (maxDischargeDepth := 30) [*]
@[simp] theorem canon_stallCycles (s : State) (n : Nat) (h0 : registersCanonical s) : registersCanonical (State.stallCycles s n) :=
  by unfold State.stallCycles; simp +contextual (maxDischargeDepth := 30) [*]
@[simp] theorem canon_tick (s : State) (h0 : registersCanonical s) : registersCanonical (State.tick s) :=
  by unfold State.tick; simp +contextual (maxDischargeDepth := 30) [*]
@[simp] theorem canon_cacheKey (s : State) (e : Nat) (a : Nat) (h0 : registersCanonical s) : registersCanonical (State.cacheKey s e a) :=
  by unfold State.cacheKey; simp +contextual (maxDischargeDepth := 30) [*]
@[simp] theorem canon_serviceChanged (s : State) (h0 : registersCanonical s) : registersCanonical (State.serviceChanged s) :=
  by unfold State.serviceChanged; simp +contextual (maxDischargeDepth := 30) [*]
@[simp] theorem canon_poolStrike (s : State) (was : State) (h0 : registersCanonical s) : registersCanonical (State.poolStrike s was) :=
  by unfold State.poolStrike; simp +contextual (maxDischargeDepth := 30) [*]
@[simp] theorem canon_setSlot' (s : State) (t : Slot) (h0 : registersCanonical s) : registersCanonical (State.setSlot' s t) :=
  by unfold State.setSlot'; simp +contextual (maxDischargeDepth := 30) [*]
@[simp] theorem canon_freeSlot (s : State) (t : Slot) (h0 : registersCanonical s) : registersCanonical (State.freeSlot s t) :=
  by unfold State.freeSlot; simp +contextual (maxDischargeDepth := 30) [*]
@[simp] theorem canon_skipDropped (x1 : Nat) (x2 : State) (x3 : Nat) (h0 : registersCanonical x2) : registersCanonical (State.skipDropped x1 x2 x3) :=
  by induction x1 generalizing x2 with | zero => exact h0 | succ n ih => unfold State.skipDropped; (repeat' split) <;> simp +contextual (maxDischargeDepth := 30) [*, ih]
@[simp] theorem canon_slotDone (s : State) (t : Slot) (h0 : registersCanonical s) : registersCanonical (State.slotDone s t) :=
  by unfold State.slotDone; simp +contextual (maxDischargeDepth := 30) [*]
@[simp] theorem canon_blockWait (s : State) (a : Nat) (h0 : registersCanonical s) : registersCanonical (State.blockWait s a) :=
  by unfold State.blockWait; simp +contextual (maxDischargeDepth := 30) [*]
theorem canon_txGate (s : State) (k : Nat) (h0 : registersCanonical s) : fateCanonical (State.txGate s k) :=
  by
  have h : registersCanonical (if s.rollDue k then s.rollFire k else s) := by simp +contextual (maxDischargeDepth := 30) [*]
  unfold State.txGate; dsimp only
  generalize (if s.rollDue k = true then s.rollFire k else s) = s' at h
  (repeat' split) <;> simp +contextual (maxDischargeDepth := 30) [*, fateCanonical]
@[simp] theorem canon_takePn (s : State) (k : Nat) (a : Nat) (h0 : registersCanonical s) : registersCanonical (State.takePn s k a).2 :=
  by unfold State.takePn; simp +contextual (maxDischargeDepth := 30) [*]
@[simp] theorem canon_dualCopy (s : State) (k : Nat) (st : TwinStream) (seq : Nat) (f : Frame) (h0 : registersCanonical s) : registersCanonical (State.dualCopy s k st seq f) :=
  by unfold State.dualCopy; simp +contextual (maxDischargeDepth := 30) [*]
@[simp] theorem canon_twinTag (s : State) (k : Nat) (f : Frame) (kept : Option Nat) (h0 : registersCanonical s) : registersCanonical (State.twinTag s k f kept).1 :=
  by
  unfold State.twinTag
  split
  · exact h0
  · split
    · dsimp only
      split
      · exact h0
      · simp +contextual (maxDischargeDepth := 30) [*]
      · split <;> simp +contextual (maxDischargeDepth := 30) [*]
    · split
      · exact h0
      · simp +contextual (maxDischargeDepth := 30) [*]
@[simp] theorem canon_process (s : State) (t : Slot) (e : Nat) (h0 : registersCanonical s) : registersCanonical (State.process s t e).1 :=
  by
  unfold State.process
  dsimp only
  split
  · simp +contextual (maxDischargeDepth := 30) [*]
  · simp +contextual (maxDischargeDepth := 30) [*]
  · exact h0
@[simp] theorem canon_holdBack (s : State) (q : Nat) (f : Frame) (h0 : registersCanonical s) : registersCanonical (State.holdBack s q f) :=
  by unfold State.holdBack; simp only []; (repeat' split) <;> simp +contextual (maxDischargeDepth := 30) [*]
theorem canon_frameGate (s : State) (f : Frame) (h0 : registersCanonical s) : fateCanonical (State.frameGate s f) :=
  by
  unfold State.frameGate
  (repeat' split) <;> first | exact h0 | exact canon_txGate _ _ h0
@[simp] theorem canon_dispatched (s : State) (f : Frame) (h0 : registersCanonical s) : registersCanonical (State.dispatched s f) :=
  by unfold State.dispatched; simp +contextual (maxDischargeDepth := 30) [*]
@[simp] theorem canon_noteDispatch (s : State) (t : Slot) (h0 : registersCanonical s) : registersCanonical (State.noteDispatch s t) :=
  by unfold State.noteDispatch; simp +contextual (maxDischargeDepth := 30) [*]
@[simp] theorem canon_dispatchHead (s : State) (q : Nat) (f : Frame) (h0 : registersCanonical s) : registersCanonical (State.dispatchHead s q f) :=
  by
  unfold State.dispatchHead
  dsimp only
  have h := canon_frameGate s f h0
  revert h
  cases State.frameGate s f with
  | wait u => intro h; simp only [fateCanonical] at h; simp +contextual (maxDischargeDepth := 30) [*]
  | drop u c n => intro h; simp only [fateCanonical] at h; simp +contextual (maxDischargeDepth := 30) [*]
  | go u =>
    intro h
    simp only [fateCanonical] at h
    dsimp only
    (repeat' split) <;> simp +contextual (maxDischargeDepth := 30) [*]
@[simp] theorem canon_redispatch (s : State) (t : Slot) (h0 : registersCanonical s) : registersCanonical (State.redispatch s t) :=
  by
  unfold State.redispatch
  dsimp only
  have h := canon_frameGate s t.frame h0
  revert h
  cases State.frameGate s t.frame with
  | wait u => intro h; simp only [fateCanonical] at h; simp +contextual (maxDischargeDepth := 30) [*]
  | drop u c n => intro h; simp only [fateCanonical] at h; simp +contextual (maxDischargeDepth := 30) [*]
  | go u =>
    intro h
    simp only [fateCanonical] at h
    dsimp only
    (repeat' split) <;> simp +contextual (maxDischargeDepth := 30) [*]
@[simp] theorem canon_dispatch (s : State) (q : Nat) (h0 : registersCanonical s) : registersCanonical (State.dispatch s q) :=
  by unfold State.dispatch; (repeat' split) <;> simp +contextual (maxDischargeDepth := 30) [*, canon_foldl]
theorem canon_execDispatch (q : Nat) (s : State) (h0 : registersCanonical s) : ∀ u, execDispatch q s = .next u → registersCanonical u :=
  by intro u h; unfold execDispatch at h; cases h; simp +contextual (maxDischargeDepth := 30) [*]
@[simp] theorem canon_ungate (s : State) (h0 : registersCanonical s) : registersCanonical (State.ungate s) :=
  by unfold State.ungate; simp +contextual (maxDischargeDepth := 30) [*, canon_foldl]
@[simp] theorem canon_stompCount (s : State) (ch : Nat) (c : ChCnt) (h0 : registersCanonical s) : registersCanonical (State.stompCount s ch c) :=
  by unfold State.stompCount; dsimp only; split <;> simp +contextual (maxDischargeDepth := 30) [*]
@[simp] theorem canon_stompRecalled (s : State) (t : Slot) (h0 : registersCanonical s) : registersCanonical (State.stompRecalled s t) :=
  by unfold State.stompRecalled; (repeat' split) <;> simp +contextual (maxDischargeDepth := 30) [*]
@[simp] theorem canon_recallSlot (s : State) (t : Slot) (h0 : registersCanonical s) : registersCanonical (State.recallSlot s t) :=
  by unfold State.recallSlot; simp only []; (repeat' split) <;> simp +contextual (maxDischargeDepth := 30) [*]
@[simp] theorem canon_recall (s : State) (e : Nat) (h0 : registersCanonical s) : registersCanonical (State.recall s e) :=
  by unfold State.recall; simp +contextual (maxDischargeDepth := 30) [*, canon_foldl]
@[simp] theorem canon_fenceEngine (s : State) (e : Nat) (cause : Nat) (h0 : registersCanonical s) : registersCanonical (State.fenceEngine s e cause) :=
  by unfold State.fenceEngine; simp +contextual (maxDischargeDepth := 30) [*]
theorem canon_execEngineFault (e : Nat) (cause : EngineCause) (s : State) (h0 : registersCanonical s) : ∀ u, execEngineFault e cause s = .next u → registersCanonical u :=
  by intro u h; unfold execEngineFault at h; cases h; simp +contextual (maxDischargeDepth := 30) [*]
@[simp] theorem canon_completeDrm (s : State) (op : Nat) (e : Nat) (st : Status) (h0 : registersCanonical s) : registersCanonical (State.completeDrm s op e st) :=
  by unfold State.completeDrm; simp +contextual (maxDischargeDepth := 30) [*]
@[simp] theorem canon_fenceCmd (s : State) (who : Nat) (e : Nat) (h0 : registersCanonical s) : registersCanonical (State.fenceCmd s who e) :=
  by unfold State.fenceCmd; simp +contextual (maxDischargeDepth := 30) [*]
theorem canon_execFence (who : Nat) (e : Nat) (s : State) (h0 : registersCanonical s) : ∀ u, execFence who e s = .next u → registersCanonical u :=
  by intro u h; unfold execFence at h; cases h; simp +contextual (maxDischargeDepth := 30) [*]
@[simp] theorem canon_restoreCmd (s : State) (who : Nat) (e : Nat) (h0 : registersCanonical s) : registersCanonical (State.restoreCmd s who e) :=
  by unfold State.restoreCmd; simp +contextual (maxDischargeDepth := 30) [*]
theorem canon_execRestore (who : Nat) (e : Nat) (s : State) (h0 : registersCanonical s) : ∀ u, execRestore who e s = .next u → registersCanonical u :=
  by intro u h; unfold execRestore at h; cases h; simp +contextual (maxDischargeDepth := 30) [*]
theorem canon_execRestoreTestsDone (e : Nat) (pass : Bool) (s : State) (h0 : registersCanonical s) : ∀ u, execRestoreTestsDone e pass s = .next u → registersCanonical u :=
  by intro u h; unfold execRestoreTestsDone at h; cases h; simp +contextual (maxDischargeDepth := 30) [*]
theorem canon_execEngineGate (e : Nat) (s : State) (h0 : registersCanonical s) : ∀ u, execEngineGate e s = .next u → registersCanonical u :=
  by intro u h; unfold execEngineGate at h; cases h; simp +contextual (maxDischargeDepth := 30) [*]
@[simp] theorem canon_linkLost (s : State) (t : Slot) (h0 : registersCanonical s) : registersCanonical (State.linkLost s t) :=
  by unfold State.linkLost; simp +contextual (maxDischargeDepth := 30) [*]
@[simp] theorem canon_reseqDrop (s : State) (t : Slot) (code : Nat) (h0 : registersCanonical s) : registersCanonical (State.reseqDrop s t code) :=
  by unfold State.reseqDrop; simp +contextual (maxDischargeDepth := 30) [*]
@[simp] theorem canon_rxAccept (s : State) (o : OpenInfo) (len : Nat) (h0 : registersCanonical s) : registersCanonical (State.rxAccept s o len) :=
  by
  unfold State.rxAccept
  dsimp only
  (repeat' split) <;> simp +contextual (maxDischargeDepth := 30) [*]
@[simp] theorem canon_learnSound (s : State) (t : Slot) (h0 : registersCanonical s) : registersCanonical (State.learnSound s t) :=
  by unfold State.learnSound; (repeat' split) <;> simp +contextual (maxDischargeDepth := 30) [*]
@[simp] theorem canon_rxPass (s : State) (t : Slot) (o : OpenInfo) (h0 : registersCanonical s) : registersCanonical (State.rxPass s t o).1  :=
  by
  unfold State.rxPass
  dsimp only
  have hs : registersCanonical ((s.learnSound t).rxAccept o t.frame.len) := by simp +contextual (maxDischargeDepth := 30) [*]
  revert hs
  generalize (s.learnSound t).rxAccept o t.frame.len = s'
  intro hs
  split
  · rename_i tw _
    have h := canon_dupCheck s' (s'.sc o.sc).dupCtx tw hs
    split
    · rename_i e; rw [e] at h; exact canon_scCount _ _ _ _ h
    · rename_i e; rw [e] at h; exact h
  · exact hs
@[simp] theorem canon_commitHead (s : State) (t : Slot) (h0 : registersCanonical s) : registersCanonical (State.commitHead s t).1 :=
  by unfold State.commitHead; simp only []; (repeat' split) <;> simp +contextual (maxDischargeDepth := 30) [*]
@[simp] theorem canon_txSaCounts (s : State) (t : Slot) (h0 : registersCanonical s) : registersCanonical (State.txSaCounts s t) :=
  by unfold State.txSaCounts; split <;> simp +contextual (maxDischargeDepth := 30) [*]
@[simp] theorem canon_onWire (s : State) (t : Slot) (h0 : registersCanonical s) : registersCanonical (State.onWire s t) :=
  by unfold State.onWire; simp +contextual (maxDischargeDepth := 30) [*]
@[simp] theorem canon_commitTail (s : State) (t : Slot) (dup : Nat) (h0 : registersCanonical s) : registersCanonical (State.commitTail s t dup) :=
  by unfold State.commitTail; simp only []; (repeat' split) <;> simp +contextual (maxDischargeDepth := 30) [*]
@[simp] theorem canon_commitLast (s : State) (t : Slot) (h0 : registersCanonical s) : registersCanonical (State.commitLast s t) :=
  by unfold State.commitLast; split <;> simp +contextual (maxDischargeDepth := 30) [*]
@[simp] theorem canon_headChecks (s : State) (t : Slot) (h0 : registersCanonical s) : registersCanonical (State.headChecks s t).1 :=
  by unfold State.headChecks; simp only []; (repeat' split) <;> simp +contextual (maxDischargeDepth := 30) [*]
@[simp] theorem canon_commitSlot (s : State) (t : Slot) (h0 : registersCanonical s) : registersCanonical (State.commitSlot s t) :=
  by
  unfold State.commitSlot
  dsimp only
  split
  · simp +contextual (maxDischargeDepth := 30) [*]
  · have h : registersCanonical (if t.committed = 0 then
        match s.headChecks t with
        | (s, true) => (match s.commitHead t with | (s, t) => (s, t, true) : State × Slot × Bool)
        | (s, false) => (s, t, false)
      else (s, t, true)).1 := by
      split
      · have h1 := canon_headChecks s t h0
        split
        · rename_i e; rw [e] at h1; exact canon_commitHead _ _ h1
        · rename_i e; rw [e] at h1; exact h1
      · exact h0
    revert h
    generalize (if t.committed = 0 then
        match s.headChecks t with
        | (s, true) => (match s.commitHead t with | (s, t) => (s, t, true) : State × Slot × Bool)
        | (s, false) => (s, t, false)
      else (s, t, true)) = r
    intro h
    (repeat' split) <;> simp +contextual (maxDischargeDepth := 30) [*]
@[simp] theorem canon_chunkCommit (s : State) (p : Nat) (h0 : registersCanonical s) : registersCanonical (State.chunkCommit s p) :=
  by unfold State.chunkCommit; split <;> simp +contextual (maxDischargeDepth := 30) [*]
theorem canon_execChunkCommit (port : Nat) (s : State) (h0 : registersCanonical s) : ∀ u, execChunkCommit port s = .next u → registersCanonical u :=
  by intro u h; unfold execChunkCommit at h; cases h; simp +contextual (maxDischargeDepth := 30) [*]
@[simp] theorem canon_direct (s : State) (f : Frame) (sc : Option Nat) (h0 : registersCanonical s) : registersCanonical (State.direct s f sc) :=
  by unfold State.direct; split <;> simp +contextual (maxDischargeDepth := 30) [*]
@[simp] theorem canon_sendReject (s : State) (r : Nat) (f : SendFrame) (st : Status) (h0 : registersCanonical s) : registersCanonical (State.sendReject s r f st) :=
  by unfold State.sendReject; simp +contextual (maxDischargeDepth := 30) [*]
@[simp] theorem canon_sendAccept (s : State) (r : Nat) (f : SendFrame) (h0 : registersCanonical s) : registersCanonical (State.sendAccept s r f) :=
  by unfold State.sendAccept; split <;> simp +contextual (maxDischargeDepth := 30) [*]
@[simp] theorem canon_sendFetch (s : State) (r : Nat) (f : SendFrame) (h0 : registersCanonical s) : registersCanonical (State.sendFetch s r f) :=
  by unfold State.sendFetch; simp only []; (repeat' split) <;> simp +contextual (maxDischargeDepth := 30) [*]
theorem canon_execSendDescriptorFetch (rs : Nat) (chain : SendChain) (s : State) (h0 : registersCanonical s) : ∀ u, execSendDescriptorFetch rs chain s = .next u → registersCanonical u :=
  by intro u h; unfold execSendDescriptorFetch at h; cases h; simp +contextual (maxDischargeDepth := 30) [*]
@[simp] theorem canon_ptpTx (s : State) (r : PtpRequest) (h0 : registersCanonical s) : registersCanonical (State.ptpTx s r) :=
  by unfold State.ptpTx; simp +contextual (maxDischargeDepth := 30) [*]
theorem canon_execPtpTxRequest (req : PtpRequest) (s : State) (h0 : registersCanonical s) : ∀ u, execPtpTxRequest req s = .next u → registersCanonical u :=
  by intro u h; unfold execPtpTxRequest at h; cases h; simp +contextual (maxDischargeDepth := 30) [*]
@[simp] theorem canon_rxBack (s : State) (r : Nat) (flags : Nat) (n : Nat) (h0 : registersCanonical s) : registersCanonical (State.rxBack s r flags n) :=
  by unfold State.rxBack; simp +contextual (maxDischargeDepth := 30) [*]
@[simp] theorem canon_fillBufs (s : State) (r : Nat) (x1 : List (Nat × Nat)) (x2 : Bytes) (x3 : Bool) (h0 : registersCanonical s) : registersCanonical (State.fillBufs s r x1 x2 x3) :=
  by induction x1 generalizing s x2 x3 with | nil => exact h0 | cons a l ih => unfold State.fillBufs; (repeat' split) <;> simp +contextual (maxDischargeDepth := 30) [*, ih]
@[simp] theorem canon_returnShort (s : State) (r : Nat) (x1 : List (Nat × Nat)) (h0 : registersCanonical s) : registersCanonical (State.returnShort s r x1) :=
  by induction x1 generalizing s with | nil => exact h0 | cons a l ih => unfold State.returnShort; split <;> simp +contextual (maxDischargeDepth := 30) [*, ih]
@[simp] theorem canon_puntOut (s : State) (cls : Nat) (r : Nat) (f : Frame) (bufs : List (Nat × Nat)) (h0 : registersCanonical s) : registersCanonical (State.puntOut s cls r f bufs) :=
  by unfold State.puntOut; simp +contextual (maxDischargeDepth := 30) [*]
@[simp] theorem canon_puntDeliver (s : State) (cls : Nat) (bufs : List (Nat × Nat)) (h0 : registersCanonical s) : registersCanonical (State.puntDeliver s cls bufs) :=
  by unfold State.puntDeliver; simp only []; (repeat' split) <;> simp +contextual (maxDischargeDepth := 30) [*]
theorem canon_execPuntDelivery (cls : Nat) (descs : List Bytes) (s : State) (h0 : registersCanonical s) : ∀ u, execPuntDelivery cls descs s = .next u → registersCanonical u :=
  by intro u h; unfold execPuntDelivery at h; cases h; simp +contextual (maxDischargeDepth := 30) [*]
@[simp] theorem canon_toTwin (s : State) (t : TwinState) (h0 : registersCanonical s) : registersCanonical (State.toTwin s t) :=
  by unfold State.toTwin; simp +contextual (maxDischargeDepth := 30) [*]
@[simp] theorem canon_clapTo (s : State) (v : Clap) (h0 : registersCanonical s) : registersCanonical (State.clapTo s v) :=
  by unfold State.clapTo; simp +contextual (maxDischargeDepth := 30) [*]
@[simp] theorem canon_completeTwn (s : State) (op : Nat) (st : Status) (h0 : registersCanonical s) : registersCanonical (State.completeTwn s op st) :=
  by unfold State.completeTwn; simp +contextual (maxDischargeDepth := 30) [*]
@[simp] theorem canon_yieldEnds (s : State) (st : Status) (h0 : registersCanonical s) : registersCanonical (State.yieldEnds s st) :=
  by unfold State.yieldEnds; simp +contextual (maxDischargeDepth := 30) [*]
@[simp] theorem canon_holdOffCheck (s : State) (h0 : registersCanonical s) : registersCanonical (State.holdOffCheck s) :=
  by unfold State.holdOffCheck; simp +contextual (maxDischargeDepth := 30) [*]
@[simp] theorem canon_newRandom (s : State) (h0 : registersCanonical s) : registersCanonical (State.newRandom s) :=
  by unfold State.newRandom; simp +contextual (maxDischargeDepth := 30) [*]
@[simp] theorem canon_sessionEnd (s : State) (h0 : registersCanonical s) : registersCanonical (State.sessionEnd s) :=
  by unfold State.sessionEnd; simp +contextual (maxDischargeDepth := 30) [*]
@[simp] theorem canon_twinDown (s : State) (h0 : registersCanonical s) : registersCanonical (State.twinDown s) :=
  by unfold State.twinDown; simp +contextual (maxDischargeDepth := 30) [*]
@[simp] theorem canon_becomeActive (s : State) (permit : Bool) (h0 : registersCanonical s) : registersCanonical (State.becomeActive s permit) :=
  by unfold State.becomeActive; simp +contextual (maxDischargeDepth := 30) [*]
@[simp] theorem canon_claim (s : State) (epoch : Nat) (h0 : registersCanonical s) : registersCanonical (State.claim s epoch) :=
  by unfold State.claim; simp +contextual (maxDischargeDepth := 30) [*]
@[simp] theorem canon_advanceBlocks (s : State) (h0 : registersCanonical s) : registersCanonical (State.advanceBlocks s) :=
  by unfold State.advanceBlocks; simp +contextual (maxDischargeDepth := 30) [*, canon_foldl]
@[simp] theorem canon_setSeqs (s : State) (f : Nat → TwinStream → Nat) (h0 : registersCanonical s) : registersCanonical (State.setSeqs s f) :=
  by
  unfold State.setSeqs
  split
  · refine canon_foldl _ _ _ ?_ h0
    intro s a h
    split <;> simp +contextual (maxDischargeDepth := 30) [*]
  · exact h0
@[simp] theorem canon_seqsFresh (s : State) (h0 : registersCanonical s) : registersCanonical (State.seqsFresh s) :=
  by unfold State.seqsFresh; simp +contextual (maxDischargeDepth := 30) [*]
@[simp] theorem canon_seqsTaken (s : State) (h0 : registersCanonical s) : registersCanonical (State.seqsTaken s) :=
  by unfold State.seqsTaken; simp +contextual (maxDischargeDepth := 30) [*]
@[simp] theorem canon_sendSync (s : State) (h0 : registersCanonical s) : registersCanonical (State.sendSync s) :=
  by unfold State.sendSync; simp +contextual (maxDischargeDepth := 30) [*, canon_foldl]
@[simp] theorem canon_leaveActive (s : State) (h0 : registersCanonical s) : registersCanonical (State.leaveActive s) :=
  by unfold State.leaveActive; simp +contextual (maxDischargeDepth := 30) [*]
@[simp] theorem canon_collision (s : State) (was : State) (h0 : registersCanonical s) : registersCanonical (State.collision s was) :=
  by unfold State.collision; simp +contextual (maxDischargeDepth := 30) [*]
@[simp] theorem canon_twinNotify (s : State) (source : Nat) (mask : Nat) (h0 : registersCanonical s) : registersCanonical (State.twinNotify s source mask) :=
  by unfold State.twinNotify; simp +contextual (maxDischargeDepth := 30) [*]
@[simp] theorem canon_sendHello (s : State) (h0 : registersCanonical s) : registersCanonical (State.sendHello s) :=
  by unfold State.sendHello; split <;> simp +contextual (maxDischargeDepth := 30) [*]
@[simp] theorem canon_seek (s : State) (h0 : registersCanonical s) : registersCanonical (State.seek s) :=
  by unfold State.seek; simp +contextual (maxDischargeDepth := 30) [*]
@[simp] theorem canon_twinDpReset (s : State) (h0 : registersCanonical s) : registersCanonical (State.twinDpReset s) :=
  by unfold State.twinDpReset; simp +contextual (maxDischargeDepth := 30) [*]
@[simp] theorem canon_twinDpUp (s : State) (h0 : registersCanonical s) : registersCanonical (State.twinDpUp s) :=
  by unfold State.twinDpUp; simp +contextual (maxDischargeDepth := 30) [*]
@[simp] theorem canon_moveStreams (s : State) (old : List TwinStream) (new : List TwinStream) (h0 : registersCanonical s) : registersCanonical (State.moveStreams s old new) :=
  by unfold State.moveStreams; simp +contextual (maxDischargeDepth := 30) [*, canon_foldl]
@[simp] theorem canon_twinStrike (s : State) (old : Option Image) (h0 : registersCanonical s) : registersCanonical (State.twinStrike s old) :=
  by
  unfold State.twinStrike
  dsimp only
  (repeat' split) <;> simp +contextual (maxDischargeDepth := 30) [*]
@[simp] theorem canon_faultShown (s : State) (ch : Nat) (h0 : registersCanonical s) : registersCanonical (State.faultShown s ch) :=
  by unfold State.faultShown; simp +contextual (maxDischargeDepth := 30) [*]
@[simp] theorem canon_setLosses (s : State) (l : Nat) (c : List Nat) (h0 : registersCanonical s) : registersCanonical (State.setLosses s l c) :=
  by unfold State.setLosses; simp +contextual (maxDischargeDepth := 30) [*]
@[simp] theorem canon_slotLost (s : State) (t : Slot) (h0 : registersCanonical s) : registersCanonical (State.slotLost s t) :=
  by unfold State.slotLost; simp +contextual (maxDischargeDepth := 30) [*]
@[simp] theorem canon_slotsLost (s : State) (ch : Nat) (h0 : registersCanonical s) : registersCanonical (State.slotsLost s ch) :=
  by unfold State.slotsLost; simp +contextual (maxDischargeDepth := 30) [*, canon_foldl]
@[simp] theorem canon_slotsBehindLost (s : State) (ch : Nat) (h0 : registersCanonical s) : registersCanonical (State.slotsBehindLost s ch) :=
  by unfold State.slotsBehindLost; simp +contextual (maxDischargeDepth := 30) [*]
@[simp] theorem canon_unselect (s : State) (q : Nat) (h0 : registersCanonical s) : registersCanonical (State.unselect s q) :=
  by unfold State.unselect; simp only []; (repeat' split) <;> simp +contextual (maxDischargeDepth := 30) [*]
@[simp] theorem canon_linkFalls (s : State) (ch : Nat) (strike : Bool) (fl : InFlight) (h0 : registersCanonical s) : registersCanonical (State.linkFalls s ch strike fl) :=
  by unfold State.linkFalls; dsimp only; (repeat' split) <;> simp +contextual (maxDischargeDepth := 30) [*]
@[simp] theorem canon_declareDown (s : State) (ch : Nat) (strike : Bool) (h0 : registersCanonical s) : registersCanonical (State.declareDown s ch strike) :=
  by unfold State.declareDown; simp +contextual (maxDischargeDepth := 30) [*]
@[simp] theorem canon_declareUp (s : State) (ch : Nat) (h0 : registersCanonical s) : registersCanonical (State.declareUp s ch) :=
  by unfold State.declareUp; simp +contextual (maxDischargeDepth := 30) [*]
theorem canon_execFecDegrade (ch : Nat) (symbols : Nat) (s : State) (h0 : registersCanonical s) : ∀ u, execFecDegrade ch symbols s = .next u → registersCanonical u :=
  by intro u h; unfold execFecDegrade at h; cases h; simp +contextual (maxDischargeDepth := 30) [*]
theorem canon_execLpiEnter (ch : Nat) (s : State) (h0 : registersCanonical s) : ∀ u, execLpiEnter ch s = .next u → registersCanonical u :=
  by intro u h; unfold execLpiEnter at h; cases h; simp +contextual (maxDischargeDepth := 30) [*]
theorem canon_execLpiExit (ch : Nat) (s : State) (h0 : registersCanonical s) : ∀ u, execLpiExit ch s = .next u → registersCanonical u :=
  by intro u h; unfold execLpiExit at h; cases h; simp +contextual (maxDischargeDepth := 30) [*]
theorem canon_execLpiWakeDone (ch : Nat) (s : State) (h0 : registersCanonical s) : ∀ u, execLpiWakeDone ch s = .next u → registersCanonical u :=
  fun _ h => canon_next h (by simp +contextual (maxDischargeDepth := 30) [*])
@[simp] theorem canon_writeStandby (s : State) (gr : FlexGroup) (h0 : registersCanonical s) : registersCanonical (State.writeStandby s gr) :=
  by unfold State.writeStandby; simp +contextual (maxDischargeDepth := 30) [*]
@[simp] theorem canon_switchStart (s : State) (g : Nat) (h0 : registersCanonical s) : registersCanonical (State.switchStart s g) :=
  by unfold State.switchStart; simp +contextual (maxDischargeDepth := 30) [*]
@[simp] theorem canon_switchIdle (s : State) (g : Nat) (dest : Nat) (h0 : registersCanonical s) : registersCanonical (State.switchIdle s g dest) :=
  by unfold State.switchIdle; simp +contextual (maxDischargeDepth := 30) [*]
@[simp] theorem canon_leaveUp (s : State) (gr : FlexGroup) (dest : Nat) (h0 : registersCanonical s) : registersCanonical (State.leaveUp s gr dest) :=
  by unfold State.leaveUp; dsimp only; (repeat' split) <;> simp +contextual (maxDischargeDepth := 30) [*, canon_foldl]
@[simp] theorem canon_flexStart (s : State) (gr : FlexGroup) (h0 : registersCanonical s) : registersCanonical (State.flexStart s gr) :=
  by unfold State.flexStart; simp +contextual (maxDischargeDepth := 30) [*]
@[simp] theorem canon_groupDownNow (s : State) (gr : FlexGroup) (h0 : registersCanonical s) : registersCanonical (State.groupDownNow s gr) :=
  by unfold State.groupDownNow; simp +contextual (maxDischargeDepth := 30) [*]
@[simp] theorem canon_groupCheck (s : State) (gr : FlexGroup) (h0 : registersCanonical s) : registersCanonical (State.groupCheck s gr) :=
  by unfold State.groupCheck; simp +contextual (maxDischargeDepth := 30) [*]
theorem canon_execGroupDown (g : Nat) (s : State) (h0 : registersCanonical s) : ∀ u, execGroupDown g s = .next u → registersCanonical u :=
  by intro u h; unfold execGroupDown at h; cases h; (repeat' split) <;> simp +contextual (maxDischargeDepth := 30) [*]
theorem canon_execGroupUp (g : Nat) (s : State) (h0 : registersCanonical s) : ∀ u, execGroupUp g s = .next u → registersCanonical u :=
  by intro u h; unfold execGroupUp at h; dsimp only at h; (repeat' split at h) <;> (try cases h) <;> (repeat' split) <;> simp +contextual (maxDischargeDepth := 30) [*, canon_foldl]
@[simp] theorem canon_deskew (s : State) (gr : FlexGroup) (h0 : registersCanonical s) : registersCanonical (State.deskew s gr) :=
  by unfold State.deskew; simp +contextual (maxDischargeDepth := 30) [*, canon_foldl]
@[simp] theorem canon_flexAlign (s : State) (gr : FlexGroup) (h0 : registersCanonical s) : registersCanonical (State.flexAlign s gr) :=
  by unfold State.flexAlign; simp +contextual (maxDischargeDepth := 30) [*]
@[simp] theorem canon_flexArrived (s : State) (gr : FlexGroup) (h0 : registersCanonical s) : registersCanonical (State.flexArrived s gr) :=
  by unfold State.flexArrived; simp +contextual (maxDischargeDepth := 30) [*, canon_foldl]
@[simp] theorem canon_instSearch (s : State) (i : Nat) (x : FlexInst) (h0 : registersCanonical s) : registersCanonical (State.instSearch s i x) :=
  by unfold State.instSearch; simp +contextual (maxDischargeDepth := 30) [*]
@[simp] theorem canon_mfStart (s : State) (gr : FlexGroup) (i : Nat) (c : FlexCand) (b : OhBlock) (h0 : registersCanonical s) : registersCanonical (State.mfStart s gr i c b) :=
  by unfold State.mfStart; simp +contextual (maxDischargeDepth := 30) [*]
@[simp] theorem canon_lockedBlock (s : State) (gr : FlexGroup) (i : Nat) (c : FlexCand) (b : OhBlock) (h0 : registersCanonical s) : registersCanonical (State.lockedBlock s gr i c b) :=
  by unfold State.lockedBlock; simp +contextual (maxDischargeDepth := 30) [*]
@[simp] theorem canon_searchBlock (s : State) (i : Nat) (b : OhBlock) (h0 : registersCanonical s) : registersCanonical (State.searchBlock s i b) :=
  by unfold State.searchBlock; simp only []; (repeat' split) <;> simp +contextual (maxDischargeDepth := 30) [*]
theorem canon_execOverheadBlockReceived (inst : Nat) (b : OhBlock) (s : State) (h0 : registersCanonical s) : ∀ u, execOverheadBlockReceived inst b s = .next u → registersCanonical u :=
  by intro u h; unfold execOverheadBlockReceived at h; cases h; (repeat' split) <;> simp +contextual (maxDischargeDepth := 30) [*]
@[simp] theorem canon_useC (s : State) (gr : FlexGroup) (i : Nat) (c : Nat) (zero : Bool) (h0 : registersCanonical s) : registersCanonical (State.useC s gr i c zero) :=
  by unfold State.useC; simp +contextual (maxDischargeDepth := 30) [*, canon_foldl]
@[simp] theorem canon_useCr (s : State) (gr : FlexGroup) (i : Nat) (cr : Nat) (zero : Bool) (h0 : registersCanonical s) : registersCanonical (State.useCr s gr i cr zero) :=
  by unfold State.useCr; simp +contextual (maxDischargeDepth := 30) [*]
@[simp] theorem canon_useCa (s : State) (gr : FlexGroup) (h0 : registersCanonical s) : registersCanonical (State.useCa s gr) :=
  by unfold State.useCa; simp +contextual (maxDischargeDepth := 30) [*]
@[simp] theorem canon_goodFrame (s : State) (gr : FlexGroup) (i : Nat) (num : Nat) (at' : Option Nat) (f : OhFrame) (h0 : registersCanonical s) : registersCanonical (State.goodFrame s gr i num at' f) :=
  by unfold State.goodFrame; simp +contextual (maxDischargeDepth := 30) [*]
theorem canon_execOverheadFrameReceived (inst : Nat) (f : OhFrame) (s : State) (h0 : registersCanonical s) : ∀ u, execOverheadFrameReceived inst f s = .next u → registersCanonical u :=
  by intro u h; unfold execOverheadFrameReceived at h; cases h; (repeat' split) <;> simp +contextual (maxDischargeDepth := 30) [*]
@[simp] theorem canon_sendOverhead (s : State) (gr : FlexGroup) (n : Nat) (h0 : registersCanonical s) : registersCanonical (State.sendOverhead s gr n) :=
  by unfold State.sendOverhead; simp +contextual (maxDischargeDepth := 30) [*]
@[simp] theorem canon_clipClients (s : State) (g : Nat) (h0 : registersCanonical s) : registersCanonical (State.clipClients s g) :=
  by unfold State.clipClients; (repeat' split) <;> simp +contextual (maxDischargeDepth := 30) [*]
theorem canon_execTxSwapped (g : Nat) (s : State) (h0 : registersCanonical s) : ∀ u, execTxSwapped g s = .next u → registersCanonical u :=
  by intro u h; unfold execTxSwapped at h; dsimp only at h; (repeat' split at h) <;> (try cases h) <;> (repeat' split) <;> simp +contextual (maxDischargeDepth := 30) [*, canon_foldl]
theorem canon_execCalSwStall (g : Nat) (s : State) (h0 : registersCanonical s) : ∀ u, execCalSwStall g s = .next u → registersCanonical u :=
  by intro u h; unfold execCalSwStall at h; cases h; (repeat' split) <;> simp +contextual (maxDischargeDepth := 30) [*]
@[simp] theorem canon_flexIgnored (s : State) (who : Nat) (h0 : registersCanonical s) : registersCanonical (State.flexIgnored s who) :=
  by unfold State.flexIgnored; simp +contextual (maxDischargeDepth := 30) [*]
theorem canon_execCancel (who : Nat) (g : Nat) (s : State) (h0 : registersCanonical s) : ∀ u, execCancel who g s = .next u → registersCanonical u :=
  by intro u h; unfold execCancel at h; cases h; simp +contextual (maxDischargeDepth := 30) [*]
theorem canon_execRetry (who : Nat) (g : Nat) (s : State) (h0 : registersCanonical s) : ∀ u, execRetry who g s = .next u → registersCanonical u :=
  by intro u h; unfold execRetry at h; cases h; simp +contextual (maxDischargeDepth := 30) [*]
@[simp] theorem canon_phyDown (s : State) (l : Nat) (h0 : registersCanonical s) : registersCanonical (State.phyDown s l) :=
  by unfold State.phyDown; (repeat' split) <;> simp +contextual (maxDischargeDepth := 30) [*, canon_foldl]
@[simp] theorem canon_phyUp (s : State) (l : Nat) (h0 : registersCanonical s) : registersCanonical (State.phyUp s l) :=
  by unfold State.phyUp; (repeat' split) <;> simp +contextual (maxDischargeDepth := 30) [*, canon_foldl]
@[simp] theorem canon_flexReset (s : State) (h0 : registersCanonical s) : registersCanonical (State.flexReset s) :=
  by unfold State.flexReset; (repeat' split) <;> simp +contextual (maxDischargeDepth := 30) [*, canon_foldl]
@[simp] theorem canon_groupCreate (s : State) (gr : FlexGroup) (h0 : registersCanonical s) : registersCanonical (State.groupCreate s gr) :=
  by unfold State.groupCreate; simp +contextual (maxDischargeDepth := 30) [*, canon_foldl]
@[simp] theorem canon_groupKeep (s : State) (a : FlexGroup) (b : FlexGroup) (h0 : registersCanonical s) : registersCanonical (State.groupKeep s a b) :=
  by unfold State.groupKeep; simp +contextual (maxDischargeDepth := 30) [*]
@[simp] theorem canon_groupRemove (s : State) (gr : FlexGroup) (h0 : registersCanonical s) : registersCanonical (State.groupRemove s gr) :=
  by unfold State.groupRemove; simp +contextual (maxDischargeDepth := 30) [*, canon_foldl]
@[simp] theorem canon_flexStrike (s : State) (old : Option Image) (h0 : registersCanonical s) : registersCanonical (State.flexStrike s old) :=
  by unfold State.flexStrike; refine canon_foldl _ _ _ ?_ ?_ <;> (try intros) <;> (repeat' split) <;> simp +contextual (maxDischargeDepth := 30) [*, canon_foldl]
@[simp] theorem canon_storeField (s : State) (p : Place) (v : Nat) (f : FieldRow) (h0 : registersCanonical s) : registersCanonical (State.storeField s p v f) :=
  by unfold State.storeField; split <;> simp +contextual (maxDischargeDepth := 30) [*]
@[simp] theorem canon_storeWord (s : State) (p : Place) (v : Nat) (h0 : registersCanonical s) : registersCanonical (State.storeWord s p v) :=
  by unfold State.storeWord; simp +contextual (maxDischargeDepth := 30) [*, canon_foldl]
@[simp] theorem canon_readyEvents (s : State) (h0 : registersCanonical s) : registersCanonical (State.readyEvents s) :=
  by unfold State.readyEvents; simp +contextual (maxDischargeDepth := 30) [*]
@[simp] theorem canon_afterWrite (s : State) (was : State) (p : Place) (h0 : registersCanonical s) : registersCanonical (State.afterWrite s was p) :=
  by
  unfold State.afterWrite
  dsimp only
  (repeat' split) <;> try (simp +contextual (maxDischargeDepth := 30) [*]; done)
@[simp] theorem canon_completeKey (s : State) (who : Nat) (op : Nat) (st : Status) (res : optParam (List Nat) []) (h0 : registersCanonical s) : registersCanonical (State.completeKey s who op st res) :=
  canon_sets _ _ h0
@[simp] theorem canon_keyCommand (s : State) (who : Nat) (op : Nat) (checks : List (Bool × Status)) (ok : State → State) (res : optParam (List Nat) []) (hk : registersCanonical (ok s)) (h0 : registersCanonical s) : registersCanonical (State.keyCommand s who op checks ok res) :=
  by unfold State.keyCommand; (repeat' split) <;> simp +contextual (maxDischargeDepth := 30) [*, hk]
@[simp] theorem canon_challengeCmd (s : State) (who : Nat) (h0 : registersCanonical s) : registersCanonical (State.challengeCmd s who) :=
  by unfold State.challengeCmd; simp +contextual (maxDischargeDepth := 30) [*]
theorem canon_execChallenge (who : Nat) (s : State) (h0 : registersCanonical s) : ∀ u, execChallenge who s = .next u → registersCanonical u :=
  by intro u h; unfold execChallenge at h; cases h; simp +contextual (maxDischargeDepth := 30) [*]
@[simp] theorem canon_domainImport (s : State) (who : Nat) (p : DomainPackage) (h0 : registersCanonical s) : registersCanonical (State.domainImport s who p) :=
  by unfold State.domainImport; simp +contextual (maxDischargeDepth := 30) [*]
theorem canon_execDomainImport (who : Nat) (pkg : DomainPackage) (s : State) (h0 : registersCanonical s) : ∀ u, execDomainImport who pkg s = .next u → registersCanonical u :=
  by intro u h; unfold execDomainImport at h; cases h; simp +contextual (maxDischargeDepth := 30) [*]
@[simp] theorem canon_groupDerive (s : State) (who : Nat) (h0 : registersCanonical s) : registersCanonical (State.groupDerive s who) :=
  by unfold State.groupDerive; simp +contextual (maxDischargeDepth := 30) [*]
theorem canon_execGroupDerive (who : Nat) (s : State) (h0 : registersCanonical s) : ∀ u, execGroupDerive who s = .next u → registersCanonical u :=
  by intro u h; unfold execGroupDerive at h; cases h; simp +contextual (maxDischargeDepth := 30) [*]
@[simp] theorem canon_cakDerive (s : State) (who : Nat) (h0 : registersCanonical s) : registersCanonical (State.cakDerive s who) :=
  by unfold State.cakDerive; simp +contextual (maxDischargeDepth := 30) [*]
theorem canon_execCakDerive (who : Nat) (s : State) (h0 : registersCanonical s) : ∀ u, execCakDerive who s = .next u → registersCanonical u :=
  by intro u h; unfold execCakDerive at h; cases h; simp +contextual (maxDischargeDepth := 30) [*]
@[simp] theorem canon_keyImport (s : State) (who : Nat) (h0 : registersCanonical s) : registersCanonical (State.keyImport s who) :=
  by unfold State.keyImport; simp +contextual (maxDischargeDepth := 30) [*]
theorem canon_execKeyImport (who : Nat) (s : State) (h0 : registersCanonical s) : ∀ u, execKeyImport who s = .next u → registersCanonical u :=
  by intro u h; unfold execKeyImport at h; cases h; simp +contextual (maxDischargeDepth := 30) [*]
@[simp] theorem canon_keyExport (s : State) (who : Nat) (h0 : registersCanonical s) : registersCanonical (State.keyExport s who) :=
  by unfold State.keyExport; simp +contextual (maxDischargeDepth := 30) [*]
theorem canon_execKeyExport (who : Nat) (s : State) (h0 : registersCanonical s) : ∀ u, execKeyExport who s = .next u → registersCanonical u :=
  by intro u h; unfold execKeyExport at h; cases h; simp +contextual (maxDischargeDepth := 30) [*]
@[simp] theorem canon_emptySlot (s : State) (level : Nat) (i : Nat) (h0 : registersCanonical s) : registersCanonical (State.emptySlot s level i) :=
  by unfold State.emptySlot; simp +contextual (maxDischargeDepth := 30) [*]
@[simp] theorem canon_keyInvalidate (s : State) (who : Nat) (h0 : registersCanonical s) : registersCanonical (State.keyInvalidate s who) :=
  by unfold State.keyInvalidate; simp +contextual (maxDischargeDepth := 30) [*]
theorem canon_execKeyInvalidate (who : Nat) (s : State) (h0 : registersCanonical s) : ∀ u, execKeyInvalidate who s = .next u → registersCanonical u :=
  by intro u h; unfold execKeyInvalidate at h; cases h; simp +contextual (maxDischargeDepth := 30) [*]
@[simp] theorem canon_orphanSa (s : State) (a : Nat) (h0 : registersCanonical s) : registersCanonical (State.orphanSa s a) :=
  by unfold State.orphanSa; simp +contextual (maxDischargeDepth := 30) [*]
@[simp] theorem canon_sweepDone (s : State) (h0 : registersCanonical s) : registersCanonical (State.sweepDone s) :=
  by unfold State.sweepDone; (repeat' split) <;> simp +contextual (maxDischargeDepth := 30) [*, canon_foldl]
theorem canon_execSweepDone (s : State) (h0 : registersCanonical s) : ∀ u, execSweepDone s = .next u → registersCanonical u :=
  by intro u h; unfold execSweepDone at h; cases h; simp +contextual (maxDischargeDepth := 30) [*]
@[simp] theorem canon_keyRead (s : State) (who : Nat) (h0 : registersCanonical s) : registersCanonical (State.keyRead s who) :=
  by unfold State.keyRead; simp +contextual (maxDischargeDepth := 30) [*]
theorem canon_execKeyRead (who : Nat) (s : State) (h0 : registersCanonical s) : ∀ u, execKeyRead who s = .next u → registersCanonical u :=
  by intro u h; unfold execKeyRead at h; cases h; simp +contextual (maxDischargeDepth := 30) [*]
@[simp] theorem canon_mkaIcv (s : State) (who : Nat) (data : Bytes) (h0 : registersCanonical s) : registersCanonical (State.mkaIcv s who data) :=
  by unfold State.mkaIcv; simp +contextual (maxDischargeDepth := 30) [*]
theorem canon_execMkaIcv (who : Nat) (data : Bytes) (s : State) (h0 : registersCanonical s) : ∀ u, execMkaIcv who data s = .next u → registersCanonical u :=
  by intro u h; unfold execMkaIcv at h; cases h; simp +contextual (maxDischargeDepth := 30) [*]
@[simp] theorem canon_hybSlot (s : State) (c : Nat) (d : Nat) (peer : Nat) (ckn : BitVec 128) (key : Key) (h0 : registersCanonical s) : registersCanonical (State.hybSlot s c d peer ckn key) :=
  by unfold State.hybSlot; simp +contextual (maxDischargeDepth := 30) [*]
@[simp] theorem canon_setHyb (s : State) (n : Nat) (h : Option HybSession) (h0 : registersCanonical s) : registersCanonical (State.setHyb s n h) :=
  by unfold State.setHyb; simp +contextual (maxDischargeDepth := 30) [*]
@[simp] theorem canon_hybStart (s : State) (who : Nat) (h0 : registersCanonical s) : registersCanonical (State.hybStart s who) :=
  by unfold State.hybStart; simp +contextual (maxDischargeDepth := 30) [*]
theorem canon_execHybStart (who : Nat) (s : State) (h0 : registersCanonical s) : ∀ u, execHybStart who s = .next u → registersCanonical u :=
  by intro u h; unfold execHybStart at h; cases h; simp +contextual (maxDischargeDepth := 30) [*]
@[simp] theorem canon_hybRespond (s : State) (who : Nat) (m1 : HybMsg) (h0 : registersCanonical s) : registersCanonical (State.hybRespond s who m1) :=
  by unfold State.hybRespond; simp +contextual (maxDischargeDepth := 30) [*]
theorem canon_execHybRespond (who : Nat) (msg : HybMsg) (s : State) (h0 : registersCanonical s) : ∀ u, execHybRespond who msg s = .next u → registersCanonical u :=
  by intro u h; unfold execHybRespond at h; cases h; simp +contextual (maxDischargeDepth := 30) [*]
@[simp] theorem canon_hybFinish (s : State) (who : Nat) (m2 : HybMsg) (h0 : registersCanonical s) : registersCanonical (State.hybFinish s who m2) :=
  by unfold State.hybFinish; simp only []; (repeat' split) <;> simp +contextual (maxDischargeDepth := 30) [*]
theorem canon_execHybFinish (who : Nat) (msg : HybMsg) (s : State) (h0 : registersCanonical s) : ∀ u, execHybFinish who msg s = .next u → registersCanonical u :=
  by intro u h; unfold execHybFinish at h; cases h; simp +contextual (maxDischargeDepth := 30) [*]
@[simp] theorem canon_hybCancel (s : State) (who : Nat) (h0 : registersCanonical s) : registersCanonical (State.hybCancel s who) :=
  by unfold State.hybCancel; simp +contextual (maxDischargeDepth := 30) [*]
theorem canon_execHybCancel (who : Nat) (s : State) (h0 : registersCanonical s) : ∀ u, execHybCancel who s = .next u → registersCanonical u :=
  by intro u h; unfold execHybCancel at h; cases h; simp +contextual (maxDischargeDepth := 30) [*]
theorem canon_execHybExpired (session : Nat) (s : State) (h0 : registersCanonical s) : ∀ u, execHybExpired session s = .next u → registersCanonical u :=
  by intro u h; unfold execHybExpired at h; cases h; simp +contextual (maxDischargeDepth := 30) [*]
@[simp] theorem canon_idGet (s : State) (who : Nat) (h0 : registersCanonical s) : registersCanonical (State.idGet s who) :=
  by unfold State.idGet; simp +contextual (maxDischargeDepth := 30) [*]
theorem canon_execIdGet (who : Nat) (s : State) (h0 : registersCanonical s) : ∀ u, execIdGet who s = .next u → registersCanonical u :=
  by intro u h; unfold execIdGet at h; cases h; simp +contextual (maxDischargeDepth := 30) [*]
@[simp] theorem canon_attest (s : State) (who : Nat) (h0 : registersCanonical s) : registersCanonical (State.attest s who) :=
  by unfold State.attest; simp +contextual (maxDischargeDepth := 30) [*]
theorem canon_execAttest (who : Nat) (s : State) (h0 : registersCanonical s) : ∀ u, execAttest who s = .next u → registersCanonical u :=
  by intro u h; unfold execAttest at h; cases h; simp +contextual (maxDischargeDepth := 30) [*]
@[simp] theorem canon_clearSas (s : State) (h0 : registersCanonical s) : registersCanonical (State.clearSas s) :=
  by unfold State.clearSas; simp +contextual (maxDischargeDepth := 30) [*]
@[simp] theorem canon_zeroizeSession (s : State) (h0 : registersCanonical s) : registersCanonical (State.zeroizeSession s) :=
  by unfold State.zeroizeSession; simp +contextual (maxDischargeDepth := 30) [*]
@[simp] theorem canon_zeroizeAll (s : State) (h0 : registersCanonical s) : registersCanonical (State.zeroizeAll s) :=
  by unfold State.zeroizeAll; simp +contextual (maxDischargeDepth := 30) [*]
@[simp] theorem canon_zeroizeBattery (s : State) (h0 : registersCanonical s) : registersCanonical (State.zeroizeBattery s) :=
  by unfold State.zeroizeBattery; simp +contextual (maxDischargeDepth := 30) [*]
@[simp] theorem canon_portDown (s : State) (l : Nat) (h0 : registersCanonical s) : registersCanonical (State.portDown s l) :=
  by unfold State.portDown; simp +contextual (maxDischargeDepth := 30) [*]
@[simp] theorem canon_lossSet (s : State) (l : Nat) (kind : Nat) (h0 : registersCanonical s) : registersCanonical (State.lossSet s l kind) :=
  by unfold State.lossSet; simp +contextual (maxDischargeDepth := 30) [*]
theorem canon_execLossConditionDetected (ch : Nat) (kind : Nat) (s : State) (h0 : registersCanonical s) : ∀ u, execLossConditionDetected ch kind s = .next u → registersCanonical u :=
  by intro u h; unfold execLossConditionDetected at h; cases h; simp +contextual (maxDischargeDepth := 30) [*]
theorem canon_execLossConditionCleared (ch : Nat) (kind : Nat) (s : State) (h0 : registersCanonical s) : ∀ u, execLossConditionCleared ch kind s = .next u → registersCanonical u :=
  by intro u h; unfold execLossConditionCleared at h; cases h; simp +contextual (maxDischargeDepth := 30) [*]
theorem canon_execLinkDown (ch : Nat) (s : State) (h0 : registersCanonical s) : ∀ u, execLinkDown ch s = .next u → registersCanonical u :=
  by intro u h; unfold execLinkDown at h; cases h; simp +contextual (maxDischargeDepth := 30) [*]
theorem canon_execLinkUp (ch : Nat) (rxDelay : Nat) (txDelay : Nat) (s : State) (h0 : registersCanonical s) : ∀ u, execLinkUp ch rxDelay txDelay s = .next u → registersCanonical u :=
  by intro u h; unfold execLinkUp at h; cases h; simp +contextual (maxDischargeDepth := 30) [*]
theorem canon_execSerdesRefLost (grp : Nat) (s : State) (h0 : registersCanonical s) : ∀ u, execSerdesRefLost grp s = .next u → registersCanonical u :=
  by
  intro u h
  refine canon_next h ?_
  split
  · exact canon_foldl _ _ _ (by intro s l h; simp +contextual (maxDischargeDepth := 30) [*]) (by first | exact h0 | simp +contextual (maxDischargeDepth := 30) [*])
  · exact h0
@[simp] theorem canon_completePel (s : State) (op : Nat) (st : Status) (step : optParam Nat 0) (sec : optParam Nat 15) (h0 : registersCanonical s) : registersCanonical (State.completePel s op st step sec) :=
  by unfold State.completePel; simp +contextual (maxDischargeDepth := 30) [*]
@[simp] theorem canon_shadowClear (s : State) (h0 : registersCanonical s) : registersCanonical (State.shadowClear s) :=
  by unfold State.shadowClear; simp +contextual (maxDischargeDepth := 30) [*]
@[simp] theorem canon_strikeCancel (s : State) (h0 : registersCanonical s) : registersCanonical (State.strikeCancel s) :=
  by unfold State.strikeCancel; simp +contextual (maxDischargeDepth := 30) [*]
@[simp] theorem canon_shadowAbort (s : State) (h0 : registersCanonical s) : registersCanonical (State.shadowAbort s) :=
  by unfold State.shadowAbort; split <;> simp +contextual (maxDischargeDepth := 30) [*]
@[simp] theorem canon_bufferDown (s : State) (h0 : registersCanonical s) : registersCanonical (State.bufferDown s) :=
  by
  unfold State.bufferDown
  dsimp only
  refine canon_foldl _ _ _ (fun s q h => canon_set _ _ _ h) ?_
  refine canon_foldl _ _ _ (fun s i h => canon_foldl _ _ _ (fun s _ h => by simp [h]) (by simp [h])) ?_
  refine canon_foldl _ _ _ (fun s p h => canon_foldl _ _ _ (fun s f h => by simp [h]) h) ?_
  refine canon_foldl _ _ _ (fun s ch h => canon_set _ _ _ h) ?_
  simp [h0]
@[simp] theorem canon_internalQueuesUp (s : State) (h0 : registersCanonical s) : registersCanonical (State.internalQueuesUp s) :=
  by unfold State.internalQueuesUp; simp +contextual (maxDischargeDepth := 30) [*, canon_foldl]
@[simp] theorem canon_enginesTested (s : State) (h0 : registersCanonical s) : registersCanonical (State.enginesTested s) :=
  by unfold State.enginesTested; (repeat' split) <;> simp +contextual (maxDischargeDepth := 30) [*, canon_foldl]
@[simp] theorem canon_dataPlaneReset (s : State) (h0 : registersCanonical s) : registersCanonical (State.dataPlaneReset s) :=
  by unfold State.dataPlaneReset; simp +contextual (maxDischargeDepth := 30) [*, canon_foldl]
@[simp] theorem canon_controlPlaneReset (s : State) (h0 : registersCanonical s) : registersCanonical (State.controlPlaneReset s) :=
  by unfold State.controlPlaneReset; simp +contextual (maxDischargeDepth := 30) [*, canon_foldl]
@[simp] theorem canon_cleared (s : State) (keep : List FKey) (h0 : registersCanonical s) : registersCanonical (State.cleared s keep) :=
  by
  unfold State.cleared
  simp [h0]
@[simp] theorem canon_loopSeed (s : State) (h0 : registersCanonical s) : registersCanonical (State.loopSeed s) :=
  by unfold State.loopSeed; simp +contextual (maxDischargeDepth := 30) [*]
@[simp] theorem canon_loopKeep (s : State) (was : State) (h0 : registersCanonical s) : registersCanonical (State.loopKeep s was) :=
  by unfold State.loopKeep; simp +contextual (maxDischargeDepth := 30) [*]
@[simp] theorem canon_resetPins (s : State) (h0 : registersCanonical s) : registersCanonical (State.resetPins s) :=
  by unfold State.resetPins; simp +contextual (maxDischargeDepth := 30) [*]
@[simp] theorem canon_resetLoads (s : State) (cause : Nat) (h0 : registersCanonical s) : registersCanonical (State.resetLoads s cause) :=
  by unfold State.resetLoads; simp +contextual (maxDischargeDepth := 30) [*]
@[simp] theorem canon_deviceReset (s : State) (cause : Nat) (h0 : registersCanonical s) : registersCanonical (State.deviceReset s cause) :=
  by unfold State.deviceReset; simp +contextual (maxDischargeDepth := 30) [*]
@[simp] theorem canon_wakeReset (s : State) (causes : Nat) (h0 : registersCanonical s) : registersCanonical (State.wakeReset s causes) :=
  by unfold State.wakeReset; simp +contextual (maxDischargeDepth := 30) [*]
@[simp] theorem canon_aonLost (s : State) (h0 : registersCanonical s) : registersCanonical (State.aonLost s) :=
  canon_sets s _ h0
@[simp] theorem canon_batteryLost (s : State) (h0 : registersCanonical s) : registersCanonical (State.batteryLost s) :=
  canon_sets s _ h0
@[simp] theorem canon_setTmp (s : State) (t : Tamper) (h0 : registersCanonical s) : registersCanonical (State.setTmp s t) :=
  by unfold State.setTmp; simp +contextual (maxDischargeDepth := 30) [*]
@[simp] theorem canon_completeTmp (s : State) (op : Nat) (st : Status) (h0 : registersCanonical s) : registersCanonical (State.completeTmp s op st) :=
  by unfold State.completeTmp; simp +contextual (maxDischargeDepth := 30) [*]
@[simp] theorem canon_batWrite (s : State) (e : LogEntry) (h0 : registersCanonical s) : registersCanonical (State.batWrite s e) :=
  by unfold State.batWrite; split <;> simp +contextual (maxDischargeDepth := 30) [*]
@[simp] theorem canon_write (s : State) (e : LogEntry) (run : Nat) (h0 : registersCanonical s) : registersCanonical (State.write s e run) :=
  by unfold State.write; simp +contextual (maxDischargeDepth := 30) [*]
@[simp] theorem canon_setDeferred (s : State) (m : Nat) (h0 : registersCanonical s) : registersCanonical (State.setDeferred s m) :=
  by unfold State.setDeferred; simp +contextual (maxDischargeDepth := 30) [*]
@[simp] theorem canon_deferDone (s : State) (i : Nat) (h0 : registersCanonical s) : registersCanonical (State.deferDone s i) :=
  by unfold State.deferDone; simp +contextual (maxDischargeDepth := 30) [*]
@[simp] theorem canon_deferredHold (s : State) (h0 : registersCanonical s) : registersCanonical (State.deferredHold s) :=
  by unfold State.deferredHold; simp +contextual (maxDischargeDepth := 30) [*]
@[simp] theorem canon_irqResponse (s : State) (fired : Bool) (h0 : registersCanonical s) : registersCanonical (State.irqResponse s fired) :=
  by unfold State.irqResponse; simp +contextual (maxDischargeDepth := 30) [*]
@[simp] theorem canon_deferredIrq (s : State) (h0 : registersCanonical s) : registersCanonical (State.deferredIrq s) :=
  by unfold State.deferredIrq; simp +contextual (maxDischargeDepth := 30) [*]
@[simp] theorem canon_deferredNotice (s : State) (h0 : registersCanonical s) : registersCanonical (State.deferredNotice s) :=
  by unfold State.deferredNotice; simp +contextual (maxDischargeDepth := 30) [*]
@[simp] theorem canon_tamperDrop (s : State) (t : Slot) (h0 : registersCanonical s) : registersCanonical (State.tamperDrop s t) :=
  by unfold State.tamperDrop; simp only []; (repeat' split) <;> simp +contextual (maxDischargeDepth := 30) [*]
@[simp] theorem canon_tamperDiscard (s : State) (h0 : registersCanonical s) : registersCanonical (State.tamperDiscard s) :=
  by unfold State.tamperDiscard; simp +contextual (maxDischargeDepth := 30) [*, canon_foldl]
@[simp] theorem canon_resetRun (s : State) (hold : Bool) (h0 : registersCanonical s) : registersCanonical (State.resetRun s hold) :=
  by unfold State.resetRun; simp +contextual (maxDischargeDepth := 30) [*]
@[simp] theorem canon_runSteps (s : State) (mask : Nat) (src : Nat) (h0 : registersCanonical s) : registersCanonical (State.runSteps s mask src) :=
  by unfold State.runSteps; simp +contextual (maxDischargeDepth := 30) [*]
@[simp] theorem canon_pendRun (s : State) (mask : Nat) (src : Nat) (h0 : registersCanonical s) : registersCanonical (State.pendRun s mask src) :=
  by unfold State.pendRun; simp +contextual (maxDischargeDepth := 30) [*]
@[simp] theorem canon_wakeEvent (s : State) (causes : Nat) (h0 : registersCanonical s) : registersCanonical (State.wakeEvent s causes) :=
  by unfold State.wakeEvent; simp +contextual (maxDischargeDepth := 30) [*]
@[simp] theorem canon_respond (s : State) (mask : Nat) (src : Nat) (h0 : registersCanonical s) : registersCanonical (State.respond s mask src) :=
  by unfold State.respond; simp +contextual (maxDischargeDepth := 30) [*]
@[simp] theorem canon_pended (s : State) (h0 : registersCanonical s) : registersCanonical (State.pended s) :=
  by unfold State.pended; simp +contextual (maxDischargeDepth := 30) [*]
@[simp] theorem canon_noteAssert (s : State) (src : Nat) (value : Nat) (h0 : registersCanonical s) : registersCanonical (State.noteAssert s src value) :=
  by unfold State.noteAssert; simp +contextual (maxDischargeDepth := 30) [*]
@[simp] theorem canon_batteryAlarms (s : State) (hits : List (Nat × Nat)) (h0 : registersCanonical s) : registersCanonical (State.batteryAlarms s hits) :=
  by unfold State.batteryAlarms; simp +contextual (maxDischargeDepth := 30) [*, canon_foldl]
@[simp] theorem canon_logAlarms (s : State) (hits : List (Nat × Nat)) (run : Nat) (h0 : registersCanonical s) : registersCanonical (State.logAlarms s hits run) :=
  by unfold State.logAlarms; simp +contextual (maxDischargeDepth := 30) [*, canon_foldl]
@[simp] theorem canon_alarm (s : State) (alarms : List (Nat × Nat)) (h0 : registersCanonical s) : registersCanonical (State.alarm s alarms) :=
  by unfold State.alarm; split <;> simp +contextual (maxDischargeDepth := 30) [*]
@[simp] theorem canon_timePllLost (s : State) (alarms : List (Nat × Nat)) (h0 : registersCanonical s) : registersCanonical (State.timePllLost s alarms) :=
  by unfold State.timePllLost; simp +contextual (maxDischargeDepth := 30) [*]
theorem canon_execTamperAssert (alarms : List (Nat × Nat)) (s : State) (h0 : registersCanonical s) : ∀ u, execTamperAssert alarms s = .next u → registersCanonical u :=
  by intro u h; unfold execTamperAssert at h; cases h; simp +contextual (maxDischargeDepth := 30) [*]
@[simp] theorem canon_tamperClear (s : State) (src : Nat) (h0 : registersCanonical s) : registersCanonical (State.tamperClear s src) :=
  by unfold State.tamperClear; simp +contextual (maxDischargeDepth := 30) [*]
@[simp] theorem canon_pairAgrees (s : State) (pair : Nat → Bool) (h0 : registersCanonical s) : registersCanonical (State.pairAgrees s pair) :=
  by unfold State.pairAgrees; simp +contextual (maxDischargeDepth := 30) [*]
theorem canon_execTamperClear (src : Nat) (s : State) (h0 : registersCanonical s) : ∀ u, execTamperClear src s = .next u → registersCanonical u :=
  by intro u h; unfold execTamperClear at h; cases h; simp +contextual (maxDischargeDepth := 30) [*]
theorem canon_execSoft (who : Nat) (code : Nat) (s : State) (h0 : registersCanonical s) : ∀ u, execSoft who code s = .next u → registersCanonical u :=
  by intro u h; unfold execSoft at h; cases h; simp +contextual (maxDischargeDepth := 30) [*]
theorem canon_execReleaseHold (who : Nat) (s : State) (h0 : registersCanonical s) : ∀ u, execReleaseHold who s = .next u → registersCanonical u :=
  by intro u h; unfold execReleaseHold at h; cases h; simp +contextual (maxDischargeDepth := 30) [*]
@[simp] theorem canon_copyBattery (s : State) (h0 : registersCanonical s) : registersCanonical (State.copyBattery s) :=
  by unfold State.copyBattery; simp +contextual (maxDischargeDepth := 30) [*, canon_foldl]
@[simp] theorem canon_deferredRun (s : State) (h0 : registersCanonical s) : registersCanonical (State.deferredRun s) :=
  by unfold State.deferredRun; simp +contextual (maxDischargeDepth := 30) [*]
@[simp] theorem canon_stillAsserted (s : State) (h0 : registersCanonical s) : registersCanonical (State.stillAsserted s) :=
  by unfold State.stillAsserted; simp +contextual (maxDischargeDepth := 30) [*]
@[simp] theorem canon_coldFault (s : State) (a : Nat) (h0 : registersCanonical s) : registersCanonical (State.coldFault s a) :=
  by unfold State.coldFault; refine canon_foldl _ _ _ ?_ ?_ <;> (try intros) <;> (repeat' split) <;> simp +contextual (maxDischargeDepth := 30) [*, canon_foldl]
@[simp] theorem canon_fetchOver (s : State) (a : Nat) (h0 : registersCanonical s) : registersCanonical (State.fetchOver s a) :=
  by unfold State.fetchOver; simp +contextual (maxDischargeDepth := 30) [*]
@[simp] theorem canon_coldFetchDone (s : State) (a : Nat) (ok : Bool) (h0 : registersCanonical s) : registersCanonical (State.coldFetchDone s a ok) :=
  by unfold State.coldFetchDone; simp +contextual (maxDischargeDepth := 30) [*]
theorem canon_execColdFetchDone (sa : Nat) (ok : Bool) (s : State) (h0 : registersCanonical s) : ∀ u, execColdFetchDone sa ok s = .next u → registersCanonical u :=
  by intro u h; unfold execColdFetchDone at h; cases h; simp +contextual (maxDischargeDepth := 30) [*]
@[simp] theorem canon_batteryOnly (s : State) (h0 : registersCanonical s) : registersCanonical (State.batteryOnly s) :=
  by unfold State.batteryOnly; simp +contextual (maxDischargeDepth := 30) [*]
theorem canon_execBatteryOnly (s : State) (h0 : registersCanonical s) : ∀ u, execBatteryOnly s = .next u → registersCanonical u :=
  by intro u h; unfold execBatteryOnly at h; cases h; simp +contextual (maxDischargeDepth := 30) [*]
@[simp] theorem canon_parityLost (s : State) (parity : List (Nat × Bool)) (h0 : registersCanonical s) : registersCanonical (State.parityLost s parity) :=
  by unfold State.parityLost; simp +contextual (maxDischargeDepth := 30) [*]
@[simp] theorem canon_powerOn (s : State) (vbatLost : Bool) (parity : List (Nat × Bool)) (h0 : registersCanonical s) : registersCanonical (State.powerOn s vbatLost parity) :=
  by unfold State.powerOn; simp +contextual (maxDischargeDepth := 30) [*]
theorem canon_execPowerOn (how : PowerUp) (s : State) (h0 : registersCanonical s) : ∀ u, execPowerOn how s = .next u → registersCanonical u :=
  by intro u h; unfold execPowerOn at h; cases h; simp +contextual (maxDischargeDepth := 30) [*]
theorem canon_execResetN (s : State) (h0 : registersCanonical s) : ∀ u, execResetN s = .next u → registersCanonical u :=
  by intro u h; unfold execResetN at h; cases h; simp +contextual (maxDischargeDepth := 30) [*]
theorem canon_execRailFault (rail : Nat) (s : State) (h0 : registersCanonical s) : ∀ u, execRailFault rail s = .next u → registersCanonical u :=
  by intro u h; unfold execRailFault at h; cases h; simp +contextual (maxDischargeDepth := 30) [*]
@[simp] theorem canon_clearObjects (s : State) (chs : List Nat) (grps : List Nat) (h0 : registersCanonical s) : registersCanonical (State.clearObjects s chs grps) :=
  by
  unfold State.clearObjects
  simp [h0]
@[simp] theorem canon_initField (s : State) (r : RegInit) (h0 : registersCanonical s) : registersCanonical (State.initField s r) :=
  by unfold State.initField; dsimp only; (repeat' split) <;> simp +contextual (maxDischargeDepth := 30) [*]
@[simp] theorem canon_maxFrames (s : State) (l : List RegInit) (ch : Nat) (h0 : registersCanonical s) : registersCanonical (State.maxFrames s l ch) :=
  by unfold State.maxFrames; simp +contextual (maxDischargeDepth := 30) [*]
@[simp] theorem canon_portStops (s : State) (b : Image) (p : PortDef) (h0 : registersCanonical s) : registersCanonical (State.portStops s b p) :=
  by unfold State.portStops; simp +contextual (maxDischargeDepth := 30) [*]
@[simp] theorem canon_removeChannel (s : State) (ch : Nat) (h0 : registersCanonical s) : registersCanonical (State.removeChannel s ch) :=
  by unfold State.removeChannel; simp +contextual (maxDischargeDepth := 30) [*, canon_foldl]
@[simp] theorem canon_createChannel (s : State) (ch : Nat) (h0 : registersCanonical s) : registersCanonical (State.createChannel s ch) :=
  by unfold State.createChannel; simp +contextual (maxDischargeDepth := 30) [*, canon_foldl]
@[simp] theorem canon_strikeShapers (s : State) (newCh : List Nat) (old : QueuesSection) (new : QueuesSection) (h0 : registersCanonical s) : registersCanonical (State.strikeShapers s newCh old new) :=
  by unfold State.strikeShapers; simp +contextual (maxDischargeDepth := 30) [*, canon_foldl]
@[simp] theorem canon_strikeHolds (s : State) (first : Bool) (old : QueuesSection) (new : QueuesSection) (h0 : registersCanonical s) : registersCanonical (State.strikeHolds s first old new) :=
  by unfold State.strikeHolds; simp +contextual (maxDischargeDepth := 30) [*, canon_foldl]
@[simp] theorem canon_strikeGates (s : State) (old : Option Image) (g : Image) (h0 : registersCanonical s) : registersCanonical (State.strikeGates s old g) :=
  by unfold State.strikeGates; simp +contextual (maxDischargeDepth := 30) [*, canon_foldl]
@[simp] theorem canon_seedsDrawn (s : State) (first : Bool) (h0 : registersCanonical s) : registersCanonical (State.seedsDrawn s first) :=
  by unfold State.seedsDrawn; simp +contextual (maxDischargeDepth := 30) [*]
@[simp] theorem canon_strikeTables (s : State) (first : Bool) (old : TablesSection) (new : TablesSection) (h0 : registersCanonical s) : registersCanonical (State.strikeTables s first old new) :=
  by unfold State.strikeTables; simp +contextual (maxDischargeDepth := 30) [*]
@[simp] theorem canon_seedSnare (s : State) (h0 : registersCanonical s) : registersCanonical (State.seedSnare s) :=
  by unfold State.seedSnare; simp +contextual (maxDischargeDepth := 30) [*, canon_foldl]
@[simp] theorem canon_strikeMasks (s : State) (h0 : registersCanonical s) : registersCanonical (State.strikeMasks s) :=
  by unfold State.strikeMasks; dsimp only; (repeat' split) <;> simp +contextual (maxDischargeDepth := 30) [*]
@[simp] theorem canon_strikePower (s : State) (first : Bool) (old : List Nat) (new : List Nat) (h0 : registersCanonical s) : registersCanonical (State.strikePower s first old new) :=
  by unfold State.strikePower; simp +contextual (maxDischargeDepth := 30) [*]
@[simp] theorem canon_exchange (s : State) (g : Image) (h0 : registersCanonical s) : registersCanonical (State.exchange s g) :=
  by unfold State.exchange; simp +contextual (maxDischargeDepth := 30) [*]
@[simp] theorem canon_leaveOld (s : State) (old : Option Image) (g : Image) (h0 : registersCanonical s) : registersCanonical (State.leaveOld s old g) :=
  by unfold State.leaveOld; (repeat' split) <;> simp +contextual (maxDischargeDepth := 30) [*, canon_foldl]
@[simp] theorem canon_strike (s : State) (op : Nat) (h0 : registersCanonical s) : registersCanonical (State.strike s op) :=
  by unfold State.strike; dsimp only; (repeat' split) <;> simp +contextual (maxDischargeDepth := 30) [*, canon_foldl]
@[simp] theorem canon_completePwr (s : State) (op : Nat) (st : Status) (h0 : registersCanonical s) : registersCanonical (State.completePwr s op st) :=
  by unfold State.completePwr; simp +contextual (maxDischargeDepth := 30) [*]
@[simp] theorem canon_runPwr (s : State) (op : Nat) (h0 : registersCanonical s) : registersCanonical (State.runPwr s op) :=
  by unfold State.runPwr; simp +contextual (maxDischargeDepth := 30) [*]
@[simp] theorem canon_rejectPwr (s : State) (op : Nat) (st : Status) (h0 : registersCanonical s) : registersCanonical (State.rejectPwr s op st) :=
  by unfold State.rejectPwr; simp +contextual (maxDischargeDepth := 30) [*]
@[simp] theorem canon_pwrCommand (s : State) (who : Nat) (op : Nat) (checks : List (Bool × Status)) (act : State → State) (hk : registersCanonical (act s)) (h0 : registersCanonical s) : registersCanonical (State.pwrCommand s who op checks act) :=
  by unfold State.pwrCommand; (repeat' split) <;> simp +contextual (maxDischargeDepth := 30) [*, hk]
@[simp] theorem canon_ledgerPut (s : State) (e : LedgerEntry) (h0 : registersCanonical s) : registersCanonical (State.ledgerPut s e) :=
  by unfold State.ledgerPut; simp +contextual (maxDischargeDepth := 30) [*]
@[simp] theorem canon_plan (s : State) (i : AvsInputs) (h0 : registersCanonical s) : registersCanonical (State.plan s i) :=
  by unfold State.plan; simp +contextual (maxDischargeDepth := 30) [*]
theorem canon_execAvsPlan (who : Nat) (i : AvsInputs) (s : State) (h0 : registersCanonical s) : ∀ u, execAvsPlan who i s = .next u → registersCanonical u :=
  by intro u h; unfold execAvsPlan at h; cases h; simp +contextual (maxDischargeDepth := 30) [*]
theorem canon_execAvsPlanTimer (i : AvsInputs) (s : State) (h0 : registersCanonical s) : ∀ u, execAvsPlanTimer i s = .next u → registersCanonical u :=
  by intro u h; unfold execAvsPlanTimer at h; cases h; simp +contextual (maxDischargeDepth := 30) [*]
theorem canon_execLowMargin (s : State) (h0 : registersCanonical s) : ∀ u, execLowMargin s = .next u → registersCanonical u :=
  by intro u h; unfold execLowMargin at h; cases h; simp +contextual (maxDischargeDepth := 30) [*]
@[simp] theorem canon_authFail (s : State) (h0 : registersCanonical s) : registersCanonical (State.authFail s) :=
  by unfold State.authFail; simp +contextual (maxDischargeDepth := 30) [*]
@[simp] theorem canon_twinRx (s : State) (h : TwinHdr) (m : TwinMsg) (epoch : Nat) (f : State → State) (hk : registersCanonical (f s)) (h0 : registersCanonical s) : registersCanonical (State.twinRx s h m epoch f) :=
  by unfold State.twinRx; (repeat' split) <;> simp +contextual (maxDischargeDepth := 30) [*, hk]
@[simp] theorem canon_twinTake (s : State) (h : TwinHdr) (f : State → State) (hk : ∀ s, registersCanonical s → registersCanonical (f s)) (h0 : registersCanonical s) : registersCanonical (State.twinTake s h f) :=
  by unfold State.twinTake; dsimp only; (repeat' split) <;> simp +contextual (maxDischargeDepth := 30) [*, hk]
@[simp] theorem canon_joinPeer (s : State) (epoch : Nat) (h0 : registersCanonical s) : registersCanonical (State.joinPeer s epoch) :=
  by unfold State.joinPeer; simp +contextual (maxDischargeDepth := 30) [*]
@[simp] theorem canon_linkUpState (s : State) (m : HelloMsg) (h0 : registersCanonical s) : registersCanonical (State.linkUpState s m) :=
  by unfold State.linkUpState; split <;> simp +contextual (maxDischargeDepth := 30) [*]
@[simp] theorem canon_sessionStart (s : State) (h : TwinHdr) (m : HelloMsg) (skew : Nat) (h0 : registersCanonical s) : registersCanonical (State.sessionStart s h m skew) :=
  by unfold State.sessionStart; simp +contextual (maxDischargeDepth := 30) [*]
theorem canon_execHello (h : TwinHdr) (m : HelloMsg) (skewNs : Nat) (s : State) (h0 : registersCanonical s) : ∀ u, execHello h m skewNs s = .next u → registersCanonical u :=
  by intro u h; unfold execHello at h; cases h; (repeat' split) <;> simp +contextual (maxDischargeDepth := 30) [*]
@[simp] theorem canon_heartbeatIn (s : State) (state : TwinState) (synced : Bool) (h0 : registersCanonical s) : registersCanonical (State.heartbeatIn s state synced) :=
  by unfold State.heartbeatIn; simp +contextual (maxDischargeDepth := 30) [*]
theorem canon_execHeartbeat (h : TwinHdr) (state : TwinState) (synced : Bool) (clap : Clap) (s : State) (h0 : registersCanonical s) : ∀ u, execHeartbeat h state synced clap s = .next u → registersCanonical u :=
  by intro u h; unfold execHeartbeat at h; cases h; simp +contextual (maxDischargeDepth := 30) [*]
@[simp] theorem canon_sciDrop (s : State) (k : Nat) (h0 : registersCanonical s) : registersCanonical (State.sciDrop s k) :=
  by unfold State.sciDrop; simp only []; (repeat' split) <;> simp +contextual (maxDischargeDepth := 30) [*]
@[simp] theorem canon_applySc (s : State) (r : ScRecord) (h0 : registersCanonical s) : registersCanonical (State.applySc s r) :=
  by
  have h1 := canon_sciDrop s r.sc h0
  unfold State.applySc
  dsimp only
  generalize s.sciDrop r.sc = s1 at h1
  have hp : registersCanonical { s1 with cnt := { s1.cnt with vfSlot := s1.cnt.vfSlot.filter (fun p => p.2.2 ≠ r.sc) } } := h1
  generalize ({ s1 with cnt := { s1.cnt with vfSlot := s1.cnt.vfSlot.filter (fun p => p.2.2 ≠ r.sc) } } : State) = s2 at hp
  by_cases c : r.created = true
  · rw [if_pos c]
    have h3 : registersCanonical (if r.dirRx = true then (s2.sciPlace r.sc r.sci).getD s2 else s2) := by
      split
      · exact canon_sciPlaceD _ _ _ _ hp hp
      · exact hp
    generalize (if r.dirRx = true then (s2.sciPlace r.sc r.sci).getD s2 else s2) = s3 at h3
    by_cases d : 5 ≤ r.owner
    · rw [if_pos d]; exact canon_vfSlotTake _ _ _ (canon_setSc _ _ _ h3)
    · rw [if_neg d]; exact canon_setSc _ _ _ h3
  · rw [if_neg c]; exact canon_setSc _ _ _ hp
@[simp] theorem canon_applySa (s : State) (r : SaRecord) (h0 : registersCanonical s) : registersCanonical (State.applySa s r) :=
  by unfold State.applySa; simp only []; (repeat' split) <;> simp +contextual (maxDischargeDepth := 30) [*]
@[simp] theorem canon_applyRec (s : State) (x1 : MirrorRec) (h0 : registersCanonical s) : registersCanonical (State.applyRec s x1) :=
  by unfold State.applyRec; split <;> simp +contextual (maxDischargeDepth := 30) [*]
@[simp] theorem canon_syncDone (s : State) (h0 : registersCanonical s) : registersCanonical (State.syncDone s) :=
  by unfold State.syncDone; simp +contextual (maxDischargeDepth := 30) [*, canon_foldl]
@[simp] theorem canon_mirrorIn (s : State) (r : MirrorRec) (h0 : registersCanonical s) : registersCanonical (State.mirrorIn s r) :=
  by unfold State.mirrorIn; simp +contextual (maxDischargeDepth := 30) [*]
theorem canon_execMirror (h : TwinHdr) (r : MirrorRec) (s : State) (h0 : registersCanonical s) : ∀ u, execMirror h r s = .next u → registersCanonical u :=
  by
  intro u h
  refine canon_next h (canon_twinRx _ _ _ _ _ (canon_twinTake _ _ _ (fun s hs => ?_) h0) h0)
  simp +contextual (maxDischargeDepth := 30) [*]
theorem canon_execSync (h : TwinHdr) (r : MirrorRec) (s : State) (h0 : registersCanonical s) : ∀ u, execSync h r s = .next u → registersCanonical u :=
  by
  intro u h
  refine canon_next h (canon_twinRx _ _ _ _ _ (canon_twinTake _ _ _ (fun s hs => ?_) h0) h0)
  simp +contextual (maxDischargeDepth := 30) [*]
@[simp] theorem canon_reserveIn (s : State) (a : Nat) (newEnd : Nat) (h0 : registersCanonical s) : registersCanonical (State.reserveIn s a newEnd) :=
  by unfold State.reserveIn; simp +contextual (maxDischargeDepth := 30) [*]
theorem canon_execReserve (h : TwinHdr) (sa : Nat) (newEnd : Nat) (s : State) (h0 : registersCanonical s) : ∀ u, execReserve h sa newEnd s = .next u → registersCanonical u :=
  by
  intro u h
  refine canon_next h (canon_twinRx _ _ _ _ _ (canon_twinTake _ _ _ (fun s hs => ?_) h0) h0)
  simp +contextual (maxDischargeDepth := 30) [*]
@[simp] theorem canon_blockTo (s : State) (a : Nat) (e : Nat) (h0 : registersCanonical s) : registersCanonical (State.blockTo s a e) :=
  by unfold State.blockTo; simp +contextual (maxDischargeDepth := 30) [*]
@[simp] theorem canon_ackedMsg (s : State) (u : TwinSent) (h0 : registersCanonical s) : registersCanonical (State.ackedMsg s u) :=
  by unfold State.ackedMsg; split <;> simp +contextual (maxDischargeDepth := 30) [*]
@[simp] theorem canon_ackIn (s : State) (n : Nat) (h0 : registersCanonical s) : registersCanonical (State.ackIn s n) :=
  by unfold State.ackIn; simp +contextual (maxDischargeDepth := 30) [*, canon_foldl]
theorem canon_execAck (h : TwinHdr) (seq : Nat) (s : State) (h0 : registersCanonical s) : ∀ u, execAck h seq s = .next u → registersCanonical u :=
  by intro u h; unfold execAck at h; cases h; simp +contextual (maxDischargeDepth := 30) [*]
@[simp] theorem canon_leaseIn (s : State) (h : TwinHdr) (kind : LeaseKind) (holder : Nat) (ms : Nat) (test : Bool) (h0 : registersCanonical s) : registersCanonical (State.leaseIn s h kind holder ms test) :=
  by unfold State.leaseIn; split <;> simp +contextual (maxDischargeDepth := 30) [*]
theorem canon_execLease (h : TwinHdr) (kind : LeaseKind) (epoch : Nat) (holder : Nat) (ms : Nat) (test : Bool) (s : State) (h0 : registersCanonical s) : ∀ u, execLease h kind epoch holder ms test s = .next u → registersCanonical u :=
  by
  intro u h
  refine canon_next h (canon_twinRx _ _ _ _ _ (canon_twinTake _ _ _ (fun s hs => ?_) h0) h0)
  simp +contextual (maxDischargeDepth := 30) [*]
@[simp] theorem canon_granted (s : State) (seqs : List (Nat × Nat)) (h0 : registersCanonical s) : registersCanonical (State.granted s seqs) :=
  by unfold State.granted; simp +contextual (maxDischargeDepth := 30) [*]
@[simp] theorem canon_handedOver (s : State) (h0 : registersCanonical s) : registersCanonical (State.handedOver s) :=
  by unfold State.handedOver; simp +contextual (maxDischargeDepth := 30) [*, canon_foldl]
@[simp] theorem canon_handing (s : State) (h0 : registersCanonical s) : registersCanonical (State.handing s) :=
  by unfold State.handing; simp +contextual (maxDischargeDepth := 30) [*]
@[simp] theorem canon_roleIn (s : State) (x1 : RoleKind) (h0 : registersCanonical s) : registersCanonical (State.roleIn s x1) :=
  by unfold State.roleIn; split <;> simp +contextual (maxDischargeDepth := 30) [*]
theorem canon_execRole (h : TwinHdr) (kind : RoleKind) (s : State) (h0 : registersCanonical s) : ∀ u, execRole h kind s = .next u → registersCanonical u :=
  by
  intro u h
  refine canon_next h (canon_twinRx _ _ _ _ _ (canon_twinTake _ _ _ (fun s hs => ?_) h0) h0)
  simp +contextual (maxDischargeDepth := 30) [*]
@[simp] theorem canon_dualIn (s : State) (stream : Nat) (seq : Nat) (tIn : Nat) (bytes : Bytes) (h0 : registersCanonical s) : registersCanonical (State.dualIn s stream seq tIn bytes) :=
  by unfold State.dualIn; split <;> simp +contextual (maxDischargeDepth := 30) [*]
theorem canon_execDual (h : TwinHdr) (stream : Nat) (seqNo : Nat) (tIn : Nat) (frame : Bytes) (s : State) (h0 : registersCanonical s) : ∀ u, execDual h stream seqNo tIn frame s = .next u → registersCanonical u :=
  by intro u h; unfold execDual at h; cases h; simp +contextual (maxDischargeDepth := 30) [*]
theorem canon_execNotice (h : TwinHdr) (source : Nat) (mask : Nat) (s : State) (h0 : registersCanonical s) : ∀ u, execNotice h source mask s = .next u → registersCanonical u :=
  by
  intro u h
  refine canon_next h (canon_twinRx _ _ _ _ _ (canon_twinTake _ _ _ (fun s hs => ?_) h0) h0)
  simp +contextual (maxDischargeDepth := 30) [*]
theorem canon_execTwinRetransmit (s : State) (h0 : registersCanonical s) : ∀ u, execTwinRetransmit s = .next u → registersCanonical u :=
  by intro u h; unfold execTwinRetransmit at h; dsimp only at h; (repeat' split at h) <;> (try cases h) <;> (repeat' split) <;> simp +contextual (maxDischargeDepth := 30) [*, canon_foldl]
theorem canon_execTwinLinkDown (s : State) (h0 : registersCanonical s) : ∀ u, execTwinLinkDown s = .next u → registersCanonical u :=
  by intro u h; unfold execTwinLinkDown at h; cases h; simp +contextual (maxDischargeDepth := 30) [*]
theorem canon_execHelloTimer (s : State) (h0 : registersCanonical s) : ∀ u, execHelloTimer s = .next u → registersCanonical u :=
  by intro u h; unfold execHelloTimer at h; cases h; simp +contextual (maxDischargeDepth := 30) [*]
theorem canon_execHeartbeatTimer (s : State) (h0 : registersCanonical s) : ∀ u, execHeartbeatTimer s = .next u → registersCanonical u :=
  by intro u h; unfold execHeartbeatTimer at h; dsimp only at h; (repeat' split at h) <;> (try cases h) <;> (repeat' split) <;> simp +contextual (maxDischargeDepth := 30) [*, canon_foldl]
theorem canon_execLeaseRenewTimer (s : State) (h0 : registersCanonical s) : ∀ u, execLeaseRenewTimer s = .next u → registersCanonical u :=
  by intro u h; unfold execLeaseRenewTimer at h; cases h; simp +contextual (maxDischargeDepth := 30) [*]
@[simp] theorem canon_clapperIn (s : State) (v : Clap) (h0 : registersCanonical s) : registersCanonical (State.clapperIn s v) :=
  by
  unfold State.clapperIn
  dsimp only
  (repeat' split) <;> simp +contextual (maxDischargeDepth := 30) [*]
theorem canon_execClapperInputChange (v : Clap) (s : State) (h0 : registersCanonical s) : ∀ u, execClapperInputChange v s = .next u → registersCanonical u :=
  by intro u h; unfold execClapperInputChange at h; cases h; simp +contextual (maxDischargeDepth := 30) [*]
theorem canon_execClapperFault (s : State) (h0 : registersCanonical s) : ∀ u, execClapperFault s = .next u → registersCanonical u :=
  by intro u h; unfold execClapperFault at h; cases h; simp +contextual (maxDischargeDepth := 30) [*]
theorem canon_execClapperFaultClear (s : State) (h0 : registersCanonical s) : ∀ u, execClapperFaultClear s = .next u → registersCanonical u :=
  by intro u h; unfold execClapperFaultClear at h; cases h; simp +contextual (maxDischargeDepth := 30) [*]
theorem canon_execSeekTimeout (s : State) (h0 : registersCanonical s) : ∀ u, execSeekTimeout s = .next u → registersCanonical u :=
  by intro u h; unfold execSeekTimeout at h; cases h; simp +contextual (maxDischargeDepth := 30) [*]
@[simp] theorem canon_takeover (s : State) (h0 : registersCanonical s) : registersCanonical (State.takeover s) :=
  by unfold State.takeover; simp +contextual (maxDischargeDepth := 30) [*]
theorem canon_execTakeover (s : State) (h0 : registersCanonical s) : ∀ u, execTakeover s = .next u → registersCanonical u :=
  by intro u h; unfold execTakeover at h; cases h; simp +contextual (maxDischargeDepth := 30) [*]
theorem canon_execBulkPermit (s : State) (h0 : registersCanonical s) : ∀ u, execBulkPermit s = .next u → registersCanonical u :=
  by intro u h; unfold execBulkPermit at h; cases h; simp +contextual (maxDischargeDepth := 30) [*]
theorem canon_execLeaseLapsed (s : State) (h0 : registersCanonical s) : ∀ u, execLeaseLapsed s = .next u → registersCanonical u :=
  by intro u h; unfold execLeaseLapsed at h; cases h; simp +contextual (maxDischargeDepth := 30) [*]
theorem canon_execRevertHoldoffExpiry (s : State) (h0 : registersCanonical s) : ∀ u, execRevertHoldoffExpiry s = .next u → registersCanonical u :=
  by intro u h; unfold execRevertHoldoffExpiry at h; cases h; simp +contextual (maxDischargeDepth := 30) [*]
theorem canon_execHandoverGrant (s : State) (h0 : registersCanonical s) : ∀ u, execHandoverGrant s = .next u → registersCanonical u :=
  by intro u h; unfold execHandoverGrant at h; cases h; simp +contextual (maxDischargeDepth := 30) [*]
@[simp] theorem canon_twnCommand (s : State) (who : Nat) (op : Nat) (conflict : Bool) (f : State → State) (hk : registersCanonical (f s)) (h0 : registersCanonical s) : registersCanonical (State.twnCommand s who op conflict f) :=
  by unfold State.twnCommand; (repeat' split) <;> simp +contextual (maxDischargeDepth := 30) [*, hk]
theorem canon_execYield (who : Nat) (s : State) (h0 : registersCanonical s) : ∀ u, execYield who s = .next u → registersCanonical u :=
  by intro u h; unfold execYield at h; cases h; simp +contextual (maxDischargeDepth := 30) [*]
theorem canon_execTake (who : Nat) (s : State) (h0 : registersCanonical s) : ∀ u, execTake who s = .next u → registersCanonical u :=
  by
  intro u h
  refine canon_next h ?_
  apply canon_twnCommand <;> (try assumption)
  dsimp only
  split <;> simp +contextual (maxDischargeDepth := 30) [*]
@[simp] theorem canon_testTo (s : State) (op : Nat) (v : Nat) (h0 : registersCanonical s) : registersCanonical (State.testTo s op v) :=
  by unfold State.testTo; simp +contextual (maxDischargeDepth := 30) [*]
theorem canon_execTestEnter (who : Nat) (s : State) (h0 : registersCanonical s) : ∀ u, execTestEnter who s = .next u → registersCanonical u :=
  by intro u h; unfold execTestEnter at h; cases h; simp +contextual (maxDischargeDepth := 30) [*]
theorem canon_execTestExit (who : Nat) (s : State) (h0 : registersCanonical s) : ∀ u, execTestExit who s = .next u → registersCanonical u :=
  by intro u h; unfold execTestExit at h; cases h; simp +contextual (maxDischargeDepth := 30) [*]
@[simp] theorem canon_pelCommand (s : State) (who : Nat) (op : Nat) (checks : List (Bool × Status)) (act : State → State) (hk : registersCanonical (act s)) (h0 : registersCanonical s) : registersCanonical (State.pelCommand s who op checks act) :=
  by unfold State.pelCommand; (repeat' split) <;> simp +contextual (maxDischargeDepth := 30) [*, hk]
@[simp] theorem canon_loadStart (s : State) (addr : Nat) (len : Nat) (h0 : registersCanonical s) : registersCanonical (State.loadStart s addr len) :=
  by unfold State.loadStart; simp +contextual (maxDischargeDepth := 30) [*]
theorem canon_execLoad (who : Nat) (s : State) (h0 : registersCanonical s) : ∀ u, execLoad who s = .next u → registersCanonical u :=
  by intro u h; unfold execLoad at h; cases h; simp +contextual (maxDischargeDepth := 30) [*]
@[simp] theorem canon_verificationDone (s : State) (img : Image) (h0 : registersCanonical s) : registersCanonical (State.verificationDone s img) :=
  by unfold State.verificationDone; simp only []; (repeat' split) <;> simp +contextual (maxDischargeDepth := 30) [*]
theorem canon_execVerificationDone (copy : PealCopy) (s : State) (h0 : registersCanonical s) : ∀ u, execVerificationDone copy s = .next u → registersCanonical u :=
  by intro u h; unfold execVerificationDone at h; cases h; simp +contextual (maxDischargeDepth := 30) [*]
@[simp] theorem canon_armNow (s : State) (who : Nat) (alarm : Bool) (h0 : registersCanonical s) : registersCanonical (State.armNow s who alarm) :=
  by unfold State.armNow; simp +contextual (maxDischargeDepth := 30) [*]
theorem canon_execArmNow (who : Nat) (alarm : Bool) (s : State) (h0 : registersCanonical s) : ∀ u, execArmNow who alarm s = .next u → registersCanonical u :=
  by intro u h; unfold execArmNow at h; cases h; simp +contextual (maxDischargeDepth := 30) [*]
theorem canon_execArmAt (who : Nat) (s : State) (h0 : registersCanonical s) : ∀ u, execArmAt who s = .next u → registersCanonical u :=
  by intro u h; unfold execArmAt at h; cases h; simp +contextual (maxDischargeDepth := 30) [*]
theorem canon_execDisarm (who : Nat) (s : State) (h0 : registersCanonical s) : ∀ u, execDisarm who s = .next u → registersCanonical u :=
  by intro u h; unfold execDisarm at h; cases h; simp +contextual (maxDischargeDepth := 30) [*]
theorem canon_execClearShadow (who : Nat) (s : State) (h0 : registersCanonical s) : ∀ u, execClearShadow who s = .next u → registersCanonical u :=
  by intro u h; unfold execClearShadow at h; cases h; simp +contextual (maxDischargeDepth := 30) [*]
theorem canon_floor (t : State) (n : Nat) (h0 : registersCanonical t) : registersCanonical { t with fus := { t.fus with floor := n } } :=
  h0
theorem canon_words (t : State) (w : List (Nat × Nat)) (h0 : registersCanonical t) : registersCanonical { t with fus := { t.fus with words := w } } :=
  h0
theorem canon_execAdvanceFloor (who : Nat) (s : State) (h0 : registersCanonical s) : ∀ u, execAdvanceFloor who s = .next u → registersCanonical u :=
  by
  intro u h
  exact canon_next h (canon_pelCommand _ _ _ _ _ (canon_completePel _ _ _ _ _ (canon_set _ _ _ h0)) h0)
@[simp] theorem canon_timedStrike (s : State) (h0 : registersCanonical s) : registersCanonical (State.timedStrike s) :=
  by unfold State.timedStrike; simp +contextual (maxDischargeDepth := 30) [*]
theorem canon_execTimedStrike (s : State) (h0 : registersCanonical s) : ∀ u, execTimedStrike s = .next u → registersCanonical u :=
  by intro u h; unfold execTimedStrike at h; cases h; simp +contextual (maxDischargeDepth := 30) [*]
theorem canon_execDrainComplete (s : State) (h0 : registersCanonical s) : ∀ u, execDrainComplete s = .next u → registersCanonical u :=
  by intro u h; unfold execDrainComplete at h; cases h; simp +contextual (maxDischargeDepth := 30) [*]
@[simp] theorem canon_perSecLatch (s : State) (h0 : registersCanonical s) : registersCanonical (State.perSecLatch s) :=
  by unfold State.perSecLatch; simp +contextual (maxDischargeDepth := 30) [*]
@[simp] theorem canon_instLatch (s : State) (i : Nat) (h0 : registersCanonical s) : registersCanonical (State.instLatch s i) :=
  by unfold State.instLatch; simp +contextual (maxDischargeDepth := 30) [*]
@[simp] theorem canon_clientLatch (s : State) (ch : Nat) (h0 : registersCanonical s) : registersCanonical (State.clientLatch s ch) :=
  by unfold State.clientLatch; simp +contextual (maxDischargeDepth := 30) [*]
@[simp] theorem canon_flexLatch (s : State) (h0 : registersCanonical s) : registersCanonical (State.flexLatch s) :=
  by unfold State.flexLatch; dsimp only; (repeat' split) <;> simp +contextual (maxDischargeDepth := 30) [*]
@[simp] theorem canon_secondsLatch (s : State) (h0 : registersCanonical s) : registersCanonical (State.secondsLatch s) :=
  by unfold State.secondsLatch; simp +contextual (maxDischargeDepth := 30) [*]
theorem canon_execSecondsRollover (s : State) (h0 : registersCanonical s) : ∀ u, execSecondsRollover s = .next u → registersCanonical u :=
  by intro u h; unfold execSecondsRollover at h; cases h; simp +contextual (maxDischargeDepth := 30) [*]
@[simp] theorem canon_rollLatch (s : State) (h0 : registersCanonical s) : registersCanonical (State.rollLatch s) :=
  by unfold State.rollLatch; simp +contextual (maxDischargeDepth := 30) [*]
theorem canon_execRollLatch (s : State) (h0 : registersCanonical s) : ∀ u, execRollLatch s = .next u → registersCanonical u :=
  by intro u h; unfold execRollLatch at h; cases h; simp +contextual (maxDischargeDepth := 30) [*]
@[simp] theorem canon_rollToHost (s : State) (r : RollLatch) (h0 : registersCanonical s) : registersCanonical (State.rollToHost s r) :=
  by unfold State.rollToHost; simp +contextual (maxDischargeDepth := 30) [*]
@[simp] theorem canon_rollToJournal (s : State) (r : RollLatch) (h0 : registersCanonical s) : registersCanonical (State.rollToJournal s r) :=
  by unfold State.rollToJournal; simp +contextual (maxDischargeDepth := 30) [*, canon_foldl]
theorem canon_execRollDumpWritten (s : State) (h0 : registersCanonical s) : ∀ u, execRollDumpWritten s = .next u → registersCanonical u :=
  by intro u h; unfold execRollDumpWritten at h; cases h; (repeat' split) <;> simp +contextual (maxDischargeDepth := 30) [*]
@[simp] theorem canon_moveTimers (s : State) (o : Int) (h0 : registersCanonical s) : registersCanonical (State.moveTimers s o) :=
  by unfold State.moveTimers; simp +contextual (maxDischargeDepth := 30) [*]
@[simp] theorem canon_moveClocks (s : State) (o : Int) (h0 : registersCanonical s) : registersCanonical (State.moveClocks s o) :=
  h0
@[simp] theorem canon_moveFrames (s : State) (o : Int) (h0 : registersCanonical s) : registersCanonical (State.moveFrames s o) :=
  h0
@[simp] theorem canon_launchRecheck (s : State) (h0 : registersCanonical s) : registersCanonical (State.launchRecheck s) :=
  by unfold State.launchRecheck; simp +contextual (maxDischargeDepth := 30) [*, canon_foldl]
@[simp] theorem canon_gateOverruns (s : State) (h0 : registersCanonical s) : registersCanonical (State.gateOverruns s) :=
  by unfold State.gateOverruns; simp +contextual (maxDischargeDepth := 30) [*, canon_foldl]
@[simp] theorem canon_oneShots (s : State) (h0 : registersCanonical s) : registersCanonical (State.oneShots s) :=
  by unfold State.oneShots; simp +contextual (maxDischargeDepth := 30) [*]
@[simp] theorem canon_stepTaken (s : State) (was : Nat) (o : Int) (h0 : registersCanonical s) : registersCanonical (State.stepTaken s was o) :=
  by unfold State.stepTaken; simp +contextual (maxDischargeDepth := 30) [*]
@[simp] theorem canon_stepCmd (s : State) (who : Nat) (pending : Bool) (h0 : registersCanonical s) : registersCanonical (State.stepCmd s who pending) :=
  by unfold State.stepCmd; dsimp only; (repeat' split) <;> simp +contextual (maxDischargeDepth := 30) [*]
theorem canon_execStep (who : Nat) (pending : Bool) (s : State) (h0 : registersCanonical s) : ∀ u, execStep who pending s = .next u → registersCanonical u :=
  by intro u h; unfold execStep at h; cases h; simp +contextual (maxDischargeDepth := 30) [*]
@[simp] theorem canon_jnlFlushAll (s : State) (h0 : registersCanonical s) : registersCanonical (State.jnlFlushAll s) :=
  by unfold State.jnlFlushAll; simp +contextual (maxDischargeDepth := 30) [*]
@[simp] theorem canon_switched (s : State) (close : Bool) (d : Nat) (h0 : registersCanonical s) : registersCanonical (State.switched s close d) :=
  by unfold State.switched; simp +contextual (maxDischargeDepth := 30) [*]
@[simp] theorem canon_gatesReload (s : State) (h0 : registersCanonical s) : registersCanonical (State.gatesReload s) :=
  by unfold State.gatesReload; (repeat' split) <;> simp +contextual (maxDischargeDepth := 30) [*, canon_foldl]
@[simp] theorem canon_planeUp (s : State) (h0 : registersCanonical s) : registersCanonical (State.planeUp s) :=
  by unfold State.planeUp; simp +contextual (maxDischargeDepth := 30) [*, canon_foldl]
@[simp] theorem canon_planeStops (s : State) (h0 : registersCanonical s) : registersCanonical (State.planeStops s) :=
  by unfold State.planeStops; simp +contextual (maxDischargeDepth := 30) [*, canon_foldl]
@[simp] theorem canon_arrive (s : State) (dest : PowerState) (h0 : registersCanonical s) : registersCanonical (State.arrive s dest) :=
  by unfold State.arrive; simp +contextual (maxDischargeDepth := 30) [*]
@[simp] theorem canon_endPwr (s : State) (op : Nat) (h0 : registersCanonical s) : registersCanonical (State.endPwr s op) :=
  by unfold State.endPwr; simp +contextual (maxDischargeDepth := 30) [*]
@[simp] theorem canon_endPwrs (s : State) (ops : List Nat) (h0 : registersCanonical s) : registersCanonical (State.endPwrs s ops) :=
  by unfold State.endPwrs; simp +contextual (maxDischargeDepth := 30) [*]
@[simp] theorem canon_startIfStruck (s : State) (h0 : registersCanonical s) : registersCanonical (State.startIfStruck s) :=
  by unfold State.startIfStruck; simp +contextual (maxDischargeDepth := 30) [*]
@[simp] theorem canon_bootSlotsEnd (s : State) (h0 : registersCanonical s) : registersCanonical (State.bootSlotsEnd s) :=
  by unfold State.bootSlotsEnd; simp +contextual (maxDischargeDepth := 30) [*]
@[simp] theorem canon_asleep (s : State) (h0 : registersCanonical s) : registersCanonical (State.asleep s) :=
  by unfold State.asleep; simp +contextual (maxDischargeDepth := 30) [*]
@[simp] theorem canon_seqEnd (s : State) (h0 : registersCanonical s) : registersCanonical (State.seqEnd s) :=
  by unfold State.seqEnd; split <;> simp +contextual (maxDischargeDepth := 30) [*]
@[simp] theorem canon_slotStep (s : State) (h0 : registersCanonical s) : registersCanonical (State.slotStep s) :=
  by unfold State.slotStep; simp only []; (repeat' split) <;> simp +contextual (maxDischargeDepth := 30) [*]
theorem canon_execPowerSequenceSlot (s : State) (h0 : registersCanonical s) : ∀ u, execPowerSequenceSlot s = .next u → registersCanonical u :=
  by intro u h; unfold execPowerSequenceSlot at h; cases h; simp +contextual (maxDischargeDepth := 30) [*]
theorem canon_execDataPlaneStart (s : State) (h0 : registersCanonical s) : ∀ u, execDataPlaneStart s = .next u → registersCanonical u :=
  by intro u h; unfold execDataPlaneStart at h; cases h; (repeat' split) <;> simp +contextual (maxDischargeDepth := 30) [*]
@[simp] theorem canon_toPlane (s : State) (who : Nat) (op : Nat) (dest : PowerState) (h0 : registersCanonical s) : registersCanonical (State.toPlane s who op dest) :=
  by unfold State.toPlane; simp +contextual (maxDischargeDepth := 30) [*]
theorem canon_execActive (who : Nat) (s : State) (h0 : registersCanonical s) : ∀ u, execActive who s = .next u → registersCanonical u :=
  by intro u h; unfold execActive at h; cases h; simp +contextual (maxDischargeDepth := 30) [*]
theorem canon_execDoze (who : Nat) (s : State) (h0 : registersCanonical s) : ∀ u, execDoze who s = .next u → registersCanonical u :=
  by intro u h; unfold execDoze at h; cases h; simp +contextual (maxDischargeDepth := 30) [*]
@[simp] theorem canon_toRest (s : State) (who : Nat) (op : Nat) (dest : PowerState) (h0 : registersCanonical s) : registersCanonical (State.toRest s who op dest) :=
  by unfold State.toRest; simp +contextual (maxDischargeDepth := 30) [*]
theorem canon_execStandby (who : Nat) (s : State) (h0 : registersCanonical s) : ∀ u, execStandby who s = .next u → registersCanonical u :=
  by intro u h; unfold execStandby at h; cases h; simp +contextual (maxDischargeDepth := 30) [*]
theorem canon_execHibernate (who : Nat) (s : State) (h0 : registersCanonical s) : ∀ u, execHibernate who s = .next u → registersCanonical u :=
  by intro u h; unfold execHibernate at h; cases h; simp +contextual (maxDischargeDepth := 30) [*]
theorem canon_execWake (cause : Nat) (s : State) (h0 : registersCanonical s) : ∀ u, execWake cause s = .next u → registersCanonical u :=
  by intro u h; unfold execWake at h; cases h; simp +contextual (maxDischargeDepth := 30) [*]
theorem canon_execDpReset (who : Nat) (s : State) (h0 : registersCanonical s) : ∀ u, execDpReset who s = .next u → registersCanonical u :=
  by intro u h; unfold execDpReset at h; cases h; simp +contextual (maxDischargeDepth := 30) [*]
theorem canon_execCpReset (who : Nat) (s : State) (h0 : registersCanonical s) : ∀ u, execCpReset who s = .next u → registersCanonical u :=
  by intro u h; unfold execCpReset at h; cases h; simp +contextual (maxDischargeDepth := 30) [*]
theorem canon_execDeviceReset (who : Nat) (s : State) (h0 : registersCanonical s) : ∀ u, execDeviceReset who s = .next u → registersCanonical u :=
  by intro u h; unfold execDeviceReset at h; cases h; simp +contextual (maxDischargeDepth := 30) [*]
theorem canon_execDataPlaneResetEnd (s : State) (h0 : registersCanonical s) : ∀ u, execDataPlaneResetEnd s = .next u → registersCanonical u :=
  by intro u h; unfold execDataPlaneResetEnd at h; cases h; simp +contextual (maxDischargeDepth := 30) [*]
theorem canon_execControlPlaneResetEnd (s : State) (h0 : registersCanonical s) : ∀ u, execControlPlaneResetEnd s = .next u → registersCanonical u :=
  by intro u h; unfold execControlPlaneResetEnd at h; cases h; simp +contextual (maxDischargeDepth := 30) [*]
theorem canon_execKick (who : Nat) (timeout : Nat) (s : State) (h0 : registersCanonical s) : ∀ u, execKick who timeout s = .next u → registersCanonical u :=
  by intro u h; unfold execKick at h; cases h; simp +contextual (maxDischargeDepth := 30) [*]
theorem canon_execWdog (s : State) (h0 : registersCanonical s) : ∀ u, execWdog s = .next u → registersCanonical u :=
  by intro u h; unfold execWdog at h; cases h; simp +contextual (maxDischargeDepth := 30) [*]
@[simp] theorem canon_rootUp (s : State) (puf : Option Key) (h0 : registersCanonical s) : registersCanonical (State.rootUp s puf) :=
  by unfold State.rootUp; split <;> simp +contextual (maxDischargeDepth := 30) [*]
@[simp] theorem canon_firmware (s : State) (b : BootSlot) (result : Nat) (h0 : registersCanonical s) : registersCanonical (State.firmware s b result) :=
  by unfold State.firmware; simp +contextual (maxDischargeDepth := 30) [*]
@[simp] theorem canon_loadPeal (s : State) (c : PealCopy) (h0 : registersCanonical s) : registersCanonical (State.loadPeal s c) :=
  by unfold State.loadPeal; simp +contextual (maxDischargeDepth := 30) [*]
@[simp] theorem canon_bootPeal (s : State) (one : PealCopy) (two : PealCopy) (h0 : registersCanonical s) : registersCanonical (State.bootPeal s one two) :=
  by unfold State.bootPeal; simp +contextual (maxDischargeDepth := 30) [*]
@[simp] theorem canon_bootRun (s : State) (fl : BootFlash) (h0 : registersCanonical s) : registersCanonical (State.bootRun s fl) :=
  by unfold State.bootRun; simp +contextual (maxDischargeDepth := 30) [*]
theorem canon_execBoot (flash : BootFlash) (s : State) (h0 : registersCanonical s) : ∀ u, execBoot flash s = .next u → registersCanonical u :=
  by intro u h; unfold execBoot at h; cases h; simp +contextual (maxDischargeDepth := 30) [*]
theorem canon_execRecover (who : Nat) (img : BootSlot) (s : State) (h0 : registersCanonical s) : ∀ u, execRecover who img s = .next u → registersCanonical u :=
  by
  intro u h
  refine canon_next h ?_
  apply canon_pwrCommand <;> (try assumption)
  dsimp only
  split <;> simp +contextual (maxDischargeDepth := 30) [*]
theorem canon_execDbgTokenWrite (who : Nat) (token : DebugToken) (s : State) (h0 : registersCanonical s) : ∀ u, execDbgTokenWrite who token s = .next u → registersCanonical u :=
  by intro u h; unfold execDbgTokenWrite at h; cases h; simp +contextual (maxDischargeDepth := 30) [*]
@[simp] theorem canon_completeFus (s : State) (op : Nat) (st : Status) (h0 : registersCanonical s) : registersCanonical (State.completeFus s op st) :=
  by unfold State.completeFus; simp +contextual (maxDischargeDepth := 30) [*]
@[simp] theorem canon_blown (s : State) (w : Nat) (new : Nat) (h0 : registersCanonical s) : registersCanonical (State.blown s w new) :=
  by unfold State.blown; simp +contextual (maxDischargeDepth := 30) [*]
@[simp] theorem canon_blow (s : State) (who : Nat) (h0 : registersCanonical s) : registersCanonical (State.blow s who) :=
  by
  unfold State.blow
  dsimp only
  split
  · simp [h0]
  · split
    · refine canon_completeFus _ _ _ ?_
      split
      · exact canon_set _ _ _ h0
      · exact h0
    · simp [h0]
theorem canon_execBlow (who : Nat) (s : State) (h0 : registersCanonical s) : ∀ u, execBlow who s = .next u → registersCanonical u :=
  by intro u h; unfold execBlow at h; cases h; simp +contextual (maxDischargeDepth := 30) [*]
theorem canon_execPcieLinkUp (gen : Nat) (width : Nat) (s : State) (h0 : registersCanonical s) : ∀ u, execPcieLinkUp gen width s = .next u → registersCanonical u :=
  by intro u h; unfold execPcieLinkUp at h; cases h; simp +contextual (maxDischargeDepth := 30) [*]
@[simp] theorem canon_plainWrite (s : State) (who : Nat) (p : Place) (v : Nat) (h0 : registersCanonical s) : registersCanonical (State.plainWrite s who p v) :=
  by unfold State.plainWrite; simp +contextual (maxDischargeDepth := 30) [*]
theorem canon_pelWrite (who : Nat) (op : Nat) (s : State) (h0 : registersCanonical s) : ∀ u, pelWrite who op s = .next u → registersCanonical u :=
  by
  intro u h
  unfold pelWrite at h
  split at h
  · apply canon_execLoad <;> first | exact h | assumption
  · apply canon_execArmNow <;> first | exact h | assumption
  · apply canon_execArmAt <;> first | exact h | assumption
  · apply canon_execDisarm <;> first | exact h | assumption
  · apply canon_execClearShadow <;> first | exact h | assumption
  · apply canon_execAdvanceFloor <;> first | exact h | assumption
  · exact canon_next h (by simp +contextual (maxDischargeDepth := 30) [*])
theorem canon_drmWrite (who : Nat) (op : Nat) (e : Nat) (s : State) (h0 : registersCanonical s) : ∀ u, drmWrite who op e s = .next u → registersCanonical u :=
  by intro u h; unfold drmWrite at h; (repeat' split at h) <;> cases h <;> simp +contextual (maxDischargeDepth := 30) [*]
theorem canon_tblWrite (who : Nat) (op : Nat) (s : State) (h0 : registersCanonical s) : ∀ u, tblWrite who op s = .next u → registersCanonical u :=
  by intro u h; unfold tblWrite at h; (repeat' split at h) <;> cases h <;> simp +contextual (maxDischargeDepth := 30) [*]
theorem canon_samWrite (who : Nat) (op : Nat) (s : State) (h0 : registersCanonical s) : ∀ u, samWrite who op s = .next u → registersCanonical u :=
  by intro u h; unfold samWrite at h; (repeat' split at h) <;> cases h <;> simp +contextual (maxDischargeDepth := 30) [*]
theorem canon_keyWrite (who : Nat) (op : Nat) (dma : Bytes) (s : State) (h0 : registersCanonical s) : ∀ u, keyWrite who op dma s = .next u → registersCanonical u :=
  by intro u h; unfold keyWrite at h; (repeat' split at h) <;> cases h <;> simp +contextual (maxDischargeDepth := 30) [*]
theorem canon_jnlWrite (who : Nat) (op : Nat) (s : State) (h0 : registersCanonical s) : ∀ u, jnlWrite who op s = .next u → registersCanonical u :=
  by intro u h; unfold jnlWrite at h; (repeat' split at h) <;> cases h <;> simp +contextual (maxDischargeDepth := 30) [*]
theorem canon_twnWrite (who : Nat) (op : Nat) (s : State) (h0 : registersCanonical s) : ∀ u, twnWrite who op s = .next u → registersCanonical u :=
  by
  intro u h
  unfold twnWrite at h
  split at h
  · apply canon_execYield <;> first | exact h | assumption
  · apply canon_execTake <;> first | exact h | assumption
  · apply canon_execTestEnter <;> first | exact h | assumption
  · apply canon_execTestExit <;> first | exact h | assumption
  · exact canon_next h (by simp +contextual (maxDischargeDepth := 30) [*])
theorem canon_tmpWrite (who : Nat) (op : Nat) (code : Nat) (s : State) (h0 : registersCanonical s) : ∀ u, tmpWrite who op code s = .next u → registersCanonical u :=
  by intro u h; unfold tmpWrite at h; (repeat' split at h) <;> cases h <;> simp +contextual (maxDischargeDepth := 30) [*]
theorem canon_pwrWrite (who : Nat) (op : Nat) (key : Nat) (s : State) (h0 : registersCanonical s) : ∀ u, pwrWrite who op key s = .next u → registersCanonical u :=
  by
  intro u h
  unfold pwrWrite at h
  by_cases hk : key ≠ (if op = 5 ∨ op = 6 ∨ op = 7 then 0xD5 else 0)
  · rw [if_pos hk] at h
    exact canon_next h (by simp [h0])
  · rw [if_neg hk] at h
    (repeat' split at h) <;> first
      | exact canon_execActive _ _ h0 _ h
      | exact canon_execDoze _ _ h0 _ h
      | exact canon_execStandby _ _ h0 _ h
      | exact canon_execHibernate _ _ h0 _ h
      | exact canon_execDpReset _ _ h0 _ h
      | exact canon_execCpReset _ _ h0 _ h
      | exact canon_execDeviceReset _ _ h0 _ h
      | exact canon_execAvsPlan _ _ _ (canon_drew _ h0) _ h
      | exact canon_execRecover _ _ _ (canon_drew _ h0) _ h
      | exact canon_next h (by simp [h0])
theorem canon_fusWrite (who : Nat) (op : Nat) (key : Nat) (s : State) (h0 : registersCanonical s) : ∀ u, fusWrite who op key s = .next u → registersCanonical u :=
  by intro u h; unfold fusWrite at h; (repeat' split at h) <;> cases h <;> simp +contextual (maxDischargeDepth := 30) [*]
theorem canon_flxWrite (who : Nat) (g : Nat) (v : Nat) (s : State) (h0 : registersCanonical s) : ∀ u, flxWrite who g v s = .next u → registersCanonical u :=
  by intro u h; unfold flxWrite at h; (repeat' split at h) <;> cases h <;> simp +contextual (maxDischargeDepth := 30) [*]
@[simp] theorem canon_schChWrite (e : Nat) (v : Nat) (s : State) (h0 : registersCanonical s) : registersCanonical (schChWrite e v s) :=
  by unfold schChWrite; simp +contextual (maxDischargeDepth := 30) [*]
theorem canon_onBit (v : Nat) (act : State → Host.Outcome State Fault Refusal) (s : State) (h0 : registersCanonical s) : (∀ u, act s = .next u → registersCanonical u) → ∀ u, onBit v act s = .next u → registersCanonical u :=
  by
  intro hk u h
  unfold onBit at h
  split at h
  · exact hk u h
  · exact canon_next h h0
theorem canon_regWrite (who : Nat) (p : Place) (v : Nat) (dma : Bytes) (s : State) (h0 : registersCanonical s) : ∀ u, regWrite who p v dma s = .next u → registersCanonical u :=
  by
  intro u h
  unfold regWrite at h
  dsimp only at h
  split at h
  case h_1 => apply canon_pelWrite <;> first | exact h | assumption
  case h_2 => apply canon_flxWrite <;> first | exact h | assumption
  case h_3 =>
    (repeat' split at h)
    · apply canon_execRelease <;> first | exact h | assumption
    · apply canon_execRenew <;> first | exact h | assumption
    · exact canon_next h h0
  case h_4 => apply canon_tblWrite <;> first | exact h | assumption
  case h_5 => apply canon_execSnareRingResize <;> first | exact h | assumption
  case h_6 => apply canon_drmWrite <;> first | exact h | assumption
  case h_7 => apply canon_samWrite <;> first | exact h | assumption
  case h_8 => apply canon_keyWrite <;> first | exact h | assumption
  case h_9 => apply canon_execProtShaperWrite <;> first | exact h | assumption
  case h_10 => apply canon_execProtShaperWrite <;> first | exact h | assumption
  case h_11 => exact canon_next h (by simp +contextual (maxDischargeDepth := 30) [*])
  case h_12 => apply canon_execTimIncCommit <;> first | exact h | assumption
  case h_13 =>
    split at h
    · apply canon_execStep <;> first | exact h | assumption
    · exact canon_next h (by simp +contextual (maxDischargeDepth := 30) [*])
  case h_14 =>
    refine canon_onBit _ _ _ h0 (fun u h => ?_) _ h
    apply canon_execTimTxtsPop <;> first | exact h | assumption
  case h_15 =>
    refine canon_onBit _ _ _ h0 (fun u h => ?_) _ h
    apply canon_execTimCapPop <;> first | exact h | assumption
  case h_16 =>
    (repeat' split at h)
    · apply canon_execTriggerDisarm <;> first | exact h | assumption
    · apply canon_execArm <;> first | exact h | assumption
    · exact canon_next h h0
  case h_17 => apply canon_twnWrite <;> first | exact h | assumption
  case h_18 => exact canon_next h (by simp +contextual (maxDischargeDepth := 30) [*])
  case h_19 => exact canon_next h (by split <;> simp +contextual (maxDischargeDepth := 30) [*])
  case h_20 => exact canon_next h (by simp +contextual (maxDischargeDepth := 30) [*])
  case h_21 =>
    refine canon_onBit _ _ _ h0 (fun u h => ?_) _ h
    apply canon_execWithdraw <;> first | exact h | assumption
  case h_22 =>
    refine canon_onBit _ _ _ h0 (fun u h => ?_) _ h
    apply canon_execPop <;> first | exact h | assumption
  case h_23 => exact canon_next h (by simp +contextual (maxDischargeDepth := 30) [*])
  case h_24 => exact canon_next h (by simp +contextual (maxDischargeDepth := 30) [*])
  case h_25 => apply canon_jnlWrite <;> first | exact h | assumption
  case h_26 => apply canon_tmpWrite <;> first | exact h | assumption
  case h_27 => apply canon_pwrWrite <;> first | exact h | assumption
  case h_28 =>
    split at h
    · apply canon_execKick <;> first | exact h | assumption
    · exact canon_next h (by simp +contextual (maxDischargeDepth := 30) [*])
  case h_29 =>
    refine canon_onBit _ _ _ h0 (fun u h => ?_) _ h
    apply canon_execCntSamplePop <;> first | exact h | assumption
  case h_30 => apply canon_execCntProgSelWrite <;> first | exact h | assumption
  case h_31 => apply canon_fusWrite <;> first | exact h | assumption
  case h_32 => exact canon_next h (by simp +contextual (maxDischargeDepth := 30) [*])
@[simp] theorem canon_postUnmapped (s : State) (who : Nat) (off : Nat) (write : Bool) (h0 : registersCanonical s) : registersCanonical (State.postUnmapped s who off write) :=
  by unfold State.postUnmapped; simp +contextual (maxDischargeDepth := 30) [*]
@[simp] theorem canon_unmappedAccess (s : State) (who : Nat) (off : Nat) (write : Bool) (h0 : registersCanonical s) : registersCanonical (State.unmappedAccess s who off write) :=
  by unfold State.unmappedAccess; simp +contextual (maxDischargeDepth := 30) [*]
@[simp] theorem canon_ignoredWrite (s : State) (who : Nat) (p : Place) (h0 : registersCanonical s) : registersCanonical (State.ignoredWrite s who p) :=
  by unfold State.ignoredWrite; simp +contextual (maxDischargeDepth := 30) [*]
theorem canon_wordWrite (who : Nat) (off : Nat) (v : Nat) (dma : Bytes) (s : State) (h0 : registersCanonical s) : ∀ u, wordWrite who off v dma s = .next u → registersCanonical u :=
  by
  intro u h
  unfold wordWrite at h
  split at h
  · exact canon_next h (by simp +contextual (maxDischargeDepth := 30) [*])
  · exact canon_next h (by simp +contextual (maxDischargeDepth := 30) [*])
  · exact canon_next h h0
  · split at h
    · exact canon_next h h0
    · split at h
      · exact canon_next h h0
      · split at h
        · exact canon_next h (by simp +contextual (maxDischargeDepth := 30) [*])
        · apply canon_regWrite <;> first | exact h | assumption
theorem canon_thenRun (o : Host.Outcome State Fault Refusal) (f : State → Host.Outcome State Fault Refusal)
    (hf : ∀ s u, registersCanonical s → f s = .next u → registersCanonical u)
    (ho : ∀ t, o = .next t → registersCanonical t) : ∀ u, thenRun o f = .next u → registersCanonical u := by
  intro u h
  unfold thenRun at h
  split at h
  · exact hf _ _ (ho _ rfl) h
  · cases h
  · cases h
theorem canon_execRegisterWrite (who : Nat) (off : Nat) (size : Nat) (val : BitVec 64) (dma : Bytes) (s : State) (h0 : registersCanonical s) : ∀ u, execRegisterWrite who off size val dma s = .next u → registersCanonical u :=
  by
  intro u h
  unfold execRegisterWrite at h
  dsimp only at h
  (repeat' split at h)
  all_goals first
    | (cases h; done)
    | exact canon_next h (by (repeat' split) <;> simp [h0])
    | exact canon_wordWrite _ _ _ _ _ h0 _ h
    | exact canon_thenRun _ _ (fun s u hs hu => canon_wordWrite _ _ _ _ s hs u hu)
        (fun t ht => canon_wordWrite _ _ _ _ s h0 t ht) _ h
theorem canon_execSubwordWrite (who : Nat) (off : Nat) (size : Nat) (s : State) (h0 : registersCanonical s) : ∀ u, execSubwordWrite who off size s = .next u → registersCanonical u :=
  by intro u h; unfold execSubwordWrite at h; (repeat' split at h) <;> cases h <;> simp +contextual (maxDischargeDepth := 30) [*]
@[simp] theorem canon_readEffect (s : State) (who : Nat) (p : Place) (h0 : registersCanonical s) : registersCanonical (State.readEffect s who p) :=
  by unfold State.readEffect; (repeat' split) <;> simp +contextual (maxDischargeDepth := 30) [*]
@[simp] theorem canon_wordRead (s : State) (who : Nat) (off : Nat) (h0 : registersCanonical s) : registersCanonical (State.wordRead s who off) :=
  by unfold State.wordRead; (repeat' split) <;> simp +contextual (maxDischargeDepth := 30) [*]
@[simp] theorem canon_read8 (s : State) (who : Nat) (off : Nat) (h0 : registersCanonical s) : registersCanonical (State.read8 s who off) :=
  by unfold State.read8; simp +contextual (maxDischargeDepth := 30) [*]
@[simp] theorem canon_readPart (s : State) (who : Nat) (off : Nat) (size : Nat) (h0 : registersCanonical s) : registersCanonical (State.readPart s who off size) :=
  by unfold State.readPart; simp +contextual (maxDischargeDepth := 30) [*]
@[simp] theorem canon_counterRead (s : State) (who : Nat) (x : Nat) (size : Nat) (h0 : registersCanonical s) : registersCanonical (State.counterRead s who x size) :=
  by unfold State.counterRead; simp +contextual (maxDischargeDepth := 30) [*]
theorem canon_execUnmapped (who : Nat) (off : Nat) (acc : Access) (s : State) (h0 : registersCanonical s) : ∀ u, execUnmapped who off acc s = .next u → registersCanonical u :=
  by
  intro u h
  unfold execUnmapped at h
  dsimp only at h
  by_cases a : 13 ≤ who ∨ acc.size ∉ [1, 2, 4, 8]
  · rw [if_pos a] at h; exact nomatch h
  rw [if_neg a] at h
  by_cases b : inBar2 who off acc.size
  · rw [if_pos b] at h; exact canon_next h (by split <;> simp +contextual (maxDischargeDepth := 30) [*])
  rw [if_neg b] at h
  by_cases c : bar0Bytes who < off + acc.size
  · rw [if_pos c] at h; exact nomatch h
  rw [if_neg c] at h
  split at h <;> exact canon_next h (by (repeat' split) <;> simp +contextual (maxDischargeDepth := 30) [*])
@[simp] theorem canon_withFetchWord (s : State) (nbits : Nat) (w : Nat) (h0 : registersCanonical s) : registersCanonical (State.withFetchWord s nbits w) :=
  by
  unfold State.withFetchWord
  split <;> exact h0

end Sys2Proof.Laws
end

