-- ==== Sys2Proof/Laws/State.lean ====
section
/-! SUPPORT. The laws of State: what each update leaves in each field, reads of register fields after writes, and the
canonical form of the register file. -/

namespace Sys2Proof.Laws
open Sys2Proof Sys2Proof.Machine

/-! ### Register fields -/

@[simp] theorem get_set_self (s : State) (k : FKey) (v : Nat) : (s.set k v).get k = v := by simp [get_set]

/-- A read looks at the register cells only. -/
theorem get_of_regs {s t : State} (h : t.regs = s.regs) (k : FKey) : t.get k = s.get k := by simp [State.get, h]

@[simp] theorem get_mk (a b c d e f g h i j l m n o p q r s t u v w x y k) :
    (State.mk a b c d e f g h i j l m n o p q r s t u v w x y).get k = Tab.get a k.reset k := rfl

@[simp] theorem get_fold (s : State) (k : FKey) : Tab.get s.regs k.reset k = s.get k := rfl

@[simp] theorem out_emit (s : State) (o : Output) : (s.emit o).out = o :: s.out := rfl

@[simp] theorem get_emit (s : State) (o : Output) (k : FKey) : (s.emit o).get k = s.get k := rfl

@[simp] theorem get_drew (s : State) (k : FKey) : s.drew.get k = s.get k := rfl

@[simp] theorem get_refreshIrq (s : State) (v : Nat) (k : FKey) : (s.refreshIrq v).get k = s.get k := by
  unfold State.refreshIrq
  (repeat' split) <;> rfl

/-- A posted event sets its bit and touches no other field. -/
theorem get_post (s : State) (e : FKey) (i : Nat) (k : FKey) :
    (s.post e i).get k = if k = e then setBit (s.get e) i else s.get k := by
  unfold State.post
  dsimp only
  split <;> simp [get_set]

/-- A W1C write clears its bits and touches no other field. -/
theorem get_clearEvents (s : State) (e : FKey) (n : Nat) (k : FKey) :
    (s.clearEvents e n).get k = if k = e then clearBits (s.get e) n else s.get k := by
  unfold State.clearEvents
  dsimp only
  split <;> simp [get_set]

/-- An ignored write sets WRITE_IGNORED of its block, or of the VF that wrote. -/
theorem get_ignored (s : State) (who : Nat) (f k : FKey) :
    (s.ignored who f).get k =
      if k = (if isVf who then F.VF_STATUS_WRITE_IGNORED (who - 5) else f) then 1 else s.get k := by
  unfold State.ignored
  split <;> simp [get_set]

/-! ### The canonical form of the register file -/

/-- The register file is in its canonical form. -/
def regsWf (s : State) : Prop := Tab.wf FKey.code FKey.reset s.regs = true

theorem regsWf_set (s : State) (k : FKey) (v : Nat) (h : regsWf s) : regsWf (s.set k v) :=
  tab_wf_put FKey.code fkey_code_inj FKey.reset s.regs k v h

theorem regsWf_filter (s t : State) (f : FKey × Nat → Bool) (ht : t.regs = s.regs.filter f) (h : regsWf s) : regsWf t := by
  unfold regsWf
  rw [ht]
  exact tab_wf_filter FKey.code FKey.reset s.regs f h

/-! ### What the shared updates leave -/

/-! A field set -/

@[simp] theorem fus_set (s : State) (k : FKey) (v : Nat) : (s.set k v).fus = s.fus := rfl
@[simp] theorem irq_set (s : State) (k : FKey) (v : Nat) : (s.set k v).irq = s.irq := rfl
@[simp] theorem tim_set (s : State) (k : FKey) (v : Nat) : (s.set k v).tim = s.tim := rfl
@[simp] theorem cnt_set (s : State) (k : FKey) (v : Nat) : (s.set k v).cnt = s.cnt := rfl
@[simp] theorem pel_set (s : State) (k : FKey) (v : Nat) : (s.set k v).pel = s.pel := rfl
@[simp] theorem prt_set (s : State) (k : FKey) (v : Nat) : (s.set k v).prt = s.prt := rfl
@[simp] theorem flx_set (s : State) (k : FKey) (v : Nat) : (s.set k v).flx = s.flx := rfl
@[simp] theorem tbl_set (s : State) (k : FKey) (v : Nat) : (s.set k v).tbl = s.tbl := rfl
@[simp] theorem buf_set (s : State) (k : FKey) (v : Nat) : (s.set k v).buf = s.buf := rfl
@[simp] theorem sch_set (s : State) (k : FKey) (v : Nat) : (s.set k v).sch = s.sch := rfl
@[simp] theorem pool_set (s : State) (k : FKey) (v : Nat) : (s.set k v).pool = s.pool := rfl
@[simp] theorem sam_set (s : State) (k : FKey) (v : Nat) : (s.set k v).sam = s.sam := rfl
@[simp] theorem key_set (s : State) (k : FKey) (v : Nat) : (s.set k v).key = s.key := rfl
@[simp] theorem twn_set (s : State) (k : FKey) (v : Nat) : (s.set k v).twn = s.twn := rfl
@[simp] theorem hif_set (s : State) (k : FKey) (v : Nat) : (s.set k v).hif = s.hif := rfl
@[simp] theorem chm_set (s : State) (k : FKey) (v : Nat) : (s.set k v).chm = s.chm := rfl
@[simp] theorem tab_set (s : State) (k : FKey) (v : Nat) : (s.set k v).tab = s.tab := rfl
@[simp] theorem jnl_set (s : State) (k : FKey) (v : Nat) : (s.set k v).jnl = s.jnl := rfl
@[simp] theorem tmp_set (s : State) (k : FKey) (v : Nat) : (s.set k v).tmp = s.tmp := rfl
@[simp] theorem pwr_set (s : State) (k : FKey) (v : Nat) : (s.set k v).pwr = s.pwr := rfl
@[simp] theorem out_set (s : State) (k : FKey) (v : Nat) : (s.set k v).out = s.out := rfl
@[simp] theorem free_set (s : State) (k : FKey) (v : Nat) : (s.set k v).free = s.free := rfl
@[simp] theorem pending_set (s : State) (k : FKey) (v : Nat) : (s.set k v).pending = s.pending := rfl

/-! A value that leaves the device -/

@[simp] theorem regs_emit (s : State) (x : Output) : (s.emit x).regs = s.regs := rfl
@[simp] theorem fus_emit (s : State) (x : Output) : (s.emit x).fus = s.fus := rfl
@[simp] theorem irq_emit (s : State) (x : Output) : (s.emit x).irq = s.irq := rfl
@[simp] theorem tim_emit (s : State) (x : Output) : (s.emit x).tim = s.tim := rfl
@[simp] theorem cnt_emit (s : State) (x : Output) : (s.emit x).cnt = s.cnt := rfl
@[simp] theorem pel_emit (s : State) (x : Output) : (s.emit x).pel = s.pel := rfl
@[simp] theorem prt_emit (s : State) (x : Output) : (s.emit x).prt = s.prt := rfl
@[simp] theorem flx_emit (s : State) (x : Output) : (s.emit x).flx = s.flx := rfl
@[simp] theorem tbl_emit (s : State) (x : Output) : (s.emit x).tbl = s.tbl := rfl
@[simp] theorem buf_emit (s : State) (x : Output) : (s.emit x).buf = s.buf := rfl
@[simp] theorem sch_emit (s : State) (x : Output) : (s.emit x).sch = s.sch := rfl
@[simp] theorem pool_emit (s : State) (x : Output) : (s.emit x).pool = s.pool := rfl
@[simp] theorem sam_emit (s : State) (x : Output) : (s.emit x).sam = s.sam := rfl
@[simp] theorem key_emit (s : State) (x : Output) : (s.emit x).key = s.key := rfl
@[simp] theorem twn_emit (s : State) (x : Output) : (s.emit x).twn = s.twn := rfl
@[simp] theorem hif_emit (s : State) (x : Output) : (s.emit x).hif = s.hif := rfl
@[simp] theorem chm_emit (s : State) (x : Output) : (s.emit x).chm = s.chm := rfl
@[simp] theorem tab_emit (s : State) (x : Output) : (s.emit x).tab = s.tab := rfl
@[simp] theorem jnl_emit (s : State) (x : Output) : (s.emit x).jnl = s.jnl := rfl
@[simp] theorem tmp_emit (s : State) (x : Output) : (s.emit x).tmp = s.tmp := rfl
@[simp] theorem pwr_emit (s : State) (x : Output) : (s.emit x).pwr = s.pwr := rfl
@[simp] theorem free_emit (s : State) (x : Output) : (s.emit x).free = s.free := rfl
@[simp] theorem pending_emit (s : State) (x : Output) : (s.emit x).pending = s.pending := rfl

/-! A free value taken -/

@[simp] theorem regs_drew (s : State) : (s.drew).regs = s.regs := rfl
@[simp] theorem fus_drew (s : State) : (s.drew).fus = s.fus := rfl
@[simp] theorem irq_drew (s : State) : (s.drew).irq = s.irq := rfl
@[simp] theorem tim_drew (s : State) : (s.drew).tim = s.tim := rfl
@[simp] theorem cnt_drew (s : State) : (s.drew).cnt = s.cnt := rfl
@[simp] theorem pel_drew (s : State) : (s.drew).pel = s.pel := rfl
@[simp] theorem prt_drew (s : State) : (s.drew).prt = s.prt := rfl
@[simp] theorem flx_drew (s : State) : (s.drew).flx = s.flx := rfl
@[simp] theorem tbl_drew (s : State) : (s.drew).tbl = s.tbl := rfl
@[simp] theorem buf_drew (s : State) : (s.drew).buf = s.buf := rfl
@[simp] theorem sch_drew (s : State) : (s.drew).sch = s.sch := rfl
@[simp] theorem pool_drew (s : State) : (s.drew).pool = s.pool := rfl
@[simp] theorem sam_drew (s : State) : (s.drew).sam = s.sam := rfl
@[simp] theorem key_drew (s : State) : (s.drew).key = s.key := rfl
@[simp] theorem twn_drew (s : State) : (s.drew).twn = s.twn := rfl
@[simp] theorem hif_drew (s : State) : (s.drew).hif = s.hif := rfl
@[simp] theorem chm_drew (s : State) : (s.drew).chm = s.chm := rfl
@[simp] theorem tab_drew (s : State) : (s.drew).tab = s.tab := rfl
@[simp] theorem jnl_drew (s : State) : (s.drew).jnl = s.jnl := rfl
@[simp] theorem tmp_drew (s : State) : (s.drew).tmp = s.tmp := rfl
@[simp] theorem pwr_drew (s : State) : (s.drew).pwr = s.pwr := rfl
@[simp] theorem out_drew (s : State) : (s.drew).out = s.out := rfl
@[simp] theorem pending_drew (s : State) : (s.drew).pending = s.pending := rfl

/-! A vector re-evaluated -/

@[simp] theorem regs_refreshIrq (s : State) (v : Nat) : (s.refreshIrq v).regs = s.regs := by unfold State.refreshIrq; (repeat' split) <;> rfl
@[simp] theorem fus_refreshIrq (s : State) (v : Nat) : (s.refreshIrq v).fus = s.fus := by unfold State.refreshIrq; (repeat' split) <;> rfl
@[simp] theorem tim_refreshIrq (s : State) (v : Nat) : (s.refreshIrq v).tim = s.tim := by unfold State.refreshIrq; (repeat' split) <;> rfl
@[simp] theorem cnt_refreshIrq (s : State) (v : Nat) : (s.refreshIrq v).cnt = s.cnt := by unfold State.refreshIrq; (repeat' split) <;> rfl
@[simp] theorem pel_refreshIrq (s : State) (v : Nat) : (s.refreshIrq v).pel = s.pel := by unfold State.refreshIrq; (repeat' split) <;> rfl
@[simp] theorem prt_refreshIrq (s : State) (v : Nat) : (s.refreshIrq v).prt = s.prt := by unfold State.refreshIrq; (repeat' split) <;> rfl
@[simp] theorem flx_refreshIrq (s : State) (v : Nat) : (s.refreshIrq v).flx = s.flx := by unfold State.refreshIrq; (repeat' split) <;> rfl
@[simp] theorem tbl_refreshIrq (s : State) (v : Nat) : (s.refreshIrq v).tbl = s.tbl := by unfold State.refreshIrq; (repeat' split) <;> rfl
@[simp] theorem buf_refreshIrq (s : State) (v : Nat) : (s.refreshIrq v).buf = s.buf := by unfold State.refreshIrq; (repeat' split) <;> rfl
@[simp] theorem sch_refreshIrq (s : State) (v : Nat) : (s.refreshIrq v).sch = s.sch := by unfold State.refreshIrq; (repeat' split) <;> rfl
@[simp] theorem pool_refreshIrq (s : State) (v : Nat) : (s.refreshIrq v).pool = s.pool := by unfold State.refreshIrq; (repeat' split) <;> rfl
@[simp] theorem sam_refreshIrq (s : State) (v : Nat) : (s.refreshIrq v).sam = s.sam := by unfold State.refreshIrq; (repeat' split) <;> rfl
@[simp] theorem key_refreshIrq (s : State) (v : Nat) : (s.refreshIrq v).key = s.key := by unfold State.refreshIrq; (repeat' split) <;> rfl
@[simp] theorem twn_refreshIrq (s : State) (v : Nat) : (s.refreshIrq v).twn = s.twn := by unfold State.refreshIrq; (repeat' split) <;> rfl
@[simp] theorem hif_refreshIrq (s : State) (v : Nat) : (s.refreshIrq v).hif = s.hif := by unfold State.refreshIrq; (repeat' split) <;> rfl
@[simp] theorem chm_refreshIrq (s : State) (v : Nat) : (s.refreshIrq v).chm = s.chm := by unfold State.refreshIrq; (repeat' split) <;> rfl
@[simp] theorem tab_refreshIrq (s : State) (v : Nat) : (s.refreshIrq v).tab = s.tab := by unfold State.refreshIrq; (repeat' split) <;> rfl
@[simp] theorem jnl_refreshIrq (s : State) (v : Nat) : (s.refreshIrq v).jnl = s.jnl := by unfold State.refreshIrq; (repeat' split) <;> rfl
@[simp] theorem tmp_refreshIrq (s : State) (v : Nat) : (s.refreshIrq v).tmp = s.tmp := by unfold State.refreshIrq; (repeat' split) <;> rfl
@[simp] theorem pwr_refreshIrq (s : State) (v : Nat) : (s.refreshIrq v).pwr = s.pwr := by unfold State.refreshIrq; (repeat' split) <;> rfl
@[simp] theorem free_refreshIrq (s : State) (v : Nat) : (s.refreshIrq v).free = s.free := by unfold State.refreshIrq; (repeat' split) <;> rfl
@[simp] theorem pending_refreshIrq (s : State) (v : Nat) : (s.refreshIrq v).pending = s.pending := by unfold State.refreshIrq; (repeat' split) <;> rfl

/-! An event posted -/

@[simp] theorem fus_post (s : State) (k : FKey) (i : Nat) : (s.post k i).fus = s.fus := by unfold State.post; dsimp only; split <;> simp
@[simp] theorem tim_post (s : State) (k : FKey) (i : Nat) : (s.post k i).tim = s.tim := by unfold State.post; dsimp only; split <;> simp
@[simp] theorem cnt_post (s : State) (k : FKey) (i : Nat) : (s.post k i).cnt = s.cnt := by unfold State.post; dsimp only; split <;> simp
@[simp] theorem pel_post (s : State) (k : FKey) (i : Nat) : (s.post k i).pel = s.pel := by unfold State.post; dsimp only; split <;> simp
@[simp] theorem prt_post (s : State) (k : FKey) (i : Nat) : (s.post k i).prt = s.prt := by unfold State.post; dsimp only; split <;> simp
@[simp] theorem flx_post (s : State) (k : FKey) (i : Nat) : (s.post k i).flx = s.flx := by unfold State.post; dsimp only; split <;> simp
@[simp] theorem tbl_post (s : State) (k : FKey) (i : Nat) : (s.post k i).tbl = s.tbl := by unfold State.post; dsimp only; split <;> simp
@[simp] theorem buf_post (s : State) (k : FKey) (i : Nat) : (s.post k i).buf = s.buf := by unfold State.post; dsimp only; split <;> simp
@[simp] theorem sch_post (s : State) (k : FKey) (i : Nat) : (s.post k i).sch = s.sch := by unfold State.post; dsimp only; split <;> simp
@[simp] theorem pool_post (s : State) (k : FKey) (i : Nat) : (s.post k i).pool = s.pool := by unfold State.post; dsimp only; split <;> simp
@[simp] theorem sam_post (s : State) (k : FKey) (i : Nat) : (s.post k i).sam = s.sam := by unfold State.post; dsimp only; split <;> simp
@[simp] theorem key_post (s : State) (k : FKey) (i : Nat) : (s.post k i).key = s.key := by unfold State.post; dsimp only; split <;> simp
@[simp] theorem twn_post (s : State) (k : FKey) (i : Nat) : (s.post k i).twn = s.twn := by unfold State.post; dsimp only; split <;> simp
@[simp] theorem hif_post (s : State) (k : FKey) (i : Nat) : (s.post k i).hif = s.hif := by unfold State.post; dsimp only; split <;> simp
@[simp] theorem chm_post (s : State) (k : FKey) (i : Nat) : (s.post k i).chm = s.chm := by unfold State.post; dsimp only; split <;> simp
@[simp] theorem tab_post (s : State) (k : FKey) (i : Nat) : (s.post k i).tab = s.tab := by unfold State.post; dsimp only; split <;> simp
@[simp] theorem jnl_post (s : State) (k : FKey) (i : Nat) : (s.post k i).jnl = s.jnl := by unfold State.post; dsimp only; split <;> simp
@[simp] theorem tmp_post (s : State) (k : FKey) (i : Nat) : (s.post k i).tmp = s.tmp := by unfold State.post; dsimp only; split <;> simp
@[simp] theorem pwr_post (s : State) (k : FKey) (i : Nat) : (s.post k i).pwr = s.pwr := by unfold State.post; dsimp only; split <;> simp
@[simp] theorem free_post (s : State) (k : FKey) (i : Nat) : (s.post k i).free = s.free := by unfold State.post; dsimp only; split <;> simp
@[simp] theorem pending_post (s : State) (k : FKey) (i : Nat) : (s.post k i).pending = s.pending := by unfold State.post; dsimp only; split <;> simp

/-! Events cleared -/

@[simp] theorem fus_clearEvents (s : State) (k : FKey) (n : Nat) : (s.clearEvents k n).fus = s.fus := by unfold State.clearEvents; dsimp only; split <;> simp
@[simp] theorem tim_clearEvents (s : State) (k : FKey) (n : Nat) : (s.clearEvents k n).tim = s.tim := by unfold State.clearEvents; dsimp only; split <;> simp
@[simp] theorem cnt_clearEvents (s : State) (k : FKey) (n : Nat) : (s.clearEvents k n).cnt = s.cnt := by unfold State.clearEvents; dsimp only; split <;> simp
@[simp] theorem pel_clearEvents (s : State) (k : FKey) (n : Nat) : (s.clearEvents k n).pel = s.pel := by unfold State.clearEvents; dsimp only; split <;> simp
@[simp] theorem prt_clearEvents (s : State) (k : FKey) (n : Nat) : (s.clearEvents k n).prt = s.prt := by unfold State.clearEvents; dsimp only; split <;> simp
@[simp] theorem flx_clearEvents (s : State) (k : FKey) (n : Nat) : (s.clearEvents k n).flx = s.flx := by unfold State.clearEvents; dsimp only; split <;> simp
@[simp] theorem tbl_clearEvents (s : State) (k : FKey) (n : Nat) : (s.clearEvents k n).tbl = s.tbl := by unfold State.clearEvents; dsimp only; split <;> simp
@[simp] theorem buf_clearEvents (s : State) (k : FKey) (n : Nat) : (s.clearEvents k n).buf = s.buf := by unfold State.clearEvents; dsimp only; split <;> simp
@[simp] theorem sch_clearEvents (s : State) (k : FKey) (n : Nat) : (s.clearEvents k n).sch = s.sch := by unfold State.clearEvents; dsimp only; split <;> simp
@[simp] theorem pool_clearEvents (s : State) (k : FKey) (n : Nat) : (s.clearEvents k n).pool = s.pool := by unfold State.clearEvents; dsimp only; split <;> simp
@[simp] theorem sam_clearEvents (s : State) (k : FKey) (n : Nat) : (s.clearEvents k n).sam = s.sam := by unfold State.clearEvents; dsimp only; split <;> simp
@[simp] theorem key_clearEvents (s : State) (k : FKey) (n : Nat) : (s.clearEvents k n).key = s.key := by unfold State.clearEvents; dsimp only; split <;> simp
@[simp] theorem twn_clearEvents (s : State) (k : FKey) (n : Nat) : (s.clearEvents k n).twn = s.twn := by unfold State.clearEvents; dsimp only; split <;> simp
@[simp] theorem hif_clearEvents (s : State) (k : FKey) (n : Nat) : (s.clearEvents k n).hif = s.hif := by unfold State.clearEvents; dsimp only; split <;> simp
@[simp] theorem chm_clearEvents (s : State) (k : FKey) (n : Nat) : (s.clearEvents k n).chm = s.chm := by unfold State.clearEvents; dsimp only; split <;> simp
@[simp] theorem tab_clearEvents (s : State) (k : FKey) (n : Nat) : (s.clearEvents k n).tab = s.tab := by unfold State.clearEvents; dsimp only; split <;> simp
@[simp] theorem jnl_clearEvents (s : State) (k : FKey) (n : Nat) : (s.clearEvents k n).jnl = s.jnl := by unfold State.clearEvents; dsimp only; split <;> simp
@[simp] theorem tmp_clearEvents (s : State) (k : FKey) (n : Nat) : (s.clearEvents k n).tmp = s.tmp := by unfold State.clearEvents; dsimp only; split <;> simp
@[simp] theorem pwr_clearEvents (s : State) (k : FKey) (n : Nat) : (s.clearEvents k n).pwr = s.pwr := by unfold State.clearEvents; dsimp only; split <;> simp
@[simp] theorem free_clearEvents (s : State) (k : FKey) (n : Nat) : (s.clearEvents k n).free = s.free := by unfold State.clearEvents; dsimp only; split <;> simp
@[simp] theorem pending_clearEvents (s : State) (k : FKey) (n : Nat) : (s.clearEvents k n).pending = s.pending := by unfold State.clearEvents; dsimp only; split <;> simp

/-! A write ignored -/

@[simp] theorem fus_ignored (s : State) (who : Nat) (k : FKey) : (s.ignored who k).fus = s.fus := by unfold State.ignored; split <;> rfl
@[simp] theorem irq_ignored (s : State) (who : Nat) (k : FKey) : (s.ignored who k).irq = s.irq := by unfold State.ignored; split <;> rfl
@[simp] theorem tim_ignored (s : State) (who : Nat) (k : FKey) : (s.ignored who k).tim = s.tim := by unfold State.ignored; split <;> rfl
@[simp] theorem cnt_ignored (s : State) (who : Nat) (k : FKey) : (s.ignored who k).cnt = s.cnt := by unfold State.ignored; split <;> rfl
@[simp] theorem pel_ignored (s : State) (who : Nat) (k : FKey) : (s.ignored who k).pel = s.pel := by unfold State.ignored; split <;> rfl
@[simp] theorem prt_ignored (s : State) (who : Nat) (k : FKey) : (s.ignored who k).prt = s.prt := by unfold State.ignored; split <;> rfl
@[simp] theorem flx_ignored (s : State) (who : Nat) (k : FKey) : (s.ignored who k).flx = s.flx := by unfold State.ignored; split <;> rfl
@[simp] theorem tbl_ignored (s : State) (who : Nat) (k : FKey) : (s.ignored who k).tbl = s.tbl := by unfold State.ignored; split <;> rfl
@[simp] theorem buf_ignored (s : State) (who : Nat) (k : FKey) : (s.ignored who k).buf = s.buf := by unfold State.ignored; split <;> rfl
@[simp] theorem sch_ignored (s : State) (who : Nat) (k : FKey) : (s.ignored who k).sch = s.sch := by unfold State.ignored; split <;> rfl
@[simp] theorem pool_ignored (s : State) (who : Nat) (k : FKey) : (s.ignored who k).pool = s.pool := by unfold State.ignored; split <;> rfl
@[simp] theorem sam_ignored (s : State) (who : Nat) (k : FKey) : (s.ignored who k).sam = s.sam := by unfold State.ignored; split <;> rfl
@[simp] theorem key_ignored (s : State) (who : Nat) (k : FKey) : (s.ignored who k).key = s.key := by unfold State.ignored; split <;> rfl
@[simp] theorem twn_ignored (s : State) (who : Nat) (k : FKey) : (s.ignored who k).twn = s.twn := by unfold State.ignored; split <;> rfl
@[simp] theorem hif_ignored (s : State) (who : Nat) (k : FKey) : (s.ignored who k).hif = s.hif := by unfold State.ignored; split <;> rfl
@[simp] theorem chm_ignored (s : State) (who : Nat) (k : FKey) : (s.ignored who k).chm = s.chm := by unfold State.ignored; split <;> rfl
@[simp] theorem tab_ignored (s : State) (who : Nat) (k : FKey) : (s.ignored who k).tab = s.tab := by unfold State.ignored; split <;> rfl
@[simp] theorem jnl_ignored (s : State) (who : Nat) (k : FKey) : (s.ignored who k).jnl = s.jnl := by unfold State.ignored; split <;> rfl
@[simp] theorem tmp_ignored (s : State) (who : Nat) (k : FKey) : (s.ignored who k).tmp = s.tmp := by unfold State.ignored; split <;> rfl
@[simp] theorem pwr_ignored (s : State) (who : Nat) (k : FKey) : (s.ignored who k).pwr = s.pwr := by unfold State.ignored; split <;> rfl
@[simp] theorem out_ignored (s : State) (who : Nat) (k : FKey) : (s.ignored who k).out = s.out := by unfold State.ignored; split <;> rfl
@[simp] theorem free_ignored (s : State) (who : Nat) (k : FKey) : (s.ignored who k).free = s.free := by unfold State.ignored; split <;> rfl
@[simp] theorem pending_ignored (s : State) (who : Nat) (k : FKey) : (s.ignored who k).pending = s.pending := by unfold State.ignored; split <;> rfl
end Sys2Proof.Laws
end

