-- ==== Sys2Proof/Laws/Frames.lean ====
section
/-! SUPPORT. How a frame is built up: each shared update keeps a frame that allows it. -/

namespace Sys2Proof.Laws
open Sys2Proof Sys2Proof.Machine

variable {K : FKey → Prop} {ps : List Part} {s t u : State}

@[simp] theorem frame_refl : OnlyWhere K ps s s := ⟨fun _ _ => rfl, fun p _ => by cases p <;> rfl, rfl⟩

theorem part_same_trans {p : Part} (h : p.same s t) (g : p.same t u) : p.same s u := by
  cases p <;> exact g.trans h

theorem frame_trans (h : OnlyWhere K ps s t) (g : OnlyWhere K ps t u) : OnlyWhere K ps s u :=
  ⟨fun k n => (g.1 k n).trans (h.1 k n), fun p n => part_same_trans (h.2.1 p n) (g.2.1 p n), g.2.2.trans h.2.2⟩

/-- A wider frame. -/
theorem frame_mono {K' : FKey → Prop} {ps' : List Part} (h : OnlyWhere K ps s t) (hk : ∀ k, K k → K' k) (hp : ∀ p ∈ ps, p ∈ ps') :
    OnlyWhere K' ps' s t :=
  ⟨fun k n => h.1 k (fun x => n (hk k x)), fun p n => h.2.1 p (fun x => n (hp p x)), h.2.2⟩

theorem frame_set (k : FKey) (v : Nat) (hk : K k) (h : OnlyWhere K ps s t) : OnlyWhere K ps s (t.set k v) :=
  frame_trans h ⟨fun j n => get_set_other t v (fun e => n (e ▸ hk)), fun p _ => by cases p <;> rfl, rfl⟩

theorem frame_sets (l : List (FKey × Nat)) (hk : ∀ p ∈ l, K p.1) (h : OnlyWhere K ps s t) : OnlyWhere K ps s (t.sets l) := by
  unfold State.sets
  induction l generalizing t with
  | nil => exact h
  | cons a l ih => exact ih (fun p hp => hk p (List.mem_cons_of_mem _ hp)) (frame_set a.1 a.2 (hk a List.mem_cons_self) h)

theorem frame_bump (k : FKey) (w n : Nat) (hk : K k) (h : OnlyWhere K ps s t) : OnlyWhere K ps s (t.bump k w n) :=
  frame_set k _ hk h

theorem frame_mk_fus (x) (hp : .fus ∈ ps) (h : OnlyWhere K ps s t) : OnlyWhere K ps s (State.mk t.regs x t.irq t.tim t.cnt t.pel t.prt t.flx t.tbl t.buf t.sch t.pool t.sam t.key t.twn t.hif t.chm t.tab t.jnl t.tmp t.pwr t.out t.free t.pending) :=
  frame_trans h ⟨fun _ _ => rfl, fun p n => by cases p <;> first | rfl | exact absurd hp n, rfl⟩
theorem frame_mk_irq (x) (hp : .irq ∈ ps) (h : OnlyWhere K ps s t) : OnlyWhere K ps s (State.mk t.regs t.fus x t.tim t.cnt t.pel t.prt t.flx t.tbl t.buf t.sch t.pool t.sam t.key t.twn t.hif t.chm t.tab t.jnl t.tmp t.pwr t.out t.free t.pending) :=
  frame_trans h ⟨fun _ _ => rfl, fun p n => by cases p <;> first | rfl | exact absurd hp n, rfl⟩
theorem frame_mk_tim (x) (hp : .tim ∈ ps) (h : OnlyWhere K ps s t) : OnlyWhere K ps s (State.mk t.regs t.fus t.irq x t.cnt t.pel t.prt t.flx t.tbl t.buf t.sch t.pool t.sam t.key t.twn t.hif t.chm t.tab t.jnl t.tmp t.pwr t.out t.free t.pending) :=
  frame_trans h ⟨fun _ _ => rfl, fun p n => by cases p <;> first | rfl | exact absurd hp n, rfl⟩
theorem frame_mk_cnt (x) (hp : .cnt ∈ ps) (h : OnlyWhere K ps s t) : OnlyWhere K ps s (State.mk t.regs t.fus t.irq t.tim x t.pel t.prt t.flx t.tbl t.buf t.sch t.pool t.sam t.key t.twn t.hif t.chm t.tab t.jnl t.tmp t.pwr t.out t.free t.pending) :=
  frame_trans h ⟨fun _ _ => rfl, fun p n => by cases p <;> first | rfl | exact absurd hp n, rfl⟩
theorem frame_mk_pel (x) (hp : .pel ∈ ps) (h : OnlyWhere K ps s t) : OnlyWhere K ps s (State.mk t.regs t.fus t.irq t.tim t.cnt x t.prt t.flx t.tbl t.buf t.sch t.pool t.sam t.key t.twn t.hif t.chm t.tab t.jnl t.tmp t.pwr t.out t.free t.pending) :=
  frame_trans h ⟨fun _ _ => rfl, fun p n => by cases p <;> first | rfl | exact absurd hp n, rfl⟩
theorem frame_mk_prt (x) (hp : .prt ∈ ps) (h : OnlyWhere K ps s t) : OnlyWhere K ps s (State.mk t.regs t.fus t.irq t.tim t.cnt t.pel x t.flx t.tbl t.buf t.sch t.pool t.sam t.key t.twn t.hif t.chm t.tab t.jnl t.tmp t.pwr t.out t.free t.pending) :=
  frame_trans h ⟨fun _ _ => rfl, fun p n => by cases p <;> first | rfl | exact absurd hp n, rfl⟩
theorem frame_mk_flx (x) (hp : .flx ∈ ps) (h : OnlyWhere K ps s t) : OnlyWhere K ps s (State.mk t.regs t.fus t.irq t.tim t.cnt t.pel t.prt x t.tbl t.buf t.sch t.pool t.sam t.key t.twn t.hif t.chm t.tab t.jnl t.tmp t.pwr t.out t.free t.pending) :=
  frame_trans h ⟨fun _ _ => rfl, fun p n => by cases p <;> first | rfl | exact absurd hp n, rfl⟩
theorem frame_mk_tbl (x) (hp : .tbl ∈ ps) (h : OnlyWhere K ps s t) : OnlyWhere K ps s (State.mk t.regs t.fus t.irq t.tim t.cnt t.pel t.prt t.flx x t.buf t.sch t.pool t.sam t.key t.twn t.hif t.chm t.tab t.jnl t.tmp t.pwr t.out t.free t.pending) :=
  frame_trans h ⟨fun _ _ => rfl, fun p n => by cases p <;> first | rfl | exact absurd hp n, rfl⟩
theorem frame_mk_buf (x) (hp : .buf ∈ ps) (h : OnlyWhere K ps s t) : OnlyWhere K ps s (State.mk t.regs t.fus t.irq t.tim t.cnt t.pel t.prt t.flx t.tbl x t.sch t.pool t.sam t.key t.twn t.hif t.chm t.tab t.jnl t.tmp t.pwr t.out t.free t.pending) :=
  frame_trans h ⟨fun _ _ => rfl, fun p n => by cases p <;> first | rfl | exact absurd hp n, rfl⟩
theorem frame_mk_sch (x) (hp : .sch ∈ ps) (h : OnlyWhere K ps s t) : OnlyWhere K ps s (State.mk t.regs t.fus t.irq t.tim t.cnt t.pel t.prt t.flx t.tbl t.buf x t.pool t.sam t.key t.twn t.hif t.chm t.tab t.jnl t.tmp t.pwr t.out t.free t.pending) :=
  frame_trans h ⟨fun _ _ => rfl, fun p n => by cases p <;> first | rfl | exact absurd hp n, rfl⟩
theorem frame_mk_pool (x) (hp : .pool ∈ ps) (h : OnlyWhere K ps s t) : OnlyWhere K ps s (State.mk t.regs t.fus t.irq t.tim t.cnt t.pel t.prt t.flx t.tbl t.buf t.sch x t.sam t.key t.twn t.hif t.chm t.tab t.jnl t.tmp t.pwr t.out t.free t.pending) :=
  frame_trans h ⟨fun _ _ => rfl, fun p n => by cases p <;> first | rfl | exact absurd hp n, rfl⟩
theorem frame_mk_sam (x) (hp : .sam ∈ ps) (h : OnlyWhere K ps s t) : OnlyWhere K ps s (State.mk t.regs t.fus t.irq t.tim t.cnt t.pel t.prt t.flx t.tbl t.buf t.sch t.pool x t.key t.twn t.hif t.chm t.tab t.jnl t.tmp t.pwr t.out t.free t.pending) :=
  frame_trans h ⟨fun _ _ => rfl, fun p n => by cases p <;> first | rfl | exact absurd hp n, rfl⟩
theorem frame_mk_key (x) (hp : .key ∈ ps) (h : OnlyWhere K ps s t) : OnlyWhere K ps s (State.mk t.regs t.fus t.irq t.tim t.cnt t.pel t.prt t.flx t.tbl t.buf t.sch t.pool t.sam x t.twn t.hif t.chm t.tab t.jnl t.tmp t.pwr t.out t.free t.pending) :=
  frame_trans h ⟨fun _ _ => rfl, fun p n => by cases p <;> first | rfl | exact absurd hp n, rfl⟩
theorem frame_mk_twn (x) (hp : .twn ∈ ps) (h : OnlyWhere K ps s t) : OnlyWhere K ps s (State.mk t.regs t.fus t.irq t.tim t.cnt t.pel t.prt t.flx t.tbl t.buf t.sch t.pool t.sam t.key x t.hif t.chm t.tab t.jnl t.tmp t.pwr t.out t.free t.pending) :=
  frame_trans h ⟨fun _ _ => rfl, fun p n => by cases p <;> first | rfl | exact absurd hp n, rfl⟩
theorem frame_mk_hif (x) (hp : .hif ∈ ps) (h : OnlyWhere K ps s t) : OnlyWhere K ps s (State.mk t.regs t.fus t.irq t.tim t.cnt t.pel t.prt t.flx t.tbl t.buf t.sch t.pool t.sam t.key t.twn x t.chm t.tab t.jnl t.tmp t.pwr t.out t.free t.pending) :=
  frame_trans h ⟨fun _ _ => rfl, fun p n => by cases p <;> first | rfl | exact absurd hp n, rfl⟩
theorem frame_mk_chm (x) (hp : .chm ∈ ps) (h : OnlyWhere K ps s t) : OnlyWhere K ps s (State.mk t.regs t.fus t.irq t.tim t.cnt t.pel t.prt t.flx t.tbl t.buf t.sch t.pool t.sam t.key t.twn t.hif x t.tab t.jnl t.tmp t.pwr t.out t.free t.pending) :=
  frame_trans h ⟨fun _ _ => rfl, fun p n => by cases p <;> first | rfl | exact absurd hp n, rfl⟩
theorem frame_mk_tab (x) (hp : .tab ∈ ps) (h : OnlyWhere K ps s t) : OnlyWhere K ps s (State.mk t.regs t.fus t.irq t.tim t.cnt t.pel t.prt t.flx t.tbl t.buf t.sch t.pool t.sam t.key t.twn t.hif t.chm x t.jnl t.tmp t.pwr t.out t.free t.pending) :=
  frame_trans h ⟨fun _ _ => rfl, fun p n => by cases p <;> first | rfl | exact absurd hp n, rfl⟩
theorem frame_mk_jnl (x) (hp : .jnl ∈ ps) (h : OnlyWhere K ps s t) : OnlyWhere K ps s (State.mk t.regs t.fus t.irq t.tim t.cnt t.pel t.prt t.flx t.tbl t.buf t.sch t.pool t.sam t.key t.twn t.hif t.chm t.tab x t.tmp t.pwr t.out t.free t.pending) :=
  frame_trans h ⟨fun _ _ => rfl, fun p n => by cases p <;> first | rfl | exact absurd hp n, rfl⟩
theorem frame_mk_tmp (x) (hp : .tmp ∈ ps) (h : OnlyWhere K ps s t) : OnlyWhere K ps s (State.mk t.regs t.fus t.irq t.tim t.cnt t.pel t.prt t.flx t.tbl t.buf t.sch t.pool t.sam t.key t.twn t.hif t.chm t.tab t.jnl x t.pwr t.out t.free t.pending) :=
  frame_trans h ⟨fun _ _ => rfl, fun p n => by cases p <;> first | rfl | exact absurd hp n, rfl⟩
theorem frame_mk_pwr (x) (hp : .pwr ∈ ps) (h : OnlyWhere K ps s t) : OnlyWhere K ps s (State.mk t.regs t.fus t.irq t.tim t.cnt t.pel t.prt t.flx t.tbl t.buf t.sch t.pool t.sam t.key t.twn t.hif t.chm t.tab t.jnl t.tmp x t.out t.free t.pending) :=
  frame_trans h ⟨fun _ _ => rfl, fun p n => by cases p <;> first | rfl | exact absurd hp n, rfl⟩
theorem frame_mk_out (x) (hp : .out ∈ ps) (h : OnlyWhere K ps s t) : OnlyWhere K ps s (State.mk t.regs t.fus t.irq t.tim t.cnt t.pel t.prt t.flx t.tbl t.buf t.sch t.pool t.sam t.key t.twn t.hif t.chm t.tab t.jnl t.tmp t.pwr x t.free t.pending) :=
  frame_trans h ⟨fun _ _ => rfl, fun p n => by cases p <;> first | rfl | exact absurd hp n, rfl⟩
theorem frame_mk_free (x) (hp : .free ∈ ps) (h : OnlyWhere K ps s t) : OnlyWhere K ps s (State.mk t.regs t.fus t.irq t.tim t.cnt t.pel t.prt t.flx t.tbl t.buf t.sch t.pool t.sam t.key t.twn t.hif t.chm t.tab t.jnl t.tmp t.pwr t.out x t.pending) :=
  frame_trans h ⟨fun _ _ => rfl, fun p n => by cases p <;> first | rfl | exact absurd hp n, rfl⟩

theorem frame_mk_irq_out (x y) (hi : .irq ∈ ps) (ho : .out ∈ ps) (h : OnlyWhere K ps s t) :
    OnlyWhere K ps s { t with irq := x, out := y } :=
  frame_mk_out (t := { t with irq := x }) y ho (frame_mk_irq x hi h)

theorem frame_emit (o : Output) (ho : .out ∈ ps) (h : OnlyWhere K ps s t) : OnlyWhere K ps s (t.emit o) := frame_mk_out _ ho h

theorem frame_drew (hf : .free ∈ ps) (h : OnlyWhere K ps s t) : OnlyWhere K ps s t.drew := frame_mk_free _ hf h

theorem frame_refreshIrq (v : Nat) (hi : .irq ∈ ps) (ho : .out ∈ ps) (h : OnlyWhere K ps s t) :
    OnlyWhere K ps s (t.refreshIrq v) := by
  unfold State.refreshIrq
  split
  · split
    · exact h
    · exact frame_mk_irq_out _ _ hi ho h
  · exact frame_mk_irq _ hi h

theorem frame_post (k : FKey) (i : Nat) (hk : K k) (hi : .irq ∈ ps) (ho : .out ∈ ps) (h : OnlyWhere K ps s t) :
    OnlyWhere K ps s (t.post k i) := by
  unfold State.post
  dsimp only
  split
  · exact frame_refreshIrq _ hi ho (frame_set _ _ hk h)
  · exact frame_set _ _ hk h

theorem frame_clearEvents (k : FKey) (n : Nat) (hk : K k) (hi : .irq ∈ ps) (ho : .out ∈ ps) (h : OnlyWhere K ps s t) :
    OnlyWhere K ps s (t.clearEvents k n) := by
  unfold State.clearEvents
  dsimp only
  split
  · exact frame_refreshIrq _ hi ho (frame_set _ _ hk h)
  · exact frame_set _ _ hk h

theorem frame_ite (c : Prop) [Decidable c] (h : c → OnlyWhere K ps s t) (g : ¬ c → OnlyWhere K ps s u) :
    OnlyWhere K ps s (if c then t else u) := by
  split
  · exact h ‹_›
  · exact g ‹_›

/-! ### Reads after several writes -/

theorem get_sets_nil (k : FKey) : (s.sets []).get k = s.get k := rfl

theorem get_sets_cons (a : FKey × Nat) (l : List (FKey × Nat)) : s.sets (a :: l) = (s.set a.1 a.2).sets l := rfl

/-- A field that no entry of a list names reads as before. -/
theorem get_sets_other (l : List (FKey × Nat)) (k : FKey) (h : ∀ p ∈ l, p.1 ≠ k) : (s.sets l).get k = s.get k := by
  induction l generalizing s with
  | nil => rfl
  | cons a l ih =>
    rw [get_sets_cons, ih (fun p hp => h p (List.mem_cons_of_mem _ hp)),
      get_set_other _ _ (fun e => h a List.mem_cons_self e.symm)]

end Sys2Proof.Laws
end

