-- ==== Sys2Proof/Laws/PerInstr.lean ====
section
/-! SUPPORT. The families of statements made for every command. -/

namespace Sys2Proof.Laws.Requester
open Sys2Proof

/-- A well-formed command comes from one of the thirteen requesters (R125), and an event of the device from none. -/
def Statement (i : Instr) : Prop := i.wellFormed = true → ∀ who, i.requester = some who → who < 13

theorem lt_of_ok {w : Nat} (h : requesterOk w = true) : w < 13 := of_decide_eq_true h

theorem lt_of_and {w : Nat} {b : Bool} (h : (requesterOk w && b) = true) : w < 13 := lt_of_ok (Bool.and_eq_true_iff.mp h).1

theorem lt_of_and_and {w : Nat} {b c : Bool} (h : (requesterOk w && b && c) = true) : w < 13 := lt_of_and (Bool.and_eq_true_iff.mp h).1

theorem lt_of_and_and_and {w : Nat} {b c d : Bool} (h : (requesterOk w && b && c && d) = true) : w < 13 :=
  lt_of_and_and (Bool.and_eq_true_iff.mp h).1

theorem registerWrite (a0 : Nat) (a1 : Nat) (a2 : Nat) (a3 : BitVec 64) (a4 : Bytes) : Statement (.registerWrite a0 a1 a2 a3 a4) :=
  fun h _ e => Option.some.inj e ▸ lt_of_and_and h

theorem subwordWrite (a0 : Nat) (a1 : Nat) (a2 : Nat) : Statement (.subwordWrite a0 a1 a2) :=
  fun h _ e => Option.some.inj e ▸ lt_of_and_and h

theorem unmapped (a0 : Nat) (a1 : Nat) (a2 : Access) : Statement (.unmapped a0 a1 a2) :=
  fun h _ e => Option.some.inj e ▸ lt_of_and_and h

theorem load (a0 : Nat) : Statement (.load a0) :=
  fun h _ e => Option.some.inj e ▸ lt_of_ok h

theorem verificationDone (a0 : PealCopy) : Statement (.verificationDone a0) :=
  fun _ _ e => absurd e nofun

theorem armNow (a0 : Nat) (a1 : Bool) : Statement (.armNow a0 a1) :=
  fun h _ e => Option.some.inj e ▸ lt_of_ok h

theorem armAt (a0 : Nat) : Statement (.armAt a0) :=
  fun h _ e => Option.some.inj e ▸ lt_of_ok h

theorem disarm (a0 : Nat) : Statement (.disarm a0) :=
  fun h _ e => Option.some.inj e ▸ lt_of_ok h

theorem clearShadow (a0 : Nat) : Statement (.clearShadow a0) :=
  fun h _ e => Option.some.inj e ▸ lt_of_ok h

theorem advanceFloor (a0 : Nat) : Statement (.advanceFloor a0) :=
  fun h _ e => Option.some.inj e ▸ lt_of_ok h

theorem timedStrike : Statement .timedStrike :=
  fun _ _ e => absurd e nofun

theorem drainComplete : Statement .drainComplete :=
  fun _ _ e => absurd e nofun

theorem dataPlaneStart : Statement .dataPlaneStart :=
  fun _ _ e => absurd e nofun

theorem powerSequenceSlot : Statement .powerSequenceSlot :=
  fun _ _ e => absurd e nofun

theorem lossConditionDetected (a0 : Nat) (a1 : Nat) : Statement (.lossConditionDetected a0 a1) :=
  fun _ _ e => absurd e nofun

theorem lossConditionCleared (a0 : Nat) (a1 : Nat) : Statement (.lossConditionCleared a0 a1) :=
  fun _ _ e => absurd e nofun

theorem linkDown (a0 : Nat) : Statement (.linkDown a0) :=
  fun _ _ e => absurd e nofun

theorem linkUp (a0 : Nat) (a1 : Nat) (a2 : Nat) : Statement (.linkUp a0 a1 a2) :=
  fun _ _ e => absurd e nofun

theorem serdesRefLost (a0 : Nat) : Statement (.serdesRefLost a0) :=
  fun _ _ e => absurd e nofun

theorem fecDegrade (a0 : Nat) (a1 : Nat) : Statement (.fecDegrade a0 a1) :=
  fun _ _ e => absurd e nofun

theorem lpiEnter (a0 : Nat) : Statement (.lpiEnter a0) :=
  fun _ _ e => absurd e nofun

theorem lpiExit (a0 : Nat) : Statement (.lpiExit a0) :=
  fun _ _ e => absurd e nofun

theorem lpiWakeDone (a0 : Nat) : Statement (.lpiWakeDone a0) :=
  fun _ _ e => absurd e nofun

theorem frameReceived (a0 : Nat) (a1 : RxFrame) : Statement (.frameReceived a0 a1) :=
  fun _ _ e => absurd e nofun

theorem pauseRepeat (a0 : Nat) : Statement (.pauseRepeat a0) :=
  fun _ _ e => absurd e nofun

theorem pauseReceived (a0 : Nat) (a1 : Nat) : Statement (.pauseReceived a0 a1) :=
  fun _ _ e => absurd e nofun

theorem pauseExpiry (a0 : Nat) : Statement (.pauseExpiry a0) :=
  fun _ _ e => absurd e nofun

theorem schedulerMatch : Statement .schedulerMatch :=
  fun _ _ e => absurd e nofun

theorem dispatch (a0 : Nat) : Statement (.dispatch a0) :=
  fun _ _ e => absurd e nofun

theorem chunkCommit (a0 : Nat) : Statement (.chunkCommit a0) :=
  fun _ _ e => absurd e nofun

theorem engineFault (a0 : Nat) (a1 : EngineCause) : Statement (.engineFault a0 a1) :=
  fun _ _ e => absurd e nofun

theorem fence (a0 : Nat) (a1 : Nat) : Statement (.fence a0 a1) :=
  fun h _ e => Option.some.inj e ▸ lt_of_and h

theorem restore (a0 : Nat) (a1 : Nat) : Statement (.restore a0 a1) :=
  fun h _ e => Option.some.inj e ▸ lt_of_and h

theorem restoreTestsDone (a0 : Nat) (a1 : Bool) : Statement (.restoreTestsDone a0 a1) :=
  fun _ _ e => absurd e nofun

theorem engineGate (a0 : Nat) : Statement (.engineGate a0) :=
  fun _ _ e => absurd e nofun

theorem holdTimerExpiry (a0 : Nat) : Statement (.holdTimerExpiry a0) :=
  fun _ _ e => absurd e nofun

theorem overheadBlockReceived (a0 : Nat) (a1 : OhBlock) : Statement (.overheadBlockReceived a0 a1) :=
  fun _ _ e => absurd e nofun

theorem overheadFrameReceived (a0 : Nat) (a1 : OhFrame) : Statement (.overheadFrameReceived a0 a1) :=
  fun _ _ e => absurd e nofun

theorem groupDown (a0 : Nat) : Statement (.groupDown a0) :=
  fun _ _ e => absurd e nofun

theorem groupUp (a0 : Nat) : Statement (.groupUp a0) :=
  fun _ _ e => absurd e nofun

theorem txSwapped (a0 : Nat) : Statement (.txSwapped a0) :=
  fun _ _ e => absurd e nofun

theorem calSwStall (a0 : Nat) : Statement (.calSwStall a0) :=
  fun _ _ e => absurd e nofun

theorem cancel (a0 : Nat) (a1 : Nat) : Statement (.cancel a0 a1) :=
  fun h _ e => Option.some.inj e ▸ lt_of_and h

theorem retry (a0 : Nat) (a1 : Nat) : Statement (.retry a0 a1) :=
  fun h _ e => Option.some.inj e ▸ lt_of_and h

theorem secondsRollover : Statement .secondsRollover :=
  fun _ _ e => absurd e nofun

theorem macInsert (a0 : Nat) : Statement (.macInsert a0) :=
  fun h _ e => Option.some.inj e ▸ lt_of_ok h

theorem macDelete (a0 : Nat) : Statement (.macDelete a0) :=
  fun h _ e => Option.some.inj e ▸ lt_of_ok h

theorem macDump (a0 : Nat) : Statement (.macDump a0) :=
  fun h _ e => Option.some.inj e ▸ lt_of_ok h

theorem lpmAdd (a0 : Nat) : Statement (.lpmAdd a0) :=
  fun h _ e => Option.some.inj e ▸ lt_of_ok h

theorem lpmDel (a0 : Nat) : Statement (.lpmDel a0) :=
  fun h _ e => Option.some.inj e ▸ lt_of_ok h

theorem lpmDump (a0 : Nat) : Statement (.lpmDump a0) :=
  fun h _ e => Option.some.inj e ▸ lt_of_ok h

theorem lpmNodeReturn : Statement .lpmNodeReturn :=
  fun _ _ e => absurd e nofun

theorem tblLockRead (a0 : Nat) (a1 : Nat) : Statement (.tblLockRead a0 a1) :=
  fun h _ e => Option.some.inj e ▸ lt_of_and h

theorem release (a0 : Nat) (a1 : Nat) : Statement (.release a0 a1) :=
  fun h _ e => Option.some.inj e ▸ lt_of_and h

theorem renew (a0 : Nat) (a1 : Nat) : Statement (.renew a0 a1) :=
  fun h _ e => Option.some.inj e ▸ lt_of_and h

theorem lockExpired (a0 : Nat) : Statement (.lockExpired a0) :=
  fun _ _ e => absurd e nofun

theorem learnEventApply : Statement .learnEventApply :=
  fun _ _ e => absurd e nofun

theorem brushVisit : Statement .brushVisit :=
  fun _ _ e => absurd e nofun

theorem snareRecordWrite : Statement .snareRecordWrite :=
  fun _ _ e => absurd e nofun

theorem snareRingResize (a0 : Nat) (a1 : Nat) : Statement (.snareRingResize a0 a1) :=
  fun h _ e => Option.some.inj e ▸ lt_of_and h

theorem scCreate (a0 : Nat) : Statement (.scCreate a0) :=
  fun h _ e => Option.some.inj e ▸ lt_of_ok h

theorem scModify (a0 : Nat) : Statement (.scModify a0) :=
  fun h _ e => Option.some.inj e ▸ lt_of_ok h

theorem scDelete (a0 : Nat) : Statement (.scDelete a0) :=
  fun h _ e => Option.some.inj e ▸ lt_of_ok h

theorem scRead (a0 : Nat) : Statement (.scRead a0) :=
  fun h _ e => Option.some.inj e ▸ lt_of_ok h

theorem saStage (a0 : Nat) : Statement (.saStage a0) :=
  fun h _ e => Option.some.inj e ▸ lt_of_ok h

theorem saInstall (a0 : Nat) : Statement (.saInstall a0) :=
  fun h _ e => Option.some.inj e ▸ lt_of_ok h

theorem saActivate (a0 : Nat) : Statement (.saActivate a0) :=
  fun h _ e => Option.some.inj e ▸ lt_of_ok h

theorem saRetire (a0 : Nat) : Statement (.saRetire a0) :=
  fun h _ e => Option.some.inj e ▸ lt_of_ok h

theorem saDelete (a0 : Nat) : Statement (.saDelete a0) :=
  fun h _ e => Option.some.inj e ▸ lt_of_ok h

theorem saSetPn (a0 : Nat) : Statement (.saSetPn a0) :=
  fun h _ e => Option.some.inj e ▸ lt_of_ok h

theorem saSetThreshold (a0 : Nat) : Statement (.saSetThreshold a0) :=
  fun h _ e => Option.some.inj e ▸ lt_of_ok h

theorem saPin (a0 : Nat) : Statement (.saPin a0) :=
  fun h _ e => Option.some.inj e ▸ lt_of_ok h

theorem saUnpin (a0 : Nat) : Statement (.saUnpin a0) :=
  fun h _ e => Option.some.inj e ▸ lt_of_ok h

theorem saRead (a0 : Nat) : Statement (.saRead a0) :=
  fun h _ e => Option.some.inj e ▸ lt_of_ok h

theorem rollArm (a0 : Nat) : Statement (.rollArm a0) :=
  fun h _ e => Option.some.inj e ▸ lt_of_ok h

theorem rollNow (a0 : Nat) : Statement (.rollNow a0) :=
  fun h _ e => Option.some.inj e ▸ lt_of_ok h

theorem rollDisarm (a0 : Nat) : Statement (.rollDisarm a0) :=
  fun h _ e => Option.some.inj e ▸ lt_of_ok h

theorem rollTimeReached (a0 : Nat) : Statement (.rollTimeReached a0) :=
  fun _ _ e => absurd e nofun

theorem retireAtReached (a0 : Nat) : Statement (.retireAtReached a0) :=
  fun _ _ e => absurd e nofun

theorem coldFetchDone (a0 : Nat) (a1 : Bool) : Statement (.coldFetchDone a0 a1) :=
  fun _ _ e => absurd e nofun

theorem samEvqPop (a0 : Nat) : Statement (.samEvqPop a0) :=
  fun h _ e => Option.some.inj e ▸ lt_of_ok h

theorem challenge (a0 : Nat) : Statement (.challenge a0) :=
  fun h _ e => Option.some.inj e ▸ lt_of_ok h

theorem domainImport (a0 : Nat) (a1 : DomainPackage) : Statement (.domainImport a0 a1) :=
  fun h _ e => Option.some.inj e ▸ lt_of_ok h

theorem groupDerive (a0 : Nat) : Statement (.groupDerive a0) :=
  fun h _ e => Option.some.inj e ▸ lt_of_ok h

theorem cakDerive (a0 : Nat) : Statement (.cakDerive a0) :=
  fun h _ e => Option.some.inj e ▸ lt_of_ok h

theorem keyImport (a0 : Nat) : Statement (.keyImport a0) :=
  fun h _ e => Option.some.inj e ▸ lt_of_ok h

theorem keyExport (a0 : Nat) : Statement (.keyExport a0) :=
  fun h _ e => Option.some.inj e ▸ lt_of_ok h

theorem keyInvalidate (a0 : Nat) : Statement (.keyInvalidate a0) :=
  fun h _ e => Option.some.inj e ▸ lt_of_ok h

theorem sweepDone : Statement .sweepDone :=
  fun _ _ e => absurd e nofun

theorem keyRead (a0 : Nat) : Statement (.keyRead a0) :=
  fun h _ e => Option.some.inj e ▸ lt_of_ok h

theorem mkaIcv (a0 : Nat) (a1 : Bytes) : Statement (.mkaIcv a0 a1) :=
  fun h _ e => Option.some.inj e ▸ lt_of_ok h

theorem hybStart (a0 : Nat) : Statement (.hybStart a0) :=
  fun h _ e => Option.some.inj e ▸ lt_of_ok h

theorem hybRespond (a0 : Nat) (a1 : HybMsg) : Statement (.hybRespond a0 a1) :=
  fun h _ e => Option.some.inj e ▸ lt_of_ok h

theorem hybFinish (a0 : Nat) (a1 : HybMsg) : Statement (.hybFinish a0 a1) :=
  fun h _ e => Option.some.inj e ▸ lt_of_ok h

theorem hybCancel (a0 : Nat) : Statement (.hybCancel a0) :=
  fun h _ e => Option.some.inj e ▸ lt_of_ok h

theorem hybExpired (a0 : Nat) : Statement (.hybExpired a0) :=
  fun _ _ e => absurd e nofun

theorem idGet (a0 : Nat) : Statement (.idGet a0) :=
  fun h _ e => Option.some.inj e ▸ lt_of_ok h

theorem attest (a0 : Nat) : Statement (.attest a0) :=
  fun h _ e => Option.some.inj e ▸ lt_of_ok h

theorem shaperRefill : Statement .shaperRefill :=
  fun _ _ e => absurd e nofun

theorem protShaperWrite (a0 : Nat) (a1 : Nat) (a2 : Bool) (a3 : Nat) : Statement (.protShaperWrite a0 a1 a2 a3) :=
  fun h _ e => Option.some.inj e ▸ lt_of_and_and h

theorem gateEvent (a0 : Nat) : Statement (.gateEvent a0) :=
  fun _ _ e => absurd e nofun

theorem gateEnWrite (a0 : Nat) (a1 : Nat) (a2 : Bool) : Statement (.gateEnWrite a0 a1 a2) :=
  fun h _ e => Option.some.inj e ▸ lt_of_and h

theorem timIncCommit (a0 : Nat) (a1 : Nat) : Statement (.timIncCommit a0 a1) :=
  fun h _ e => Option.some.inj e ▸ lt_of_and h

theorem step (a0 : Nat) (a1 : Bool) : Statement (.step a0 a1) :=
  fun h _ e => Option.some.inj e ▸ lt_of_ok h

theorem timNowLatch (a0 : Nat) : Statement (.timNowLatch a0) :=
  fun h _ e => Option.some.inj e ▸ lt_of_ok h

theorem refLost : Statement .refLost :=
  fun _ _ e => absurd e nofun

theorem refLocked : Statement .refLocked :=
  fun _ _ e => absurd e nofun

theorem ppsOutPulse : Statement .ppsOutPulse :=
  fun _ _ e => absurd e nofun

theorem captureEdge (a0 : Nat) (a1 : Bool) : Statement (.captureEdge a0 a1) :=
  fun _ _ e => absurd e nofun

theorem timCapPop (a0 : Nat) (a1 : Nat) : Statement (.timCapPop a0 a1) :=
  fun h _ e => Option.some.inj e ▸ lt_of_and h

theorem timTxtsPop (a0 : Nat) : Statement (.timTxtsPop a0) :=
  fun h _ e => Option.some.inj e ▸ lt_of_ok h

theorem arm (a0 : Nat) (a1 : Nat) : Statement (.arm a0 a1) :=
  fun h _ e => Option.some.inj e ▸ lt_of_and h

theorem triggerDisarm (a0 : Nat) (a1 : Nat) : Statement (.triggerDisarm a0 a1) :=
  fun h _ e => Option.some.inj e ▸ lt_of_and h

theorem triggerEdge (a0 : Nat) : Statement (.triggerEdge a0) :=
  fun _ _ e => absurd e nofun

theorem ptpTxRequest (a0 : PtpRequest) : Statement (.ptpTxRequest a0) :=
  fun _ _ e => absurd e nofun

theorem hello (a0 : TwinHdr) (a1 : HelloMsg) (a2 : Nat) : Statement (.hello a0 a1 a2) :=
  fun _ _ e => absurd e nofun

theorem heartbeat (a0 : TwinHdr) (a1 : TwinState) (a2 : Bool) (a3 : Clap) : Statement (.heartbeat a0 a1 a2 a3) :=
  fun _ _ e => absurd e nofun

theorem mirror (a0 : TwinHdr) (a1 : MirrorRec) : Statement (.mirror a0 a1) :=
  fun _ _ e => absurd e nofun

theorem reserve (a0 : TwinHdr) (a1 : Nat) (a2 : Nat) : Statement (.reserve a0 a1 a2) :=
  fun _ _ e => absurd e nofun

theorem ack (a0 : TwinHdr) (a1 : Nat) : Statement (.ack a0 a1) :=
  fun _ _ e => absurd e nofun

theorem lease (a0 : TwinHdr) (a1 : LeaseKind) (a2 : Nat) (a3 : Nat) (a4 : Nat) (a5 : Bool) : Statement (.lease a0 a1 a2 a3 a4 a5) :=
  fun _ _ e => absurd e nofun

theorem role (a0 : TwinHdr) (a1 : RoleKind) : Statement (.role a0 a1) :=
  fun _ _ e => absurd e nofun

theorem sync (a0 : TwinHdr) (a1 : MirrorRec) : Statement (.sync a0 a1) :=
  fun _ _ e => absurd e nofun

theorem dual (a0 : TwinHdr) (a1 : Nat) (a2 : Nat) (a3 : Nat) (a4 : Bytes) : Statement (.dual a0 a1 a2 a3 a4) :=
  fun _ _ e => absurd e nofun

theorem notice (a0 : TwinHdr) (a1 : Nat) (a2 : Nat) : Statement (.notice a0 a1 a2) :=
  fun _ _ e => absurd e nofun

theorem twinRetransmit : Statement .twinRetransmit :=
  fun _ _ e => absurd e nofun

theorem twinLinkDown : Statement .twinLinkDown :=
  fun _ _ e => absurd e nofun

theorem helloTimer : Statement .helloTimer :=
  fun _ _ e => absurd e nofun

theorem heartbeatTimer : Statement .heartbeatTimer :=
  fun _ _ e => absurd e nofun

theorem clapperInputChange (a0 : Clap) : Statement (.clapperInputChange a0) :=
  fun _ _ e => absurd e nofun

theorem takeover : Statement .takeover :=
  fun _ _ e => absurd e nofun

theorem bulkPermit : Statement .bulkPermit :=
  fun _ _ e => absurd e nofun

theorem clapperFault : Statement .clapperFault :=
  fun _ _ e => absurd e nofun

theorem clapperFaultClear : Statement .clapperFaultClear :=
  fun _ _ e => absurd e nofun

theorem seekTimeout : Statement .seekTimeout :=
  fun _ _ e => absurd e nofun

theorem leaseRenewTimer : Statement .leaseRenewTimer :=
  fun _ _ e => absurd e nofun

theorem leaseLapsed : Statement .leaseLapsed :=
  fun _ _ e => absurd e nofun

theorem revertHoldoffExpiry : Statement .revertHoldoffExpiry :=
  fun _ _ e => absurd e nofun

theorem handoverGrant : Statement .handoverGrant :=
  fun _ _ e => absurd e nofun

theorem yield (a0 : Nat) : Statement (.yield a0) :=
  fun h _ e => Option.some.inj e ▸ lt_of_ok h

theorem take (a0 : Nat) : Statement (.take a0) :=
  fun h _ e => Option.some.inj e ▸ lt_of_ok h

theorem testEnter (a0 : Nat) : Statement (.testEnter a0) :=
  fun h _ e => Option.some.inj e ▸ lt_of_ok h

theorem testExit (a0 : Nat) : Statement (.testExit a0) :=
  fun h _ e => Option.some.inj e ▸ lt_of_ok h

theorem vfFlr (a0 : Nat) : Statement (.vfFlr a0) :=
  fun _ _ e => absurd e nofun

theorem pfFlr : Statement .pfFlr :=
  fun _ _ e => absurd e nofun

theorem pcieHotReset : Statement .pcieHotReset :=
  fun _ _ e => absurd e nofun

theorem sendDescriptorFetch (a0 : Nat) (a1 : SendChain) : Statement (.sendDescriptorFetch a0 a1) :=
  fun _ _ e => absurd e nofun

theorem puntDelivery (a0 : Nat) (a1 : List Bytes) : Statement (.puntDelivery a0 a1) :=
  fun _ _ e => absurd e nofun

theorem ringSetEnable (a0 : Nat) (a1 : Nat) (a2 : Nat) : Statement (.ringSetEnable a0 a1 a2) :=
  fun h _ e => Option.some.inj e ▸ lt_of_and_and h

theorem dmaError (a0 : Nat) : Statement (.dmaError a0) :=
  fun _ _ e => absurd e nofun

theorem ringIrqHoldoff (a0 : Nat) : Statement (.ringIrqHoldoff a0) :=
  fun _ _ e => absurd e nofun

theorem send (a0 : Nat) (a1 : Nat) (a2 : Nat) (a3 : Bool) (a4 : Nat) : Statement (.send a0 a1 a2 a3 a4) :=
  fun h _ e => Option.some.inj e ▸ lt_of_and_and_and h

theorem fullWrite (a0 : Nat) (a1 : Nat) : Statement (.fullWrite a0 a1) :=
  fun h _ e => Option.some.inj e ▸ lt_of_and h

theorem pop (a0 : Nat) (a1 : Nat) : Statement (.pop a0 a1) :=
  fun h _ e => Option.some.inj e ▸ lt_of_and h

theorem withdraw (a0 : Nat) (a1 : Nat) : Statement (.withdraw a0 a1) :=
  fun h _ e => Option.some.inj e ▸ lt_of_and h

theorem chmNoticeRead (a0 : Nat) (a1 : Nat) : Statement (.chmNoticeRead a0 a1) :=
  fun h _ e => Option.some.inj e ▸ lt_of_and h

theorem crossed (a0 : Nat) : Statement (.crossed a0) :=
  fun _ _ e => absurd e nofun

theorem credit (a0 : Byte) (a1 : Bytes) : Statement (.credit a0 a1) :=
  fun _ _ e => absurd e nofun

theorem taborBurst : Statement .taborBurst :=
  fun _ _ e => absurd e nofun

theorem taborTime : Statement .taborTime :=
  fun _ _ e => absurd e nofun

theorem taborLinkUp (a0 : Nat) : Statement (.taborLinkUp a0) :=
  fun _ _ e => absurd e nofun

theorem taborLinkDown : Statement .taborLinkDown :=
  fun _ _ e => absurd e nofun

theorem creditLost : Statement .creditLost :=
  fun _ _ e => absurd e nofun

theorem taborRefLost : Statement .taborRefLost :=
  fun _ _ e => absurd e nofun

theorem format (a0 : Nat) : Statement (.format a0) :=
  fun h _ e => Option.some.inj e ▸ lt_of_ok h

theorem read (a0 : Nat) (a1 : List Nat) : Statement (.read a0 a1) :=
  fun h _ e => Option.some.inj e ▸ lt_of_ok h

theorem flush (a0 : Nat) : Statement (.flush a0) :=
  fun h _ e => Option.some.inj e ▸ lt_of_ok h

theorem setLife (a0 : Nat) (a1 : PlanGaps) : Statement (.setLife a0 a1) :=
  fun h _ e => Option.some.inj e ▸ lt_of_ok h

theorem planNow (a0 : Nat) (a1 : PlanGaps) : Statement (.planNow a0 a1) :=
  fun h _ e => Option.some.inj e ▸ lt_of_ok h

theorem journalMount (a0 : MountScan) (a1 : PlanGaps) : Statement (.journalMount a0 a1) :=
  fun _ _ e => absurd e nofun

theorem journalRecordAccept (a0 : JClass) (a1 : Bytes) : Statement (.journalRecordAccept a0 a1) :=
  fun _ _ e => absurd e nofun

theorem journalFlushTimer : Statement .journalFlushTimer :=
  fun _ _ e => absurd e nofun

theorem programDone (a0 : Bool) (a1 : Nat) (a2 : Nat) (a3 : Option Nat) (a4 : PlanGaps) : Statement (.programDone a0 a1 a2 a3 a4) :=
  fun _ _ e => absurd e nofun

theorem patrolRead (a0 : Nat) (a1 : Nat) (a2 : Nat) (a3 : Nat) (a4 : Bool) (a5 : List Nat) (a6 : Bool) (a7 : PlanGaps) : Statement (.patrolRead a0 a1 a2 a3 a4 a5 a6 a7) :=
  fun _ _ e => absurd e nofun

theorem journalPlan (a0 : PlanGaps) : Statement (.journalPlan a0) :=
  fun _ _ e => absurd e nofun

theorem tamperAssert (a0 : List (Nat × Nat)) : Statement (.tamperAssert a0) :=
  fun _ _ e => absurd e nofun

theorem tamperClear (a0 : Nat) : Statement (.tamperClear a0) :=
  fun _ _ e => absurd e nofun

theorem soft (a0 : Nat) (a1 : Nat) : Statement (.soft a0 a1) :=
  fun h _ e => Option.some.inj e ▸ lt_of_and h

theorem releaseHold (a0 : Nat) : Statement (.releaseHold a0) :=
  fun h _ e => Option.some.inj e ▸ lt_of_ok h

theorem batteryOnly : Statement .batteryOnly :=
  fun _ _ e => absurd e nofun

theorem active (a0 : Nat) : Statement (.active a0) :=
  fun h _ e => Option.some.inj e ▸ lt_of_ok h

theorem doze (a0 : Nat) : Statement (.doze a0) :=
  fun h _ e => Option.some.inj e ▸ lt_of_ok h

theorem standby (a0 : Nat) : Statement (.standby a0) :=
  fun h _ e => Option.some.inj e ▸ lt_of_ok h

theorem hibernate (a0 : Nat) : Statement (.hibernate a0) :=
  fun h _ e => Option.some.inj e ▸ lt_of_ok h

theorem dpReset (a0 : Nat) : Statement (.dpReset a0) :=
  fun h _ e => Option.some.inj e ▸ lt_of_ok h

theorem cpReset (a0 : Nat) : Statement (.cpReset a0) :=
  fun h _ e => Option.some.inj e ▸ lt_of_ok h

theorem deviceReset (a0 : Nat) : Statement (.deviceReset a0) :=
  fun h _ e => Option.some.inj e ▸ lt_of_ok h

theorem avsPlan (a0 : Nat) (a1 : AvsInputs) : Statement (.avsPlan a0 a1) :=
  fun h _ e => Option.some.inj e ▸ lt_of_ok h

theorem recover (a0 : Nat) (a1 : BootSlot) : Statement (.recover a0 a1) :=
  fun h _ e => Option.some.inj e ▸ lt_of_ok h

theorem dataPlaneResetEnd : Statement .dataPlaneResetEnd :=
  fun _ _ e => absurd e nofun

theorem controlPlaneResetEnd : Statement .controlPlaneResetEnd :=
  fun _ _ e => absurd e nofun

theorem wake (a0 : Nat) : Statement (.wake a0) :=
  fun _ _ e => absurd e nofun

theorem resetN : Statement .resetN :=
  fun _ _ e => absurd e nofun

theorem powerOn (a0 : PowerUp) : Statement (.powerOn a0) :=
  fun _ _ e => absurd e nofun

theorem railFault (a0 : Nat) : Statement (.railFault a0) :=
  fun _ _ e => absurd e nofun

theorem boot (a0 : BootFlash) : Statement (.boot a0) :=
  fun _ _ e => absurd e nofun

theorem kick (a0 : Nat) (a1 : Nat) : Statement (.kick a0 a1) :=
  fun h _ e => Option.some.inj e ▸ lt_of_and h

theorem wdog : Statement .wdog :=
  fun _ _ e => absurd e nofun

theorem avsPlanTimer (a0 : AvsInputs) : Statement (.avsPlanTimer a0) :=
  fun _ _ e => absurd e nofun

theorem lowMargin : Statement .lowMargin :=
  fun _ _ e => absurd e nofun

theorem dbgTokenWrite (a0 : Nat) (a1 : DebugToken) : Statement (.dbgTokenWrite a0 a1) :=
  fun h _ e => Option.some.inj e ▸ lt_of_ok h

theorem cntProgSelWrite (a0 : Nat) (a1 : Nat) (a2 : Nat) : Statement (.cntProgSelWrite a0 a1 a2) :=
  fun h _ e => Option.some.inj e ▸ lt_of_and_and h

theorem rollLatch : Statement .rollLatch :=
  fun _ _ e => absurd e nofun

theorem rollDumpWritten : Statement .rollDumpWritten :=
  fun _ _ e => absurd e nofun

theorem cntSamplePop (a0 : Nat) : Statement (.cntSamplePop a0) :=
  fun h _ e => Option.some.inj e ▸ lt_of_ok h

theorem blow (a0 : Nat) : Statement (.blow a0) :=
  fun h _ e => Option.some.inj e ▸ lt_of_ok h

theorem pcieLinkUp (a0 : Nat) (a1 : Nat) : Statement (.pcieLinkUp a0 a1) :=
  fun _ _ e => absurd e nofun

theorem eraseDone (a0 : Bool) (a1 : Nat) (a2 : Option Nat) (a3 : PlanGaps) : Statement (.eraseDone a0 a1 a2 a3) :=
  fun _ _ e => absurd e nofun

end Sys2Proof.Laws.Requester
end

