-- ==== Sys2Proof/Tests/Slice0.lean ====
section
/-! SUPPORT. Tests: commands that the well-formedness checks refuse, single steps with the results that the spec gives
them, and for every statement with premises a state that meets them. -/

namespace Sys2Proof.Tests
open Sys2Proof Sys2Proof.Machine

set_option Elab.async false

/-! ### A state to start from -/

/-- A FlexE group of one 400G PHY with one client of two slots. -/
def gr : FlexGroup :=
  { index := 0, number := 7, phyPorts := [1], instances := [(4, 1)], clients := [⟨64, 5, 0, false⟩]
    txA := [some 64, some 64], txB := [none, some 64], rxA := [some 64, some 64], rxB := [none, some 64] }

/-- An image from its sections. -/
def image (l : List SectionBody) : Image :=
  { magic := 0, format := 1, headerLen := 0, imageLen := 0, variantMask := 7, signerSlot := 0, svn := 1, flags := 0, imageId := 0
    buildTime := 0, sectionCount := l.length, tableOffset := 0, sigOffset := 0
    entries := l.map (fun b => { typ := 1, offset := 0, length := 0, digest := 0, bytes := [], body := b })
    sig := ⟨0, 0, 0, 0, 0, 0⟩, digest := 0 }

/-- Client channels 0 to 3, line channel 32, and the FlexE PHY of line port 1 with client channel 64. -/
def plain : Image :=
  image [.portMap [⟨false, 0, .m4x10, .none, 0, 0, [0]⟩, ⟨true, 0, .m1x400, .rs544, 0, 0, []⟩, ⟨true, 1, .flexe400, .rs544, 0, 0, []⟩],
    .flexe [gr], .tamper { masks := [(1, 0x13), (2, 0x23)] }]

/-- The same with a preferred twin that mirrors line channel 32 and keeps a stream on SC 3. -/
def paired : Image :=
  { plain with entries := plain.entries ++
      [{ typ := 1, offset := 0, length := 0, digest := 0, bytes := [], body := .twin { role := .preferred, channels := [32], streams := [⟨5, 3, 0⟩] } }] }

/-- The device in ACTIVE with an image in its Active bank. -/
def awake (g : Image := plain) : State :=
  { State.reset with pel := { active := some g, struck := true }, pwr := { state := .active, goal := none, booted := true } }

/-- The device in ACTIVE with fields of registers set. -/
def on (l : List (FKey × Nat)) (g : Image := plain) : State := (awake g).sets l

/-- A frame of 64 bytes to line channel 32. -/
def frame : Frame := { id := 1, inPort := 0, bytes := List.replicate 64 0, len := 64, outCh := 32, queue := 256, cellsMin := 1 }

/-- Queue 263 holds a frame of as many cells as its minimum. -/
def minUsed : Buffer := { queues := [(263, [{ frame with queue := 263, cellsMin := 32 }])] }

/-- A MAC partition of eight entries. -/
def small : Image := { plain with entries := plain.entries ++ (image [.tables { mac := 8 }]).entries }

/-- The FlexE group with its client in transit, and an image of it. -/
def through : FlexGroup := { gr with clients := [⟨64, 5, 0, true⟩] }

def passing : Image :=
  image [.portMap [⟨true, 1, .flexe400, .rs544, 0, 0, []⟩], .flexe [through]]

/-- An image without an on-die store. -/
def full : Image := { plain with entries := plain.entries ++ (image [.tables { saStore := 0 }]).entries }

/-- A twin that seeks its peer with the domain key of the link in its slot. -/
def keyed : State := { on [(F.TWN_STATUS_STATE, 1)] paired with key := { domain := [(0, { state := .valid })] } }

/-- The arguments of SC_CREATE for receive SC 9 on line channel 32 are in place. -/
def opening : State := on [(F.SAM_ARG_ARG 0, 4259849), (F.SAM_ARG_ARG 1, 1024)]

/-- The arguments of SA_STAGE with a plaintext key for SA 9 are in place. -/
def staging : State := { (on [(F.SAM_ARG_ARG 0, 9), (F.SAM_ARG_ARG 1, 8), (F.SAM_ARG_ARG 6, 1)]).sets [(F.PWR_STATUS_DEBUG_UNLOCKED, 1)] with key := { domain := [(0, { state := .valid })], cak := [(0, { state := .valid })] } }

/-- A send descriptor of 64 bytes: its FLAGS, CLASS with ACTION, CHANNEL and the top byte of its launch time. -/
def desc (flags ca ch : Byte) (lt : Byte := 0) : Bytes :=
  List.replicate 8 0 ++ [64, 0, flags, ca, ch, 0, 0, 0, 0, 0, 0, lt] ++ List.replicate 12 0

/-- Four dies of one plane and 12 blocks of 3 pages of 4 KiB; segments 8 to 11 make up the log area. -/
def nand : Journal :=
  { pop := some ⟨4, 512, 4, 1, 12, 3⟩, sys := (List.range 4).flatMap (fun p => (List.range 8).map (fun g => p * 12 + g))
    free := [8, 9, 10, 11], atFormat := 16 }

/-- An entry of a key not listed is the default. -/
theorem get_unlisted {α : Type} (d : α) (k : Nat) : (t : NTab α) → (∀ p ∈ t, p.1 ≠ k) → Tab.get t d k = d
  | [], _ => rfl
  | (k', _) :: r, h => by
    have h' : k ≠ k' := fun e => h _ (List.mem_cons_self ..) e.symm
    simp only [Tab.get, if_neg h', get_unlisted d k r fun p hp => h p (List.mem_cons_of_mem _ hp)]

/-- No roll is due where none of the listed SCs has one. -/
theorem none_due (s : State) (h : s.sam.sc.all (fun p => !s.rollDue p.1) = true) (k : Nat) : s.rollDue k = false := by
  by_cases hk : ∀ p ∈ s.sam.sc, p.1 ≠ k
  · have : s.sc k = {} := get_unlisted _ _ _ hk
    simp [State.rollDue, this]
  · obtain ⟨p, hp⟩ := Classical.not_forall.1 hk
    obtain ⟨hm, he⟩ := Classical.not_imp.1 hp
    simpa [Classical.not_not.1 he] using List.all_eq_true.1 h p hm

/-- The SA manager takes a command at once. -/
theorem ready (s : State) (who : Nat) (h : s.sam.sc.all (fun p => !s.rollDue p.1) = true)
    (h' : s.pwr.cpReset = false ∧ s.sam.onDie.length ≤ s.storeSize ∧ s.rollNowWaits = false ∧ s.samRunning who = false ∧
      who ∉ s.sam.flr) : SamReady s who :=
  ⟨h'.1, none_due s h, h'.2⟩

/-- Chains that stay within entries none of which is free end nowhere. -/
theorem cuckoo_closed (cands : Nat → List Nat) (free : Nat → Bool) (l : List Nat)
    (h : ∀ e ∈ l, free e = false ∧ ∀ x ∈ cands e, x ∈ l) : ∀ d starts, (∀ e ∈ starts, e ∈ l) →
    cuckooChain cands free d starts = none
  | 0, starts, hs => by
    simp only [cuckooChain, Option.map_eq_none_iff, List.find?_eq_none]
    intro e he
    simp [(h e (hs e he)).1]
  | d + 1, starts, hs => by
    simp only [cuckooChain, List.findSome?_eq_none_iff, Option.map_eq_none_iff]
    exact fun e he => cuckoo_closed cands free l h d _ (h e (hs e he)).2

theorem full_closed (s : State) (e : MacEntry) (l : List Nat)
    (h : ∀ i ∈ l, (!(s.macEntry i).valid) = false ∧ ∀ x ∈ s.macCands (s.macEntry i).bd (s.macEntry i).mac, x ∈ l)
    (hs : ∀ i ∈ s.macCands e.bd e.mac, i ∈ l) : s.macPlace e = none := by
  simp only [State.macPlace, cuckooPlace, Option.map_eq_none_iff, List.findSome?_eq_none_iff]
  exact fun d _ => cuckoo_closed _ _ l h d _ hs

/-- A header of node 9 whose check value is right for a message. -/
def hdr (s : State) (seq : Nat) (m : TwinMsg) (epoch : Nat := 0) : TwinHdr :=
  ⟨epoch, 9, seq, s.twinIcv 9 s.ownNode epoch seq m⟩

theorem hdr_auth (s : State) (seq : Nat) (m : TwinMsg) (e : Nat) : s.twinAuth (hdr s seq m e) m = true := decide_eq_true rfl

/-! ### The premises of the statements -/


/-- States that meet the premises of `StepRunsFrontCommand`. -/
theorem met_StepRunsFrontCommand :
    (∃ (s : State) (c : Instr) (rest : List Instr), s.pending = c :: rest) := by
  · refine ⟨{ awake with pending := [.takeover] }, .takeover, [], ?_⟩
    repeat' apply And.intro
    all_goals decide +kernel

/-- States that meet the premises of `WellFormedCommandsComplete`. -/
theorem met_WellFormedCommandsComplete :
    (∃ (c : Instr), c.wellFormed = true) ∧
    (∃ (who : Nat), 13 ≤ who) := by
  refine ⟨?_, ?_⟩
  · refine ⟨.takeover, ?_⟩
    repeat' apply And.intro
    all_goals decide +kernel
  · refine ⟨13, ?_⟩
    repeat' apply And.intro
    all_goals decide +kernel

/-- States that meet the premises of `LoadStartsOrIsRejected`. -/
theorem met_LoadStartsOrIsRejected :
    (∃ (who : Nat) (s : State), (who ≤ 4) ∧ (s.pwr.cpReset = false) ∧ ((s.get F.PEL_LOAD_LEN_LEN = 0 ∨ 8388608 < s.get
      F.PEL_LOAD_LEN_LEN ∨ s.loadAddr % 4096 ≠ 0))) ∧
    (∃ (who : Nat) (s : State), (who ≤ 4) ∧ (s.pwr.cpReset = false) ∧ (¬ (s.get F.PEL_LOAD_LEN_LEN = 0 ∨ 8388608 <
      s.get F.PEL_LOAD_LEN_LEN ∨ s.loadAddr % 4096 ≠ 0)) ∧ (s.get F.PEL_STATUS_SHADOW = 0)) := by
  refine ⟨?_, ?_⟩
  · refine ⟨4, awake, ?_⟩
    repeat' apply And.intro
    all_goals decide +kernel
  · refine ⟨0, on [(F.PEL_LOAD_LEN_LEN, 8388608), (F.PEL_LOAD_ADDR_LO_ADDR, 4096)], ?_⟩
    repeat' apply And.intro
    all_goals decide +kernel

/-- States that meet the premises of `VerificationAndBankCommands`. -/
theorem met_VerificationAndBankCommands :
    (∃ (s : State), s.get F.PEL_STATUS_SHADOW = 1) ∧
    (∃ (who : Nat) (s : State), (who ≤ 4) ∧ (s.pwr.cpReset = false) ∧ (s.get F.PEL_STATUS_SHADOW = 2) ∧ (s.roleBarred
      = false) ∧ (s.get F.PEL_STRIKE_NS_NS ≤ 999999999)) ∧
    (∃ (who : Nat) (s : State), (who ≤ 4) ∧ (s.pwr.cpReset = false) ∧ (s.get F.PEL_STATUS_SHADOW = 3) ∧ (s.nowNs <
      s.pel.armAt)) ∧
    (∃ (who : Nat) (s : State) (g : _), (who ≤ 4) ∧ (s.pwr.cpReset = false) ∧ (s.pel.active = some g) ∧ (s.fus.floor <
      g.svn)) ∧
    (∃ (who : Nat) (s : State) (g : _), (who ≤ 4) ∧ (s.pwr.cpReset = false) ∧ (s.pel.active = some g) ∧ (g.svn ≤
      s.fus.floor)) ∧
    (∃ (who : Nat) (s : State), (who ≤ 4) ∧ (s.pwr.cpReset = false) ∧ (s.get F.PEL_STATUS_SHADOW = 4) ∧ (s.oldFrames =
      false)) := by
  refine ⟨?_, ?_, ?_, ?_, ?_, ?_⟩
  · refine ⟨on [(F.PEL_STATUS_SHADOW, 1)], ?_⟩
    repeat' apply And.intro
    all_goals decide +kernel
  · refine ⟨4, on [(F.PEL_STATUS_SHADOW, 2), (F.PEL_STRIKE_NS_NS, 999999999)], ?_⟩
    repeat' apply And.intro
    all_goals decide +kernel
  · refine ⟨0, { on [(F.PEL_STATUS_SHADOW, 3)] with pel := { armAt := 1 } }, ?_⟩
    repeat' apply And.intro
    all_goals decide +kernel
  · refine ⟨0, awake, plain, ?_⟩
    repeat' apply And.intro
    all_goals decide +kernel
  · refine ⟨0, { awake with fus := { floor := 1 } }, plain, ?_⟩
    repeat' apply And.intro
    all_goals decide +kernel
  · refine ⟨0, on [(F.PEL_STATUS_SHADOW, 4)], ?_⟩
    repeat' apply And.intro
    all_goals decide +kernel

/-- States that meet the premises of `StrikeExchangesTheBanks`. -/
theorem met_StrikeExchangesTheBanks :
    (∃ (who : Nat) (g : Image) (s : State), (who ≤ 4) ∧ (s.pel.shadow = some g) ∧ ((∀ r ∈ imgRegInit g, s.regInitOk g
      (imgRegInit g) r = true)) ∧ (s.tmp.pend = 0) ∧ (s.pwr.cpReset = false) ∧ (s.get F.PEL_STATUS_SHADOW = 2) ∧
      (s.roleBarred = false)) ∧
    (∃ (who : Nat) (g : Image) (s : State), (who ≤ 4) ∧ (s.pel.shadow = some g) ∧ ((∀ r ∈ imgRegInit g, s.regInitOk g
      (imgRegInit g) r = true)) ∧ (s.tmp.pend = 0) ∧ (s.get F.PEL_STATUS_SHADOW = 3) ∧ (s.pel.armAt ≤ s.nowNs) ∧
      (s.pwr.dpReset = false)) := by
  refine ⟨?_, ?_⟩
  · refine ⟨0, plain, { on [(F.PEL_STATUS_SHADOW, 2)] with pel := { active := some plain, shadow := some plain } },
    ?_⟩
    repeat' apply And.intro
    all_goals decide +kernel
  · refine ⟨0, plain, { on [(F.PEL_STATUS_SHADOW, 3)] with pel := { active := some plain, shadow := some plain } },
    ?_⟩
    repeat' apply And.intro
    all_goals decide +kernel

/-- States that meet the premises of `RegisterWriteStoresItsFields`. -/
theorem met_RegisterWriteStoresItsFields :
    (∃ (who off : Nat) (val : BitVec 64) (s : State) (p : Place), (Reaches who off s p) ∧ (p.row.reg ∉ operationRegs)
      ∧ (p.row.reg ∉ furtherRegs) ∧ (s.forbids who p (val.toNat % 2 ^ 32) = false)) ∧
    (∃ (who off : Nat) (val : BitVec 64) (dma : Bytes) (s t : State), (who < 13) ∧ (off % 8 = 0) ∧ (off + 8 ≤
      bar0Bytes who) ∧ (exec (.registerWrite who off 4 (BitVec.ofNat 64 (val.toNat % 2 ^ 32)) dma) s = .next t)) := by
  refine ⟨?_, ?_⟩
  · refine ⟨4, 32, 7, awake, ⟨⟨.TOP_SCRATCH, 0, 32, 0, 1, 1, 0, [⟨0, 32, .rw, 0⟩]⟩, 0⟩, ?_⟩
    repeat' apply And.intro
    all_goals decide +kernel
  · exact ⟨4, 32, 0, [], awake, _, by decide, by decide, by decide, rfl⟩

/-- States that meet the premises of `AbsentUnitRegisters`. -/
theorem met_AbsentUnitRegisters :
    (∃ (who off : Nat) (s : State) (p : Place) (size b : _), (who < 13) ∧ (off % 4 = 0) ∧ (off + 4 ≤ bar0Bytes who) ∧
      (targetOf who off = .reg p) ∧ (unitAbsent s.fus.variant p = true) ∧ (size = 1 ∨ size = 2) ∧ (b % size = 0) ∧
      (off ≤ b) ∧ (b + size ≤ off + 4)) := by
  · refine ⟨4, 0xC0000, { awake with fus := { variant := .gd1610 } }, ⟨⟨.FLX_STATUS, 3, 0, 0, 1, 1, 0, [⟨0, 1, .w1c,
    0⟩]⟩, 0⟩, 1, 0xC0003, ?_⟩
    repeat' apply And.intro
    all_goals decide +kernel

/-- States that meet the premises of `AccessesThatAreTurnedAway`. -/
theorem met_AccessesThatAreTurnedAway :
    (∃ (who off : Nat) (s : State) (size : Nat), (who < 13) ∧ (s.absentAt who off = false) ∧ (size ∈ [1, 2, 4, 8]) ∧
      (off + size ≤ bar0Bytes who) ∧ (NoRegister who off size)) ∧
    (∃ (who off : Nat) (s : State) (size : Nat), (who < 13) ∧ (s.absentAt who off = false) ∧ (off + size ≤ bar0Bytes
      who) ∧ (off % size ≠ 0) ∧ (size = 4 ∨ size = 8)) ∧
    (∃ (who off : Nat) (s : State) (size : Nat), (who < 13) ∧ (s.absentAt who off = false) ∧ (off + size ≤ bar0Bytes
      who) ∧ (off % size ≠ 0) ∧ (size = 2)) ∧
    (∃ (who off : Nat) (s : State), (who < 13) ∧ (s.absentAt who off = false) ∧ (off + 4 ≤ bar0Bytes who) ∧ (off % 4 =
      0) ∧ (targetOf who off = .unmapped)) ∧
    (∃ (who off : Nat) (s : State) (size : Nat), (who < 13) ∧ (s.absentAt who off = true) ∧ (size ∈ [1, 2, 4, 8]) ∧
      (off + size ≤ bar0Bytes who) ∧ (NoRegister who off size)) ∧
    (∃ (who off : Nat) (size : Nat), (who < 13) ∧ (off + 8 ≤ bar2Bytes who) ∧ (size = 4 ∨ size = 8)) ∧
    (∃ (who off : Nat), (who < 13) ∧ (off + 8 ≤ bar2Bytes who) ∧ (off % 8 = 0)) ∧
    (∃ (who off : Nat) (p : _), (who < 13) ∧ (off % 4 = 0) ∧ (off + 4 ≤ bar0Bytes who) ∧ (targetOf who off = .reg p)) ∧
    (∃ (who off size : Nat) (s : State) (p : Place), (who < 13) ∧ (size = 1 ∨ size = 2) ∧ (off % size = 0) ∧ (off +
      size ≤ bar0Bytes who) ∧ (targetOf who (off / 4 * 4) = .reg p) ∧ (unitAbsent s.fus.variant p = false) ∧
      (p.row.reg ≠ .CHM_OUT_DATA) ∧ (p.row.reg ≠ .CHM_OUT_SEND)) ∧
    (∃ (who off : Nat) (val : BitVec 64) (s : State) (p : Place), (Reaches who off s p) ∧ (p.row.reg ∉ operationRegs)
      ∧ (s.forbids who p (val.toNat % 2 ^ 32) = true)) := by
  refine ⟨?_, ?_, ?_, ?_, ?_, ?_, ?_, ?_, ?_, ?_⟩
  · refine ⟨4, 0x580000, awake, 4, ?_⟩
    repeat' apply And.intro
    all_goals first | decide +kernel | (unfold NoRegister; decide +kernel)
  · refine ⟨4, 0x1FFFFF7, awake, 8, ?_⟩
    repeat' apply And.intro
    all_goals decide +kernel
  · refine ⟨5, 0x3FFFD, awake, 2, ?_⟩
    repeat' apply And.intro
    all_goals decide +kernel
  · refine ⟨4, 0x580000, awake, ?_⟩
    repeat' apply And.intro
    all_goals decide +kernel
  · refine ⟨4, 0xC0001, { awake with fus := { variant := .gd1610 } }, 4, ?_⟩
    repeat' apply And.intro
    all_goals first | decide +kernel | (unfold NoRegister; decide +kernel)
  · refine ⟨4, 0xFFFFF8, 4, ?_⟩
    repeat' apply And.intro
    all_goals decide +kernel
  · refine ⟨4, 0xFFFFF8, ?_⟩
    repeat' apply And.intro
    all_goals decide +kernel
  · refine ⟨4, 32, ⟨⟨.TOP_SCRATCH, 0, 32, 0, 1, 1, 0, [⟨0, 32, .rw, 0⟩]⟩, 0⟩, ?_⟩
    repeat' apply And.intro
    all_goals decide +kernel
  · refine ⟨4, 33, 1, awake, ⟨⟨.TOP_SCRATCH, 0, 32, 0, 1, 1, 0, [⟨0, 32, .rw, 0⟩]⟩, 0⟩, ?_⟩
    repeat' apply And.intro
    all_goals decide +kernel
  · refine ⟨4, 0x80000 + 4100, 1001, awake, ⟨⟨.PRT_EP_TIMERS, 2, 4100, 64, 192, 1, 0, [⟨0, 10, .rw, 0⟩, ⟨10, 6, .rw,
    0⟩, ⟨16, 10, .rw, 10⟩]⟩, 0⟩, ?_⟩
    repeat' apply And.intro
    all_goals decide +kernel

/-- States that meet the premises of `LossesAndLinkState`. -/
theorem met_LossesAndLinkState :
    (∃ (l kind : Nat) (s : State), (s.hasPort l = true) ∧ (kind < 4) ∧ (kind ∉ s.losses l) ∧ (s.get
      (F.PRT_EP_TIMERS_DOWN_HOLDOFF l) ≠ 0)) ∧
    (∃ (ch : Nat) (s : State), (s.bound ch = true) ∧ (ch < 64) ∧ (s.losses ch ≠ []) ∧ (s.get (F.PRT_EP_STATUS_LINK_UP
      ch) = 1)) ∧
    (∃ (ch : Nat) (s : State), (s.bound ch = true) ∧ (ch < 64) ∧ (s.losses ch = []) ∧ (s.dataUp = true) ∧ (s.unitOff
      (16 + ch / 4) = false) ∧ (s.get (F.PRT_EP_STATUS_LINK_UP ch) = 0)) := by
  refine ⟨?_, ?_, ?_⟩
  · refine ⟨36, 3, on [(F.PRT_EP_TIMERS_DOWN_HOLDOFF 36, 1)], ?_⟩
    repeat' apply And.intro
    all_goals decide +kernel
  · refine ⟨32, { on [(F.PRT_EP_STATUS_LINK_UP 32, 1)] with prt := { loss := [(32, [0])] } }, ?_⟩
    repeat' apply And.intro
    all_goals decide +kernel
  · refine ⟨3, awake, ?_⟩
    repeat' apply And.intro
    all_goals decide +kernel

/-- States that meet the premises of `IdleFecAndSerdesReference`. -/
theorem met_IdleFecAndSerdesReference :
    (∃ (ch : Nat) (s : State), (s.get (F.PRT_EP_CFG_LPI_EN ch) = 1) ∧ (s.get (F.PRT_EP_STATUS_LINK_UP ch) = 1) ∧
      (s.get (F.PRT_EP_STATUS_LPI_TX ch) = 0) ∧ (s.channelIdle ch = true)) ∧
    (∃ (ch : Nat) (s : State), (s.get (F.PRT_EP_STATUS_LPI_TX ch) = 1) ∧ (s.channelIdle ch = false)) ∧
    (∃ (ch : Nat) (s : State) (symbols : _), (s.bound ch = true) ∧ (ch < 64) ∧ (s.get (F.PRT_EP_TIMERS_SER_LIMIT ch) ≠
      0) ∧ (s.get (F.PRT_EP_TIMERS_SER_LIMIT ch) * 1000 < symbols)) ∧
    (∃ (grp : Nat), grp < 4) := by
  refine ⟨?_, ?_, ?_, ?_⟩
  · refine ⟨0, on [(F.PRT_EP_CFG_LPI_EN 0, 1), (F.PRT_EP_STATUS_LINK_UP 0, 1)], ?_⟩
    repeat' apply And.intro
    all_goals decide +kernel
  · refine ⟨32, { on [(F.PRT_EP_STATUS_LPI_TX 32, 1)] with buf := { queues := [(256, [frame])] } }, ?_⟩
    repeat' apply And.intro
    all_goals decide +kernel
  · refine ⟨0, on [(F.PRT_EP_TIMERS_SER_LIMIT 0, 1)], 1001, ?_⟩
    repeat' apply And.intro
    all_goals decide +kernel
  · refine ⟨3, ?_⟩
    repeat' apply And.intro
    all_goals decide +kernel

/-- States that meet the premises of `ReceivedFramesPausesAndHolds`. -/
theorem met_ReceivedFramesPausesAndHolds :
    (∃ (ch : Nat) (g : Image) (s : State), (s.planeOn = true) ∧ (s.pel.active = some g) ∧ (imgBinds g ch = true) ∧ (ch
      < 192) ∧ (s.get (F.PRT_EP_STATUS_LINK_UP ch) = 1) ∧ (s.losses ch = []) ∧ ((clientOf g ch = none ∨ ∃ (gr :
      FlexGroup) (c : FlexClient), clientOf g ch = some (gr, c) ∧ c.transit = false ∧ s.takesClient gr ch = true ∧
      s.groupBad gr = false))) ∧
    (∃ (ch : Nat) (f : RxFrame) (g : Image) (s : State), (s.planeOn = true) ∧ (s.pel.active = some g) ∧ (imgBinds g ch
      = true) ∧ (ch < 192) ∧ (s.get (F.PRT_EP_STATUS_LINK_UP ch) = 0) ∧ (clientOf g ch = none) ∧ (f.fcsOk = true) ∧
      (f.fecOk = true)) ∧
    (∃ (ch : Nat) (g : Image) (s : State) (gr : FlexGroup) (c : FlexClient), (s.planeOn = true) ∧ (s.pel.active = some
      g) ∧ (imgBinds g ch = true) ∧ (ch < 192) ∧ (clientOf g ch = some (gr, c)) ∧ (s.takesClient gr ch = false)) ∧
    (∃ (ch : Nat) (g : Image) (s : State) (gr : FlexGroup) (c : FlexClient) (out : FlexGroup), (s.planeOn = true) ∧
      (s.pel.active = some g) ∧ (imgBinds g ch = true) ∧ (ch < 192) ∧ (clientOf g ch = some (gr, c)) ∧ (s.takesClient
      gr ch = true) ∧ (s.groupBad gr = false) ∧ (c.transit = true) ∧ (s.get (F.PRT_EP_STATUS_LINK_UP ch) = 1) ∧
      (s.flexGroup c.txGroup = some out) ∧ (s.sendsClient out ch = true)) ∧
    (∃ (ch : Nat) (s : State), (s.get (F.SWC_CH_STATUS_XOFF_SENT ch) = 1) ∧ (s.get (F.SWC_CH_CFG_PAUSE_TX_EN ch) = 1)) ∧
    (∃ (ch : Nat) (s : State), (s.bound ch = true) ∧ (ch < 64) ∧ (s.get (F.SWC_CH_CFG_PAUSE_RX_EN ch) = 1)) ∧
    (∃ (q : Nat) (s : State), s.get (F.SWC_Q_STATUS_STATE q) = 2) := by
  refine ⟨?_, ?_, ?_, ?_, ?_, ?_, ?_⟩
  · refine ⟨32, plain, on [(F.PRT_EP_STATUS_LINK_UP 32, 1)], ?_⟩
    repeat' apply And.intro
    all_goals first | decide +kernel | exact .inl (by decide +kernel) | exact .inr ⟨_, _, rfl, by decide +kernel⟩
  · refine ⟨32, { bytes := [] }, plain, awake, ?_⟩
    repeat' apply And.intro
    all_goals decide +kernel
  · refine ⟨64, plain, awake, gr, ⟨64, 5, 0, false⟩, ?_⟩
    repeat' apply And.intro
    all_goals decide +kernel
  · refine ⟨64, passing,
    { on [(F.PRT_EP_STATUS_LINK_UP 64, 1)] passing with flx := { grp := [(0, { rxA := [some 64], txA := [some 64] })] }, prt := { phyUp := [36] } },
    through, ⟨64, 5, 0, true⟩, through, ?_⟩
    repeat' apply And.intro
    all_goals decide +kernel
  · refine ⟨0, on [(F.SWC_CH_STATUS_XOFF_SENT 0, 1), (F.SWC_CH_CFG_PAUSE_TX_EN 0, 1)], ?_⟩
    repeat' apply And.intro
    all_goals decide +kernel
  · refine ⟨0, on [(F.SWC_CH_CFG_PAUSE_RX_EN 0, 1)], ?_⟩
    repeat' apply And.intro
    all_goals decide +kernel
  · refine ⟨5, on [(F.SWC_Q_STATUS_STATE 5, 2)], ?_⟩
    repeat' apply And.intro
    all_goals decide +kernel

/-- States that meet the premises of `GeneratedMessagesAreQueued`. -/
theorem met_GeneratedMessagesAreQueued :
    (∃ (r : PtpRequest) (s : State), (s.bound r.channel = true) ∧ (r.channel < 192) ∧ (r.cls < 8) ∧ (r.action = 1) ∧
      (r.launch = none) ∧ (s.twin? = none) ∧ (lineSide r.channel = false ∨ s.get (F.CLS_CH_CFG_CLEAR_OK r.channel) =
      1) ∧ (s.qState (8 * r.channel + r.cls) ≠ 0) ∧ (s.qState (8 * r.channel + r.cls) ≠ 3) ∧ (s.withinMax (8 *
      r.channel + r.cls) = true) ∧ (s.belowMin (8 * r.channel + r.cls) = false) ∧ (s.belowAlpha (8 * r.channel +
      r.cls) = true) ∧ (0 < s.sharedFree)) := by
  · refine ⟨{ channel := 32, cls := 7, action := 1, sc := 0, message := [] },
    { on [(F.CLS_CH_CFG_CLEAR_OK 32, 1), (F.SWC_Q_STATUS_STATE 263, 1), (F.SWC_Q_CFG_ALPHA 263, 9)] with buf := minUsed },
    ?_⟩
    repeat' apply And.intro
    all_goals decide +kernel

/-- States that meet the premises of `DispatchAndCommit`. -/
theorem met_DispatchAndCommit :
    (∃ (q : Nat) (f : Frame) (rest : List Frame) (s : State), (s.get F.TMP_STATUS_HOLD = 0) ∧ (q < 1536) ∧ (f.outCh =
      q / 8) ∧ ((∀ x ∈ s.pool.slots, x.ch = q / 8 → x.engine ≠ none ∨ x.dropped = true)) ∧ (s.queue q = f :: rest) ∧
      (q ∈ s.buf.ready) ∧ (f.action ≠ .protect) ∧ (s.twin? = none) ∧ (s.inflightOpen f.outCh = true) ∧ (s.bypassFrames
      < 256)) ∧
    (∃ (q e : Nat) (f : Frame) (rest : List Frame) (s : State) (k a : _), (s.get F.TMP_STATUS_HOLD = 0) ∧ (q < 1536) ∧
      (f.outCh = q / 8) ∧ ((∀ x ∈ s.pool.slots, x.ch = q / 8 → x.engine ≠ none ∨ x.dropped = true)) ∧ (s.queue q = f
      :: rest) ∧ (q ∈ s.buf.ready) ∧ (f.action = .protect) ∧ (f.sc = some k) ∧ (f.secTag = none) ∧ (s.twin? = none) ∧
      (s.inflightOpen f.outCh = true) ∧ (s.chooseEngine f.cls = some e) ∧ ((s.sc k).created = true) ∧ ((s.sc k).enable
      = true) ∧ ((s.sc k).rollMode = 0) ∧ ((s.sc k).twinTagged = false) ∧ ((s.sc k).current = some a) ∧ (s.saState a ≠
      .orphaned) ∧ ((s.sa a).exhausted = false) ∧ ((s.sa a).nextPn ≤ suiteMax (s.sa a).suite) ∧ ((s.sa a).nextPn ≤
      (s.sa a).blockEnd)) ∧
    (∃ (q e : Nat) (f : Frame) (rest : List Frame) (s : State) (u : _), (s.get F.TMP_STATUS_HOLD = 0) ∧ (q < 1536) ∧
      (f.outCh = q / 8) ∧ ((∀ x ∈ s.pool.slots, x.ch = q / 8 → x.engine ≠ none ∨ x.dropped = true)) ∧ (s.queue q = f
      :: rest) ∧ (q ∈ s.buf.ready) ∧ (s.frameGate f = .go u) ∧ (u.inflightOpen f.outCh = true) ∧ (u.laneFor f = some
      e)) ∧
    (∃ (p : Nat) (x : Slot) (s : State), (s.pool.slots.find? (fun t => t.engine = some p) = some x) ∧ (s.losses x.ch =
      []) ∧ (x.dsn ≠ s.commitDsn x.ch)) ∧
    (∃ (p : Nat) (x : Slot) (s : State), (s.pool.slots.find? (fun t => t.engine = some p) = some x) ∧ (s.losses x.ch =
      []) ∧ (x.dsn = s.commitDsn x.ch) ∧ (x.committed = 0) ∧ (1 < x.chunks) ∧ (x.opened = none) ∧ (x.frame.ptp = none)
      ∧ (s.get (F.SEQ_CH_PROT_TC_EN x.ch) = 0)) ∧
    (∃ (p : Nat) (x : Slot) (s : State), (s.pool.slots.find? (fun t => t.engine = some p) = some x) ∧ (s.losses x.ch =
      []) ∧ (x.dsn = s.commitDsn x.ch) ∧ (0 < x.committed) ∧ (x.committed + 1 < x.chunks)) ∧
    (∃ (p : Nat) (x : Slot) (s : State), (s.pool.slots.find? (fun t => t.engine = some p) = some x) ∧ (s.losses x.ch =
      []) ∧ (x.dsn = s.commitDsn x.ch) ∧ (0 < x.committed) ∧ (x.chunks ≤ x.committed + 1)) := by
  refine ⟨?_, ?_, ?_, ?_, ?_, ?_, ?_⟩
  · refine ⟨256, frame, [],
    { on [(F.PRT_EP_STATUS_LINK_UP 32, 1), (F.SWC_Q_STATUS_STATE 256, 1), (F.SEQ_CFG_INFLIGHT_NS, 2000)] with buf := { queues := [(256, [frame])], ready := [256] } },
    ?_⟩
    repeat' apply And.intro
    all_goals decide +kernel
  · refine ⟨256, 0, { frame with action := .protect, sc := some 3 }, [],
    { on [(F.PRT_EP_STATUS_LINK_UP 32, 1), (F.SWC_Q_STATUS_STATE 256, 1), (F.SEQ_CFG_INFLIGHT_NS, 2000)] with buf := { queues := [(256, [{ frame with action := .protect, sc := some 3 }])], ready := [256] }, sam := { sc := [(3, { created := true, enable := true, channel := 32, slots := [some 9, none, none, none], txValid := true })], sa := [(9, { state := .active, nextPn := 1, blockEnd := 100, key := 0 })] }, key := { domain := [(0, { state := .valid })], cak := [(0, { state := .valid })] } },
    3, 9, ?_⟩
    repeat' apply And.intro
    all_goals decide +kernel
  · refine ⟨256, 16, frame, [],
    { on [(F.PRT_EP_STATUS_LINK_UP 32, 1), (F.SWC_Q_STATUS_STATE 256, 1), (F.SEQ_CFG_INFLIGHT_NS, 2000)] with buf := { queues := [(256, [frame])], ready := [256] } },
    { on [(F.PRT_EP_STATUS_LINK_UP 32, 1), (F.SWC_Q_STATUS_STATE 256, 1), (F.SEQ_CFG_INFLIGHT_NS, 2000)] with buf := { queues := [(256, [frame])], ready := [256] } },
    ?_⟩
    repeat' apply And.intro
    all_goals first | decide +kernel | rfl
  · refine ⟨16,
    { frame := frame, ch := 32, dsn := 1, engine := some 16, out := List.replicate 300 0, committed := 1 },
    { awake with pool := { slots := [{ frame := frame, ch := 32, dsn := 1, engine := some 16, out := List.replicate 300 0, committed := 1 }] } },
    ?_⟩
    repeat' apply And.intro
    all_goals decide +kernel
  · refine ⟨16,
    { frame := frame, ch := 32, dsn := 0, engine := some 16, out := List.replicate 300 0, committed := 0 },
    { awake with pool := { slots := [{ frame := frame, ch := 32, dsn := 0, engine := some 16, out := List.replicate 300 0, committed := 0 }] } },
    ?_⟩
    repeat' apply And.intro
    all_goals decide +kernel
  · refine ⟨16,
    { frame := frame, ch := 32, dsn := 0, engine := some 16, out := List.replicate 300 0, committed := 1 },
    { awake with pool := { slots := [{ frame := frame, ch := 32, dsn := 0, engine := some 16, out := List.replicate 300 0, committed := 1 }] } },
    ?_⟩
    repeat' apply And.intro
    all_goals decide +kernel
  · refine ⟨16,
    { frame := frame, ch := 32, dsn := 0, engine := some 16, out := List.replicate 300 0, committed := 2 },
    { awake with pool := { slots := [{ frame := frame, ch := 32, dsn := 0, engine := some 16, out := List.replicate 300 0, committed := 2 }] } },
    ?_⟩
    repeat' apply And.intro
    all_goals decide +kernel

/-- States that meet the premises of `MatchSendsTheEligibleHead`. -/
theorem met_MatchSendsTheEligibleHead :
    (∃ (s : State), ((∀ x < 20, ∀ k < 8, 16 ≤ x → (s.settleAll).internalHead x k = none)) ∧ ((s.settleAll).buf.sending
      = []) ∧ ((s.settleAll).selections = [])) ∧
    (∃ (c i o : Nat) (p : Pick) (g : Image) (s : State), ((∀ x < 20, ∀ k < 8, 16 ≤ x → (s.settleAll).internalHead x k
      = none)) ∧ ((s.settleAll).buf.sending = []) ∧ ((s.settleAll).selections = [(c, p, i)]) ∧
      ((s.settleAll).pel.active = some g) ∧ (imgBinds g c = true) ∧ (o ∈ bundleOf g c) ∧ (o < 16) ∧ (c < 192) ∧ (p.cls
      < 8) ∧ (i < 20)) := by
  refine ⟨?_, ?_⟩
  · refine ⟨awake, ?_⟩
    repeat' apply And.intro
    all_goals decide +kernel
  · refine ⟨32, 0, 8, ⟨0, [], 0⟩, plain,
    { on [(F.PRT_EP_STATUS_LINK_UP 32, 1), (F.SWC_Q_STATUS_STATE 256, 1), (F.SEQ_CFG_INFLIGHT_NS, 2000)] with buf := { queues := [(256, [frame])] } },
    ?_⟩
    repeat' apply And.intro
    all_goals decide +kernel

/-- States that meet the premises of `EnginesFenceAndReturn`. -/
theorem met_EnginesFenceAndReturn :
    (∃ (e : Nat) (s : State) (cause : EngineCause), (s.get (F.DRM_ENG_STATUS_STATE e) = 1) ∧ (e < 16) ∧ (cause ≠
      .keyEccCorrected)) ∧
    (∃ (who e : Nat) (s : State), (s.get (F.DRM_ENG_STATUS_STATE e) = 1) ∧ (e < 16) ∧ (who ≤ 4) ∧ (e < enginesPresent
      s.fus.variant) ∧ (1 < s.ungated.length) ∧ (s.pool.testing = none)) ∧
    (∃ (who e : Nat) (s : State), (s.get (F.DRM_ENG_STATUS_STATE e) = 1) ∧ (e < 16) ∧ (who ≤ 4) ∧ (e < enginesPresent
      s.fus.variant) ∧ (s.ungated.length ≤ 1)) ∧
    (∃ (who e : Nat) (s : State), (who ≤ 4) ∧ (e < enginesPresent s.fus.variant) ∧ (s.get (F.DRM_ENG_STATUS_STATE e) =
      3) ∧ (s.pool.testing = none)) ∧
    (∃ (e : Nat) (s : State), s.pool.testing = some e) ∧
    (∃ (e : Nat) (s : State), (s.pwr.state = .doze) ∧ ((s.ungated.filter (fun x => decide (x ∉ s.reserved))).getLast?
      = some e) ∧ (s.engFrames e = 0) ∧ (s.ungatedTarget < s.ungated.length)) := by
  refine ⟨?_, ?_, ?_, ?_, ?_, ?_⟩
  · refine ⟨15, awake, .parity, ?_⟩
    repeat' apply And.intro
    all_goals decide +kernel
  · refine ⟨0, 15, awake, ?_⟩
    repeat' apply And.intro
    all_goals decide +kernel
  · refine ⟨4, 0, { awake with regs := [(F.DRM_ENG_STATUS_STATE 0, 1)] }, ?_⟩
    repeat' apply And.intro
    all_goals decide +kernel
  · refine ⟨0, 5, on [(F.DRM_ENG_STATUS_STATE 5, 3)], ?_⟩
    repeat' apply And.intro
    all_goals decide +kernel
  · refine ⟨3, { awake with pool := { testing := some 3 } }, ?_⟩
    repeat' apply And.intro
    all_goals decide +kernel
  · refine ⟨15, { on [(F.DRM_POOL_CFG_DOZE_MIN, 1)] with pwr := { state := .doze, goal := none } }, ?_⟩
    repeat' apply And.intro
    all_goals decide +kernel

/-- States that meet the premises of `FlexEOverheadIsFollowed`. -/
theorem met_FlexEOverheadIsFollowed :
    (∃ (i num : Nat) (gr : FlexGroup) (b : OhBlock) (s : State), (s.instGroup i = some (gr, num)) ∧ (s.dataUp = true)
      ∧ (s.get (F.FLX_GRP_STATUS_STATE gr.index) ≠ 4) ∧ (s.allLocked gr = false) ∧ ((s.inst i).lock = none) ∧ ((s.inst
      i).cands = []) ∧ (b.marker = true)) ∧
    (∃ (i num : Nat) (gr : FlexGroup) (b : OhBlock) (s : State) (c : FlexCand), (s.instGroup i = some (gr, num)) ∧
      (s.dataUp = true) ∧ (s.get (F.FLX_GRP_STATUS_STATE gr.index) ≠ 4) ∧ (s.allLocked gr = false) ∧ ((s.inst i).lock
      = none) ∧ ((s.inst i).cands = [c]) ∧ (c.pos = 8) ∧ (c.phase = b.phase) ∧ (b.marker = true) ∧ (b.groupNumber =
      c.group) ∧ (b.instNumber = c.inst) ∧ (b.omf = c.omf)) ∧
    (∃ (i num : Nat) (gr : FlexGroup) (b : OhBlock) (s : State) (c : FlexCand), (s.instGroup i = some (gr, num)) ∧
      (s.dataUp = true) ∧ (s.get (F.FLX_GRP_STATUS_STATE gr.index) ≠ 4) ∧ (s.allLocked gr = false) ∧ ((s.inst i).lock
      = some c) ∧ (c.pos = 8) ∧ (c.phase = b.phase) ∧ ((s.inst i).miss = 4) ∧ (b.marker = false)) ∧
    (∃ (i num : Nat) (gr : FlexGroup) (s : State) (f : OhFrame) (c : FlexCand), (s.instGroup i = some (gr, num)) ∧
      (s.dataUp = true) ∧ (s.get (F.FLX_GRP_STATUS_STATE gr.index) ≠ 4) ∧ (s.allLocked gr = false) ∧ ((s.inst i).lock
      = some c) ∧ (f.crcOk = false)) ∧
    (∃ (i num : Nat) (gr : FlexGroup) (s : State) (f : OhFrame) (c : FlexCand), (s.instGroup i = some (gr, num)) ∧
      (s.dataUp = true) ∧ (s.get (F.FLX_GRP_STATUS_STATE gr.index) ≠ 4) ∧ (s.allLocked gr = false) ∧ ((s.inst i).lock
      = some c) ∧ (f.crcOk = true) ∧ (s.get (F.FLX_INST_STATUS_MF_LOCK i) = 0)) := by
  refine ⟨?_, ?_, ?_, ?_, ?_⟩
  · refine ⟨4, 1, gr, { phase := 5, marker := true }, awake, ?_⟩
    repeat' apply And.intro
    all_goals decide +kernel
  · refine ⟨4, 1, gr, { phase := 5, marker := true, groupNumber := 7, instNumber := 1 },
    { awake with flx := { inst := [(4, { cands := [⟨5, 8, 7, 1, false⟩] })] } }, ⟨5, 8, 7, 1, false⟩, ?_⟩
    repeat' apply And.intro
    all_goals decide +kernel
  · refine ⟨4, 1, gr, { phase := 5, marker := false },
    { awake with flx := { inst := [(4, { lock := some ⟨5, 8, 7, 1, false⟩, miss := 4 })] } }, ⟨5, 8, 7, 1, false⟩, ?_⟩
    repeat' apply And.intro
    all_goals decide +kernel
  · refine ⟨4, 1, gr, { awake with flx := { inst := [(4, { lock := some ⟨5, 8, 7, 1, false⟩ })] } },
    { crcOk := false, c := false, cr := false, ca := false, rpf := false, groupNumber := 7, instNumber := 1, mapOk := true },
    ⟨5, 8, 7, 1, false⟩, ?_⟩
    repeat' apply And.intro
    all_goals decide +kernel
  · refine ⟨4, 1, gr, { awake with flx := { inst := [(4, { lock := some ⟨5, 8, 7, 1, false⟩ })] } },
    { crcOk := true, c := false, cr := false, ca := false, rpf := false, groupNumber := 7, instNumber := 1, mapOk := true },
    ⟨5, 8, 7, 1, false⟩, ?_⟩
    repeat' apply And.intro
    all_goals decide +kernel

/-- States that meet the premises of `FlexEGroupsAndCalendars`. -/
theorem met_FlexEGroupsAndCalendars :
    (∃ (g : Nat) (gr : FlexGroup) (s : State), (s.flexGroup g = some gr) ∧ (s.get (F.FLX_GRP_STATUS_STATE g) = 4) ∧
      (s.groupBad gr = true)) ∧
    (∃ (g : Nat) (gr : FlexGroup) (s : State), (s.flexGroup g = some gr) ∧ (s.get (F.FLX_GRP_STATUS_STATE g) = 4) ∧
      (s.groupBad gr = false) ∧ (s.dataUp = true) ∧ ((∀ c ∈ gr.clients, s.get (F.PRT_EP_STATUS_LINK_UP c.channel) ≠
      1))) ∧
    (∃ (g : Nat) (gr : FlexGroup) (s : State), (s.flexGroup g = some gr) ∧ (s.get (F.FLX_GRP_STATUS_SWITCH g) = 2) ∧
      ((s.grp g).waiting = none)) ∧
    (∃ (g : Nat) (gr : FlexGroup) (s : State), (s.flexGroup g = some gr) ∧ (s.get (F.FLX_GRP_STATUS_SWITCH g) = 1) ∧
      (s.get (F.FLX_GRP_CFG_CAL_REQ_TIMEOUT g) ≠ 0)) ∧
    (∃ (who g : Nat) (gr : FlexGroup) (s : State), (s.flexGroup g = some gr) ∧ (who ≤ 4) ∧ (s.get
      (F.FLX_GRP_STATUS_SWITCH g) = 1)) ∧
    (∃ (who g : Nat) (gr : FlexGroup) (s : State), (s.flexGroup g = some gr) ∧ (who ≤ 4) ∧ (s.get
      (F.FLX_GRP_STATUS_SWITCH g) = 3) ∧ ((s.grp g).txA ≠ (s.grp g).txB)) ∧
    (∃ (who g : Nat) (gr : FlexGroup) (s : State), (s.flexGroup g = some gr) ∧ (who ≤ 4) ∧ (s.get
      (F.FLX_GRP_STATUS_SWITCH g) = 3) ∧ ((s.grp g).txA = (s.grp g).txB)) := by
  refine ⟨?_, ?_, ?_, ?_, ?_, ?_, ?_⟩
  · refine ⟨0, gr, { on [(F.FLX_GRP_STATUS_STATE 0, 4)] with flx := { inst := [(4, { lof := true })] } }, ?_⟩
    repeat' apply And.intro
    all_goals decide +kernel
  · refine ⟨0, gr, { on [(F.FLX_GRP_STATUS_STATE 0, 4)] with prt := { phyUp := [36] } }, ?_⟩
    repeat' apply And.intro
    all_goals decide +kernel
  · refine ⟨0, gr, on [(F.FLX_GRP_STATUS_SWITCH 0, 2)], ?_⟩
    repeat' apply And.intro
    all_goals decide +kernel
  · refine ⟨0, gr, on [(F.FLX_GRP_STATUS_SWITCH 0, 1), (F.FLX_GRP_CFG_CAL_REQ_TIMEOUT 0, 10)], ?_⟩
    repeat' apply And.intro
    all_goals decide +kernel
  · refine ⟨0, 0, gr, on [(F.FLX_GRP_STATUS_SWITCH 0, 1)], ?_⟩
    repeat' apply And.intro
    all_goals decide +kernel
  · refine ⟨0, 0, gr, { on [(F.FLX_GRP_STATUS_SWITCH 0, 3)] with flx := { grp := [(0, { txA := [none] })] } }, ?_⟩
    repeat' apply And.intro
    all_goals decide +kernel
  · refine ⟨0, 0, gr, on [(F.FLX_GRP_STATUS_SWITCH 0, 3)], ?_⟩
    repeat' apply And.intro
    all_goals decide +kernel

/-- States that meet the premises of `MacTableCommands`. -/
theorem met_MacTableCommands :
    (∃ (who : Nat) (s : State) (i : _), (s.pel.active ≠ none) ∧ (Unlocked s who 0) ∧ (s.channelAbsent (field (s.tblArg
      who 2) 0 8) = false) ∧ (s.bound (field (s.tblArg who 2) 0 8) = true) ∧ (s.macFind ((s.macArg who).2) ((s.macArg
      who).1) = some i)) ∧
    (∃ (who : Nat) (s : State) (u : _), (s.pel.active ≠ none) ∧ (Unlocked s who 0) ∧ (s.channelAbsent (field (s.tblArg
      who 2) 0 8) = false) ∧ (s.bound (field (s.tblArg who 2) 0 8) = true) ∧ (s.macFind ((s.macArg who).2) ((s.macArg
      who).1) = none) ∧ (s.macPlace
      (({ valid := true, static := field (s.tblArg who 2) 25 1 = 1, bd := ((s.macArg who).2), mac := ((s.macArg who).1), channel := field (s.tblArg who 2) 0 8, sc := field (s.tblArg who 2) 8 16, scDefault := field (s.tblArg who 2) 24 1 = 1 }
      : MacEntry)) = some u)) ∧
    (∃ (who : Nat) (s : State), (s.pel.active ≠ none) ∧ (Unlocked s who 0) ∧ (s.channelAbsent (field (s.tblArg who 2)
      0 8) = false) ∧ (s.bound (field (s.tblArg who 2) 0 8) = true) ∧ (s.macFind ((s.macArg who).2) ((s.macArg who).1)
      = none) ∧ (s.macPlace
      (({ valid := true, static := field (s.tblArg who 2) 25 1 = 1, bd := ((s.macArg who).2), mac := ((s.macArg who).1), channel := field (s.tblArg who 2) 0 8, sc := field (s.tblArg who 2) 8 16, scDefault := field (s.tblArg who 2) 24 1 = 1 }
      : MacEntry)) = none)) ∧
    (∃ (who : Nat) (s : State), (s.pel.active ≠ none) ∧ (Unlocked s who 0) ∧ ((field (s.tblArg who 1) 0 18) ≠ 0) ∧
      (s.tblArg who 0 + (field (s.tblArg who 1) 0 18) ≤ s.macSize)) := by
  refine ⟨?_, ?_, ?_, ?_⟩
  · refine ⟨4,
    { on [(F.TBL_ARG_ARG 24, 0x11), (F.TBL_ARG_ARG 26, 32)] with tbl := { mac := [(115908, { valid := true, mac := 0x11 })] } },
    115908, ?_⟩
    repeat' apply And.intro
    all_goals first | decide +kernel | exact .inl (by decide +kernel)
  · exact ⟨4, on [(F.TBL_ARG_ARG 24, 0x11), (F.TBL_ARG_ARG 26, 32)], _, by decide, .inl rfl, by decide +kernel, by decide +kernel, by decide +kernel, (Option.some_get (by decide +kernel)).symm⟩
  · exact ⟨4, { on [(F.TBL_ARG_ARG 24, 0x11), (F.TBL_ARG_ARG 26, 32)] small with tbl := { mac := (List.range 8).map (fun i => (i, { valid := true, mac := 256 + i })) } }, by decide +kernel, .inl rfl, by decide +kernel, by decide +kernel, by decide +kernel, full_closed _ _ (List.range 8) (by decide +kernel) (by decide +kernel)⟩
  · refine ⟨4, on [(F.TBL_ARG_ARG 25, 1)], ?_⟩
    repeat' apply And.intro
    all_goals first | decide +kernel | exact .inl (by decide +kernel)

/-- States that meet the premises of `LpmCommands`. -/
theorem met_LpmCommands :
    (∃ (who : Nat) (s : State) (m : _), (s.pel.active ≠ none) ∧ (Unlocked s who (1 + ((s.lpmArg who).1))) ∧
      (prefixArgOk ((s.lpmArg who).1) ((s.lpmArg who).2.1) ((s.lpmArg who).2.2) = true) ∧ (s.channelAbsent (field
      (s.tblArg who 5) 0 8) = false) ∧ (s.bound (field (s.tblArg who 5) 0 8) = true) ∧ ((prefixInsert ((⟨((s.lpmArg
      who).2.2), ((s.lpmArg who).2.1), field (s.tblArg who 5) 0 8, field (s.tblArg who 5) 8 16, field (s.tblArg who 5)
      24 1 = 1⟩ : Prefix)) ((s.lpm ((s.lpmArg who).1)).prefixes.filter (fun q => !(decide (q.addr = ((s.lpmArg
      who).2.2)) && decide (q.len = ((s.lpmArg who).2.1)))))).length ≤ lpmLimit ((s.lpmArg who).1)) ∧ (lpmMove
      (lpmWidth ((s.lpmArg who).1)) (s.lpmPool ((s.lpmArg who).1)) (s.lpm ((s.lpmArg who).1)) (prefixInsert
      ((⟨((s.lpmArg who).2.2), ((s.lpmArg who).2.1), field (s.tblArg who 5) 0 8, field (s.tblArg who 5) 8 16, field
      (s.tblArg who 5) 24 1 = 1⟩ : Prefix)) ((s.lpm ((s.lpmArg who).1)).prefixes.filter (fun q => !(decide (q.addr =
      ((s.lpmArg who).2.2)) && decide (q.len = ((s.lpmArg who).2.1)))))) = some m)) ∧
    (∃ (who : Nat) (s : State), (s.pel.active ≠ none) ∧ (Unlocked s who (1 + ((s.lpmArg who).1))) ∧ (prefixArgOk
      ((s.lpmArg who).1) ((s.lpmArg who).2.1) ((s.lpmArg who).2.2) = true) ∧ (s.channelAbsent (field (s.tblArg who 5)
      0 8) = false) ∧ (s.bound (field (s.tblArg who 5) 0 8) = true) ∧ ((prefixInsert ((⟨((s.lpmArg who).2.2),
      ((s.lpmArg who).2.1), field (s.tblArg who 5) 0 8, field (s.tblArg who 5) 8 16, field (s.tblArg who 5) 24 1 = 1⟩
      : Prefix)) ((s.lpm ((s.lpmArg who).1)).prefixes.filter (fun q => !(decide (q.addr = ((s.lpmArg who).2.2)) &&
      decide (q.len = ((s.lpmArg who).2.1)))))).length ≤ lpmLimit ((s.lpmArg who).1)) ∧ (lpmMove (lpmWidth ((s.lpmArg
      who).1)) (s.lpmPool ((s.lpmArg who).1)) (s.lpm ((s.lpmArg who).1)) (prefixInsert ((⟨((s.lpmArg who).2.2),
      ((s.lpmArg who).2.1), field (s.tblArg who 5) 0 8, field (s.tblArg who 5) 8 16, field (s.tblArg who 5) 24 1 = 1⟩
      : Prefix)) ((s.lpm ((s.lpmArg who).1)).prefixes.filter (fun q => !(decide (q.addr = ((s.lpmArg who).2.2)) &&
      decide (q.len = ((s.lpmArg who).2.1)))))) = none)) ∧
    (∃ (who : Nat) (s : State) (m : _), (s.pel.active ≠ none) ∧ (Unlocked s who (1 + ((s.lpmArg who).1))) ∧
      (prefixArgOk ((s.lpmArg who).1) ((s.lpmArg who).2.1) ((s.lpmArg who).2.2) = true) ∧ (((s.lpm ((s.lpmArg
      who).1)).prefixes.filter (fun q => !(decide (q.addr = ((s.lpmArg who).2.2)) && decide (q.len = ((s.lpmArg
      who).2.1))))).length ≠ (s.lpm ((s.lpmArg who).1)).prefixes.length) ∧ (lpmMove (lpmWidth ((s.lpmArg who).1))
      (s.lpmPool ((s.lpmArg who).1)) (s.lpm ((s.lpmArg who).1)) ((s.lpm ((s.lpmArg who).1)).prefixes.filter (fun q =>
      !(decide (q.addr = ((s.lpmArg who).2.2)) && decide (q.len = ((s.lpmArg who).2.1))))) = some m)) ∧
    (∃ (who : Nat) (s : State), (s.pel.active ≠ none) ∧ (Unlocked s who (1 + ((s.lpmArg who).1))) ∧ (prefixArgOk
      ((s.lpmArg who).1) ((s.lpmArg who).2.1) ((s.lpmArg who).2.2) = true) ∧ (((s.lpm ((s.lpmArg
      who).1)).prefixes.filter (fun q => !(decide (q.addr = ((s.lpmArg who).2.2)) && decide (q.len = ((s.lpmArg
      who).2.1))))).length = (s.lpm ((s.lpmArg who).1)).prefixes.length)) ∧
    (∃ (who : Nat) (s : State), (s.pel.active ≠ none) ∧ (Unlocked s who (1 + ((s.lpmArg who).1))) ∧ (prefixArgOk
      ((s.lpmArg who).1) ((s.lpmArg who).2.1) ((s.lpmArg who).2.2) = false)) ∧
    (∃ (who : Nat) (s : State), (s.pel.active ≠ none) ∧ (Unlocked s who (1 + ((s.lpmArg who).1))) ∧ ((field (s.tblArg
      who 1) 0 18) ≠ 0) ∧ (s.tblArg who 0 + (field (s.tblArg who 1) 0 18) ≤ (s.lpm ((s.lpmArg
      who).1)).prefixes.length)) := by
  refine ⟨?_, ?_, ?_, ?_, ?_, ?_⟩
  · exact ⟨4, on [(F.TBL_ARG_ARG 24, 0x0A000000), (F.TBL_ARG_ARG 28, 8), (F.TBL_ARG_ARG 29, 32)], _, by decide, .inl rfl, by decide +kernel, by decide +kernel, by decide +kernel, by decide +kernel, (Option.some_get (by decide +kernel)).symm⟩
  · refine ⟨4, on [(F.TBL_ARG_ARG 24, 0x0A000000), (F.TBL_ARG_ARG 28, 32), (F.TBL_ARG_ARG 29, 32)]
    { plain with entries := plain.entries ++ (image [.tables { lpm4 := 0 }]).entries }, ?_⟩
    repeat' apply And.intro
    all_goals first | decide +kernel | exact .inl (by decide +kernel)
  · exact ⟨4, { on [(F.TBL_ARG_ARG 24, 0x0A000000), (F.TBL_ARG_ARG 28, 8), (F.TBL_ARG_ARG 29, 32)] with tbl := { lpm4 := { prefixes := [⟨0x0A000000, 8, 32, 0, false⟩] } } }, _, by decide, .inl rfl, by decide +kernel, by decide +kernel, (Option.some_get (by decide +kernel)).symm⟩
  · refine ⟨4, on [(F.TBL_ARG_ARG 24, 0x0A000000), (F.TBL_ARG_ARG 28, 8), (F.TBL_ARG_ARG 29, 32)], ?_⟩
    repeat' apply And.intro
    all_goals first | decide +kernel | exact .inl (by decide +kernel)
  · refine ⟨4, on [(F.TBL_ARG_ARG 28, 33)], ?_⟩
    repeat' apply And.intro
    all_goals first | decide +kernel | exact .inl (by decide +kernel)
  · refine ⟨4, { on [(F.TBL_ARG_ARG 25, 1)] with tbl := { lpm4 := { prefixes := [⟨0x0A000000, 8, 32, 0, false⟩] } } },
    ?_⟩
    repeat' apply And.intro
    all_goals first | decide +kernel | exact .inl (by decide +kernel)

/-- States that meet the premises of `PartitionLocks`. -/
theorem met_PartitionLocks :
    (∃ (p : Nat) (s : State), (p < 3) ∧ (s.lockOwner p = none)) ∧
    (∃ (who p : Nat) (s : State), (p < 3) ∧ (s.lockOwner p ≠ some who) ∧ (who ≤ 4)) ∧
    (∃ (who p : Nat) (s : State), (p < 3) ∧ (s.lockOwner p = some who) ∧ ((Tab.get s.tbl.lease (0, 0) p).1 ≠ 0)) ∧
    (∃ (p o : Nat) (s : State), (p < 3) ∧ (s.lockOwner p = some o) ∧ (s.leaseOver p = false)) ∧
    (∃ (p o : Nat) (s : State), (p < 3) ∧ (s.lockOwner p = some o) ∧ (s.leaseOver p = true)) ∧
    (∃ (who p o : Nat) (s : State), (p < 3) ∧ (s.lockOwner 0 = some o) ∧ (o ≠ who) ∧ (s.pel.active ≠ none)) := by
  refine ⟨?_, ?_, ?_, ?_, ?_, ?_⟩
  · refine ⟨2, awake, ?_⟩
    repeat' apply And.intro
    all_goals decide +kernel
  · refine ⟨4, 2, { awake with tbl := { owner := [(2, some 5)] } }, ?_⟩
    repeat' apply And.intro
    all_goals decide +kernel
  · refine ⟨5, 2, { awake with tbl := { owner := [(2, some 5)], lease := [(2, (100, 0))] } }, ?_⟩
    repeat' apply And.intro
    all_goals decide +kernel
  · refine ⟨2, 5, { awake with tbl := { owner := [(2, some 5)], lease := [(2, (100, 0))] } }, ?_⟩
    repeat' apply And.intro
    all_goals decide +kernel
  · refine ⟨2, 5, { awake with tbl := { owner := [(2, some 5)], lease := [(2, (0, 0))] } }, ?_⟩
    repeat' apply And.intro
    all_goals decide +kernel
  · refine ⟨4, 0, 5, { awake with tbl := { owner := [(0, some 5)] } }, ?_⟩
    repeat' apply And.intro
    all_goals decide +kernel

/-- States that meet the premises of `LearningAndAging`. -/
theorem met_LearningAndAging :
    (∃ (ev : LearnEv) (rest : List LearnEv) (s : State) (u : _), (s.lockOwner 0 = none) ∧ (s.tbl.learn = ev :: rest) ∧
      (s.macFind ev.bd ev.mac = none) ∧ (s.macPlace
      { valid := true, hit := true, bd := ev.bd, mac := ev.mac, channel := ev.channel, scDefault := true } = some u)) ∧
    (∃ (ev : LearnEv) (rest : List LearnEv) (s : State) (k : _), (s.lockOwner 0 = none) ∧ (s.tbl.learn = ev :: rest) ∧
      (s.macFind ev.bd ev.mac = some k) ∧ ((s.macEntry k).static = false) ∧ ((s.macEntry k).channel ≠ ev.channel)) ∧
    (∃ (ev : LearnEv) (rest : List LearnEv) (s : State) (k : _), (s.lockOwner 0 = none) ∧ (s.tbl.learn = ev :: rest) ∧
      (s.macFind ev.bd ev.mac = some k) ∧ ((s.macEntry k).static = true) ∧ ((s.macEntry k).channel ≠ ev.channel)) ∧
    (∃ (s : State), (s.lockOwner 0 = none) ∧ (s.get F.TBL_BRUSH_AGE_PERIOD ≠ 0) ∧ (s.macSize ≠ 0)) := by
  refine ⟨?_, ?_, ?_, ?_⟩
  · exact ⟨⟨0, 0x11, 32⟩, [], { awake with tbl := { learn := [⟨0, 0x11, 32⟩] } }, _, by decide, rfl, by decide +kernel, (Option.some_get (by decide +kernel)).symm⟩
  · refine ⟨⟨0, 0x11, 32⟩, [],
    { awake with tbl := { learn := [⟨0, 0x11, 32⟩], mac := [(115908, { valid := true, mac := 0x11, channel := 1 })] } },
    115908, ?_⟩
    repeat' apply And.intro
    all_goals decide +kernel
  · refine ⟨⟨0, 0x11, 32⟩, [],
    { awake with tbl := { learn := [⟨0, 0x11, 32⟩], mac := [(115908, { valid := true, static := true, mac := 0x11, channel := 1 })] } },
    115908, ?_⟩
    repeat' apply And.intro
    all_goals decide +kernel
  · refine ⟨on [(F.TBL_BRUSH_AGE_PERIOD, 1)], ?_⟩
    repeat' apply And.intro
    all_goals decide +kernel

/-- States that meet the premises of `SecureChannelCommands`. -/
theorem met_SecureChannelCommands :
    (∃ (who : Nat) (s : State), (who ≤ 4) ∧ (SamReady s who) ∧ (s.channelAbsent ((s.scArgs who).2).channel = false) ∧
      (lineSide ((s.scArgs who).2).channel = true) ∧ (((s.scArgs who).2).offset ≠ 3) ∧ (((s.scArgs who).2).clearTags ≠
      3) ∧ (4 ≤ ((s.scArgs who).2).owner) ∧ (((s.scArgs who).2).owner ≤ 12) ∧ (((s.scArgs who).2).window ≤ 2 ^ 30) ∧
      (((s.scArgs who).2).overlapMs ≤ 10000) ∧ ((s.sc ((s.scArgs who).1)).created = false) ∧ (s.bound ((s.scArgs
      who).2).channel = true) ∧ (s.transit ((s.scArgs who).2).channel = false) ∧ (TwinAllows s (s.mirrors ((s.scArgs
      who).1) ((s.scArgs who).2).channel)) ∧ (((s.scArgs who).2).rx = false)) ∧
    (∃ (who : Nat) (s : State) (u : _), (who ≤ 4) ∧ (SamReady s who) ∧ (s.channelAbsent ((s.scArgs who).2).channel =
      false) ∧ (lineSide ((s.scArgs who).2).channel = true) ∧ (((s.scArgs who).2).offset ≠ 3) ∧ (((s.scArgs
      who).2).clearTags ≠ 3) ∧ (4 ≤ ((s.scArgs who).2).owner) ∧ (((s.scArgs who).2).owner ≤ 12) ∧ (((s.scArgs
      who).2).window ≤ 2 ^ 30) ∧ (((s.scArgs who).2).overlapMs ≤ 10000) ∧ ((s.sc ((s.scArgs who).1)).created = false)
      ∧ (s.bound ((s.scArgs who).2).channel = true) ∧ (s.transit ((s.scArgs who).2).channel = false) ∧ (TwinAllows s
      (s.mirrors ((s.scArgs who).1) ((s.scArgs who).2).channel)) ∧ (((s.scArgs who).2).rx = true) ∧ (s.channelAbsent
      ((s.scArgs who).2).egress = false) ∧ (((s.scArgs who).2).egress < 32) ∧ (s.bound ((s.scArgs who).2).egress =
      true) ∧ (s.transit ((s.scArgs who).2).egress = false) ∧ (s.sciFind ((s.scArgs who).2).sci = none) ∧ (s.sciPlace
      ((s.scArgs who).1) ((s.scArgs who).2).sci = some u)) ∧
    (∃ (who : Nat) (s : State), (who ≤ 4) ∧ (SamReady s who) ∧ ((s.sc (field (s.samArg who 0) 0 16)).created = true) ∧
      (TwinAllows s (s.scMirrored (field (s.samArg who 0) 0 16))) ∧ ((field (s.samArg who 1) 0 1 = 1 → (field
      (s.samArg who 2) 0 31) ≤ 2 ^ 30)) ∧ ((field (s.samArg who 1) 2 1 = 1 → (field (s.samArg who 3) 8 14) ≤ 10000)) ∧
      ((field (s.samArg who 1) 1 1 = 1 → (s.sc (field (s.samArg who 0) 0 16)).rx = true → s.channelAbsent (field
      (s.samArg who 3) 0 8) = false ∧ (field (s.samArg who 3) 0 8) < 32 ∧ s.bound (field (s.samArg who 3) 0 8) = true
      ∧ s.transit (field (s.samArg who 3) 0 8) = false))) ∧
    (∃ (who : Nat) (s : State), (who ≤ 4) ∧ (SamReady s who) ∧ ((s.sc (field (s.samArg who 0) 0 16)).created = true) ∧
      ((s.sc (field (s.samArg who 0) 0 16)).slots.any Option.isSome = false) ∧ ((s.sc (field (s.samArg who 0) 0
      16)).rollMode = 0) ∧ (TwinAllows s (s.scMirrored (field (s.samArg who 0) 0 16)))) := by
  refine ⟨?_, ?_, ?_, ?_⟩
  · refine ⟨0, on [(F.SAM_ARG_ARG 0, 4194313), (F.SAM_ARG_ARG 1, 1024)], ?_⟩
    repeat' apply And.intro
    all_goals first | decide +kernel | exact none_due _ (by decide +kernel) | (unfold TwinAllows; decide +kernel)
  · refine ⟨0, opening, (opening.sciPlace 9 0).get (by decide +kernel), ?_⟩
    repeat' apply And.intro
    all_goals first | decide +kernel | exact none_due _ (by decide +kernel) | (unfold TwinAllows; decide +kernel) | exact (Option.some_get _).symm
  · refine ⟨0,
    { on [(F.SAM_ARG_ARG 0, 9), (F.SAM_ARG_ARG 1, 7), (F.SAM_ARG_ARG 3, 0)] with sam := { sc := [(9, { created := true, rx := true })] } },
    ?_⟩
    repeat' apply And.intro
    all_goals first | decide +kernel | exact none_due _ (by decide +kernel) | (unfold TwinAllows; decide +kernel)
  · refine ⟨0, { on [(F.SAM_ARG_ARG 0, 9)] with sam := { sc := [(9, { created := true })] } }, ?_⟩
    repeat' apply And.intro
    all_goals first | decide +kernel | exact none_due _ (by decide +kernel) | (unfold TwinAllows; decide +kernel)

/-- States that meet the premises of `SaStagingAndLifeCycle`. -/
theorem met_SaStagingAndLifeCycle :
    (∃ (who : Nat) (key : Bytes) (s : State), (who ≤ 4) ∧ (SamReady s who) ∧ ((s.sa (s.saArg who)).state = .free) ∧
      (s.slotLive 2 (field (s.samArg who 1) 4 14) = true) ∧ ((s.samArg64 who 6) ≠ 0) ∧ ((s.samArg64 who 6) ≤ suiteMax
      (field (s.samArg who 1) 0 2)) ∧ ((s.samArg64 who 8) ≤ suiteMax (field (s.samArg who 1) 0 2)) ∧ ((field (s.samArg
      who 1) 18 1 = 1 → (s.samArg64 who 8) = 0)) ∧ (((field (s.samArg who 1) 2 2 = 0 ∧ key = beBytes (suiteBits (field
      (s.samArg who 1) 0 2) / 8) (s.draw (8 * (suiteBits (field (s.samArg who 1) 0 2) / 8)))) ∨ (field (s.samArg who
      1) 2 2 = 1 ∧ kwUnwrap (s.slot 2 (field (s.samArg who 1) 4 14)).kek (s.samBytes who 10 ((suiteBits (field
      (s.samArg who 1) 0 2) / 8) + 8)) = some key) ∨ (field (s.samArg who 1) 2 2 = 2 ∧ s.debugUnlocked = true ∧ key =
      s.samBytes who 10 (suiteBits (field (s.samArg who 1) 0 2) / 8))))) ∧
    (∃ (who : Nat) (s : State), (who ≤ 4) ∧ (SamReady s who) ∧ (s.saState (s.saArg who) = .staged) ∧ ((s.sc (field
      (s.samArg who 1) 0 16)).created = true) ∧ ((s.sc (field (s.samArg who 1) 0 16)).rx = (s.sa (s.saArg who)).rx) ∧
      ((s.sc (field (s.samArg who 1) 0 16)).at (field (s.samArg who 1) 16 2) = none) ∧ (TwinAllows s (s.scMirrored
      (field (s.samArg who 1) 0 16)))) ∧
    (∃ (who : Nat) (s : State), (who ≤ 4) ∧ (SamReady s who) ∧ (s.saState (s.saArg who) = .installed) ∧ (((s.sa
      (s.saArg who)).rx = false → s.hasActiveTx (s.sc (s.sa (s.saArg who)).sc) = false ∧ (s.sc (s.sa (s.saArg
      who)).sc).rollMode = 0)) ∧ (TwinAllows s (s.saMirrored (s.saArg who))) ∧ (((s.sa (s.saArg who)).rx = false →
      s.onDie (s.saArg who) = true))) ∧
    (∃ (who : Nat) (s : State), (who ≤ 4) ∧ (SamReady s who) ∧ (s.saState (s.saArg who) = .installed) ∧ ((s.sa
      (s.saArg who)).rx = false) ∧ (s.hasActiveTx (s.sc (s.sa (s.saArg who)).sc) = false) ∧ ((s.sc (s.sa (s.saArg
      who)).sc).rollMode = 0) ∧ (TwinAllows s (s.saMirrored (s.saArg who))) ∧ (s.onDie (s.saArg who) = false) ∧
      (s.sam.waits = []) ∧ ((s.saArg who) ∉ s.sam.fetch) ∧ (s.sam.fetch.length < 1024)) ∧
    (∃ (who : Nat) (s : State), (who ≤ 4) ∧ (SamReady s who) ∧ (s.saState (s.saArg who) = .active) ∧ ((s.sc (s.sa
      (s.saArg who)).sc).rollMode = 0) ∧ (TwinAllows s (s.saMirrored (s.saArg who)))) ∧
    (∃ (who : Nat) (s : State), (who ≤ 4) ∧ (SamReady s who) ∧ (s.saState (s.saArg who) ≠ .free) ∧ (s.saState (s.saArg
      who) ≠ .active) ∧ (s.armedSa (s.saArg who) = false) ∧ (s.framesOf (s.saArg who) = false) ∧ (TwinAllows s
      (s.saMirrored (s.saArg who))) ∧ (OthersWait s (s.saArg who))) := by
  refine ⟨?_, ?_, ?_, ?_, ?_, ?_⟩
  · exact ⟨0, _, staging, by decide, ready _ 0 (by decide +kernel) (by decide +kernel), by decide +kernel, by decide +kernel, by decide +kernel, by decide +kernel,
      by decide +kernel, by decide +kernel, .inr (.inr ⟨by decide +kernel, by decide +kernel, rfl⟩)⟩
  · refine ⟨0,
    { on [(F.SAM_ARG_ARG 0, 9)] with sam := { sa := [(9, { state := .staged })], sc := [(0, { created := true })] }, key := { domain := [(0, { state := .valid })], cak := [(0, { state := .valid })] } },
    ?_⟩
    repeat' apply And.intro
    all_goals first | decide +kernel | exact none_due _ (by decide +kernel) | (unfold TwinAllows; decide +kernel)
  · refine ⟨0,
    { on [(F.SAM_ARG_ARG 0, 9)] with sam := { sa := [(9, { state := .installed })], sc := [(0, { created := true, slots := [some 9, none, none, none] })], onDie := [9] }, key := { domain := [(0, { state := .valid })], cak := [(0, { state := .valid })] } },
    ?_⟩
    repeat' apply And.intro
    all_goals first | decide +kernel | exact none_due _ (by decide +kernel) | (unfold TwinAllows; decide +kernel)
  · refine ⟨0,
    { on [(F.SAM_ARG_ARG 0, 9)] with sam := { sa := [(9, { state := .installed })], sc := [(0, { created := true, slots := [some 9, none, none, none] })] }, key := { domain := [(0, { state := .valid })], cak := [(0, { state := .valid })] } },
    ?_⟩
    repeat' apply And.intro
    all_goals first | decide +kernel | exact none_due _ (by decide +kernel) | (unfold TwinAllows; decide +kernel)
  · refine ⟨0,
    { on [(F.SAM_ARG_ARG 0, 9)] with sam := { sa := [(9, { state := .active })], sc := [(0, { created := true, slots := [some 9, none, none, none] })] }, key := { domain := [(0, { state := .valid })], cak := [(0, { state := .valid })] } },
    ?_⟩
    repeat' apply And.intro
    all_goals first | decide +kernel | exact none_due _ (by decide +kernel) | (unfold TwinAllows; decide +kernel)
  · refine ⟨0,
    { on [(F.SAM_ARG_ARG 0, 9)] with sam := { sa := [(9, { state := .retiring, rx := true })], sc := [(0, { created := true, slots := [some 9, none, none, none] })] }, key := { domain := [(0, { state := .valid })], cak := [(0, { state := .valid })] } },
    ?_⟩
    repeat' apply And.intro
    all_goals first | decide +kernel | exact none_due _ (by decide +kernel) | (unfold TwinAllows; decide +kernel) | (unfold OthersWait; decide +kernel)

/-- States that meet the premises of `SaSettingsAndKeyRolls`. -/
theorem met_SaSettingsAndKeyRolls :
    (∃ (who : Nat) (s : State), (who ≤ 4) ∧ (SamReady s who) ∧ (s.saState (s.saArg who) ≠ .free) ∧ (s.saState (s.saArg
      who) ≠ .orphaned) ∧ ((s.samArg64 who 1) ≤ suiteMax (s.sa (s.saArg who)).suite) ∧ (TwinAllows s (s.saMirrored
      (s.saArg who))) ∧ ((s.samArg64 who 1) ≠ 0)) ∧
    (∃ (who : Nat) (s : State), (who ≤ 4) ∧ (SamReady s who) ∧ (s.saState (s.saArg who) ≠ .free) ∧ (s.saState (s.saArg
      who) ≠ .orphaned) ∧ ((s.samArg64 who 1) ≤ suiteMax (s.sa (s.saArg who)).suite) ∧ (TwinAllows s (s.saMirrored
      (s.saArg who))) ∧ ((s.sa (s.saArg who)).rx = false)) ∧
    (∃ (who : Nat) (s : State), (who ≤ 4) ∧ (SamReady s who) ∧ ((s.sa (s.saArg who)).state ≠ .free) ∧ (((s.sa (s.saArg
      who)).pinned = false → s.pinned < s.pinLimit)) ∧ (s.onDie (s.saArg who) = true)) ∧
    (∃ (who : Nat) (s : State), (who ≤ 4) ∧ (SamReady s who) ∧ ((s.sa (s.saArg who)).pinned = true)) ∧
    (∃ (who : Nat) (s : State) (vf : _), (who ≤ 4) ∧ (SamReady s who) ∧ (isVf vf = true) ∧ (SamReady s vf)) ∧
    (∃ (who : Nat) (s : State), (who ≤ 4) ∧ (SamReady s who) ∧ (TwinAllows s (s.scMirrored (field (s.samArg who 0) 0
      16))) ∧ (s.rollConflict (field (s.samArg who 0) 0 16) (field (s.samArg who 1) 0 2) = false) ∧ (field (s.samArg
      who 1) 2 2 ≠ 0) ∧ (field (s.samArg who 2) 0 30 ≤ 999999999) ∧ (s.onDie (s.rollSa (field (s.samArg who 0) 0 16)
      (field (s.samArg who 1) 0 2)) = true)) ∧
    (∃ (who : Nat) (s : State) (b : _), (who ≤ 4) ∧ (SamReady s who) ∧ (TwinAllows s (s.scMirrored (field (s.samArg
      who 0) 0 16))) ∧ (s.rollConflict (field (s.samArg who 0) 0 16) (field (s.samArg who 1) 0 2) = false) ∧ ((s.sc
      (field (s.samArg who 0) 0 16)).at (field (s.samArg who 1) 0 2) = some b) ∧ (s.onDie b = true)) ∧
    (∃ (who : Nat) (s : State), (who ≤ 4) ∧ (SamReady s who) ∧ (TwinAllows s (s.scMirrored (field (s.samArg who 0) 0
      16))) ∧ ((s.sc (field (s.samArg who 0) 0 16)).created = true) ∧ ((s.sc (field (s.samArg who 0) 0 16)).rollMode ≠
      0)) ∧
    (∃ (s : State) (k b : Nat), (s.rollDue k = true) ∧ ((s.sc k).at (s.sc k).nextAn = some b) ∧ (s.saState b =
      .installed)) := by
  refine ⟨?_, ?_, ?_, ?_, ?_, ?_, ?_, ?_, ?_⟩
  · refine ⟨0,
    { on [(F.SAM_ARG_ARG 0, 9), (F.SAM_ARG_ARG 1, 1)] with sam := { sa := [(9, { state := .active })], sc := [(0, { created := true, slots := [some 9, none, none, none] })] }, key := { domain := [(0, { state := .valid })], cak := [(0, { state := .valid })] } },
    ?_⟩
    repeat' apply And.intro
    all_goals first | decide +kernel | exact none_due _ (by decide +kernel) | (unfold TwinAllows; decide +kernel)
  · refine ⟨0,
    { on [(F.SAM_ARG_ARG 0, 9)] with sam := { sa := [(9, { state := .active })], sc := [(0, { created := true, slots := [some 9, none, none, none] })] }, key := { domain := [(0, { state := .valid })], cak := [(0, { state := .valid })] } },
    ?_⟩
    repeat' apply And.intro
    all_goals first | decide +kernel | exact none_due _ (by decide +kernel) | (unfold TwinAllows; decide +kernel)
  · refine ⟨0,
    { on [(F.SAM_ARG_ARG 0, 9)] with sam := { sa := [(9, { state := .active })], sc := [(0, { created := true, slots := [some 9, none, none, none] })], onDie := [9] }, key := { domain := [(0, { state := .valid })], cak := [(0, { state := .valid })] } },
    ?_⟩
    repeat' apply And.intro
    all_goals first | decide +kernel | exact none_due _ (by decide +kernel)
  · refine ⟨0,
    { on [(F.SAM_ARG_ARG 0, 9)] with sam := { sa := [(9, { state := .active, pinned := true })], sc := [(0, { created := true, slots := [some 9, none, none, none] })] }, key := { domain := [(0, { state := .valid })], cak := [(0, { state := .valid })] } },
    ?_⟩
    repeat' apply And.intro
    all_goals first | decide +kernel | exact none_due _ (by decide +kernel)
  · refine ⟨0, awake, 12, ?_⟩
    repeat' apply And.intro
    all_goals first | decide +kernel | exact none_due _ (by decide +kernel)
  · refine ⟨0,
    { on [(F.SAM_ARG_ARG 0, 0), (F.SAM_ARG_ARG 1, 5)] with sam := { sa := [(9, { state := .active }), (10, { state := .installed })], sc := [(0, { created := true, slots := [some 9, some 10, none, none], txValid := true, nextAn := 1, rollMode := 0 })], onDie := [10] }, key := { domain := [(0, { state := .valid })], cak := [(0, { state := .valid })] } },
    ?_⟩
    repeat' apply And.intro
    all_goals first | decide +kernel | exact none_due _ (by decide +kernel) | (unfold TwinAllows; decide +kernel)
  · refine ⟨0,
    { on [(F.SAM_ARG_ARG 0, 0), (F.SAM_ARG_ARG 1, 1)] with sam := { sa := [(9, { state := .active }), (10, { state := .installed })], sc := [(0, { created := true, slots := [some 9, some 10, none, none], txValid := true, nextAn := 1, rollMode := 0 })], onDie := [10] }, key := { domain := [(0, { state := .valid })], cak := [(0, { state := .valid })] } },
    10, ?_⟩
    repeat' apply And.intro
    all_goals first | decide +kernel | exact none_due _ (by decide +kernel) | (unfold TwinAllows; decide +kernel)
  · refine ⟨0,
    { on [(F.SAM_ARG_ARG 0, 0)] with sam := { sa := [(9, { state := .active }), (10, { state := .installed })], sc := [(0, { created := true, slots := [some 9, some 10, none, none], txValid := true, nextAn := 1, rollMode := 2, rollSec := 1 })] }, key := { domain := [(0, { state := .valid })], cak := [(0, { state := .valid })] } },
    ?_⟩
    repeat' apply And.intro
    all_goals first | decide +kernel | exact none_due _ (by decide +kernel) | (unfold TwinAllows; decide +kernel)
  · refine
    ⟨{ on [(F.SAM_ARG_ARG 0, 0)] with sam := { sa := [(9, { state := .active }), (10, { state := .installed })], sc := [(0, { created := true, slots := [some 9, some 10, none, none], txValid := true, nextAn := 1, rollMode := 2 })] }, key := { domain := [(0, { state := .valid })], cak := [(0, { state := .valid })] } },
    0, 10, ?_⟩
    repeat' apply And.intro
    all_goals decide +kernel

/-- States that meet the premises of `SaFetchAndEventQueue`. -/
theorem met_SaFetchAndEventQueue :
    (∃ (a : Nat) (s : State), ((s.sa a).state = .retiring) ∧ ((s.sa a).rx = true) ∧ ((s.sa a).accepting = true) ∧
      ((s.sa a).retireAt ≤ s.nowNs)) ∧
    (∃ (a : Nat) (s : State), (a ∈ s.sam.fetch) ∧ (s.sam.waits = []) ∧ ((s.toDie a).onDie a = true)) ∧
    (∃ (a : Nat) (s : State), (a ∈ s.sam.fetch) ∧ (s.sam.waits = []) ∧ ((s.toDie a).onDie a = false)) ∧
    (∃ (a : Nat) (s : State), (a ∈ s.sam.fetch) ∧ (s.sam.waits = []) ∧ (s.accepted [(12, 0)] = [(12, 0)]) ∧
      (s.tmp.onBattery = false) ∧ (s.maskOf 12 / 4 = 0) ∧ (s.pwr.state ≠ .hibernate) ∧ (s.pwr.goal = none)) ∧
    (∃ (who a : Nat) (s : State) (w : _), (a ∈ s.sam.fetch) ∧ ((s.toDie a).onDie a = true) ∧ (s.sam.waits = [w]) ∧
      (s.sam.queue = []) ∧ (w.sa = a) ∧ (w.op = 0x17) ∧ (w.who = who) ∧ (who ≤ 4) ∧ (who ∉ s.sam.flr) ∧ (field (argAt
      w.args 0) 0 17 = a) ∧ ((s.sa a).state ≠ .free) ∧ (((s.sa a).pinned = false → s.pinned < s.pinLimit))) ∧
    (∃ (a : Nat) (s : State), a ∉ s.sam.fetch) ∧
    (∃ (who : Nat) (s : State) (code b rest : _), (s.sam.evq = (code, b) :: rest) ∧ (who ≤ 4) ∧ (s.pwr.cpReset =
      false)) ∧
    (∃ (who : Nat) (s : State), s.sam.evq = [] ∨ isVf who = true ∨ s.pwr.cpReset = true) ∧
    (∃ (who : Nat) (s : State), (who ≤ 4) ∧ (s.pwr.cpReset = false) ∧ (s.sam.onDie.length ≤ s.storeSize) ∧ ((∀ k,
      s.rollDue k = false)) ∧ (s.rollNowWaits = true) ∧ (s.samRunning who = false)) ∧
    (∃ (who : Nat) (s : State), (who ≤ 4) ∧ (s.pwr.cpReset = false) ∧ (s.sam.onDie.length ≤ s.storeSize) ∧ ((∀ k,
      s.rollDue k = false)) ∧ (s.samRunning who = true) ∧ (who ∉ s.sam.flr)) ∧
    (∃ (who : Nat) (s : State) (k c b : _), (who ≤ 4) ∧ (s.pwr.cpReset = false) ∧ (s.sam.onDie.length ≤ s.storeSize) ∧
      (s.sam.sc = [(k, c)]) ∧ (s.rollDue k = true) ∧ ((s.sc k).at (s.sc k).nextAn = some b) ∧ (s.saState b =
      .installed) ∧ (s.onDie b = true) ∧ (s.sam.waits = []) ∧ (s.sam.queue = []) ∧ (s.sam.flr = []) ∧ (field (s.samArg
      who 0) 0 16 = k) ∧ (TwinAllows s (s.scMirrored k))) := by
  refine ⟨?_, ?_, ?_, ?_, ?_, ?_, ?_, ?_, ?_, ?_, ?_⟩
  · refine ⟨9,
    { on [(F.SAM_ARG_ARG 0, 9)] with sam := { sa := [(9, { state := .retiring, rx := true, accepting := true })], sc := [(0, { created := true, slots := [some 9, none, none, none] })] }, key := { domain := [(0, { state := .valid })], cak := [(0, { state := .valid })] } },
    ?_⟩
    repeat' apply And.intro
    all_goals decide +kernel
  · refine ⟨9,
    { on [(F.SAM_ARG_ARG 0, 9)] with sam := { sa := [(9, { state := .retiring, rx := true, accepting := true })], sc := [(0, { created := true, slots := [some 9, none, none, none] })], fetch := [9] }, key := { domain := [(0, { state := .valid })], cak := [(0, { state := .valid })] } },
    ?_⟩
    repeat' apply And.intro
    all_goals decide +kernel
  · refine ⟨9, { awake full with sam := { fetch := [9] } }, ?_⟩
    repeat' apply And.intro
    all_goals decide +kernel
  · refine ⟨9, { awake with fus := { loaded := [(0x72, 0x30100)] }, sam := { fetch := [9] } }, ?_⟩
    repeat' apply And.intro
    all_goals decide +kernel
  · refine ⟨0, 9,
    { on [(F.SAM_ARG_ARG 0, 9)] with sam := { sa := [(9, { state := .staged })], sc := [(0, { created := true, slots := [some 9, none, none, none] })], fetch := [9], waits := [⟨0, 0x17, 9, [9]⟩] }, key := { domain := [(0, { state := .valid })], cak := [(0, { state := .valid })] } },
    ⟨0, 0x17, 9, [9]⟩, ?_⟩
    repeat' apply And.intro
    all_goals decide +kernel
  · refine ⟨9, awake, ?_⟩
    repeat' apply And.intro
    all_goals decide +kernel
  · refine ⟨0,
    { on [(F.SAM_ARG_ARG 0, 9)] with sam := { sa := [(9, {})], sc := [(0, { created := true, slots := [some 9, none, none, none] })], evq := [(1, 9)] }, key := { domain := [(0, { state := .valid })], cak := [(0, { state := .valid })] } },
    1, 9, [], ?_⟩
    repeat' apply And.intro
    all_goals decide +kernel
  · refine ⟨5, awake, ?_⟩
    repeat' apply And.intro
    all_goals decide +kernel
  · refine ⟨0, { awake with sam := { waits := [⟨1, 0x21, 9, []⟩] } }, ?_⟩
    repeat' apply And.intro
    all_goals first | decide +kernel | exact none_due _ (by decide +kernel)
  · refine ⟨0, { awake with sam := { waits := [⟨0, 0x17, 9, [9]⟩] } }, ?_⟩
    repeat' apply And.intro
    all_goals first | decide +kernel | exact none_due _ (by decide +kernel)
  · refine ⟨0,
    { on [(F.SAM_ARG_ARG 0, 0)] with sam := { sa := [(9, { state := .active }), (10, { state := .installed })], sc := [(0, { created := true, slots := [some 9, some 10, none, none], txValid := true, nextAn := 1, rollMode := 2 })], onDie := [10] }, key := { domain := [(0, { state := .valid })], cak := [(0, { state := .valid })] } },
    0, { created := true, slots := [some 9, some 10, none, none], txValid := true, nextAn := 1, rollMode := 2 }, 10,
    ?_⟩
    repeat' apply And.intro
    all_goals first | decide +kernel | (unfold TwinAllows; decide +kernel)

/-- States that meet the premises of `DomainKeysAndDerivation`. -/
theorem met_DomainKeysAndDerivation :
    (∃ (who : Nat) (s : State) (vf : _), (who ≤ 4) ∧ (s.pwr.cpReset = false) ∧ (isVf vf = true)) ∧
    (∃ (who : Nat) (s : State), (who ≤ 4) ∧ (s.pwr.cpReset = false) ∧ ((s.slot 1 (field (s.keyArg who 0) 0 12)).state
      = .empty) ∧ (s.slotLive 0 (field (s.keyArg who 0) 12 4) = true)) ∧
    (∃ (who : Nat) (s : State), (who ≤ 4) ∧ (s.pwr.cpReset = false) ∧ ((s.slot 2 (field (s.keyArg who 0) 0 14)).state
      = .empty) ∧ (s.slotLive 1 (field (s.keyArg who 0) 14 12) = true) ∧ (((decide (field (s.keyArg who 0) 26 1 = 1))
      = false → (field (s.keyArg who 1) 0 16) ≠ s.nodeId (s.slot 1 (field (s.keyArg who 0) 14 12)).parentIndex))) := by
  refine ⟨?_, ?_, ?_⟩
  · refine ⟨0, awake, 5, ?_⟩
    repeat' apply And.intro
    all_goals decide +kernel
  · refine ⟨0, { on ([(F.KEY_ARG_ARG 0, 0)]) with key := { domain := [(0, { state := .valid })] } }, ?_⟩
    repeat' apply And.intro
    all_goals decide +kernel
  · exact ⟨0, { on ([(F.KEY_ARG_ARG 0, 1), (F.KEY_ARG_ARG 1, 7)]) with key := { domain := [(0, { state := .valid })], group := [(0, { state := .valid, exportable := false })], cak := [(0, { state := .valid })] } }, by decide, by decide, by decide +kernel, by decide +kernel, fun _ => by decide +kernel⟩

/-- States that meet the premises of `KeyImportAndExport`. -/
theorem met_KeyImportAndExport :
    (∃ (who : Nat) (key : Bytes) (s : State), (who ≤ 4) ∧ (s.pwr.cpReset = false) ∧ (((field (s.keyArg who 0) 0 2) = 1
      ∧ (field (s.keyArg who 0) 2 14) < 4096 ∧ (field (s.keyArg who 0) 16 14) < 16) ∨ ((field (s.keyArg who 0) 0 2) =
      2 ∧ (field (s.keyArg who 0) 16 14) < 4096)) ∧ ((s.slot (field (s.keyArg who 0) 0 2) (field (s.keyArg who 0) 2
      14)).state = .empty) ∧ (s.slotLive ((field (s.keyArg who 0) 0 2) - 1) (field (s.keyArg who 0) 16 14) = true) ∧
      ((((field (s.keyArg who 1) 0 2) = 0 ∧ kwUnwrap (s.wrapKey ((field (s.keyArg who 0) 0 2) - 1) (field (s.keyArg
      who 0) 16 14) (field (s.keyArg who 0) 0 2)) (s.keyArgBytes who 7 40) = some key) ∨ ((field (s.keyArg who 1) 0 2)
      = 1 ∧ kwUnwrap (s.backupKey (s.domainOf ((field (s.keyArg who 0) 0 2) - 1) (field (s.keyArg who 0) 16 14)))
      (s.keyArgBytes who 7 40) = some key) ∨ ((field (s.keyArg who 1) 0 2) = 2 ∧ s.testRoot = true ∧ key =
      s.keyArgBytes who 7 32)))) ∧
    (∃ (who : Nat) (s : State), (who ≤ 4) ∧ (s.pwr.cpReset = false) ∧ (((field (s.keyArg who 0) 0 2) = 1 ∧ (field
      (s.keyArg who 0) 2 14) < 4096 ∨ (field (s.keyArg who 0) 0 2) = 2)) ∧ (s.slotLive (field (s.keyArg who 0) 0 2)
      (field (s.keyArg who 0) 2 14) = true) ∧ ((s.slot (field (s.keyArg who 0) 0 2) (field (s.keyArg who 0) 2
      14)).exportable = true)) ∧
    (∃ (who : Nat) (s : State), (who ≤ 4) ∧ (s.pwr.cpReset = false) ∧ (((field (s.keyArg who 0) 0 2) = 1 ∧ (field
      (s.keyArg who 0) 2 14) < 4096 ∨ (field (s.keyArg who 0) 0 2) = 2)) ∧ (s.slotLive (field (s.keyArg who 0) 0 2)
      (field (s.keyArg who 0) 2 14) = true) ∧ ((s.slot (field (s.keyArg who 0) 0 2) (field (s.keyArg who 0) 2
      14)).exportable = false)) ∧
    (∃ (who : Nat) (s : State), (who ≤ 4) ∧ (s.pwr.cpReset = false) ∧ (badSlot ((slotArg (s.keyArg who 0)).1)
      ((slotArg (s.keyArg who 0)).2) = false)) ∧
    (∃ (who : Nat) (s : State), (who ≤ 4) ∧ (s.pwr.cpReset = false) ∧ (s.keyArg who 3 ≠ 0) ∧ (s.keyArg who 3 ≤ 16000)
      ∧ (s.slotLive 2 (field (s.keyArg who 0) 0 14) = true)) := by
  refine ⟨?_, ?_, ?_, ?_, ?_⟩
  · exact ⟨0, _, { on ([(F.KEY_ARG_ARG 0, 1), (F.KEY_ARG_ARG 1, 2)] ++ [(F.KEY_STATUS_TEST_ROOT, 1)]) with key := { domain := [(0, { state := .valid })] } }, by decide, by decide, .inl (by decide +kernel), by decide +kernel, by decide +kernel, .inr (.inr ⟨by decide +kernel, by decide +kernel, rfl⟩)⟩
  · refine ⟨0,
    { on ([(F.KEY_ARG_ARG 0, 1)]) with key := { domain := [(0, { state := .valid })], group := [(0, { state := .valid, exportable := true })], cak := [(0, { state := .valid })] } },
    ?_⟩
    repeat' apply And.intro
    all_goals decide +kernel
  · refine ⟨0,
    { on ([(F.KEY_ARG_ARG 0, 1)]) with key := { domain := [(0, { state := .valid })], group := [(0, { state := .valid, exportable := false })], cak := [(0, { state := .valid })] } },
    ?_⟩
    repeat' apply And.intro
    all_goals decide +kernel
  · refine ⟨0, awake, ?_⟩
    repeat' apply And.intro
    all_goals decide +kernel
  · refine ⟨0,
    { on ([(F.KEY_ARG_ARG 0, 0), (F.KEY_ARG_ARG 3, 16000)]) with key := { domain := [(0, { state := .valid })], group := [(0, { state := .valid, exportable := false })], cak := [(0, { state := .valid })] } },
    ?_⟩
    repeat' apply And.intro
    all_goals decide +kernel

/-- States that meet the premises of `KeyInvalidation`. -/
theorem met_KeyInvalidation :
    (∃ (who : Nat) (s : State), (who ≤ 4) ∧ (s.pwr.cpReset = false) ∧ (badSlot ((slotArg (s.keyArg who 0)).1)
      ((slotArg (s.keyArg who 0)).2) = false) ∧ ((s.slot ((slotArg (s.keyArg who 0)).1) ((slotArg (s.keyArg who
      0)).2)).state = .valid ∨ (s.slot ((slotArg (s.keyArg who 0)).1) ((slotArg (s.keyArg who 0)).2)).state =
      .orphaned) ∧ ((((slotArg (s.keyArg who 0)).1), ((slotArg (s.keyArg who 0)).2)) ∉ s.key.sweeps) ∧ ((∀ w ∈
      s.sam.waits, w.op ≠ 0x21))) ∧
    (∃ (who : Nat) (s : State) (x rest : _), (who ≤ 4) ∧ (s.pwr.cpReset = false) ∧ (s.key.sweeps = x :: rest)) := by
  refine ⟨?_, ?_⟩
  · refine ⟨0,
    { on ([(F.KEY_ARG_ARG 0, 2)]) with key := { domain := [(0, { state := .valid })], group := [(0, { state := .valid, exportable := false })], cak := [(0, { state := .valid })] } },
    ?_⟩
    repeat' apply And.intro
    all_goals decide +kernel
  · refine ⟨0, { on ([]) with key := { sweeps := [(1, 7)] } }, (1, 7), [], ?_⟩
    repeat' apply And.intro
    all_goals decide +kernel

/-- States that meet the premises of `HybridExchange`. -/
theorem met_HybridExchange :
    (∃ (who n : Nat) (s : State), (who ≤ 4) ∧ (s.pwr.cpReset = false) ∧ (s.noAsym = false) ∧ (1720 ≤ s.keyArg who 8) ∧
      (s.identityReady = true) ∧ (s.slotLive 0 (field (s.keyArg who 0) 0 4) = true) ∧ ((List.range 64).find? (fun i =>
      decide (s.hyb i = none)) = some n)) ∧
    (∃ (who : Nat) (h : HybSession) (s : State), (who ≤ 4) ∧ (s.pwr.cpReset = false) ∧ (s.noAsym = false) ∧ (s.hybOpen
      (s.keyArg who 1) = some h)) ∧
    (∃ (who : Nat) (s : State), (who ≤ 4) ∧ (s.pwr.cpReset = false) ∧ (s.noAsym = false) ∧ (s.hybOpen (s.keyArg who 1)
      = none)) ∧
    (∃ (who n : Nat) (h : HybSession) (s : State), (who ≤ 4) ∧ (s.pwr.cpReset = false) ∧ (s.noAsym = false) ∧ (s.hyb n
      = some h) ∧ (h.expiry ≤ s.nowNs)) := by
  refine ⟨?_, ?_, ?_, ?_⟩
  · refine ⟨0, 0,
    { on ([(F.KEY_ARG_ARG 0, 0), (F.KEY_ARG_ARG 8, 1720)] ++ [(F.KEY_STATUS_IDENTITY_READY, 1)]) with key := { domain := [(0, { state := .valid })], group := [(0, { state := .valid, exportable := false })], cak := [(0, { state := .valid })] } },
    ?_⟩
    repeat' apply And.intro
    all_goals decide +kernel
  · refine ⟨0,
    { slot := 0, gen := 0, peer := 0, ckn := 0, kemSeed := 0, ecdhPriv := 0, expiry := 1, msg1 := default },
    { on ([(F.KEY_ARG_ARG 1, 3)]) with key := { hyb := [(3, some { slot := 0, gen := 0, peer := 0, ckn := 0, kemSeed := 0, ecdhPriv := 0, expiry := 1, msg1 := default })] } },
    ?_⟩
    repeat' apply And.intro
    all_goals decide +kernel
  · refine ⟨0, awake, ?_⟩
    repeat' apply And.intro
    all_goals decide +kernel
  · refine ⟨0, 3,
    { slot := 0, gen := 0, peer := 0, ckn := 0, kemSeed := 0, ecdhPriv := 0, expiry := 0, msg1 := default },
    { on ([(F.KEY_ARG_ARG 1, 3)]) with key := { hyb := [(3, some { slot := 0, gen := 0, peer := 0, ckn := 0, kemSeed := 0, ecdhPriv := 0, expiry := 0, msg1 := default })] } },
    ?_⟩
    repeat' apply And.intro
    all_goals decide +kernel

/-- States that meet the premises of `IdentityAndAttestation`. -/
theorem met_IdentityAndAttestation :
    (∃ (who : Nat) (s : State), (who ≤ 4) ∧ (s.pwr.cpReset = false) ∧ (s.identityReady = true) ∧ (4368 ≤ s.keyArg who
      2)) ∧
    (∃ (who : Nat) (s : State), (who ≤ 4) ∧ (s.pwr.cpReset = false) ∧ (s.identityReady = true) ∧ (5152 ≤ s.keyArg who
      18)) ∧
    (∃ (who : Nat) (s : State), (who ≤ 4) ∧ (s.pwr.cpReset = false) ∧ (s.identityReady = true) ∧ (s.keyArg who 2 <
      4368)) := by
  refine ⟨?_, ?_, ?_⟩
  · refine ⟨0, { on ([(F.KEY_ARG_ARG 2, 4368)] ++ [(F.KEY_STATUS_IDENTITY_READY, 1)]) with key := {} }, ?_⟩
    repeat' apply And.intro
    all_goals decide +kernel
  · refine ⟨4, on [(F.KEY_ARG_ARG 114, 5152), (F.KEY_STATUS_IDENTITY_READY, 1)], ?_⟩
    repeat' apply And.intro
    all_goals decide +kernel
  · refine ⟨0, { on ([] ++ [(F.KEY_STATUS_IDENTITY_READY, 1)]) with key := {} }, ?_⟩
    repeat' apply And.intro
    all_goals decide +kernel

/-- States that meet the premises of `ShapersAndGates`. -/
theorem met_ShapersAndGates :
    (∃ (who p val : Nat), (who ≤ 4) ∧ (p < 64) ∧ (64 ≤ field val 0 20)) ∧
    (∃ (who p val : Nat) (s : State), (who ≤ 4) ∧ (p < 64) ∧ (field val 0 30 ≤ s.pRateLimit p) ∧ (s.get
      (F.SCH_P_BURST_BURST p) < 2 ^ 20)) ∧
    (∃ (who p ch : Nat) (s : State), (who ≤ 4) ∧ (p < 64) ∧ (s.channelAbsent ch = false) ∧ (s.bound ch = true)) ∧
    (∃ (who p ch : Nat) (s : State), (who ≤ 4) ∧ (p < 64) ∧ (ch < 192) ∧ (s.channelAbsent ch = true)) ∧
    (∃ (who p ch : Nat) (s : State), (who ≤ 4) ∧ (p < 64) ∧ (s.channelAbsent ch = false) ∧ (s.bound ch = false)) ∧
    (∃ (who p ch : Nat) (s : State) (l x : _), (who ≤ 4) ∧ (p < 64) ∧ ((s.gate ch).pending = some (some l)) ∧ ((s.gate
      ch).swapAt = some x) ∧ (x ≤ s.nowNs) ∧ ((s.gate ch).waitEn = none)) ∧
    (∃ (who p ch : Nat) (s : State) (w : _), (who ≤ 4) ∧ (p < 64) ∧ ((s.gate ch).swapAt = none) ∧ ((s.gate ch).waitEn
      = some w) ∧ ((s.gate ch).enabledFrom ≤ s.nowNs)) := by
  refine ⟨?_, ?_, ?_, ?_, ?_, ?_, ?_⟩
  · refine ⟨0, 63, 64, ?_⟩
    repeat' apply And.intro
    all_goals decide +kernel
  · refine ⟨0, 0, 800000000, awake, ?_⟩
    repeat' apply And.intro
    all_goals decide +kernel
  · refine ⟨0, 0, 32, awake, ?_⟩
    repeat' apply And.intro
    all_goals decide +kernel
  · refine ⟨0, 0, 191, { awake with fus := { variant := .gd1610 } }, ?_⟩
    repeat' apply And.intro
    all_goals decide +kernel
  · refine ⟨0, 0, 34, awake, ?_⟩
    repeat' apply And.intro
    all_goals decide +kernel
  · refine ⟨0, 0, 32,
    { awake with sch := { gate := [(32, { pending := some (some ⟨32, 1000, 0, 0, [(255, 1000)]⟩) })] } }, ⟨32, 1000,
    0, 0, [(255, 1000)]⟩, 0, ?_⟩
    repeat' apply And.intro
    all_goals decide +kernel
  · refine ⟨0, 0, 32, { awake with sch := { gate := [(32, { waitEn := some 0 })] } }, 0, ?_⟩
    repeat' apply And.intro
    all_goals decide +kernel

/-- States that meet the premises of `TimeIncrementCommits`. -/
theorem met_TimeIncrementCommits :
    (∃ (who val : Nat) (s : State), (who ≤ 4) ∧ (0x1FF7CED92 ≤ (val % 256 * 2 ^ 32 + s.get F.TIM_INC_FRAC_FRAC) ∧ (val
      % 256 * 2 ^ 32 + s.get F.TIM_INC_FRAC_FRAC) ≤ 0x20083126E)) ∧
    (∃ (who val : Nat) (s : State), (who ≤ 4) ∧ ((val % 256 * 2 ^ 32 + s.get F.TIM_INC_FRAC_FRAC) < 0x1FF7CED92 ∨
      0x20083126E < (val % 256 * 2 ^ 32 + s.get F.TIM_INC_FRAC_FRAC))) := by
  refine ⟨?_, ?_⟩
  · refine ⟨0, 2, awake, ?_⟩
    repeat' apply And.intro
    all_goals decide +kernel
  · refine ⟨0, 3, awake, ?_⟩
    repeat' apply And.intro
    all_goals decide +kernel

/-- States that meet the premises of `TicksAndSteps`. -/
theorem met_TicksAndSteps :
    (∃ (s : State), (s.pending = []) ∧ (s.pwr.state ≠ .hibernate)) ∧
    (∃ (who : Nat) (s : State), (who ≤ 4) ∧ (s.pwr.state ≠ .hibernate) ∧ ((-999999999 ≤ (signed 32 (s.get
      F.TIM_STEP_NS_NS)) ∧ (signed 32 (s.get F.TIM_STEP_NS_NS)) ≤ 999999999 ∧ 0 ≤ ((s.tim.now : Int) + s.stepOffset +
      s.tim.inc) ∧ ((s.tim.now : Int) + s.stepOffset + s.tim.inc) < 2 ^ 48 * second)) ∧ (s.stepOffset = 0)) ∧
    (∃ (who : Nat) (s : State), (who ≤ 4) ∧ (s.pwr.state ≠ .hibernate) ∧ ((-999999999 ≤ (signed 32 (s.get
      F.TIM_STEP_NS_NS)) ∧ (signed 32 (s.get F.TIM_STEP_NS_NS)) ≤ 999999999 ∧ 0 ≤ ((s.tim.now : Int) + s.stepOffset +
      s.tim.inc) ∧ ((s.tim.now : Int) + s.stepOffset + s.tim.inc) < 2 ^ 48 * second)) ∧ (s.stepOffset ≠ 0) ∧
      (s.shadowState ≠ 3) ∧ ((∀ k, (s.sc k).rollMode < 2)) ∧ ((∀ k < 2, (Tab.get s.tim.trig {} k).period = 0 →
      (Tab.get s.tim.trig {} k).armed = false))) ∧
    (∃ (who : Nat) (s : State), (who ≤ 4) ∧ (s.pwr.state ≠ .hibernate) ∧ (¬ (-999999999 ≤ (signed 32 (s.get
      F.TIM_STEP_NS_NS)) ∧ (signed 32 (s.get F.TIM_STEP_NS_NS)) ≤ 999999999 ∧ 0 ≤ ((s.tim.now : Int) + s.stepOffset +
      s.tim.inc) ∧ ((s.tim.now : Int) + s.stepOffset + s.tim.inc) < 2 ^ 48 * second))) := by
  refine ⟨?_, ?_, ?_, ?_⟩
  · refine ⟨awake, ?_⟩
    repeat' apply And.intro
    all_goals decide +kernel
  · refine ⟨0, awake, ?_⟩
    repeat' apply And.intro
    all_goals decide +kernel
  · refine ⟨0, on [(F.TIM_STEP_NS_NS, 5)], ?_⟩
    repeat' apply And.intro
    all_goals first | decide +kernel | exact fun _ => (by decide : 0 < 2)
  · refine ⟨0, on [(F.TIM_STEP_NS_NS, 1000000000)], ?_⟩
    repeat' apply And.intro
    all_goals decide +kernel

/-- States that meet the premises of `CapturesTriggersAndReferences`. -/
theorem met_CapturesTriggersAndReferences :
    (∃ (k : Nat) (rising : Bool) (s : State), (k < 3) ∧ ((if rising then s.get (F.TIM_CAP_CFG_EDGE k) % 2 = 1 else
      s.get (F.TIM_CAP_CFG_EDGE k) / 2 = 1)) ∧ (s.pwr.state ≠ .hibernate) ∧ ((∀ p ∈ s.tim.capLast, p.1 = k → s.nowQns
      < p.2 ∨ p.2 + 32 ≤ s.nowQns)) ∧ ((s.capFifo k).length < 16)) ∧
    (∃ (k : Nat) (rising : Bool) (s : State), (k < 3) ∧ ((if rising then s.get (F.TIM_CAP_CFG_EDGE k) % 2 = 1 else
      s.get (F.TIM_CAP_CFG_EDGE k) / 2 = 1)) ∧ (s.pwr.state ≠ .hibernate) ∧ ((∀ p ∈ s.tim.capLast, p.1 = k → s.nowQns
      < p.2 ∨ p.2 + 32 ≤ s.nowQns)) ∧ (16 ≤ (s.capFifo k).length)) ∧
    (∃ (who k : Nat) (s : State), (k < 3) ∧ (who ≤ 4) ∧ ((s.capFifo k).length ≤ 1)) ∧
    (∃ (who k : Nat) (s : State) (a b r : _), (k < 3) ∧ (who ≤ 4) ∧ (s.capFifo k = a :: b :: r)) ∧
    (∃ (who k : Nat) (s : State) (a b r : _), (k < 3) ∧ (who ≤ 4) ∧ (s.tim.txts = a :: b :: r)) ∧
    (∃ (who k : Nat) (s : State) (a : _), (k < 3) ∧ (who ≤ 4) ∧ (s.tim.txts = [a])) ∧
    (∃ (who k : Nat) (s : State), (k < 3) ∧ (who ≤ 4) ∧ (s.tim.txts = [])) ∧
    (∃ (who k : Nat) (s : State), (who ≤ 4) ∧ (k < 2) ∧ (8 ≤ (s.get (F.TIM_TRIG_WIDTH_WIDTH_NS k))) ∧ ((s.get
      (F.TIM_TRIG_PERIOD_PERIOD_NS k)) = 0 ∨ (100 ≤ (s.get (F.TIM_TRIG_PERIOD_PERIOD_NS k)) ∧ (s.get
      (F.TIM_TRIG_PERIOD_PERIOD_NS k)) ≤ 1000000000 ∧ (s.get (F.TIM_TRIG_WIDTH_WIDTH_NS k)) < (s.get
      (F.TIM_TRIG_PERIOD_PERIOD_NS k))))) ∧
    (∃ (who k : Nat) (s : State), (who ≤ 4) ∧ (k < 2) ∧ ((s.get (F.TIM_TRIG_WIDTH_WIDTH_NS k)) < 8 ∨ ((s.get
      (F.TIM_TRIG_PERIOD_PERIOD_NS k)) ≠ 0 ∧ ((s.get (F.TIM_TRIG_PERIOD_PERIOD_NS k)) < 100 ∨ 1000000000 < (s.get
      (F.TIM_TRIG_PERIOD_PERIOD_NS k)) ∨ (s.get (F.TIM_TRIG_PERIOD_PERIOD_NS k)) ≤ (s.get (F.TIM_TRIG_WIDTH_WIDTH_NS
      k)))))) ∧
    (∃ (who k : Nat) (s : State), (who ≤ 4) ∧ (k < 2) ∧ ((Tab.get s.tim.trig {} k).armed = true) ∧ ((Tab.get
      s.tim.trig {} k).edge ≤ s.nowNs)) ∧
    (∃ (s : State), s.get F.TIM_CFG_SRC = 1) ∧
    (∃ (s : State), s.get F.TIM_STATUS_REF_LOCKED = 0) ∧
    (∃ (s : State), ((s.nextPps (max s.tim.ppsFrom s.tim.ppsDone)) ≤ s.tim.now) ∧ (s.get F.TIM_CFG_PPS_OUT_EN = 1) ∧
      (s.pwr.state ≠ .hibernate) ∧ (s.squelched = false)) ∧
    (∃ (s : State), s.get F.TIM_CFG_SRC = 0) := by
  refine ⟨?_, ?_, ?_, ?_, ?_, ?_, ?_, ?_, ?_, ?_, ?_, ?_, ?_, ?_⟩
  · refine ⟨2, true,
    { on [(F.TIM_CAP_CFG_EDGE 2, 3)] with tim := { cap := [(2, List.replicate 15 { at' := {}, rise := true })] } },
    ?_⟩
    repeat' apply And.intro
    all_goals decide +kernel
  · refine ⟨2, false,
    { on [(F.TIM_CAP_CFG_EDGE 2, 3)] with tim := { cap := [(2, List.replicate 16 { at' := {}, rise := true })] } },
    ?_⟩
    repeat' apply And.intro
    all_goals decide +kernel
  · refine ⟨0, 2,
    { on [(F.TIM_CAP_CFG_EDGE 2, 3)] with tim := { cap := [(2, List.replicate 1 { at' := {}, rise := true })] } }, ?_⟩
    repeat' apply And.intro
    all_goals decide +kernel
  · refine ⟨0, 2,
    { on [(F.TIM_CAP_CFG_EDGE 2, 3)] with tim := { cap := [(2, List.replicate 2 { at' := {}, rise := true })] } },
    { at' := {}, rise := true }, { at' := {}, rise := true }, [], ?_⟩
    repeat' apply And.intro
    all_goals decide +kernel
  · refine ⟨0, 0,
    { awake with tim := { txts := [{ tag := 1, channel := 32, at' := {} }, { tag := 1, channel := 32, at' := {} }] } },
    { tag := 1, channel := 32, at' := {} }, { tag := 1, channel := 32, at' := {} }, [], ?_⟩
    repeat' apply And.intro
    all_goals decide +kernel
  · refine ⟨0, 0, { awake with tim := { txts := [{ tag := 1, channel := 32, at' := {} }] } },
    { tag := 1, channel := 32, at' := {} }, ?_⟩
    repeat' apply And.intro
    all_goals decide +kernel
  · refine ⟨0, 0, awake, ?_⟩
    repeat' apply And.intro
    all_goals decide +kernel
  · refine ⟨0, 1, on [(F.TIM_TRIG_WIDTH_WIDTH_NS 1, 8)], ?_⟩
    repeat' apply And.intro
    all_goals decide +kernel
  · refine ⟨0, 1, on [(F.TIM_TRIG_WIDTH_WIDTH_NS 1, 7)], ?_⟩
    repeat' apply And.intro
    all_goals decide +kernel
  · refine ⟨0, 1, { awake with tim := { trig := [(1, { armed := true })] } }, ?_⟩
    repeat' apply And.intro
    all_goals decide +kernel
  · refine ⟨on [(F.TIM_CFG_SRC, 1)], ?_⟩
    repeat' apply And.intro
    all_goals decide +kernel
  · refine ⟨on [(F.TIM_STATUS_REF_LOCKED, 0)], ?_⟩
    repeat' apply And.intro
    all_goals decide +kernel
  · refine ⟨{ on [(F.TIM_CFG_PPS_OUT_EN, 1), (F.TIM_STATUS_VALID, 1)] with tim := { now := 2 * second } }, ?_⟩
    repeat' apply And.intro
    all_goals decide +kernel
  · refine ⟨awake, ?_⟩
    repeat' apply And.intro
    all_goals decide +kernel

/-- States that meet the premises of `TwinFramesAreChecked`. -/
theorem met_TwinFramesAreChecked :
    (∃ (h : TwinHdr) (m : TwinMsg) (c : Instr) (e : Nat) (s : State), (sessionRow s h m = some (c, e)) ∧ (s.get
      F.TWN_STATUS_LINK_UP ≠ 1)) ∧
    (∃ (h : TwinHdr) (m : TwinMsg) (c : Instr) (e : Nat) (s : State), (sessionRow s h m = some (c, e)) ∧ (s.get
      F.TWN_STATUS_LINK_UP = 1) ∧ (s.twinAuth h m = true) ∧ (h.epoch % 65536 ≠ e % 65536)) ∧
    (∃ (h : TwinHdr) (m : TwinMsg) (c : Instr) (e : Nat) (s : State), (sessionRow s h m = some (c, e)) ∧ (s.get
      F.TWN_STATUS_LINK_UP = 1) ∧ (s.twinAuth h m = false) ∧ (s.accepted [(13, 0)] = [])) := by
  refine ⟨?_, ?_, ?_⟩
  · exact ⟨{ epoch := 0, node := 9, seq := 1, icv := 0 }, (.heartbeat .active true .drive), _, _, awake paired, rfl, by decide +kernel⟩
  · exact ⟨hdr (on [(F.TWN_STATUS_LINK_UP, 1)] paired) 1 (.heartbeat .active true .drive) 5, (.heartbeat .active true .drive), _, _, on [(F.TWN_STATUS_LINK_UP, 1)] paired, rfl, by decide +kernel, hdr_auth .., by decide +kernel⟩
  · exact ⟨{ hdr ({ on [(F.TWN_STATUS_LINK_UP, 1)] paired with fus := { loaded := [(0x73, 1)] } }) 1 (.heartbeat .active true .drive) with icv := (hdr ({ on [(F.TWN_STATUS_LINK_UP, 1)] paired with fus := { loaded := [(0x73, 1)] } }) 1 (.heartbeat .active true .drive)).icv + 1 }, (.heartbeat .active true .drive), _, _, { on [(F.TWN_STATUS_LINK_UP, 1)] paired with fus := { loaded := [(0x73, 1)] } }, rfl, by decide +kernel, by simp [State.twinAuth, hdr], by decide +kernel⟩

/-- States that meet the premises of `TwinSessionStarts`. -/
theorem met_TwinSessionStarts :
    (∃ (h : TwinHdr) (m : HelloMsg) (g : Image) (s : State), (s.pel.active = some g) ∧ (s.twinOn = true) ∧ (s.dataUp =
      true) ∧ (s.pwr.cpReset = false) ∧ (s.linkKeyed = true) ∧ (s.twinAuth h (.hello m) = true) ∧ (s.get
      F.TWN_STATUS_LINK_UP = 0) ∧ (s.helloFits g m = true)) ∧
    (∃ (h : TwinHdr) (m : HelloMsg) (g : Image) (s : State), (s.pel.active = some g) ∧ (s.twinOn = true) ∧ (s.dataUp =
      true) ∧ (s.pwr.cpReset = false) ∧ (s.linkKeyed = true) ∧ (s.twinAuth h (.hello m) = true) ∧ (s.get
      F.TWN_STATUS_LINK_UP = 0) ∧ (s.helloFits g m = false)) := by
  refine ⟨?_, ?_⟩
  · refine ⟨hdr keyed 1 (.hello
    { role := .nonPreferred, state := .seeking, synced := false, epoch := 0, holder := 0, structure' := structureOf paired, domainId := 0, random := 0 }),
    { role := .nonPreferred, state := .seeking, synced := false, epoch := 0, holder := 0, structure' := structureOf paired, domainId := 0, random := 0 },
    paired, keyed, ?_⟩
    repeat' apply And.intro
    all_goals first | decide +kernel | exact hdr_auth .. | exact decide_eq_true ⟨rfl, by decide +kernel⟩
  · refine ⟨hdr keyed 1 (.hello
    { role := .standalone, state := .seeking, synced := false, epoch := 0, holder := 0, structure' := structureOf paired, domainId := 0, random := 0 }),
    { role := .standalone, state := .seeking, synced := false, epoch := 0, holder := 0, structure' := structureOf paired, domainId := 0, random := 0 },
    paired, keyed, ?_⟩
    repeat' apply And.intro
    all_goals first | decide +kernel | exact hdr_auth .. | exact decide_eq_false (fun h => h.2.2.2 rfl)

/-- States that meet the premises of `TwinMirrorsState`. -/
theorem met_TwinMirrorsState :
    (∃ (h : TwinHdr) (s : State) (st synced clap : _), (s.twn.rxSeq < h.seq) ∧ (Passes s h (.heartbeat st synced clap)
      s.epoch) ∧ (s.get F.TWN_STATUS_STATE = 3)) ∧
    (∃ (h : TwinHdr) (s : State) (a pn : _), (s.twn.rxSeq < h.seq) ∧ (Passes s h (.mirror (.rxPn a pn)) s.epoch) ∧
      (s.get F.TWN_STATUS_STATE = 3) ∧ ((s.sa a).rx = true)) ∧
    (∃ (h : TwinHdr) (s : State) (r : _), (s.twn.rxSeq < h.seq) ∧ (Passes s h (.mirror (.sc r)) s.epoch) ∧ (s.get
      F.TWN_STATUS_STATE = 3) ∧ (r.created = true) ∧ (r.dirRx = false) ∧ ((s.sc r.sc).created = false)) ∧
    (∃ (h : TwinHdr) (s : State) (r : _), (s.twn.rxSeq < h.seq) ∧ (Passes s h (.sync r) s.epoch) ∧ (s.get
      F.TWN_STATUS_STATE = 2) ∧ (r ≠ .syncEnd)) ∧
    (∃ (h : TwinHdr) (s : State), (s.twn.rxSeq < h.seq) ∧ (Passes s h (.sync .syncEnd) s.epoch) ∧ (s.get
      F.TWN_STATUS_STATE = 2)) ∧
    (∃ (h : TwinHdr) (s : State) (a newEnd : _), (s.twn.rxSeq < h.seq) ∧ (Passes s h (.reserve a newEnd) s.epoch) ∧
      (s.get F.TWN_STATUS_STATE = 3) ∧ (s.saMirrored a = true) ∧ ((s.sa a).rx = false)) ∧
    (∃ (h : TwinHdr) (s : State) (n : _), (s.twn.rxSeq < h.seq) ∧ (Passes s h (.ack n) s.epoch)) := by
  refine ⟨?_, ?_, ?_, ?_, ?_, ?_, ?_⟩
  · refine ⟨hdr (on [(F.TWN_STATUS_LINK_UP, 1), (F.TWN_STATUS_STATE, 3)] paired) 1 (.heartbeat .active true .drive),
    on [(F.TWN_STATUS_LINK_UP, 1), (F.TWN_STATUS_STATE, 3)] paired, .active, true, .drive, ?_⟩
    repeat' apply And.intro
    all_goals first | decide +kernel | exact hdr_auth ..
  · refine ⟨hdr
    ({ on [(F.TWN_STATUS_LINK_UP, 1), (F.TWN_STATUS_STATE, 3)] paired with sam := { sa := [(9, { rx := true })] } }) 1
    (.mirror (.rxPn 9 5)),
    { on [(F.TWN_STATUS_LINK_UP, 1), (F.TWN_STATUS_STATE, 3)] paired with sam := { sa := [(9, { rx := true })] } }, 9,
    5, ?_⟩
    repeat' apply And.intro
    all_goals first | decide +kernel | exact hdr_auth ..
  · refine ⟨hdr (on [(F.TWN_STATUS_LINK_UP, 1), (F.TWN_STATUS_STATE, 3)] paired) 1 (.mirror (.sc
    { sc := 4, created := true, enable := true, dirRx := false, sci := 0, conf := false, offset := 0, clearTags := 0, tagAuth := false, twinTagged := false, dupCtx := 0, channel := 32, owner := 4, egress := 255, window := 0, overlapMs := 0, slots := [], txAn := none, rollMode := 0, nextAn := 0, rollSec := 0, rollNs := 0 })),
    on [(F.TWN_STATUS_LINK_UP, 1), (F.TWN_STATUS_STATE, 3)] paired,
    { sc := 4, created := true, enable := true, dirRx := false, sci := 0, conf := false, offset := 0, clearTags := 0, tagAuth := false, twinTagged := false, dupCtx := 0, channel := 32, owner := 4, egress := 255, window := 0, overlapMs := 0, slots := [], txAn := none, rollMode := 0, nextAn := 0, rollSec := 0, rollNs := 0 },
    ?_⟩
    repeat' apply And.intro
    all_goals first | decide +kernel | exact hdr_auth ..
  · refine ⟨hdr (on [(F.TWN_STATUS_LINK_UP, 1), (F.TWN_STATUS_STATE, 2)] paired) 1 (.sync (.rxPn 9 5)), on
    [(F.TWN_STATUS_LINK_UP, 1), (F.TWN_STATUS_STATE, 2)] paired, .rxPn 9 5, ?_⟩
    repeat' apply And.intro
    all_goals first | decide +kernel | exact hdr_auth ..
  · refine ⟨hdr (on [(F.TWN_STATUS_LINK_UP, 1), (F.TWN_STATUS_STATE, 2)] paired) 1 (.sync .syncEnd), on
    [(F.TWN_STATUS_LINK_UP, 1), (F.TWN_STATUS_STATE, 2)] paired, ?_⟩
    repeat' apply And.intro
    all_goals first | decide +kernel | exact hdr_auth ..
  · refine ⟨hdr
    ({ on [(F.TWN_STATUS_LINK_UP, 1), (F.TWN_STATUS_STATE, 3)] paired with sam := { sa := [(9, { state := .active })], sc := [(0, { created := true, channel := 32 })] } })
    1 (.reserve 9 100),
    { on [(F.TWN_STATUS_LINK_UP, 1), (F.TWN_STATUS_STATE, 3)] paired with sam := { sa := [(9, { state := .active })], sc := [(0, { created := true, channel := 32 })] } },
    9, 100, ?_⟩
    repeat' apply And.intro
    all_goals first | decide +kernel | exact hdr_auth ..
  · refine ⟨hdr (on [(F.TWN_STATUS_LINK_UP, 1), (F.TWN_STATUS_STATE, 3)] paired) 1 (.ack 4), on
    [(F.TWN_STATUS_LINK_UP, 1), (F.TWN_STATUS_STATE, 3)] paired, 4, ?_⟩
    repeat' apply And.intro
    all_goals first | decide +kernel | exact hdr_auth ..

/-- States that meet the premises of `TwinLeaseRoleAndNotice`. -/
theorem met_TwinLeaseRoleAndNotice :
    (∃ (h : TwinHdr) (s : State) (epoch holder ms test : _), (s.twn.rxSeq < h.seq) ∧ (Passes s h (.lease .claim epoch
      holder ms test) (s.epoch + 1)) ∧ (test = true ∨ s.get F.TWN_STATUS_STATE ≠ 4 ∨ s.get F.TWN_STATUS_CLAP_IN ≠ 2)) ∧
    (∃ (h : TwinHdr) (s : State) (epoch ms test : _), (s.twn.rxSeq < h.seq) ∧ (Passes s h (.lease .renew epoch h.node
      ms test) s.epoch) ∧ (test = true ∨ s.get F.TWN_STATUS_STATE ≠ 4 ∨ s.get F.TWN_STATUS_CLAP_IN ≠ 2)) ∧
    (∃ (h : TwinHdr) (s : State) (epoch ms : _), (s.twn.rxSeq < h.seq) ∧ (Passes s h (.lease .renew epoch h.node ms
      false) s.epoch) ∧ (s.get F.TWN_STATUS_TEST = 1) ∧ (Meets s)) ∧
    (∃ (h : TwinHdr) (s : State), (s.twn.rxSeq < h.seq) ∧ (Passes s h (.role .req) s.epoch) ∧ (s.get
      F.TWN_STATUS_STATE = 4)) ∧
    (∃ (h : TwinHdr) (s : State) (seqs : _), (s.twn.rxSeq < h.seq) ∧ (Passes s h (.role (.grant seqs)) s.epoch) ∧
      (s.get F.TWN_STATUS_STATE = 3)) ∧
    (∃ (h : TwinHdr) (s : State), (s.twn.rxSeq < h.seq) ∧ (Passes s h (.role .done) s.epoch) ∧ (s.get
      F.TWN_STATUS_STATE = 5) ∧ (s.twn.handover = .granted)) ∧
    (∃ (h : TwinHdr) (s : State) (src mask : _), (s.twn.rxSeq < h.seq) ∧ (Passes s h (.notice src mask) s.epoch)) ∧
    (∃ (h : TwinHdr) (s : State) (id q tIn bs st a : _), (s.twn.rxSeq < h.seq) ∧ (Passes s h (.dual id q tIn bs)
      s.epoch) ∧ (s.get F.TWN_STATUS_STATE = 3) ∧ ((s.twin?.bind (fun t => t.streams.find? (fun x => x.id = id))) =
      some st) ∧ ((s.sc st.sc).created = true) ∧ ((s.sc st.sc).rx = false) ∧ ((s.sc st.sc).enable = true) ∧ ((s.sc
      st.sc).current = some a) ∧ (s.onDie a = true) ∧ (s.sam.onDie.length ≤ s.storeSize) ∧ (s.qState (8 * (s.sc
      st.sc).channel + 7) = 1) ∧ (s.withinMax (8 * (s.sc st.sc).channel + 7) = true) ∧ (s.belowMin (8 * (s.sc
      st.sc).channel + 7) = false) ∧ (s.belowAlpha (8 * (s.sc st.sc).channel + 7) = true) ∧ (0 < s.sharedFree)) := by
  refine ⟨?_, ?_, ?_, ?_, ?_, ?_, ?_, ?_⟩
  · refine ⟨hdr (on [(F.TWN_STATUS_LINK_UP, 1), (F.TWN_STATUS_STATE, 3)] paired) 1 (.lease .claim 1 9 100 false) 1, on
    [(F.TWN_STATUS_LINK_UP, 1), (F.TWN_STATUS_STATE, 3)] paired, 1, 9, 100, false, ?_⟩
    repeat' apply And.intro
    all_goals first | decide +kernel | exact hdr_auth ..
  · refine ⟨hdr (on [(F.TWN_STATUS_LINK_UP, 1), (F.TWN_STATUS_STATE, 3)] paired) 1 (.lease .renew 0 9 100 false), on
    [(F.TWN_STATUS_LINK_UP, 1), (F.TWN_STATUS_STATE, 3)] paired, 0, 100, false, ?_⟩
    repeat' apply And.intro
    all_goals first | decide +kernel | exact hdr_auth ..
  · refine ⟨hdr
    ({ on [(F.TWN_STATUS_LINK_UP, 1), (F.TWN_STATUS_STATE, 4), (F.TWN_STATUS_TEST, 1), (F.TWN_STATUS_CLAP_IN, 2)] paired with twn := { peerState := .standby, peerSynced := true } })
    1 (.lease .renew 0 9 100 false),
    { on [(F.TWN_STATUS_LINK_UP, 1), (F.TWN_STATUS_STATE, 4), (F.TWN_STATUS_TEST, 1), (F.TWN_STATUS_CLAP_IN, 2)] paired with twn := { peerState := .standby, peerSynced := true } },
    0, 100, ?_⟩
    repeat' apply And.intro
    all_goals first | decide +kernel | (unfold Meets; decide +kernel) | exact hdr_auth ..
  · refine ⟨hdr (on [(F.TWN_STATUS_LINK_UP, 1), (F.TWN_STATUS_STATE, 4)] paired) 1 (.role .req), on
    [(F.TWN_STATUS_LINK_UP, 1), (F.TWN_STATUS_STATE, 4)] paired, ?_⟩
    repeat' apply And.intro
    all_goals first | decide +kernel | exact hdr_auth ..
  · refine ⟨hdr (on [(F.TWN_STATUS_LINK_UP, 1), (F.TWN_STATUS_STATE, 3)] paired) 1 (.role (.grant [])), on
    [(F.TWN_STATUS_LINK_UP, 1), (F.TWN_STATUS_STATE, 3)] paired, [], ?_⟩
    repeat' apply And.intro
    all_goals first | decide +kernel | exact hdr_auth ..
  · refine ⟨hdr
    ({ on [(F.TWN_STATUS_LINK_UP, 1), (F.TWN_STATUS_STATE, 5)] paired with twn := { handover := .granted } }) 1 (.role
    .done), { on [(F.TWN_STATUS_LINK_UP, 1), (F.TWN_STATUS_STATE, 5)] paired with twn := { handover := .granted } },
    ?_⟩
    repeat' apply And.intro
    all_goals first | decide +kernel | exact hdr_auth ..
  · refine ⟨hdr (on [(F.TWN_STATUS_LINK_UP, 1), (F.TWN_STATUS_STATE, 3)] paired) 1 (.notice 3 0x2B), on
    [(F.TWN_STATUS_LINK_UP, 1), (F.TWN_STATUS_STATE, 3)] paired, 3, 0x2B, ?_⟩
    repeat' apply And.intro
    all_goals first | decide +kernel | exact hdr_auth ..
  · refine ⟨hdr
    ({ on [(F.TWN_STATUS_LINK_UP, 1), (F.TWN_STATUS_STATE, 3), (F.SWC_Q_STATUS_STATE 263, 1), (F.SWC_Q_CFG_ALPHA 263, 9)] paired with buf := minUsed, sam := { sc := [(3, { created := true, enable := true, channel := 32, slots := [some 9, none, none, none], txValid := true })], onDie := [9] }, key := { domain := [(0, { state := .valid })], cak := [(0, { state := .valid })] } })
    1 (.dual 5 7 8 []),
    { on [(F.TWN_STATUS_LINK_UP, 1), (F.TWN_STATUS_STATE, 3), (F.SWC_Q_STATUS_STATE 263, 1), (F.SWC_Q_CFG_ALPHA 263, 9)] paired with buf := minUsed, sam := { sc := [(3, { created := true, enable := true, channel := 32, slots := [some 9, none, none, none], txValid := true })], onDie := [9] }, key := { domain := [(0, { state := .valid })], cak := [(0, { state := .valid })] } },
    5, 7, 8, [], ⟨5, 3, 0⟩, 9, ?_⟩
    repeat' apply And.intro
    all_goals first | decide +kernel | exact hdr_auth ..

/-- States that meet the premises of `TwinTimersAndHandover`. -/
theorem met_TwinTimersAndHandover :
    (∃ (s : State), (s.get F.TWN_STATUS_LINK_UP = 1) ∧ ((∀ u ∈ s.twn.unacked, u.resends < 7)) ∧ (s.twn.unacked.any
      (fun u => decide (u.sentAt + 20000 ≤ s.nowNs)) = true)) ∧
    (∃ (s : State), s.twn.unacked.any (fun u => decide (u.sentAt + 20000 ≤ s.nowNs)) = false) ∧
    (∃ (s : State), (s.get F.TWN_STATUS_LINK_UP = 1) ∧ (s.twn.unacked.any (fun u => decide (u.sentAt + 20000 ≤
      s.nowNs)) = true) ∧ (s.twn.unacked.any (fun u => decide (7 ≤ u.resends)) = true)) ∧
    (∃ (s : State) (g : _), (s.pel.active = some g) ∧ (s.twinOn = true) ∧ (s.dataUp = true) ∧ (s.pwr.cpReset = false)
      ∧ (s.get F.TWN_STATUS_LINK_UP = 0) ∧ (s.linkKeyed = true)) ∧
    (∃ (s : State) (g : _), (s.pel.active = some g) ∧ (s.twinOn = true) ∧ (s.dataUp = true) ∧ (s.pwr.cpReset = false)
      ∧ (s.get F.TWN_STATUS_LINK_UP = 0) ∧ (s.linkKeyed = false)) ∧
    (∃ (s : State), (s.get F.TWN_LEASE_HOLDER = 1) ∧ (s.twinOn = true) ∧ (s.get F.TWN_STATUS_LINK_UP = 1)) ∧
    (∃ (s : State), (s.get F.TWN_LEASE_HOLDER = 1) ∧ (s.twinOn = true) ∧ (s.get F.TWN_STATUS_LINK_UP = 0) ∧ (s.get
      F.TWN_STATUS_CLAP_IN = 0) ∧ (s.twn.heard = false)) ∧
    (∃ (s : State), (s.get F.TWN_STATUS_STATE = 4) ∧ (s.leaseMode = true) ∧ (s.leaseValid = false)) ∧
    (∃ (s : State) (x : _), (s.twn.holdOff = some x) ∧ (x ≤ s.nowNs) ∧ (s.twinRole = .preferred) ∧ (s.get
      F.TWN_STATUS_STATE = 3) ∧ (s.synced = true) ∧ (s.get F.TWN_STATUS_LINK_UP = 1)) ∧
    (∃ (s : State), (s.handStopped = true) ∧ (s.twn.handover = .draining) ∧ (s.twinDrained = true)) := by
  refine ⟨?_, ?_, ?_, ?_, ?_, ?_, ?_, ?_, ?_, ?_⟩
  · refine
    ⟨{ on [(F.TWN_STATUS_LINK_UP, 1)] paired with twn := { unacked := [{ hdr := ⟨0, 9, 1, 0⟩, msg := .ack 1, firstAt := 0, sentAt := 0, resends := 6 }] }, tim := { now := second } },
    ?_⟩
    repeat' apply And.intro
    all_goals decide +kernel
  · refine ⟨awake, ?_⟩
    repeat' apply And.intro
    all_goals decide +kernel
  · refine
    ⟨{ on [(F.TWN_STATUS_LINK_UP, 1)] paired with twn := { unacked := [{ hdr := ⟨0, 9, 1, 0⟩, msg := .ack 1, firstAt := 0, sentAt := 0, resends := 7 }] }, tim := { now := second } },
    ?_⟩
    repeat' apply And.intro
    all_goals decide +kernel
  · refine ⟨keyed, paired, ?_⟩
    repeat' apply And.intro
    all_goals decide +kernel
  · refine ⟨(on [(F.TWN_STATUS_STATE, 1)] paired), paired, ?_⟩
    repeat' apply And.intro
    all_goals decide +kernel
  · refine ⟨on [(F.TWN_LEASE_HOLDER, 1), (F.TWN_STATUS_LINK_UP, 1), (F.TWN_STATUS_STATE, 4)] paired, ?_⟩
    repeat' apply And.intro
    all_goals decide +kernel
  · refine ⟨on [(F.TWN_LEASE_HOLDER, 1), (F.TWN_STATUS_STATE, 4)] paired, ?_⟩
    repeat' apply And.intro
    all_goals decide +kernel
  · refine ⟨on [(F.TWN_STATUS_STATE, 4)] paired, ?_⟩
    repeat' apply And.intro
    all_goals decide +kernel
  · refine
    ⟨{ on [(F.TWN_STATUS_STATE, 3), (F.TWN_STATUS_SYNCED, 1), (F.TWN_STATUS_LINK_UP, 1)] paired with twn := { holdOff := some 0 } },
    0, ?_⟩
    repeat' apply And.intro
    all_goals decide +kernel
  · refine ⟨{ on [(F.TWN_STATUS_STATE, 5)] paired with twn := { handover := .draining } }, ?_⟩
    repeat' apply And.intro
    all_goals decide +kernel

/-- States that meet the premises of `TwinCommandsAndTakeover`. -/
theorem met_TwinCommandsAndTakeover :
    (∃ (who : Nat) (s : State), (who ≤ 4) ∧ (hasTwin s.fus.variant = true) ∧ (s.get F.TWN_CMD_RESULT_RUNNING = 0) ∧
      (s.get F.TWN_STATUS_STATE = 4) ∧ (s.peerStandby = true) ∧ (s.get F.TWN_STATUS_LINK_UP = 1)) ∧
    (∃ (who : Nat) (s : State), (who ≤ 4) ∧ (hasTwin s.fus.variant = true) ∧ (s.get F.TWN_CMD_RESULT_RUNNING = 0) ∧
      (s.get F.TWN_STATUS_STATE ≠ 4 ∨ s.peerStandby = false ∨ s.get F.TWN_STATUS_LINK_UP ≠ 1)) ∧
    (∃ (who : Nat) (s : State), (who ≤ 4) ∧ (hasTwin s.fus.variant = true) ∧ (s.get F.TWN_CMD_RESULT_RUNNING = 0) ∧
      (s.twinOn = true) ∧ (s.leaseMode = true) ∧ (s.peerLease = false)) ∧
    (∃ (s : State) (v : Clap), (hasTwin s.fus.variant = true) ∧ (s.clapSeen ≠ v)) ∧
    (∃ (s : State), (s.twinOn = true) ∧ (s.get F.TWN_STATUS_LINK_UP = 1) ∧ (s.clapDisagrees = true) ∧ (s.get
      F.TWN_STATUS_CLAPPER_FAULT = 0) ∧ (s.accepted [(13, 0)] = [])) ∧
    (∃ (s : State), (s.get F.TWN_STATUS_CLAPPER_FAULT = 1) ∧ (s.get F.TWN_STATUS_LINK_UP = 1) ∧ (s.clapDisagrees =
      false)) ∧
    (∃ (s : State), s.takeoverDue = true) ∧
    (∃ (s : State), (s.get F.TWN_STATUS_STATE = 4) ∧ (s.get F.TWN_STATUS_CLAP_IN ≠ 2) ∧ ((∀ i, s.twn.inDrive = some i
      → i ≤ s.twn.driveSince ∨ i + 100 ≤ s.nowNs))) ∧
    (∃ (s : State), (s.get F.TWN_STATUS_STATE = 1) ∧ (s.get F.TWN_STATUS_LINK_UP = 0) ∧ (s.get F.TWN_STATUS_CLAP_IN =
      0)) ∧
    (∃ (s : State), (s.get F.TWN_STATUS_STATE = 1) ∧ (s.get F.TWN_STATUS_LINK_UP = 0) ∧ (s.get F.TWN_STATUS_CLAP_IN ≠
      0)) := by
  refine ⟨?_, ?_, ?_, ?_, ?_, ?_, ?_, ?_, ?_, ?_⟩
  · refine ⟨0,
    { on [(F.TWN_STATUS_STATE, 4), (F.TWN_STATUS_LINK_UP, 1)] paired with twn := { peerState := .standby, peerSynced := true } },
    ?_⟩
    repeat' apply And.intro
    all_goals decide +kernel
  · refine ⟨4, awake paired, ?_⟩
    repeat' apply And.intro
    all_goals decide +kernel
  · refine ⟨0, on [(F.TWN_STATUS_STATE, 4)] paired, ?_⟩
    repeat' apply And.intro
    all_goals decide +kernel
  · refine ⟨awake paired, .drive, ?_⟩
    repeat' apply And.intro
    all_goals decide +kernel
  · refine ⟨{ on [(F.TWN_STATUS_LINK_UP, 1), (F.TWN_STATUS_STATE, 4)] paired with fus := { loaded := [(0x73, 1)] } },
    ?_⟩
    repeat' apply And.intro
    all_goals decide +kernel
  · refine
    ⟨{ on [(F.TWN_STATUS_CLAPPER_FAULT, 1), (F.TWN_STATUS_LINK_UP, 1), (F.TWN_STATUS_CLAP_IN, 1)] paired with twn := {} },
    ?_⟩
    repeat' apply And.intro
    all_goals decide +kernel
  · refine
    ⟨{ on [(F.TWN_STATUS_STATE, 3), (F.TWN_STATUS_SYNCED, 1), (F.TWN_STATUS_CLAP_IN, 1)] paired with twn := {} }, ?_⟩
    repeat' apply And.intro
    all_goals decide +kernel
  · refine ⟨on [(F.TWN_STATUS_STATE, 4)] paired, ?_⟩
    repeat' apply And.intro
    all_goals first | decide +kernel | exact fun _ h => nomatch h
  · refine ⟨on [(F.TWN_STATUS_STATE, 1)] paired, ?_⟩
    repeat' apply And.intro
    all_goals decide +kernel
  · refine ⟨on [(F.TWN_STATUS_STATE, 1), (F.TWN_STATUS_CLAP_IN, 1)] paired, ?_⟩
    repeat' apply And.intro
    all_goals decide +kernel

/-- States that meet the premises of `RingSetsAndFunctionResets`. -/
theorem met_RingSetsAndFunctionResets :
    (∃ (who n r val : Nat) (s : State), (s.pwr.cpReset = false) ∧ ((ringSetsOf who)[n]? = some r) ∧ (6 ≤ (field val 1
      5) ∧ (field val 1 5) ≤ 16) ∧ (6 ≤ (field val 6 5) ∧ (field val 6 5) ≤ 16) ∧ (6 ≤ (field val 11 5) ∧ (field val
      11 5) ≤ 16) ∧ ((s.get (F.HIF_RS_CTL_ENABLE r) = 1 → (field val 1 5) = s.get (F.HIF_RS_CTL_TX_LOG2 r) ∧ (field
      val 6 5) = s.get (F.HIF_RS_CTL_RX_LOG2 r) ∧ (field val 11 5) = s.get (F.HIF_RS_CTL_CQ_LOG2 r)))) ∧
    (∃ (who n r : Nat) (s : State), (s.pwr.cpReset = false) ∧ ((ringSetsOf who)[n]? = some r) ∧ (s.get
      (F.HIF_RS_CTL_ENABLE r) = 1) ∧ (s.get (F.HIF_RS_CTL_STOPPED r) = 0)) ∧
    (∃ (who n r : Nat) (s : State), (s.pwr.cpReset = false) ∧ ((ringSetsOf who)[n]? = some r) ∧ ((s.ring r).irqWait =
      true) ∧ (s.holdoffOver r = true)) ∧
    (∃ (who n r : Nat) (s : State), (s.pwr.cpReset = false) ∧ ((ringSetsOf who)[n]? = some r) ∧ ((s.ring r).irqWait =
      false ∨ s.holdoffOver r = false)) ∧
    (∃ (vf : _), (1 ≤ vf) ∧ (vf ≤ 8)) ∧
    (∃ (c : Instr), c = Instr.pfFlr ∨ c = .pcieHotReset) ∧
    (∃ (s : State) (gen width : _), (s.pwr.state ≠ .hibernate) ∧ (s.tmp.onBattery = false) ∧ (1 ≤ gen) ∧ (gen ≤ 5) ∧
      (width ≤ 2) ∧ (s.deferDue 1 = false)) := by
  refine ⟨?_, ?_, ?_, ?_, ?_, ?_, ?_⟩
  · refine ⟨12, 1, 23, 13324, awake, ?_⟩
    repeat' apply And.intro
    all_goals decide +kernel
  · refine ⟨4, 7, 7, on [(F.HIF_RS_CTL_ENABLE 7, 1)], ?_⟩
    repeat' apply And.intro
    all_goals decide +kernel
  · refine ⟨0, 0, 24, { awake with hif := { ring := [(24, { irqWait := true })] } }, ?_⟩
    repeat' apply And.intro
    all_goals decide +kernel
  · refine ⟨0, 0, 24, awake, ?_⟩
    repeat' apply And.intro
    all_goals decide +kernel
  · refine ⟨8, ?_⟩
    repeat' apply And.intro
    all_goals decide +kernel
  · refine ⟨.pcieHotReset, ?_⟩
    repeat' apply And.intro
    all_goals decide +kernel
  · refine ⟨awake, 5, 2, ?_⟩
    repeat' apply And.intro
    all_goals decide +kernel

/-- States that meet the premises of `HostFramesInAndOut`. -/
theorem met_HostFramesInAndOut :
    (∃ (r : Nat) (chain : SendChain) (s : State), (r < 28) ∧ (s.ringOn r = true) ∧ (1 ≤ (sendFrameOf
      chain).descriptors) ∧ ((sendFrameOf chain).descriptors ≤ s.sendWaiting r) ∧ (s.cqRoom r = true) ∧ (s.sendStatus
      (ringOwner r) (sendFrameOf chain) = .ok) ∧ ((sendFrameOf chain).parse = false) ∧ ((sendFrameOf chain).action =
      1) ∧ ((sendFrameOf chain).ltValid = false) ∧ ((sendFrameOf chain).channel < 192) ∧ ((sendFrameOf chain).cls < 8)
      ∧ ((lineSide (sendFrameOf chain).channel = false ∨ s.get (F.CLS_CH_CFG_CLEAR_OK (sendFrameOf chain).channel) =
      1)) ∧ (s.pel.active ≠ none) ∧ (s.twin? = none) ∧ (s.qState (8 * (sendFrameOf chain).channel + (sendFrameOf
      chain).cls) ≠ 0) ∧ (s.qState (8 * (sendFrameOf chain).channel + (sendFrameOf chain).cls) ≠ 3) ∧ (s.withinMax (8
      * (sendFrameOf chain).channel + (sendFrameOf chain).cls) = true) ∧ (s.belowMin (8 * (sendFrameOf chain).channel
      + (sendFrameOf chain).cls) = false) ∧ (s.belowAlpha (8 * (sendFrameOf chain).channel + (sendFrameOf chain).cls)
      = true) ∧ (0 < s.sharedFree)) ∧
    (∃ (r : Nat) (chain : SendChain) (s : State) (st : _), (r < 28) ∧ (s.ringOn r = true) ∧ (1 ≤ (sendFrameOf
      chain).descriptors) ∧ ((sendFrameOf chain).descriptors ≤ s.sendWaiting r) ∧ (s.cqRoom r = true) ∧ (s.sendStatus
      (ringOwner r) (sendFrameOf chain) = st) ∧ (st ≠ .ok) ∧ (s.sendFar (sendFrameOf chain) = false)) ∧
    (∃ (r : Nat) (chain : SendChain) (s : State), (r < 28) ∧ (s.ringOn r = true) ∧ (1 ≤ (sendFrameOf
      chain).descriptors) ∧ ((sendFrameOf chain).descriptors ≤ s.sendWaiting r) ∧ (s.cqRoom r = true) ∧ (s.sendStatus
      (ringOwner r) (sendFrameOf chain) = .badArgument) ∧ (s.sendFar (sendFrameOf chain) = true)) ∧
    (∃ (cls r : Nat) (d : Bytes) (f : Frame) (rest : List Frame) (s : State), (cls < 8) ∧ (s.get F.TMP_STATUS_HOLD =
      0) ∧ ((∀ c, cls < c → c < 8 → s.puntReady c = false)) ∧ (s.queue (1536 + cls) = f :: rest) ∧ (s.puntRing cls =
      some r) ∧ (f.fcsOk = true) ∧ (f.fecOk = true) ∧ (f.truncated = false) ∧ (s.ringOn r = true) ∧ (s.shaperOpen
      puntShaper = true) ∧ (0 < s.rxFree r) ∧ (f.bytes.length + 32 ≤ bufRoom (descField d 8 2))) ∧
    (∃ (cls r : Nat) (f : Frame) (rest : List Frame) (s : State), (cls < 8) ∧ (s.get F.TMP_STATUS_HOLD = 0) ∧ ((∀ c,
      cls < c → c < 8 → s.puntReady c = false)) ∧ (s.queue (1536 + cls) = f :: rest) ∧ (s.puntRing cls = some r) ∧
      (f.fcsOk = false ∨ f.fecOk = false ∨ f.truncated = true)) := by
  refine ⟨?_, ?_, ?_, ?_, ?_⟩
  · refine ⟨0, ⟨[desc 3 15 32], []⟩,
    { on [(F.HIF_RS_CTL_ENABLE 0, 1), (F.HIF_TX_PROD_INDEX 0, 1), (F.HIF_RX_PROD_INDEX 0, 1), (F.HIF_RS_CTL_CQ_LOG2 0, 6), (F.CLS_CH_CFG_CLEAR_OK 32, 1), (F.SWC_Q_STATUS_STATE 263, 1), (F.SWC_Q_CFG_ALPHA 263, 9)] with buf := minUsed },
    ?_⟩
    repeat' apply And.intro
    all_goals decide +kernel
  · refine ⟨0, ⟨[desc 3 15 200], []⟩, on [(F.HIF_RS_CTL_ENABLE 0, 1), (F.HIF_TX_PROD_INDEX 0, 1), (F.HIF_RX_PROD_INDEX
    0, 1), (F.HIF_RS_CTL_CQ_LOG2 0, 6)], .absent, ?_⟩
    repeat' apply And.intro
    all_goals decide +kernel
  · refine ⟨0, ⟨[desc 7 15 32 125], []⟩, on [(F.HIF_RS_CTL_ENABLE 0, 1), (F.HIF_TX_PROD_INDEX 0, 1),
    (F.HIF_RX_PROD_INDEX 0, 1), (F.HIF_RS_CTL_CQ_LOG2 0, 6)], ?_⟩
    repeat' apply And.intro
    all_goals decide +kernel
  · refine ⟨0, 0, [], frame, [],
    { on [(F.HIF_RS_CTL_ENABLE 0, 1), (F.HIF_TX_PROD_INDEX 0, 1), (F.HIF_RX_PROD_INDEX 0, 1), (F.HIF_RS_CTL_CQ_LOG2 0, 6), (F.HIF_PUNT_MAP_MAP, 0x11111111)] with buf := { queues := [(1536, [frame])] } },
    ?_⟩
    repeat' apply And.intro
    all_goals first | decide +kernel | (intro c h0 h8; revert h0; revert h8; revert c; decide +kernel)
  · refine ⟨0, 0, { frame with truncated := true }, [],
    { on [(F.HIF_RS_CTL_ENABLE 0, 1), (F.HIF_TX_PROD_INDEX 0, 1), (F.HIF_RX_PROD_INDEX 0, 1), (F.HIF_RS_CTL_CQ_LOG2 0, 6), (F.HIF_PUNT_MAP_MAP, 0x11111111)] with buf := { queues := [(1536, [{ frame with truncated := true }])] } },
    ?_⟩
    repeat' apply And.intro
    all_goals first | decide +kernel | (intro c h0 h8; revert h0; revert h8; revert c; decide +kernel)

/-- States that meet the premises of `ChimeMailboxes`. -/
theorem met_ChimeMailboxes :
    (∃ (who pair v : Nat) (s : State), (who ≤ 4) ∧ (s.viewOf who pair = some v) ∧ ((s.box (outBox v)).full = false)) ∧
    (∃ (who pair v : Nat) (s : State) (c : Instr) (len : Nat) (ack : Bool) (tag : Nat), (who ≤ 4) ∧ (s.viewOf who pair
      = some v) ∧ ((s.box (outBox v)).full = true) ∧ (c = Instr.send who pair len ack tag ∨ c = .fullWrite who pair)) ∧
    (∃ (who pair v : Nat) (s : State), (who ≤ 4) ∧ (s.viewOf who pair = some v) ∧ ((s.box (inBox v)).full = true)) ∧
    (∃ (who pair v : Nat) (s : State), (who ≤ 4) ∧ (s.viewOf who pair = some v) ∧ ((s.box (outBox v)).full = true) ∧
      ((s.notices (otherView v)).length < 16)) ∧
    (∃ (who pair v : Nat) (s : State), (who ≤ 4) ∧ (s.viewOf who pair = some v) ∧ ((s.box (inBox v)).full = false)) ∧
    (∃ (who pair v : Nat) (s : State) (k tag rest : _), (who ≤ 4) ∧ (s.viewOf who pair = some v) ∧ (s.notices v = (k,
      tag) :: rest)) ∧
    (∃ (who pair v : Nat) (s : State), (who ≤ 4) ∧ (s.viewOf who pair = some v) ∧ (pair < 8) ∧ ((s.box (2 *
      pair)).full = true) ∧ ((s.box (2 * pair)).ack = true) ∧ ((s.box (2 * pair + 1)).full = true) ∧ ((s.box (2 * pair
      + 1)).ack = true) ∧ (pair ∉ s.chm.crossed)) := by
  refine ⟨?_, ?_, ?_, ?_, ?_, ?_, ?_⟩
  · refine ⟨0, 7, 15, awake, ?_⟩
    repeat' apply And.intro
    all_goals decide +kernel
  · exact ⟨0, 0, 8, { awake with chm := { box := [(1, { full := true })] } }, .fullWrite 0 0, 0, false, 0, by decide, by decide +kernel, by decide +kernel, .inr rfl⟩
  · refine ⟨0, 0, 8, { awake with chm := { box := [(0, { full := true })] } }, ?_⟩
    repeat' apply And.intro
    all_goals decide +kernel
  · refine ⟨0, 0, 8, { awake with chm := { box := [(1, { full := true })] } }, ?_⟩
    repeat' apply And.intro
    all_goals decide +kernel
  · refine ⟨0, 0, 8, awake, ?_⟩
    repeat' apply And.intro
    all_goals decide +kernel
  · refine ⟨0, 0, 8, { awake with chm := { box := [], notices := [(8, [(.acked, 3)])] } }, .acked, 3, [], ?_⟩
    repeat' apply And.intro
    all_goals decide +kernel
  · refine ⟨0, 0, 8,
    { awake with chm := { box := [(0, { full := true, ack := true }), (1, { full := true, ack := true })] } }, ?_⟩
    repeat' apply And.intro
    all_goals decide +kernel

/-- States that meet the premises of `TaborPort`. -/
theorem met_TaborPort :
    (∃ (s : State) (rest : Bytes), (s.get F.TAB_CFG_EN = 1) ∧ (rest.length = 7) ∧ (beAt rest 4 1 = crc8 (slice rest 0
      4)) ∧ (s.get F.TAB_STATUS_LINK_UP = 1) ∧ (s.tab.lastCount = none) ∧ (((beAt rest 0 4) + 2 ^ 32 - s.get
      F.TAB_CONSUMED_COUNT) % 2 ^ 32 ≤ 2 ^ 24)) ∧
    (∃ (s : State) (rest : Bytes), (s.get F.TAB_CFG_EN = 1) ∧ (rest.length = 7) ∧ (beAt rest 4 1 ≠ crc8 (slice rest 0
      4) ∨ 2 ^ 24 < ((beAt rest 0 4) + 2 ^ 32 - if s.get F.TAB_STATUS_LINK_UP = 1 then s.get F.TAB_CONSUMED_COUNT else
      0) % 2 ^ 32)) ∧
    (∃ (s : State) (typ : Byte), s.get F.TAB_CFG_EN = 0 ∨ typ ≠ 0x55) ∧
    (∃ (s : State) (x : _), (s.get F.TAB_STATUS_LINK_UP = 1) ∧ (s.tab.timeSent = s.tenths) ∧ (s.tab.fifo = [x]) ∧
      (x.words ≤ 512) ∧ (x.tIn = none) ∧ (s.tab.creditOk = true) ∧ (ceilDiv x.words 8 ≤ (s.get F.TAB_GRANTED_COUNT + 2
      ^ 32 - s.get F.TAB_CONSUMED_COUNT) % 2 ^ 32)) ∧
    (∃ (s : State), (s.get F.TAB_STATUS_LINK_UP = 1) ∧ (s.tab.timeSent < s.tenths)) ∧
    (∃ (s : State) (lane : _), (s.get F.TAB_CFG_EN = 1) ∧ (s.unitOff 53 = false) ∧ (s.get F.TAB_STATUS_LINK_UP = 0) ∧
      (s.tab.creditOk = true) ∧ (lane < 4) ∧ ((s.pwr.state = .active ∨ s.pwr.state = .doze))) ∧
    (∃ (s : State), (s.get F.TAB_STATUS_LINK_UP = 1) ∧ (s.tab.creditOk = true) ∧ (s.tab.creditAt + s.get
      F.TAB_CFG_CREDIT_TIMEOUT_US * 1000 ≤ s.nowNs)) := by
  refine ⟨?_, ?_, ?_, ?_, ?_, ?_, ?_⟩
  · refine ⟨on [(F.TAB_CFG_EN, 1), (F.TAB_STATUS_LINK_UP, 1)], [1, 0, 0, 0, 22, 0, 0], ?_⟩
    repeat' apply And.intro
    all_goals decide +kernel
  · refine ⟨on [(F.TAB_CFG_EN, 1)], [0, 0, 0, 0, 1, 0, 0], ?_⟩
    repeat' apply And.intro
    all_goals decide +kernel
  · refine ⟨awake, 0, ?_⟩
    repeat' apply And.intro
    all_goals decide +kernel
  · refine
    ⟨{ on [(F.TAB_STATUS_LINK_UP, 1), (F.TAB_GRANTED_COUNT, 100)] with tab := { fifo := [{ session := 1, tIn := none, data := [] }], creditOk := true } },
    { session := 1, tIn := none, data := [] }, ?_⟩
    repeat' apply And.intro
    all_goals decide +kernel
  · refine ⟨{ on [(F.TAB_STATUS_LINK_UP, 1)] with tim := { now := second } }, ?_⟩
    repeat' apply And.intro
    all_goals decide +kernel
  · refine ⟨{ on [(F.TAB_CFG_EN, 1)] with tab := { creditOk := true } }, 3, ?_⟩
    repeat' apply And.intro
    all_goals decide +kernel
  · refine ⟨{ on [(F.TAB_STATUS_LINK_UP, 1)] with tab := { creditOk := true }, tim := { now := second } }, ?_⟩
    repeat' apply And.intro
    all_goals decide +kernel

/-- States that meet the premises of `CountersRollsAndSnare`. -/
theorem met_CountersRollsAndSnare :
    (∃ (s : State), s.nowSec % 2 ^ 32 ≠ s.get F.CNT_SEC_STAMP_SEC) ∧
    (∃ (s : State), (s.get F.CNT_ROLL_CFG_EN = 1) ∧ (s.rollPoint ≠ s.cnt.rollMs) ∧ (s.cnt.roll = none)) ∧
    (∃ (s : State), (s.get F.CNT_ROLL_CFG_EN = 1) ∧ (s.rollPoint ≠ s.cnt.rollMs) ∧ (s.cnt.roll ≠ none)) ∧
    (∃ (s : State) (r : RollLatch), s.cnt.roll = some r) ∧
    (∃ (s : State) (who n val : Nat), (who ≤ 4) ∧ (s.progSelOk n val = true)) ∧
    (∃ (who n val : Nat), (who ≤ 4) ∧ (512 ≤ n ∨ 12 < field val 0 5 ∨ field val 5 1 = 1 ∧ n = 511)) ∧
    (∃ (s : State) (who : Nat) (r l : _), (who ≤ 4) ∧ (s.cnt.sampleFifo = r :: l)) ∧
    (∃ (s : State) (who : Nat), (who ≤ 4) ∧ (s.cnt.sampleFifo = [])) ∧
    (∃ (s : State) (sid : Nat) (c : SnareCopy) (rest : List SnareCopy), (s.snareNext = some sid) ∧ ((s.snare
      sid).queue = c :: rest) ∧ ((s.snare sid).lost = 0) ∧ (s.get (F.SWC_SNR_CTL_DEST sid) = 1) ∧ (s.get
      F.SWC_SNR_PROD_PROD + (c.record (decide (s.get (F.SWC_SNR_CTL_SAMPLE_N sid) ≠ 0)) (s.snare sid).seq).length ≤
      s.snrSize) ∧ (s.snrNeeds (c.record (decide (s.get (F.SWC_SNR_CTL_SAMPLE_N sid) ≠ 0)) (s.snare sid).seq).length ≤
      s.snrFree)) ∧
    (∃ (s : State) (sid : Nat) (c : SnareCopy) (rest : List SnareCopy), (s.snareNext = some sid) ∧ ((s.snare
      sid).queue = c :: rest) ∧ ((s.snare sid).lost = 0) ∧ (s.get (F.SWC_SNR_CTL_DEST sid) = 1) ∧ (s.snrFree <
      s.snrNeeds (c.record (decide (s.get (F.SWC_SNR_CTL_SAMPLE_N sid) ≠ 0)) (s.snare sid).seq).length)) ∧
    (∃ (who log2 : Nat), (who ≤ 4) ∧ (16 ≤ log2) ∧ (log2 ≤ 30)) ∧
    (∃ (who log2 : Nat), (who ≤ 4) ∧ (log2 < 16 ∨ 30 < log2)) := by
  refine ⟨?_, ?_, ?_, ?_, ?_, ?_, ?_, ?_, ?_, ?_, ?_, ?_⟩
  · refine ⟨{ awake with tim := { now := second } }, ?_⟩
    repeat' apply And.intro
    all_goals decide +kernel
  · refine ⟨{ on [(F.CNT_ROLL_CFG_EN, 1)] with tim := { now := second } }, ?_⟩
    repeat' apply And.intro
    all_goals decide +kernel
  · refine
    ⟨{ on [(F.CNT_ROLL_CFG_EN, 1)] with tim := { now := second }, cnt := { roll := some { seq := 0, sec := 0, ns := 0, timeValid := false, skipped := 0, fixed := [], prog := [], perSec := [] } } },
    ?_⟩
    repeat' apply And.intro
    all_goals decide +kernel
  · refine
    ⟨{ awake with cnt := { roll := some { seq := 0, sec := 0, ns := 0, timeValid := false, skipped := 0, fixed := [], prog := [], perSec := [] } } },
    { seq := 0, sec := 0, ns := 0, timeValid := false, skipped := 0, fixed := [], prog := [], perSec := [] }, ?_⟩
    repeat' apply And.intro
    all_goals decide +kernel
  · refine ⟨awake, 0, 510, 0x2C, ?_⟩
    repeat' apply And.intro
    all_goals decide +kernel
  · refine ⟨0, 511, 0x20, ?_⟩
    repeat' apply And.intro
    all_goals decide +kernel
  · refine ⟨{ awake with cnt := { sampleFifo := [{ seq := 0, inCh := 0 }] } }, 0, { seq := 0, inCh := 0 }, [], ?_⟩
    repeat' apply And.intro
    all_goals decide +kernel
  · refine ⟨awake, 0, ?_⟩
    repeat' apply And.intro
    all_goals decide +kernel
  · refine
    ⟨{ on [(F.SWC_SNR_CTL_DEST 2, 1), (F.SWC_SNR_SIZE_LOG2, 16)] with buf := { snare := [(2, { queue := [{ session := 2, cell := 0, inPort := 0, dropped := false, tag := false, tIn := 0, inCh := 0, outCh := 32, cls := 0, action := .clear, len := 64, sc := 0, code := 0, data := [1, 2, 3] }] })] } },
    2,
    { session := 2, cell := 0, inPort := 0, dropped := false, tag := false, tIn := 0, inCh := 0, outCh := 32, cls := 0, action := .clear, len := 64, sc := 0, code := 0, data := [1, 2, 3] },
    [], ?_⟩
    repeat' apply And.intro
    all_goals decide +kernel
  · refine
    ⟨{ on [(F.SWC_SNR_CTL_DEST 2, 1), (F.SWC_SNR_SIZE_LOG2, 4)] with buf := { snare := [(2, { queue := [{ session := 2, cell := 0, inPort := 0, dropped := false, tag := false, tIn := 0, inCh := 0, outCh := 32, cls := 0, action := .clear, len := 64, sc := 0, code := 0, data := [1, 2, 3] }] })] } },
    2,
    { session := 2, cell := 0, inPort := 0, dropped := false, tag := false, tIn := 0, inCh := 0, outCh := 32, cls := 0, action := .clear, len := 64, sc := 0, code := 0, data := [1, 2, 3] },
    [], ?_⟩
    repeat' apply And.intro
    all_goals decide +kernel
  · refine ⟨0, 30, ?_⟩
    repeat' apply And.intro
    all_goals decide +kernel
  · refine ⟨0, 31, ?_⟩
    repeat' apply And.intro
    all_goals decide +kernel

/-- States that meet the premises of `FusesAreBlown`. -/
theorem met_FusesAreBlown :
    (∃ (s : State) (who : Nat), (who ≤ 4) ∧ (s.get F.PWR_STATUS_DEBUG_UNLOCKED = 1)) ∧
    (∃ (s : State) (who : Nat), (who ≤ 4) ∧ (s.get F.PWR_STATUS_DEBUG_UNLOCKED ≠ 1) ∧ (0x75 < (s.get
      F.FUS_PROG_WORD_WORD))) ∧
    (∃ (s : State) (who : Nat), (who ≤ 4) ∧ (s.get F.PWR_STATUS_DEBUG_UNLOCKED ≠ 1) ∧ ((s.get F.FUS_PROG_WORD_WORD) =
      0x64) ∧ (isThermometer (s.fuseNow (s.get F.FUS_PROG_WORD_WORD) ||| s.get F.FUS_PROG_BITS_BITS) = false)) ∧
    (∃ (s : State) (who : Nat), (who ≤ 4) ∧ (s.get F.PWR_STATUS_DEBUG_UNLOCKED ≠ 1) ∧ ((s.get F.FUS_PROG_WORD_WORD) =
      0x64) ∧ (isThermometer (s.fuseNow (s.get F.FUS_PROG_WORD_WORD) ||| s.get F.FUS_PROG_BITS_BITS) = true) ∧
      (s.pwr.fwSvn < countOnes (s.fuseNow (s.get F.FUS_PROG_WORD_WORD) ||| s.get F.FUS_PROG_BITS_BITS))) ∧
    (∃ (s : State) (who : Nat), (who ≤ 4) ∧ (s.get F.PWR_STATUS_DEBUG_UNLOCKED ≠ 1) ∧ ((s.get F.FUS_PROG_WORD_WORD) =
      0x65) ∧ (160 < field (s.fuseNow (s.get F.FUS_PROG_WORD_WORD) ||| s.get F.FUS_PROG_BITS_BITS) 1 7 + field
      (s.fuseNow (s.get F.FUS_PROG_WORD_WORD) ||| s.get F.FUS_PROG_BITS_BITS) 8 7)) ∧
    (∃ (s : State) (who : Nat), (who ≤ 4) ∧ (s.get F.PWR_STATUS_DEBUG_UNLOCKED ≠ 1) ∧ ((s.get F.FUS_PROG_WORD_WORD) <
      0x60) ∧ ((s.fuseNow (s.get F.FUS_PROG_WORD_WORD) ||| s.get F.FUS_PROG_BITS_BITS) ≠ s.fuseNow (s.get
      F.FUS_PROG_WORD_WORD)) ∧ ((∃ i : Nat, i < 24 ∧ s.fuse ((s.get F.FUS_PROG_WORD_WORD) / 24 * 24 + i) ≠ 0))) ∧
    (∃ (s : State) (who : Nat), (who ≤ 4) ∧ (s.get F.PWR_STATUS_DEBUG_UNLOCKED ≠ 1) ∧ ((s.get F.FUS_PROG_WORD_WORD) ≤
      0x75) ∧ ((s.get F.FUS_PROG_WORD_WORD) ≠ 0x65 ∨ field (s.fuseNow (s.get F.FUS_PROG_WORD_WORD) ||| s.get
      F.FUS_PROG_BITS_BITS) 1 7 + field (s.fuseNow (s.get F.FUS_PROG_WORD_WORD) ||| s.get F.FUS_PROG_BITS_BITS) 8 7 ≤
      160) ∧ ((s.get F.FUS_PROG_WORD_WORD) ≠ 0x64 ∨ isThermometer (s.fuseNow (s.get F.FUS_PROG_WORD_WORD) ||| s.get
      F.FUS_PROG_BITS_BITS) = true ∧ countOnes (s.fuseNow (s.get F.FUS_PROG_WORD_WORD) ||| s.get F.FUS_PROG_BITS_BITS)
      ≤ s.pwr.fwSvn) ∧ (0x60 ≤ (s.get F.FUS_PROG_WORD_WORD) ∨ (s.fuseNow (s.get F.FUS_PROG_WORD_WORD) ||| s.get
      F.FUS_PROG_BITS_BITS) = s.fuseNow (s.get F.FUS_PROG_WORD_WORD) ∨ (∀ i, i < 24 → s.fuse ((s.get
      F.FUS_PROG_WORD_WORD) / 24 * 24 + i) = 0))) := by
  refine ⟨?_, ?_, ?_, ?_, ?_, ?_, ?_⟩
  · refine ⟨on [(F.PWR_STATUS_DEBUG_UNLOCKED, 1)], 0, ?_⟩
    repeat' apply And.intro
    all_goals decide +kernel
  · refine ⟨{ on [(F.FUS_PROG_WORD_WORD, 0x76), (F.FUS_PROG_BITS_BITS, 1)] with fus := {  } }, 0, ?_⟩
    repeat' apply And.intro
    all_goals decide +kernel
  · refine ⟨{ on [(F.FUS_PROG_WORD_WORD, 0x64), (F.FUS_PROG_BITS_BITS, 2)] with fus := {  } }, 0, ?_⟩
    repeat' apply And.intro
    all_goals decide +kernel
  · refine ⟨{ on [(F.FUS_PROG_WORD_WORD, 0x64), (F.FUS_PROG_BITS_BITS, 1)] with fus := {  } }, 0, ?_⟩
    repeat' apply And.intro
    all_goals decide +kernel
  · refine ⟨{ on [(F.FUS_PROG_WORD_WORD, 0x65), (F.FUS_PROG_BITS_BITS, 0x7FFE)] with fus := {  } }, 0, ?_⟩
    repeat' apply And.intro
    all_goals decide +kernel
  · exact ⟨{ on [(F.FUS_PROG_WORD_WORD, 0), (F.FUS_PROG_BITS_BITS, 2)] with fus := { loaded := [(3, 1)] } }, 0, by decide, by decide +kernel, by decide +kernel, by decide +kernel, 3, by decide, by decide +kernel⟩
  · refine ⟨{ on [(F.FUS_PROG_WORD_WORD, 0x75), (F.FUS_PROG_BITS_BITS, 0)] with fus := {  } }, 0, ?_⟩
    repeat' apply And.intro
    all_goals decide +kernel

/-- States that meet the premises of `JournalCommands`. -/
theorem met_JournalCommands :
    (∃ (s : State) (who : Nat) (c : Instr) (op : Nat), (who ≤ 4) ∧ (hasTwin s.fus.variant = true) ∧ (s.get
      (F.JNL_CMD_RESULT_RUNNING who) = 1) ∧ ((c, op) = (Instr.format who, 1) ∨ (∃ bad : List Nat, (c, op) = (.read who
      bad, 2)) ∨ (c, op) = (.flush who, 3) ∨ (∃ gaps : PlanGaps, (c, op) = (.setLife who gaps, 4)) ∨ (∃ gaps :
      PlanGaps, (c, op) = (.planNow who gaps, 5)))) ∧
    (∃ (s : State) (who : Nat), (who ≤ 4) ∧ (hasTwin s.fus.variant = true) ∧ (s.get (F.JNL_CMD_RESULT_RUNNING who) =
      0) ∧ (s.jnl.cmds = []) ∧ ((s.get (F.JNL_ARG_ARG (who * 8))) ≠ 0x4A4E4C46 ∨ 40 < (s.get (F.JNL_ARG_ARG (who * 8 +
      1))))) ∧
    (∃ (s : State) (who : Nat), (who ≤ 4) ∧ (hasTwin s.fus.variant = true) ∧ (s.get (F.JNL_CMD_RESULT_RUNNING who) =
      0) ∧ (s.jnl.cmds = []) ∧ ((s.get (F.JNL_ARG_ARG (who * 8))) = 0x4A4E4C46) ∧ ((s.get (F.JNL_ARG_ARG (who * 8 +
      1))) ≤ 40) ∧ ((s.get F.JNL_STATUS_STATE) ≤ 1)) ∧
    (∃ (s : State) (who : Nat), (who ≤ 4) ∧ (hasTwin s.fus.variant = true) ∧ (s.get (F.JNL_CMD_RESULT_RUNNING who) =
      0) ∧ (s.jnl.cmds = []) ∧ ((s.get (F.JNL_ARG_ARG (who * 8))) = 0x4A4E4C46) ∧ ((s.get (F.JNL_ARG_ARG (who * 8 +
      1))) ≤ 40) ∧ (1 < (s.get F.JNL_STATUS_STATE))) ∧
    (∃ (s : State) (who : Nat), (who ≤ 4) ∧ (hasTwin s.fus.variant = true) ∧ (s.get (F.JNL_CMD_RESULT_RUNNING who) =
      0) ∧ (s.jnl.cmds = []) ∧ (s.get (F.JNL_ARG_ARG (who * 8 + 5)) < 16384)) ∧
    (∃ (s : State) (who : Nat), (who ≤ 4) ∧ (hasTwin s.fus.variant = true) ∧ (s.get (F.JNL_CMD_RESULT_RUNNING who) =
      0) ∧ (s.jnl.cmds = []) ∧ (16384 ≤ s.get (F.JNL_ARG_ARG (who * 8 + 5))) ∧ ((s.get F.JNL_STATUS_STATE) ≤ 2)) ∧
    (∃ (s : State) (who : Nat) (r : _), (who ≤ 4) ∧ (hasTwin s.fus.variant = true) ∧ (s.get (F.JNL_CMD_RESULT_RUNNING
      who) = 0) ∧ (s.jnl.cmds = []) ∧ (16384 ≤ s.get (F.JNL_ARG_ARG (who * 8 + 5))) ∧ (2 < (s.get F.JNL_STATUS_STATE))
      ∧ (s.jnl.recs.filter (fun r => r.durable && decide (s.get (F.JNL_ARG_ARG (who * 8)) + s.get (F.JNL_ARG_ARG (who
      * 8 + 1)) * 2 ^ 32 ≤ r.jseq) && (s.get (F.JNL_ARG_ARG (who * 8 + 2)) % 128).testBit (jclassCode r.cls)) = [r]) ∧
      (r.readable = true) ∧ (r.size ≤ s.get (F.JNL_ARG_ARG (who * 8 + 5)))) ∧
    (∃ (s : State) (who : Nat), (who ≤ 4) ∧ (hasTwin s.fus.variant = true) ∧ (s.get (F.JNL_CMD_RESULT_RUNNING who) =
      0) ∧ (s.jnl.cmds = []) ∧ (16384 ≤ s.get (F.JNL_ARG_ARG (who * 8 + 5))) ∧ (2 < (s.get F.JNL_STATUS_STATE)) ∧
      (s.jnl.recs.filter (fun r => r.durable && decide (s.get (F.JNL_ARG_ARG (who * 8)) + s.get (F.JNL_ARG_ARG (who *
      8 + 1)) * 2 ^ 32 ≤ r.jseq) && (s.get (F.JNL_ARG_ARG (who * 8 + 2)) % 128).testBit (jclassCode r.cls)) = [])) ∧
    (∃ (s : State) (who : Nat), (who ≤ 4) ∧ (hasTwin s.fus.variant = true) ∧ (s.get (F.JNL_CMD_RESULT_RUNNING who) =
      0) ∧ (s.jnl.cmds = []) ∧ ((s.get F.JNL_STATUS_STATE) = 3 ∨ (s.get F.JNL_STATUS_STATE) = 4) ∧ (s.jnl.flush =
      none) ∧ ((∀ r ∈ s.jnl.recs, r.durable = true))) ∧
    (∃ (s : State) (who : Nat), (who ≤ 4) ∧ (hasTwin s.fus.variant = true) ∧ (s.get (F.JNL_CMD_RESULT_RUNNING who) =
      0) ∧ (s.jnl.cmds = []) ∧ ((s.get F.JNL_STATUS_STATE) = 3 ∨ (s.get F.JNL_STATUS_STATE) = 4) ∧ (s.jnl.flush =
      none) ∧ ((∃ r ∈ s.jnl.recs, r.durable = false ∧ 0 < r.jseq ∧ r.jseq < s.jnl.nextJseq))) ∧
    (∃ (s : State) (who : Nat), (who ≤ 4) ∧ (hasTwin s.fus.variant = true) ∧ (s.get (F.JNL_CMD_RESULT_RUNNING who) =
      0) ∧ (s.jnl.cmds = []) ∧ ((s.get (F.JNL_ARG_ARG (who * 8))) = 0 ∨ 40 < (s.get (F.JNL_ARG_ARG (who * 8))))) ∧
    (∃ (s : State) (who : Nat), (who ≤ 4) ∧ (hasTwin s.fus.variant = true) ∧ (s.get (F.JNL_CMD_RESULT_RUNNING who) =
      0) ∧ (s.jnl.cmds = []) ∧ (0 < (s.get (F.JNL_ARG_ARG (who * 8)))) ∧ ((s.get (F.JNL_ARG_ARG (who * 8))) ≤ 40) ∧
      ((s.get F.JNL_STATUS_STATE) ≠ 3) ∧ ((s.get F.JNL_STATUS_STATE) ≠ 4)) ∧
    (∃ (s : State) (who : Nat), (who ≤ 4) ∧ (hasTwin s.fus.variant = true) ∧ (s.get (F.JNL_CMD_RESULT_RUNNING who) =
      0) ∧ (s.jnl.cmds = []) ∧ (0 < (s.get (F.JNL_ARG_ARG (who * 8)))) ∧ ((s.get (F.JNL_ARG_ARG (who * 8))) ≤ 40) ∧
      ((s.get F.JNL_STATUS_STATE) = 3 ∨ (s.get F.JNL_STATUS_STATE) = 4)) := by
  refine ⟨?_, ?_, ?_, ?_, ?_, ?_, ?_, ?_, ?_, ?_, ?_, ?_, ?_⟩
  · exact ⟨on [(F.JNL_CMD_RESULT_RUNNING 0, 1)], 0, .flush 0, 3, by decide, by decide +kernel, by decide +kernel, .inr (.inr (.inl rfl))⟩
  · refine ⟨awake, 0, ?_⟩
    repeat' apply And.intro
    all_goals decide +kernel
  · refine ⟨on [(F.JNL_ARG_ARG 0, 1246645318), (F.JNL_ARG_ARG 1, 40)], 0, ?_⟩
    repeat' apply And.intro
    all_goals decide +kernel
  · refine ⟨on [(F.JNL_ARG_ARG 0, 1246645318), (F.JNL_STATUS_STATE, 3)], 0, ?_⟩
    repeat' apply And.intro
    all_goals decide +kernel
  · refine ⟨awake, 0, ?_⟩
    repeat' apply And.intro
    all_goals decide +kernel
  · refine ⟨on [(F.JNL_ARG_ARG 5, 16384)], 0, ?_⟩
    repeat' apply And.intro
    all_goals decide +kernel
  · refine
    ⟨{ on [(F.JNL_ARG_ARG 5, 16384), (F.JNL_ARG_ARG 2, 127), (F.JNL_STATUS_STATE, 4)] with jnl := { recs := [{ cls := .event, jseq := 5, sec := 0, ns := 0, body := [], durable := true }] } },
    0, { cls := .event, jseq := 5, sec := 0, ns := 0, body := [], durable := true }, ?_⟩
    repeat' apply And.intro
    all_goals decide +kernel
  · refine ⟨{ on [(F.JNL_ARG_ARG 5, 16384), (F.JNL_ARG_ARG 2, 127), (F.JNL_STATUS_STATE, 4)] with jnl := {} }, 0, ?_⟩
    repeat' apply And.intro
    all_goals decide +kernel
  · refine ⟨on [(F.JNL_STATUS_STATE, 3)], 0, ?_⟩
    repeat' apply And.intro
    all_goals decide +kernel
  · exact ⟨{ on [(F.JNL_STATUS_STATE, 4)] with jnl := { recs := [{ cls := .event, jseq := 5, sec := 0, ns := 0, body := [], durable := false }], nextJseq := 6 } }, 0, by decide, by decide +kernel, by decide +kernel, by decide +kernel, by decide +kernel, by decide +kernel, _, List.mem_singleton.2 rfl, rfl, by decide, by decide +kernel⟩
  · refine ⟨on [(F.JNL_ARG_ARG 0, 41)], 0, ?_⟩
    repeat' apply And.intro
    all_goals decide +kernel
  · refine ⟨on [(F.JNL_ARG_ARG 0, 40)], 0, ?_⟩
    repeat' apply And.intro
    all_goals decide +kernel
  · refine ⟨on [(F.JNL_ARG_ARG 0, 1), (F.JNL_STATUS_STATE, 3)], 0, ?_⟩
    repeat' apply And.intro
    all_goals decide +kernel

/-- States that meet the premises of `JournalRecords`. -/
theorem met_JournalRecords :
    (∃ (cls : JClass) (body : Bytes) (s : State), (hasTwin s.fus.variant = true) ∧ (body.length ≤ 16352) ∧ ((s.get
      F.JNL_STATUS_STATE) = 1 ∨ (s.get F.JNL_STATUS_STATE) = 3 ∨ (s.get F.JNL_STATUS_STATE) = 4) ∧ (cls ≠ .snare) ∧
      (s.jnl.waiting = []) ∧ (s.jnl.staged < 67108864)) ∧
    (∃ (cls : JClass) (body : Bytes) (s : State), (hasTwin s.fus.variant = true) ∧ (body.length ≤ 16352) ∧ ((s.get
      F.JNL_STATUS_STATE) = 1 ∨ (s.get F.JNL_STATUS_STATE) = 3 ∨ (s.get F.JNL_STATUS_STATE) = 4) ∧ (cls ≠ .snare) ∧
      (67108864 ≤ s.jnl.staged)) ∧
    (∃ (cls : JClass) (body : Bytes) (s : State), (hasTwin s.fus.variant = true) ∧ (body.length ≤ 16352) ∧ ((s.get
      F.JNL_STATUS_STATE) = 1 ∨ (s.get F.JNL_STATUS_STATE) = 3 ∨ (s.get F.JNL_STATUS_STATE) = 4) ∧ (cls = .snare) ∧
      (s.jnl.staged < 58720256) ∧
      ((({ cls := cls, jseq := s.jnl.nextJseq, sec := s.nowSec, ns := s.nowSubNs, body := body } : JRec)).size ≤
      s.bucketNow)) ∧
    (∃ (cls : JClass) (body : Bytes) (s : State), (hasTwin s.fus.variant = true) ∧ (body.length ≤ 16352) ∧ ((s.get
      F.JNL_STATUS_STATE) = 1 ∨ (s.get F.JNL_STATUS_STATE) = 3 ∨ (s.get F.JNL_STATUS_STATE) = 4) ∧ (cls = .snare) ∧
      (58720256 ≤ s.jnl.staged ∨ s.bucketNow <
      (({ cls := cls, jseq := s.jnl.nextJseq, sec := s.nowSec, ns := s.nowSubNs, body := body } : JRec)).size)) ∧
    (∃ (cls : JClass) (body : Bytes) (s : State), (hasTwin s.fus.variant = true) ∧ (body.length ≤ 16352) ∧ ((s.get
      F.JNL_STATUS_STATE) ≠ 1) ∧ ((s.get F.JNL_STATUS_STATE) ≠ 3) ∧ ((s.get F.JNL_STATUS_STATE) ≠ 4) ∧ (cls ≠ .snare)) ∧
    (∃ (s : State) (from' : Nat), (s.get F.JNL_STATUS_STATE = 3 ∨ s.get F.JNL_STATUS_STATE = 4) ∧
      (s.jnl.oldestUnflushed = some from') ∧ (from' + s.get F.JNL_CFG_FLUSH_MS * 1000000 ≤ s.nowNs)) ∧
    (∃ (s : State) (system : Bool) (place page unit left : Nat), (s.get F.JNL_STATUS_STATE = 3 ∨ s.get
      F.JNL_STATUS_STATE = 4) ∧ (s.jnl.head system = some (place, unit, left)) ∧ (s.jnl.canProgram system = true) ∧
      (s.jnl.nextPage system = some (place, page)) ∧ (s.jnl.cmds = []) ∧ (s.jnl.waiting = [])) ∧
    (∃ (s : State) (system : Bool) (place page unit left : Nat) (b : _), (s.get F.JNL_STATUS_STATE = 3 ∨ s.get
      F.JNL_STATUS_STATE = 4) ∧ (s.jnl.head system = some (place, unit, left)) ∧ (s.jnl.canProgram system = true) ∧
      (s.jnl.nextPage system = some (place, page)) ∧ ((if system then b = place else b ∈ s.jnl.segBlocks place))) ∧
    (∃ (s : State) (system : Bool) (place page unit left : Nat), (s.get F.JNL_STATUS_STATE = 3 ∨ s.get
      F.JNL_STATUS_STATE = 4) ∧ (s.jnl.head system = some (place, unit, left)) ∧ (s.jnl.canProgram system = false ∨
      s.jnl.nextPage system ≠ some (place, page))) ∧
    (∃ (s : State) (g : Nat), (s.get F.JNL_STATUS_STATE = 3 ∨ s.get F.JNL_STATUS_STATE = 4) ∧ (s.jnl.headFull false =
      true) ∧ (s.jnl.upcoming.head? = some g)) ∧
    (∃ (s : State) (g : Nat), (s.get F.JNL_STATUS_STATE = 3 ∨ s.get F.JNL_STATUS_STATE = 4) ∧ (s.jnl.headFull true =
      true) ∧ (s.jnl.nextSys = some g)) ∧
    (∃ (s : State) (g : Nat) (system b : _), (s.get F.JNL_STATUS_STATE = 3 ∨ s.get F.JNL_STATUS_STATE = 4) ∧
      (s.jnl.headFull system = true) ∧ (s.jnl.nextPlace system = some g) ∧ ((if system then b = g else b ∈
      s.jnl.segBlocks g))) := by
  refine ⟨?_, ?_, ?_, ?_, ?_, ?_, ?_, ?_, ?_, ?_, ?_, ?_⟩
  · refine ⟨.event, [], on [(F.JNL_STATUS_STATE, 1)], ?_⟩
    repeat' apply And.intro
    all_goals decide +kernel
  · refine ⟨.tamper, [], { on [(F.JNL_STATUS_STATE, 3)] with jnl := { staged := 67108864 } }, ?_⟩
    repeat' apply And.intro
    all_goals decide +kernel
  · refine ⟨.snare, [], { on [(F.JNL_STATUS_STATE, 4)] with jnl := { bucket := 32 } }, ?_⟩
    repeat' apply And.intro
    all_goals decide +kernel
  · refine ⟨.snare, [], { on [(F.JNL_STATUS_STATE, 4)] with jnl := { bucket := 31 } }, ?_⟩
    repeat' apply And.intro
    all_goals decide +kernel
  · refine ⟨.roll, [], on [(F.JNL_STATUS_STATE, 2)], ?_⟩
    repeat' apply And.intro
    all_goals decide +kernel
  · refine
    ⟨{ { on [(F.JNL_STATUS_STATE, 3)] with jnl := { oldestUnflushed := some 0 } } with tim := { now := second } }, 0,
    ?_⟩
    repeat' apply And.intro
    all_goals decide +kernel
  · refine
    ⟨{ on [(F.JNL_STATUS_STATE, 3)] with jnl := { nand with openLog := some 8, recs := [{ cls := .event, jseq := 1, sec := 0, ns := 0, body := [] }], progTo := 1 } },
    false, 8, 0, 49152, 49152, ?_⟩
    repeat' apply And.intro
    all_goals decide +kernel
  · refine
    ⟨{ on [(F.JNL_STATUS_STATE, 3)] with jnl := { nand with openLog := some 8, recs := [{ cls := .event, jseq := 1, sec := 0, ns := 0, body := [] }], progTo := 1 } },
    false, 8, 0, 49152, 49152, 20, ?_⟩
    repeat' apply And.intro
    all_goals decide +kernel
  · refine ⟨{ on [(F.JNL_STATUS_STATE, 4)] with jnl := { nand with openLog := some 8 } }, false, 8, 0, 49152, 49152,
    ?_⟩
    repeat' apply And.intro
    all_goals decide +kernel
  · refine ⟨{ on [(F.JNL_STATUS_STATE, 3)] with jnl := { nand with headAt := 0 } }, 8, ?_⟩
    repeat' apply And.intro
    all_goals decide +kernel
  · refine ⟨{ on [(F.JNL_STATUS_STATE, 3)] with jnl := { nand with headAt := 0 } }, 0, ?_⟩
    repeat' apply And.intro
    all_goals decide +kernel
  · refine ⟨{ on [(F.JNL_STATUS_STATE, 4)] with jnl := { nand with headAt := 0 } }, 0, true, 0, ?_⟩
    repeat' apply And.intro
    all_goals decide +kernel

/-- States that meet the premises of `JournalMountPatrolAndPlan`. -/
theorem met_JournalMountPatrolAndPlan :
    (∃ (s : State) (corrected level : Nat), (s.get F.JNL_STATUS_STATE = 3 ∨ s.get F.JNL_STATUS_STATE = 4) ∧ (corrected
      ≤ 90) ∧ (level < 4)) ∧
    (∃ (s : State) (blk corrected level : Nat) (o : _), (s.get F.JNL_STATUS_STATE = 3 ∨ s.get F.JNL_STATUS_STATE = 4)
      ∧ (90 < corrected ∨ 4 ≤ level) ∧ (blk ∉ s.jnl.sys) ∧ (s.jnl.openLog = some o) ∧ (s.jnl.segOf blk ≠ o) ∧
      (s.jnl.segOf blk ∈ s.jnl.ring) ∧ (s.jnl.segOf blk ∉ s.jnl.upcoming.take 2)) ∧
    (∃ (s : State), (s.get F.JNL_STATUS_STATE = 3 ∨ s.get F.JNL_STATUS_STATE = 4) ∧ (s.jnl.planAt + 86400000000000 ≤
      s.nowNs)) ∧
    (∃ (s : State) (m : MountScan), (hasTwin s.fus.variant = true) ∧ (s.get F.JNL_STATUS_STATE ≤ 1) ∧ (popCause m.dies
      ≠ 0)) ∧
    (∃ (s : State) (m : MountScan) (p : Population), (hasTwin s.fus.variant = true) ∧ (s.get F.JNL_STATUS_STATE ≤ 1) ∧
      (popCause m.dies = 0) ∧ (populationOf m.dies = some p) ∧ (s.governing m = none)) ∧
    (∃ (s : State) (m : MountScan) (p : Population) (b : _), (hasTwin s.fus.variant = true) ∧ (s.get
      F.JNL_STATUS_STATE ≤ 1) ∧ (popCause m.dies = 0) ∧ (populationOf m.dies = some p) ∧ (s.governing m = some b) ∧
      (b.pop ≠ p)) ∧
    (∃ (s : State) (m : MountScan) (p : Population) (b : _), (hasTwin s.fus.variant = true) ∧ (s.get
      F.JNL_STATUS_STATE ≤ 1) ∧ (popCause m.dies = 0) ∧ (populationOf m.dies = some p) ∧ (s.governing m = some b) ∧
      (b.pop = p) ∧ ((let j : Journal := { s.jnl with pop := some p, bad := b.bad, atFormat := b.atFormat }; 800 ≤
      j.goodPermille ∧ 4 ≤ j.usableSegs.length ∧ j.systemOk = true))) := by
  refine ⟨?_, ?_, ?_, ?_, ?_, ?_, ?_⟩
  · refine ⟨on [(F.JNL_STATUS_STATE, 3)], 90, 3, ?_⟩
    repeat' apply And.intro
    all_goals decide +kernel
  · refine
    ⟨{ on [(F.JNL_STATUS_STATE, 3)] with jnl := { nand with openLog := some 8, free := [10, 11], ring := [9, 8] } },
    9, 91, 0, 8, ?_⟩
    repeat' apply And.intro
    all_goals decide +kernel
  · refine ⟨{ on [(F.JNL_STATUS_STATE, 4)] with tim := { now := 86400 * second } }, ?_⟩
    repeat' apply And.intro
    all_goals decide +kernel
  · refine ⟨awake, { dies := [] }, ?_⟩
    repeat' apply And.intro
    all_goals decide +kernel
  · refine ⟨awake, { dies := List.replicate 4 ⟨true, 512, 4, 1, 12, 3, 0⟩ }, ⟨4, 512, 4, 1, 12, 3⟩, ?_⟩
    repeat' apply And.intro
    all_goals decide +kernel
  · refine
    ⟨{ awake with jnl := { nand with super := [⟨1, ⟨8, 512, 4, 1, 12, 3⟩, 1, 0, 5, (0, 0), 0, [], 0, 16, []⟩] } },
    { dies := List.replicate 4 ⟨true, 512, 4, 1, 12, 3, 0⟩ }, ⟨4, 512, 4, 1, 12, 3⟩, ⟨1, ⟨8, 512, 4, 1, 12, 3⟩, 1, 0,
    5, (0, 0), 0, [], 0, 16, []⟩, ?_⟩
    repeat' apply And.intro
    all_goals decide +kernel
  · refine
    ⟨{ awake with jnl := { nand with super := [⟨1, ⟨4, 512, 4, 1, 12, 3⟩, 1, 0, 5, (0, 0), 0, [], 0, 16, []⟩] } },
    { dies := List.replicate 4 ⟨true, 512, 4, 1, 12, 3, 0⟩ }, ⟨4, 512, 4, 1, 12, 3⟩, ⟨1, ⟨4, 512, 4, 1, 12, 3⟩, 1, 0,
    5, (0, 0), 0, [], 0, 16, []⟩, ?_⟩
    repeat' apply And.intro
    all_goals decide +kernel

/-- States that meet the premises of `AlarmsAndDebugTokens`. -/
theorem met_AlarmsAndDebugTokens :
    (∃ (s : State) (src value : Nat), (AlarmTaken s src) ∧ ((src = 4 → value = 0x7FFFFFFF → s.get F.TIM_CFG_SRC ≠ 0))
      ∧ (s.pwr.goal ≠ some .boot) ∧ (s.pwr.dpReset = false) ∧ (s.pwr.cpReset = false) ∧ ((s.effectiveMask src).testBit
      4 = true) ∧ ((s.effectiveMask src).testBit 5 = false) ∧ ((s.effectiveMask src).testBit 6 = false) ∧
      ((s.effectiveMask src).testBit 7 = false)) ∧
    (∃ (s : State) (src value : Nat), (AlarmTaken s src) ∧ ((src = 4 → value = 0x7FFFFFFF → s.get F.TIM_CFG_SRC ≠ 0))
      ∧ (s.pwr.goal ≠ some .boot) ∧ (s.pwr.dpReset = false) ∧ (s.pwr.cpReset = false) ∧ ((s.effectiveMask src).testBit
      3 = false) ∧ ((s.effectiveMask src).testBit 4 = false) ∧ ((s.effectiveMask src).testBit 7 = false) ∧
      ((s.effectiveMask src).testBit 5 = true ∨ (s.effectiveMask src).testBit 6 = true)) ∧
    (∃ (s : State) (src value : Nat), (AlarmTaken s src) ∧ ((src = 4 → value = 0x7FFFFFFF → s.get F.TIM_CFG_SRC ≠ 0))
      ∧ ((s.effectiveMask src) < 4) ∧ ((s.effectiveMask src).testBit 1 = true) ∧ (s.pwr.cpReset = true)) ∧
    (∃ (s : State) (who : Nat), (who ≤ 4) ∧ (s.srcDisabled 14 = true)) ∧
    (∃ (s : State) (who : Nat), (who ≤ 4) ∧ (AlarmTaken s 14) ∧ (s.effectiveMask 14 < 4)) ∧
    (∃ (s : State) (who : Nat), (who ≤ 4) ∧ (s.tmp.onBattery = false) ∧ (s.get F.PWR_STATUS_DEBUG_UNLOCKED = 1)) ∧
    (∃ (s : State) (who : Nat), (who ≤ 4) ∧ (AlarmTaken s 8) ∧ (s.effectiveMask 8 < 4) ∧ (s.get
      F.PWR_STATUS_DEBUG_UNLOCKED ≠ 1)) := by
  refine ⟨?_, ?_, ?_, ?_, ?_, ?_, ?_⟩
  · refine ⟨awake, 1, 0, ?_⟩
    repeat' apply And.intro
    all_goals decide +kernel
  · refine ⟨awake, 2, 0, ?_⟩
    repeat' apply And.intro
    all_goals decide +kernel
  · refine ⟨{ awake with pwr := { state := .active, goal := none, cpReset := true } }, 3, 0, ?_⟩
    repeat' apply And.intro
    all_goals decide +kernel
  · refine ⟨{ awake with fus := { loaded := [(0x74, 1)] } }, 4, ?_⟩
    repeat' apply And.intro
    all_goals decide +kernel
  · refine ⟨awake, 4, ?_⟩
    repeat' apply And.intro
    all_goals decide +kernel
  · refine ⟨on [(F.PWR_STATUS_DEBUG_UNLOCKED, 1)], 0, ?_⟩
    repeat' apply And.intro
    all_goals decide +kernel
  · refine ⟨{ awake with fus := { loaded := [(0x6E, 0x10000)] } }, 0, ?_⟩
    repeat' apply And.intro
    all_goals decide +kernel

/-- States that meet the premises of `TamperEndsAndBattery`. -/
theorem met_TamperEndsAndBattery :
    (∃ (s : State) (src : Nat), (isCondition src = true) ∧ (s.monitored src = true) ∧ (s.asserted src = true) ∧
      (s.tmp.onBattery = false)) ∧
    (∃ (s : State) (src : Nat), isCondition src = false ∨ s.monitored src = false ∨ s.asserted src = false) ∧
    (∃ (s : State) (who : Nat), (who ≤ 4) ∧ (s.get F.TMP_STATUS_HOLD = 0 ∨ (∃ x : Nat, x < 16 ∧ s.asserted x = true ∧
      (s.effectiveMask x).testBit 2 = true))) ∧
    (∃ (s : State) (who : Nat), (who ≤ 4) ∧ (s.get F.TMP_STATUS_HOLD ≠ 0) ∧ ((∀ x, x < 16 → s.asserted x = true →
      (s.effectiveMask x).testBit 2 = false)) ∧ (s.tmp.onBattery = false)) ∧
    (∃ (s : State), s.tmp.onBattery = true) := by
  refine ⟨?_, ?_, ?_, ?_, ?_⟩
  · refine ⟨on [(F.TMP_STATUS_ASSERTED, 1)], 0, ?_⟩
    repeat' apply And.intro
    all_goals decide +kernel
  · refine ⟨awake, 0, ?_⟩
    repeat' apply And.intro
    all_goals decide +kernel
  · refine ⟨awake, 4, ?_⟩
    repeat' apply And.intro
    all_goals decide +kernel
  · refine ⟨on [(F.TMP_STATUS_HOLD, 1)], 4, ?_⟩
    repeat' apply And.intro
    all_goals decide +kernel
  · refine ⟨{ awake with tmp := { onBattery := true } }, ?_⟩
    repeat' apply And.intro
    all_goals decide +kernel

/-- States that meet the premises of `PowerStateCommands`. -/
theorem met_PowerStateCommands :
    (∃ (s : State) (who : Nat) (c : Instr) (op : Nat) (dest : PowerState), (who ≤ 4) ∧ ((c, op, dest) ∈ [(Instr.active
      who, 1, PowerState.active), (.doze who, 2, .doze)]) ∧ (s.pwr.state = .startUp ∨ s.pwr.state = .hibernate)) ∧
    (∃ (s : State) (who : Nat) (c : Instr) (op : Nat) (dest : PowerState), (who ≤ 4) ∧ ((c, op, dest) ∈ [(Instr.active
      who, 1, PowerState.active), (.doze who, 2, .doze)]) ∧ (s.pwr.state ≠ .startUp) ∧ (s.pwr.state ≠ .hibernate) ∧
      (s.pwr.goal ≠ none)) ∧
    (∃ (s : State) (who : Nat) (c : Instr) (op : Nat) (dest : PowerState), (who ≤ 4) ∧ ((c, op, dest) ∈ [(Instr.active
      who, 1, PowerState.active), (.doze who, 2, .doze)]) ∧ (s.pwr.state = dest) ∧ (s.pwr.goal = none)) ∧
    (∃ (s : State) (who : Nat) (c : Instr) (op : Nat) (dest : PowerState), (who ≤ 4) ∧ ((c, op, dest) ∈ [(Instr.active
      who, 1, PowerState.active), (.doze who, 2, .doze)]) ∧ (s.pwr.state = .standby) ∧ (s.pwr.goal = none)) ∧
    (∃ (s : State) (who : Nat) (c : Instr) (op : Nat) (dest : PowerState), (who ≤ 4) ∧ ((c, op, dest) ∈ [(Instr.active
      who, 1, PowerState.active), (.doze who, 2, .doze)]) ∧ (s.planeOn = true) ∧ (s.pwr.state ≠ dest) ∧ (s.pwr.goal =
      none)) ∧
    (∃ (s : State) (who : Nat) (c : Instr) (op : Nat) (dest : PowerState), (who ≤ 4) ∧ ((c, op, dest) ∈
      [(Instr.standby who, 3, PowerState.standby), (.hibernate who, 4, .hibernate)]) ∧ (s.pwr.state = .startUp ∨
      s.pwr.state = .hibernate ∨ s.get F.TWN_STATUS_STATE = 4)) ∧
    (∃ (s : State) (who : Nat) (c : Instr) (op : Nat) (dest : PowerState), (who ≤ 4) ∧ ((c, op, dest) ∈
      [(Instr.standby who, 3, PowerState.standby), (.hibernate who, 4, .hibernate)]) ∧ (s.pwr.state ≠ .startUp) ∧
      (s.pwr.state ≠ .hibernate) ∧ (s.get F.TWN_STATUS_STATE ≠ 4) ∧ (s.pwr.goal = none) ∧ (s.pwr.state ≠ dest)) ∧
    (∃ (s : State) (who : Nat), (who ≤ 4) ∧ (s.pwr.state = .standby) ∧ (s.pwr.goal = none) ∧ (s.get F.TWN_STATUS_STATE
      ≠ 4)) := by
  refine ⟨?_, ?_, ?_, ?_, ?_, ?_, ?_, ?_⟩
  · refine ⟨{ awake with pwr := { state := .hibernate, goal := none } }, 0, .active 0, 1, .active, ?_⟩
    repeat' apply And.intro
    all_goals decide +kernel
  · refine ⟨{ awake with pwr := { state := .standby, goal := some (.start .active) } }, 0, .doze 0, 2, .doze, ?_⟩
    repeat' apply And.intro
    all_goals decide +kernel
  · refine ⟨awake, 0, .active 0, 1, .active, ?_⟩
    repeat' apply And.intro
    all_goals decide +kernel
  · refine ⟨{ awake with pwr := { state := .standby, goal := none } }, 0, .active 0, 1, .active, ?_⟩
    repeat' apply And.intro
    all_goals decide +kernel
  · refine ⟨awake, 0, .doze 0, 2, .doze, ?_⟩
    repeat' apply And.intro
    all_goals decide +kernel
  · refine ⟨{ awake with pwr := { state := .startUp, goal := none } }, 0, .standby 0, 3, .standby, ?_⟩
    repeat' apply And.intro
    all_goals decide +kernel
  · refine ⟨awake, 0, .hibernate 0, 4, .hibernate, ?_⟩
    repeat' apply And.intro
    all_goals decide +kernel
  · refine ⟨{ awake with pwr := { state := .standby, goal := none } }, 0, ?_⟩
    repeat' apply And.intro
    all_goals decide +kernel

/-- States that meet the premises of `PowerSequences`. -/
theorem met_PowerSequences :
    (∃ (s : State) (d : _), (s.pwr.goal = some (.start d)) ∧ (s.pwr.seq = [])) ∧
    (∃ (s : State), (∀ d, s.pwr.goal ≠ some (.start d)) ∨ s.pwr.seq ≠ []) ∧
    (∃ (s : State), s.tmp.held = true ∨ s.tmp.onBattery = true) ∧
    (∃ (s : State) (next' rest : _), (s.tmp.held = false) ∧ (s.tmp.onBattery = false) ∧ (s.pwr.seq = (true, 52) ::
      next' :: rest)) ∧
    (∃ (s : State) (next' rest : _), (s.tmp.held = false) ∧ (s.tmp.onBattery = false) ∧ (s.pwr.seq = (false, 52) ::
      next' :: rest) ∧ (s.jnlReady = false)) ∧
    (∃ (s : State) (close d : _), (s.tmp.held = false) ∧ (s.tmp.onBattery = false) ∧ (s.pwr.seq = [(close, d)]) ∧ (d ≠
      52) ∧ (close = true ∨ d ∉ dataSlots ∨ s.pool.slots = []) ∧ (s.pwr.goal = some .powerSection)) ∧
    (∃ (s : State) (close d next' rest : _), (s.tmp.held = false) ∧ (s.tmp.onBattery = false) ∧ (s.pwr.seq = (close,
      d) :: next' :: rest) ∧ (d ≠ 52) ∧ (close = true ∨ d ∉ dataSlots ∨ s.pool.slots = [])) ∧
    (∃ (s : State) (close d next' rest : _), (s.tmp.held = false) ∧ (s.tmp.onBattery = false) ∧ (s.pwr.seq = (close,
      d) :: next' :: rest) ∧ (d ≠ 52) ∧ (close = false) ∧ (d ∈ dataSlots) ∧ (s.pool.slots ≠ [])) ∧
    (∃ (s : State) (d : _), (s.tmp.held = false) ∧ (s.tmp.onBattery = false) ∧ (s.pwr.seq = [(false, d)]) ∧ (d ≠ 52) ∧
      (s.pool.slots = []) ∧ (s.pwr.goal = some (.stop .standby)) ∧ (s.tmp.pend = 0)) ∧
    (∃ (s : State) (d dest : _), (s.tmp.held = false) ∧ (s.tmp.onBattery = false) ∧ (s.pwr.seq = [(true, d)]) ∧ (d ≠
      52) ∧ (s.pwr.goal = some (.start dest))) ∧
    (∃ (s : State) (cause causes : _), (causes = (if s.get F.PWR_WAKE_TIMER_SECONDS = 0 then cause % 2 else cause %
      4)) ∧ (causes ≠ 0) ∧ (s.pwr.state = .hibernate)) ∧
    (∃ (s : State) (cause causes : _), (causes = (if s.get F.PWR_WAKE_TIMER_SECONDS = 0 then cause % 2 else cause %
      4)) ∧ (causes ≠ 0) ∧ (s.pwr.state ≠ .hibernate) ∧ (s.pwr.goal = some (.stop .hibernate))) ∧
    (∃ (s : State) (cause causes : _), (causes = (if s.get F.PWR_WAKE_TIMER_SECONDS = 0 then cause % 2 else cause %
      4)) ∧ (causes = 0 ∨ s.pwr.state ≠ .hibernate ∧ s.pwr.goal ≠ some (.stop .hibernate))) := by
  refine ⟨?_, ?_, ?_, ?_, ?_, ?_, ?_, ?_, ?_, ?_, ?_, ?_, ?_⟩
  · refine ⟨{ State.reset with pwr := { goal := some (.start .active) } }, .active, ?_⟩
    repeat' apply And.intro
    all_goals decide +kernel
  · refine ⟨{ awake with pwr := { state := .standby, goal := some (.start .active), seq := [(true, 41)] } }, ?_⟩
    repeat' apply And.intro
    all_goals first | decide +kernel | exact .inr (by decide +kernel)
  · refine ⟨{ awake with tmp := { onBattery := true } }, ?_⟩
    repeat' apply And.intro
    all_goals decide +kernel
  · refine
    ⟨{ awake with pwr := { state := .standby, goal := some (.start .active), seq := [(true, 52), (true, 41)] } },
    (true, 41), [], ?_⟩
    repeat' apply And.intro
    all_goals decide +kernel
  · refine
    ⟨{ awake with pwr := { state := .active, goal := some (.stop .standby), seq := [(false, 52), (false, 41)] } },
    (false, 41), [], ?_⟩
    repeat' apply And.intro
    all_goals decide +kernel
  · refine ⟨{ awake with pwr := { state := .active, goal := some .powerSection, seq := [(true, 41)] } }, true, 41, ?_⟩
    repeat' apply And.intro
    all_goals decide +kernel
  · refine
    ⟨{ awake with pwr := { state := .standby, goal := some (.start .active), seq := [(true, 41), (true, 49)] } },
    true, 41, (true, 49), [], ?_⟩
    repeat' apply And.intro
    all_goals decide +kernel
  · refine
    ⟨{ { awake with pwr := { state := .active, goal := some (.stop .standby), seq := [(false, 0), (false, 41)] } } with pool := { slots := [{ frame := frame, ch := 32, dsn := 0, engine := some 16, out := List.replicate 300 0, committed := 0 }] } },
    false, 0, (false, 41), [], ?_⟩
    repeat' apply And.intro
    all_goals decide +kernel
  · refine ⟨{ awake with pwr := { state := .active, goal := some (.stop .standby), seq := [(false, 41)] } }, 41, ?_⟩
    repeat' apply And.intro
    all_goals decide +kernel
  · refine ⟨{ awake with pwr := { state := .standby, goal := some (.start .active), seq := [(true, 43)] } }, 43,
    .active, ?_⟩
    repeat' apply And.intro
    all_goals decide +kernel
  · refine ⟨{ awake with pwr := { state := .hibernate, goal := none } }, 1, 1, ?_⟩
    repeat' apply And.intro
    all_goals decide +kernel
  · refine ⟨{ awake with pwr := { state := .active, goal := some (.stop .hibernate) } }, 1, 1, ?_⟩
    repeat' apply And.intro
    all_goals decide +kernel
  · refine ⟨awake, 0, 0, ?_⟩
    repeat' apply And.intro
    all_goals decide +kernel

/-- States that meet the premises of `DeviceResets`. -/
theorem met_DeviceResets :
    (∃ (s : State) (who : Nat), (who ≤ 4) ∧ (s.tmp.held = false)) ∧
    (∃ (s : State), (s.tmp.onBattery = false) ∧ (s.tmp.held = false)) ∧
    (∃ (s : State), s.tmp.onBattery = true ∨ s.tmp.held = true) ∧
    (∃ (s : State) (rail : Nat), (s.tmp.onBattery = false) ∧ (s.pwr.state ≠ .hibernate) ∧ (rail = 0 ∨ s.tmp.held =
      false)) ∧
    (∃ (s : State), s.tmp.onBattery = true ∨ s.pwr.state = .hibernate) := by
  refine ⟨?_, ?_, ?_, ?_, ?_⟩
  · refine ⟨awake, 0, ?_⟩
    repeat' apply And.intro
    all_goals decide +kernel
  · refine ⟨awake, ?_⟩
    repeat' apply And.intro
    all_goals decide +kernel
  · refine ⟨{ awake with tmp := { onBattery := true } }, ?_⟩
    repeat' apply And.intro
    all_goals decide +kernel
  · refine ⟨awake, 0, ?_⟩
    repeat' apply And.intro
    all_goals decide +kernel
  · refine ⟨{ awake with pwr := { state := .hibernate, goal := none } }, ?_⟩
    repeat' apply And.intro
    all_goals decide +kernel

/-- States that meet the premises of `PlaneResets`. -/
theorem met_PlaneResets :
    (∃ (s : State) (who : Nat), (who ≤ 4) ∧ (s.pwr.dpReset = false) ∧ (s.pwr.cpReset = false)) ∧
    (∃ (s : State) (who : Nat) (c : Instr) (op : Nat), (who ≤ 4) ∧ ((c, op) = (Instr.dpReset who, 5) ∧ (s.pwr.dpReset
      = true ∨ s.pwr.cpReset = true) ∨ (c, op) = (Instr.cpReset who, 6) ∧ s.pwr.cpReset = true)) ∧
    (∃ (s : State), (s.pwr.dpReset = true) ∧ (s.tmp.pend = 0) ∧ (s.get F.PEL_STATUS_SHADOW ≠ 3)) ∧
    (∃ (s : State), (s.pwr.cpReset = true) ∧ (s.tmp.pend = 0)) := by
  refine ⟨?_, ?_, ?_, ?_⟩
  · refine ⟨awake, 0, ?_⟩
    repeat' apply And.intro
    all_goals decide +kernel
  · exact ⟨{ awake with pwr := { state := .active, goal := none, cpReset := true } }, 0, .dpReset 0, 5, by decide, .inl ⟨rfl, .inr rfl⟩⟩
  · refine ⟨{ awake with pwr := { state := .active, goal := none, dpReset := true } }, ?_⟩
    repeat' apply And.intro
    all_goals decide +kernel
  · refine ⟨{ awake with pwr := { state := .active, goal := none, cpReset := true } }, ?_⟩
    repeat' apply And.intro
    all_goals decide +kernel

/-- States that meet the premises of `BootAndRecover`. -/
theorem met_BootAndRecover :
    (∃ (s : State) (fl : BootFlash) (k : Key) (b : Bool), (s.pwr.state = .startUp) ∧ (s.pwr.goal = none) ∧
      (s.pwr.booted = false) ∧ (s.tmp.held = false) ∧ (s.tmp.onBattery = false) ∧ (s.get F.PWR_STATUS_BOOT_RESULT ≠ 3)
      ∧ (fl.pufKey = some k) ∧ (s.key.rootBarred = false) ∧ (HeaderNames fl.header b)) ∧
    (∃ (s : State), s.pwr.state ≠ .startUp ∨ s.pwr.goal ≠ none ∨ s.pwr.booted = true ∨ s.tmp.held = true ∨
      s.tmp.onBattery = true ∨ s.get F.PWR_STATUS_BOOT_RESULT = 3) ∧
    (∃ (who : Nat), who ≤ 4) := by
  refine ⟨?_, ?_, ?_⟩
  · refine ⟨{ State.reset with pwr := { goal := none } },
    { header := [], slotA := default, slotB := default, pufKey := some 0 }, 0, false, ?_⟩
    repeat' apply And.intro
    all_goals first | decide +kernel | exact .inl ⟨by decide, rfl⟩
  · refine ⟨awake, ?_⟩
    repeat' apply And.intro
    all_goals decide +kernel
  · refine ⟨4, ?_⟩
    repeat' apply And.intro
    all_goals decide +kernel

/-- States that meet the premises of `WatchdogAndVoltage`. -/
theorem met_WatchdogAndVoltage :
    (∃ (s : State), (s.get F.PWR_WDOG_TIMEOUT_MS) = 0 ∨ s.nowNs < s.pwr.wdogFrom + (s.get F.PWR_WDOG_TIMEOUT_MS) *
      1000000) ∧
    (∃ (s : State), (0 < (s.get F.PWR_WDOG_TIMEOUT_MS)) ∧ (s.pwr.wdogFrom + (s.get F.PWR_WDOG_TIMEOUT_MS) * 1000000 ≤
      s.nowNs) ∧ ((∀ l, s.pwr.wdogLast = some l → l + 10000000000 < s.nowNs))) ∧
    (∃ (s : State) (l : _), (0 < (s.get F.PWR_WDOG_TIMEOUT_MS)) ∧ (s.pwr.wdogFrom + (s.get F.PWR_WDOG_TIMEOUT_MS) *
      1000000 ≤ s.nowNs) ∧ (s.pwr.wdogLast = some l) ∧ (s.nowNs ≤ l + 10000000000) ∧ (s.tmp.held = false)) ∧
    (∃ (s : State) (who : Nat), (who ≤ 4) ∧ (s.planeOn = false)) ∧
    (∃ (s : State) (who : Nat), (who ≤ 4) ∧ (s.planeOn = true) ∧ (s.pwr.goal ≠ none)) ∧
    (∃ (s : State) (who : Nat), (who ≤ 4) ∧ (s.planeOn = true) ∧ (s.pwr.goal = none)) ∧
    (∃ (s : State), (s.planeOn = true) ∧ (s.pwr.goal = none) ∧ (s.pwr.planDue = true ∨ s.pwr.planAt + s.get
      F.PWR_AVS_CFG_PLAN_H * 3600000000000 ≤ s.nowNs)) ∧
    (∃ (s : State), (s.planeOn = true) ∧ (s.pwr.goal = none) ∧ ((s.get F.PWR_AVS_STATUS_VDD_CORE_MV) < 840)) ∧
    (∃ (s : State), (s.planeOn = true) ∧ (s.pwr.goal = none) ∧ (840 ≤ (s.get F.PWR_AVS_STATUS_VDD_CORE_MV))) := by
  refine ⟨?_, ?_, ?_, ?_, ?_, ?_, ?_, ?_, ?_⟩
  · refine ⟨awake, ?_⟩
    repeat' apply And.intro
    all_goals decide +kernel
  · refine
    ⟨{ on [(F.PWR_WDOG_TIMEOUT_MS, 1000)] with tim := { now := second }, pwr := { state := .active, goal := none, wdogLast := none } },
    ?_⟩
    repeat' apply And.intro
    all_goals first | decide +kernel | exact fun _ h => nomatch h
  · refine
    ⟨{ on [(F.PWR_WDOG_TIMEOUT_MS, 1000)] with tim := { now := second }, pwr := { state := .active, goal := none, wdogLast := some 0 } },
    0, ?_⟩
    repeat' apply And.intro
    all_goals decide +kernel
  · refine ⟨{ awake with pwr := { state := .standby, goal := none } }, 0, ?_⟩
    repeat' apply And.intro
    all_goals decide +kernel
  · refine ⟨{ awake with pwr := { state := .active, goal := some (.stop .standby) } }, 0, ?_⟩
    repeat' apply And.intro
    all_goals decide +kernel
  · refine ⟨awake, 0, ?_⟩
    repeat' apply And.intro
    all_goals decide +kernel
  · refine ⟨{ awake with pwr := { state := .active, goal := none, planDue := true } }, ?_⟩
    repeat' apply And.intro
    all_goals decide +kernel
  · refine ⟨on [(F.PWR_AVS_STATUS_VDD_CORE_MV, 839)], ?_⟩
    repeat' apply And.intro
    all_goals decide +kernel
  · refine ⟨on [(F.PWR_AVS_STATUS_VDD_CORE_MV, 840)], ?_⟩
    repeat' apply And.intro
    all_goals decide +kernel

/-- States that meet the premises of `ResetState`. -/
theorem met_ResetState :
    (∃ (k : FKey), (k ≠ F.FUS_STATUS_CHECK_OK) ∧ (k.reg ≠ .DRM_ENG_STATUS)) := by
  · refine ⟨F.TOP_SCRATCH_DATA, ?_⟩
    repeat' apply And.intro
    all_goals decide +kernel

/-- States that meet the premises of `StepsTakeOneCommand`. -/
theorem met_StepsTakeOneCommand :
    (∃ (s t : State), step s = .next t) := by
  · exact ⟨awake, _, rfl⟩

/-- States that meet the premises of `StepsKeepRegistersCanonical`. -/
theorem met_StepsKeepRegistersCanonical :
    (∃ (s t : State), (registersCanonical s) ∧ (step s = .next t)) := by
  · exact ⟨awake, _, by unfold registersCanonical; decide +kernel, rfl⟩

/-! ### Terms that the well-formedness checks refuse, one for each check -/

theorem test_ill_formed_access :
    ([.registerWrite 13 0 4 0 [], .registerWrite 4 0 2 0 [], .registerWrite 4 0x1FFFFFE 4 0 [], .registerWrite 5 0x3FFFFC 8 0 [],
      .subwordWrite 4 0 4, .unmapped 12 0x40000 ⟨4, false⟩, .unmapped 4 0 ⟨3, false⟩] : List Instr).all (fun c => !c.wellFormed) = true := by decide +kernel

theorem test_ill_formed_numbers :
    ([.load 13, .lossConditionDetected 192 0, .lossConditionDetected 0 4, .serdesRefLost 4, .frameReceived 0 { bytes := [], qns := 4 },
      .pauseReceived 0 65536, .chunkCommit 17, .dispatch 1568, .engineGate 16, .overheadBlockReceived 32 ⟨0, true, 0, 0, false, true, true⟩,
      .overheadBlockReceived 0 ⟨20461, true, 0, 0, false, true, true⟩, .tblLockRead 0 3, .snareRingResize 0 32, .rollTimeReached 65536,
      .retireAtReached 131072, .hybExpired 64, .protShaperWrite 0 64 false 0, .protShaperWrite 0 0 false (2 ^ 32), .captureEdge 3 true,
      .timCapPop 0 3, .arm 0 2, .ptpTxRequest { channel := 0, cls := 8, action := 0, sc := 0, message := [] }] : List Instr).all
        (fun c => !c.wellFormed) = true := by decide +kernel

theorem test_ill_formed_links :
    ([.ptpTxRequest { channel := 0, cls := 0, action := 4, sc := 0, message := [] }, .ack ⟨0, 65536, 0, 0⟩ 0, .vfFlr 0, .vfFlr 9,
      .ringIrqHoldoff 28, .sendDescriptorFetch 28 ⟨[], []⟩,
      .sendDescriptorFetch 0 ⟨[[]], []⟩, .puntDelivery 8 [], .puntDelivery 0 [[]], .ringSetEnable 4 8 0,
      .send 0 0 64 false 0, .send 0 0 0 false 65536, .pop 0 8, .credit 0x55 [], .taborLinkUp 4, .tamperAssert [(16, 0)],
      .tamperClear 16, .soft 0 256, .wake 4, .kick 0 65536, .cntProgSelWrite 0 512 0, .pcieLinkUp 0 0, .pcieLinkUp 6 0,
      .pcieLinkUp 1 3, .journalRecordAccept .event (List.replicate 16353 0),
      .patrolRead 0 0 0 16 true [] true default] : List Instr).all (fun c => !c.wellFormed) = true := by
  decide +kernel

/-! ### Single steps and the examples of the manual -/

/-- C5 in 2×200GbE mode gives channels 20 and 22, L6 and L7 merged into 800GbE give channel 56 (chapter 3). -/
theorem test_channel_numbers :
    portChannels ⟨false, 5, .m2x200, .rs544, 0, 0, []⟩ = [20, 22] ∧ portChannels ⟨true, 6, .m800, .rs544, 0, 0, []⟩ = [56] := by
  decide +kernel

/-- The /14 and the /17 of the Harrowfell example (chapter 5). -/
def routes : List Prefix := [⟨0x0A2C0000, 14, 40, 0, true⟩, ⟨0x0A2E8000, 17, 44, 0, true⟩]

theorem test_lookup :
    (lpmLookup 32 routes 0x0A2EC807).map (fun p => p.channel) = some 44 ∧
      (lpmLookup 32 routes 0x0A2E0501).map (fun p => p.channel) = some 40 := by decide +kernel

/-- Entry 200 of node 0x0123 at BAR0 0x1088F20, and the level-0 entry that leads to the node (chapters 5 and 19). -/
theorem test_table_view :
    ({ on [(F.TOP_TBLWIN_MEM, 1)] with tbl := { lpm4 := { prefixes := routes, nodes := [⟨1, 0x0A2E, 0x123⟩] } } } : State).readWord 4
      0x1088F20 = 0x4B000020 ∧
    ({ on [(F.TOP_TBLWIN_MEM, 1)] with tbl := { lpm4 := { prefixes := routes, nodes := [⟨1, 0x0A2E, 0x123⟩] } } } : State).readWord 4
      (0x1000000 + 4 * 0x0A2E) = 0x80000123 := by decide +kernel

/-- A 4-byte write of the scratch register reads back. -/
theorem test_scratch :
    (match exec (.registerWrite 4 32 4 0xDEADBEEF []) awake with
      | .next t => t.readWord 4 32
      | _ => 0) = 0xDEADBEEF := by decide +kernel

/-- A VF that reads beyond its windows meets an unmapped address, which reads as zero and is noted (R438). -/
theorem test_unmapped :
    (match exec (.unmapped 6 0x3F000 ⟨4, false⟩) awake with
      | .next t => (t.get F.TOP_UNMAPPED_OFFSET, t.get F.TOP_UNMAPPED_REQUESTER, t.out.head?)
      | _ => (0, 0, none)) = (0x3F000, 6, some (.read 6 0)) := by decide +kernel

/-- A ledger entry of a slack at some powered hours. -/
def entry (slack : Int) (hours : Nat) : LedgerEntry := ⟨760, 60, slack, 38, 160, 0, 785, 397, 0, 0, 0, 0, hours, 0⟩

/-- The plan of chapter 17's example, whose drift of -3.5 ps per year two ledger entries give: 755 mV now, 785 mV at the end of
life, a margin of 39.7 years. -/
theorem test_avs_plan :
    (match exec (.avsPlan 4 ⟨71, 38, 16, 60, 60, 0, 0, 0, 0, 7514⟩)
        { on [(F.PWR_AVS_STATUS_VDD_CORE_MV, 760)] with
          fus := { variant := .gd1610 }, pwr := { state := .active, goal := none, ledger := [entry 74 0, entry 71 7514] } } with
      | .next t => t.pwr.ledger.getLast?.map (fun e => (e.vPlan, e.drift10, e.vEnd, e.margin10))
      | _ => none) = some (755, -35, 785, 397) := by decide +kernel

/-- A queue takes its commands in order, and an empty one only lets time pass. -/
theorem test_step_takes_the_front :
    (match step { awake with pending := [.kick 4 7, .refLost] } with
      | .next t => (t.get F.PWR_WDOG_TIMEOUT_MS, t.pending)
      | _ => (0, [])) = (7, [.refLost]) := by decide +kernel

end Sys2Proof.Tests
end

section
/-! PROOFS. Accesses within BAR0: an aligned 4-byte write is the write of its word; and what reads and
writes do at a register of an absent unit (R9). -/

namespace Sys2Proof.Proofs
open Sys2Proof Sys2Proof.Machine

/-! ### Accesses within BAR0 -/

theorem bar0Bytes_lt_bar2 (who : Nat) : bar0Bytes who < bar2 := by
  unfold bar0Bytes bar2
  split <;> decide

/-- BAR0 and BAR2 do not overlap. -/
theorem not_inBar2_of_le_bar0Bytes {who off size : Nat} (hpos : 0 < size) (hle : off + size ≤ bar0Bytes who) :
    inBar2 who off size = false := by
  have hlt := bar0Bytes_lt_bar2 who
  have hoff : ¬ bar2 ≤ off := by omega
  simp [inBar2, hoff]

theorem word_of_byte {off b : Nat} (hal : off % 4 = 0) (hlo : off ≤ b) (hhi : b < off + 4) : b / 4 * 4 = off := by omega

/-- An aligned 4-byte write within BAR0 is the write of its word. -/
theorem exec_registerWrite_word {who off : Nat} (val : BitVec 64) (dma : Bytes) (s : State) (hwho : who < 13)
    (hal : off % 4 = 0) (hle : off + 4 ≤ bar0Bytes who) :
    exec (.registerWrite who off 4 val dma) s = wordWrite who off (val.toNat % 2 ^ 32) dma s := by
  have hbar := not_inBar2_of_le_bar0Bytes (by decide) hle
  change execRegisterWrite who off 4 val dma s = _
  simp [execRegisterWrite, Nat.not_le.2 hwho, hbar, Nat.not_lt.2 hle, hal]

/-! ### Registers of an absent unit -/

section
variable {who off : Nat} {s : State} {p : Place}

theorem readWord_of_unitAbsent (hreg : targetOf who off = .reg p) (habs : unitAbsent s.fus.variant p = true) :
    s.readWord who off = 0 := by
  have hread : s.readable who p = false := by simp [State.readable, habs]
  simp [State.readWord, hreg, hread]

theorem wordWrite_of_unitAbsent (v : Nat) (dma : Bytes) (hreg : targetOf who off = .reg p)
    (habs : unitAbsent s.fus.variant p = true) : wordWrite who off v dma s = .next s := by
  simp [wordWrite, hreg, habs]

/-- A sub-word write is one of the word that contains it, and posts no SUBWORD_WRITE at an absent unit. -/
theorem exec_subwordWrite_of_unitAbsent {b size : Nat} (hwho : who < 13) (hsize : size = 1 ∨ size = 2) (hal : b % size = 0)
    (hle : b + size ≤ bar0Bytes who) (hreg : targetOf who (b / 4 * 4) = .reg p) (habs : unitAbsent s.fus.variant p = true) :
    exec (.subwordWrite who b size) s = .next s := by
  have hpos : 0 < size := by omega
  have hbar := not_inBar2_of_le_bar0Bytes hpos hle
  have hrange : ¬ (13 ≤ who ∨ (size ≠ 1 ∧ size ≠ 2)) := by omega
  change execSubwordWrite who b size s = _
  simp [execSubwordWrite, hrange, hbar, Nat.not_lt.2 hle, hal, hreg, habs]

end

/-- Settles O7: the word at the address is the register's, and each access asks for the unit before anything else. -/
theorem absentUnitRegisters : Obligations.AbsentUnitRegisters := by
  intro who off val dma s p hwho hal hle hreg habs
  refine ⟨readWord_of_unitAbsent hreg habs, ?_, ?_⟩
  · rw [exec_registerWrite_word val dma s hwho hal hle, wordWrite_of_unitAbsent _ dma hreg habs]
  · intro size b hsize hbal hlo hhi
    have hword : b / 4 * 4 = off := word_of_byte hal hlo (by omega)
    exact exec_subwordWrite_of_unitAbsent hwho hsize hbal (Nat.le_trans hhi hle) (hword.symm ▸ hreg) habs

end Sys2Proof.Proofs
end

section
/-! PROOFS. The commands of the Peal loader: how a core or the PF has one judged (R19), what a completion writes
(R54), and LOAD (R46, R49). -/

namespace Sys2Proof.Proofs
open Sys2Proof Sys2Proof.Machine Sys2Proof.Laws

theorem isVf_eq_false_of_le_four {who : Nat} (h : who ≤ 4) : isVf who = false := by
  have : ¬ 5 ≤ who := by omega
  simp [isVf, this]

/-! ### Judging a PEL command -/

section
variable {who op : Nat} {s : State} {checks : List (Bool × Status)} {act : State → State}

/-- A PEL command that a check turns down completes with the status of that check, and does nothing else. -/
theorem pelCommand_of_rejected {st : Status} (hwho : who ≤ 4) (hcp : s.pwr.cpReset = false)
    (hst : firstStatus checks = st) (hne : st ≠ .ok) : s.pelCommand who op checks act = s.completePel op st := by
  cases st with
  | ok => exact absurd rfl hne
  | _ => simp [State.pelCommand, isVf_eq_false_of_le_four hwho, hcp, hst]

/-- A PEL command that passes its checks acts. -/
theorem pelCommand_of_ok (hwho : who ≤ 4) (hcp : s.pwr.cpReset = false) (hst : firstStatus checks = .ok) :
    s.pelCommand who op checks act = act s := by
  simp [State.pelCommand, isVf_eq_false_of_le_four hwho, hcp, hst]

end

/-! ### The completion of a PEL command -/

theorem get_completePel_status (s : State) (op : Nat) (st : Status) (step sec : Nat) :
    (s.completePel op st step sec).get F.PEL_RESULT_STATUS = st.code := by
  simp [State.completePel, get_post, get_sets_cons, get_sets_nil, get_set]

theorem get_completePel_op (s : State) (op : Nat) (st : Status) (step sec : Nat) :
    (s.completePel op st step sec).get F.PEL_RESULT_OP = op := by
  simp [State.completePel, get_post, get_sets_cons, get_sets_nil, get_set]

/-- A completion writes PEL_RESULT, posts DONE and lets the vector of PEL fire. -/
theorem completePel_only (s : State) (op : Nat) (st : Status) (step sec : Nat) :
    Only pelFields [.irq, .out] s (s.completePel op st step sec) :=
  frame_post _ _ (by simp [pelFields]) (by simp) (by simp) (frame_sets _ (by simp [pelFields]) frame_refl)

/-! ### The start of a load -/

theorem get_loadStart_shadow (s : State) (addr len : Nat) : (s.loadStart addr len).get F.PEL_STATUS_SHADOW = 1 :=
  get_set_self _ _ _

theorem pel_loadStart (s : State) (addr len : Nat) :
    (s.loadStart addr len).pel = { s.pel with loadAddr := addr, loadLen := len } := rfl

theorem loadStart_only (s : State) (addr len : Nat) : Only [F.PEL_STATUS_SHADOW] [.pel] s (s.loadStart addr len) :=
  frame_set _ _ (by simp) (frame_mk_pel _ (by simp) frame_refl)

/-! ### LOAD -/

/-- The operands that LOAD refuses (R46). -/
def LoadOperandsBad (s : State) : Prop :=
  s.get F.PEL_LOAD_LEN_LEN = 0 ∨ 8388608 < s.get F.PEL_LOAD_LEN_LEN ∨ s.loadAddr % 4096 ≠ 0

section
variable {who : Nat} {s : State}

theorem exec_load_of_bad (hwho : who ≤ 4) (hcp : s.pwr.cpReset = false) (hbad : LoadOperandsBad s) :
    exec (.load who) s = .next (s.completePel 1 .badArgument) := by
  change execLoad who s = _
  unfold LoadOperandsBad at hbad
  exact congrArg _ (pelCommand_of_rejected hwho hcp (by simp [firstStatus, hbad]) (by decide))

/-- The Shadow bank must be EMPTY: another of its states is a conflict or a load under way (R49). -/
theorem exec_load_of_empty (hwho : who ≤ 4) (hcp : s.pwr.cpReset = false) (hok : ¬ LoadOperandsBad s)
    (hempty : s.get F.PEL_STATUS_SHADOW = 0) :
    exec (.load who) s = .next (s.loadStart s.loadAddr (s.get F.PEL_LOAD_LEN_LEN)) := by
  change execLoad who s = _
  unfold LoadOperandsBad at hok
  exact congrArg _ (pelCommand_of_ok hwho hcp (by simp [firstStatus, hok, State.shadowState, hempty]))

end

/-- Settles O3: bad operands are judged before the Shadow bank, so LOAD then only completes; with good ones an EMPTY
bank passes the checks that remain. -/
theorem loadStartsOrIsRejected : Obligations.LoadStartsOrIsRejected := by
  intro who s hwho hcp bad
  constructor
  · intro hbad
    exact ⟨_, exec_load_of_bad hwho hcp hbad, get_completePel_status .., get_completePel_op .., completePel_only ..⟩
  · intro hok hempty
    exact ⟨_, exec_load_of_empty hwho hcp hok hempty, get_loadStart_shadow .., pel_loadStart .., loadStart_only ..⟩

end Sys2Proof.Proofs
end

section
/-! PROOFS. The increment of the time base (R284): what a tick adds to the time (R282), where the registers of INC
stand, and what a commit does within its range and outside it. -/

namespace Sys2Proof.Proofs
open Sys2Proof Sys2Proof.Machine Sys2Proof.Laws

/-! ### A tick -/

@[simp] theorem now_ppsFall (s : State) : s.ppsFall.tim.now = s.tim.now := by
  unfold State.ppsFall
  split <;> rfl

@[simp] theorem now_outputsFall (s : State) : s.outputsFall.tim.now = s.tim.now := by
  unfold State.outputsFall
  refine List.foldlRecOn (motive := fun t : State => t.tim.now = s.tim.now) _ _ (now_ppsFall s) ?_
  intro t ht k _
  dsimp only
  split <;> exact ht

theorem now_timeTick {s : State} (hwake : s.pwr.state ≠ .hibernate) :
    s.timeTick.tim.now = wrapTime (s.tim.now + s.tim.inc) := by
  simp [State.timeTick, hwake]

/-- Stalled cycles are counted beside the time unit. -/
@[simp] theorem tim_stallCycles (s : State) (n : Nat) : (s.stallCycles n).tim = s.tim := by
  have hout := outside_stallCycles (K := fun _ => True) (P := (· ≠ .tim)) s n trivial trivial trivial
    (by decide) (by decide) (by decide)
  obtain ⟨-, hparts, -⟩ := outside_only hout
  exact hparts .tim (not_not_intro rfl)

/-- The time moves by INC in a tick, whether or not engines are stalled. -/
theorem now_tick {s : State} (hwake : s.pwr.state ≠ .hibernate) :
    s.tick.tim.now = wrapTime (s.tim.now + s.tim.inc) := by
  unfold State.tick
  split
  · exact now_timeTick hwake
  · simp [now_timeTick hwake]

theorem step_of_pending_nil {s : State} (hempty : s.pending = []) : step s = .next s.tick := by
  simp [step, hempty]

/-! ### The registers of INC -/

/-- TIM_INC_FRAC and TIM_INC_NS, as the register table lists them (R304). -/
def incFracPlace : Place := ⟨⟨.TIM_INC_FRAC, 12, 32, 0, 1, 1, 0, [⟨0, 32, .rw, 0⟩]⟩, 0⟩

def incNsPlace : Place := ⟨⟨.TIM_INC_NS, 12, 36, 0, 1, 1, 0, [⟨0, 8, .rw, 2⟩]⟩, 0⟩

section
variable {who : Nat} {s : State}

/-- The cores see the map of the PF below the ring sets of HIF (R437). -/
theorem targetOf_eq_targetPf {off : Nat} (hwho : who ≤ 4) (hoff : off < 14 * 0x40000 + 0x1000) :
    targetOf who off = targetPf off := by
  have hbelow : ¬ 14 * 0x40000 + 0x1000 ≤ off := Nat.not_le.2 hoff
  simp [targetOf, isVf_eq_false_of_le_four hwho, targetCore, hbelow]

theorem targetOf_incFrac (hwho : who ≤ 4) : targetOf who 0x300020 = .reg incFracPlace :=
  (targetOf_eq_targetPf hwho (by decide)).trans (by decide)

theorem targetOf_incNs (hwho : who ≤ 4) : targetOf who 0x300024 = .reg incNsPlace :=
  (targetOf_eq_targetPf hwho (by decide)).trans (by decide)

/-- A word write at a register that is present, of a block that no control-plane reset closes, reaches the register. -/
theorem wordWrite_of_open {off v : Nat} {dma : Bytes} {p : Place} (hwho : who ≤ 4) (hreg : targetOf who off = .reg p)
    (hunit : unitAbsent s.fus.variant p = false) (hblock : p.row.block ∉ cpBlocks) (hown : s.notOwn who p = false)
    (hpresent : s.notPresent p = false) : wordWrite who off v dma s = regWrite who p v dma s := by
  simp [wordWrite, hreg, hunit, hblock, hown, hpresent, isVf_eq_false_of_le_four hwho]

theorem regWrite_incFrac (v : Nat) (dma : Bytes) :
    regWrite who incFracPlace v dma s = .next (s.set F.TIM_INC_FRAC_FRAC (v % 2 ^ 32)) := by
  have hallowed : s.forbids who incFracPlace v = false := by
    simp [State.forbids, incFracPlace, State.portLimit, State.coreLimit, State.ctlLimit, State.hostLimit, State.cntLimit]
  change Host.Outcome.next (s.plainWrite who incFracPlace v) = _
  rw [State.plainWrite, hallowed]
  simp [incFracPlace, wordTaken, State.storeWord, State.storeField, State.afterWrite, maskVector, field]

/-- A register write of TIM_INC_FRAC stores the fraction, whatever the state. -/
theorem exec_registerWrite_incFrac (val : BitVec 64) (dma : Bytes) (hwho : who ≤ 4) :
    exec (.registerWrite who 0x300020 4 val dma) s = .next (s.set F.TIM_INC_FRAC_FRAC (val.toNat % 2 ^ 32)) := by
  have hbar : 0x300020 + 4 ≤ bar0Bytes who := by simp [bar0Bytes, isVf_eq_false_of_le_four hwho]
  rw [exec_registerWrite_word val dma s (by omega) (by decide) hbar,
    wordWrite_of_open hwho (targetOf_incFrac hwho) rfl (by decide) rfl rfl, regWrite_incFrac, Nat.mod_mod]

/-- A register write of TIM_INC_NS is the commit of its word (log entry 12). -/
theorem exec_registerWrite_incNs (val : BitVec 64) (dma : Bytes) (hwho : who ≤ 4) :
    exec (.registerWrite who 0x300024 4 val dma) s = exec (.timIncCommit who (val.toNat % 2 ^ 32)) s := by
  have hbar : 0x300024 + 4 ≤ bar0Bytes who := by simp [bar0Bytes, isVf_eq_false_of_le_four hwho]
  rw [exec_registerWrite_word val dma s (by omega) (by decide) hbar,
    wordWrite_of_open hwho (targetOf_incNs hwho) rfl (by decide) rfl rfl]
  rfl

end

/-! ### The commit -/

/-- The increment that a commit of `val` with the staged fraction asks for. -/
def incOf (s : State) (val : Nat) : Nat := val % 256 * 2 ^ 32 + s.get F.TIM_INC_FRAC_FRAC

/-- The state with INC in force, and NS as its whole nanoseconds show it. -/
def withInc (s : State) (ns inc : Nat) : State :=
  { s.set F.TIM_INC_NS_NS ns with tim := { s.tim with inc := inc } }

theorem get_withInc_ns (s : State) (ns inc : Nat) : (withInc s ns inc).get F.TIM_INC_NS_NS = ns := get_set_self _ _ _

theorem withInc_only (s : State) (ns inc : Nat) : Only [F.TIM_INC_NS_NS] [.tim] s (withInc s ns inc) :=
  frame_mk_tim (t := s.set F.TIM_INC_NS_NS ns) _ (by simp) (frame_set _ _ (by simp) frame_refl)

section
variable {who val : Nat} {s : State}

theorem exec_timIncCommit_of_allowed (hwho : who ≤ 4) (hlo : 0x1FF7CED92 ≤ incOf s val)
    (hhi : incOf s val ≤ 0x20083126E) :
    exec (.timIncCommit who val) s = .next (withInc s (val % 256) (incOf s val)) := by
  have hgo : ¬ (isVf who ∨ incOf s val < 0x1FF7CED92 ∨ 0x20083126E < incOf s val) := by
    simp [isVf_eq_false_of_le_four hwho, Nat.not_lt.2 hlo, Nat.not_lt.2 hhi]
  change Host.Outcome.next (s.commitInc who val) = _
  exact congrArg _ (if_neg hgo)

theorem exec_timIncCommit_of_outside (hwho : who ≤ 4) (hout : incOf s val < 0x1FF7CED92 ∨ 0x20083126E < incOf s val) :
    exec (.timIncCommit who val) s = .next (s.set F.TIM_STATUS_WRITE_IGNORED 1) := by
  have hignored : s.ignored who F.TIM_STATUS_WRITE_IGNORED = s.set F.TIM_STATUS_WRITE_IGNORED 1 := by
    simp [State.ignored, isVf_eq_false_of_le_four hwho]
  change Host.Outcome.next (s.commitInc who val) = _
  exact congrArg _ ((if_pos (.inr hout)).trans hignored)

end

/-- A committed increment governs the next tick. -/
theorem step_withInc {s : State} (ns inc : Nat) (hempty : s.pending = []) (hwake : s.pwr.state ≠ .hibernate) :
    ∃ u : State, step (withInc s ns inc) = .next u ∧ u.tim.now = wrapTime (s.tim.now + inc) :=
  ⟨_, step_of_pending_nil hempty, now_tick hwake⟩

/-- Settles O32: the write of the fraction is a plain store, that of the whole nanoseconds the commit, and the commit
judges the pair before it touches INC. -/
theorem timeIncrementCommits : Obligations.TimeIncrementCommits := by
  intro who val s hwho inc
  refine ⟨fun v dma => ⟨?_, exec_registerWrite_incNs v dma hwho⟩, ?_, ?_⟩
  · exact ⟨_, exec_registerWrite_incFrac v dma hwho, get_set_self _ _ _, frame_set _ _ (by simp) frame_refl⟩
  · rintro ⟨hlo, hhi⟩
    exact ⟨_, exec_timIncCommit_of_allowed hwho hlo hhi, rfl, get_withInc_ns .., withInc_only .., step_withInc _ _⟩
  · intro hout
    exact ⟨_, exec_timIncCommit_of_outside hwho hout, get_set_self _ _ _, rfl, get_set_other _ _ (by decide),
      frame_set _ _ (by simp) frame_refl⟩

end Sys2Proof.Proofs
end

section
/-! PROOFS. The Chime mailboxes (R339 to R344): what an event and a notice change at their view, what an emptied
mailbox leaves, and SEND, POP, WITHDRAW, CHM_NOTICE_READ and CROSSED by these. -/

namespace Sys2Proof.Proofs
open Sys2Proof Sys2Proof.Machine Sys2Proof.Laws

/-! ### Views and their mailboxes -/

theorem lt_of_viewOf {s : State} {who pair v : Nat} (hv : s.viewOf who pair = some v) : v < 16 := by
  unfold State.viewOf at hv
  split at hv
  · simp at hv
  · split at hv
    · simp only [Option.some.injEq] at hv
      omega
    · split at hv
      · simp only [Option.some.injEq] at hv
        omega
      · simp at hv

theorem otherView_lt (v : Nat) : otherView v < 16 := Nat.mod_lt _ (by decide)

theorem senderView_outBox {v : Nat} (hv : v < 16) : senderView (outBox v) = v := by
  unfold senderView outBox
  split <;> split <;> omega

theorem senderView_inBox (v : Nat) : senderView (inBox v) = otherView v := senderView_outBox (otherView_lt v)

theorem box_setBox (s : State) (b c : Nat) (m : Mailbox) : (s.setBox b m).box c = if c = b then m else s.box c :=
  ntab_get_set ..

/-! ### Events of a view -/

@[simp] theorem get_chmRefresh (s : State) (vec : Nat) (k : FKey) : (s.chmRefresh vec).get k = s.get k := by
  unfold State.chmRefresh
  (repeat' split) <;> rfl

/-- A posted event sets its bit at its view and touches no other field. -/
theorem get_chmPost (s : State) (v i : Nat) (k : FKey) :
    (s.chmPost v i).get k = if k = F.CHM_EVENT_EVENTS v then setBit (s.get (F.CHM_EVENT_EVENTS v)) i else s.get k := by
  unfold State.chmPost
  dsimp only
  split <;> simp [get_set]

theorem get_chmPost_self (s : State) (v i : Nat) :
    (s.chmPost v i).get (F.CHM_EVENT_EVENTS v) = setBit (s.get (F.CHM_EVENT_EVENTS v)) i := by
  simp [get_chmPost]

section
variable {K : FKey → Prop} {ps : List Part} {s t : State}

theorem frame_chmRefresh (vec : Nat) (hirq : .irq ∈ ps) (hout : .out ∈ ps) (h : OnlyWhere K ps s t) :
    OnlyWhere K ps s (t.chmRefresh vec) := by
  unfold State.chmRefresh
  split
  · split
    · exact h
    · exact frame_mk_irq_out _ _ hirq hout h
  · exact frame_mk_irq _ hirq h

theorem frame_chmPost (v i : Nat) (hk : K (F.CHM_EVENT_EVENTS v)) (hirq : .irq ∈ ps) (hout : .out ∈ ps)
    (h : OnlyWhere K ps s t) : OnlyWhere K ps s (t.chmPost v i) := by
  unfold State.chmPost
  dsimp only
  split
  · exact frame_chmRefresh _ hirq hout (frame_set _ _ hk h)
  · exact frame_set _ _ hk h

end

theorem chmPost_only (s : State) (v i : Nat) : Only [F.CHM_EVENT_EVENTS v] [.irq, .out] s (s.chmPost v i) :=
  frame_chmPost v i (by simp) (by simp) (by simp) frame_refl

@[simp] theorem chm_chmPost (s : State) (v i : Nat) : (s.chmPost v i).chm = s.chm :=
  (chmPost_only s v i).2.1 .chm (by decide)

@[simp] theorem box_chmPost (s : State) (v i b : Nat) : (s.chmPost v i).box b = s.box b := by simp [State.box]

@[simp] theorem notices_chmPost (s : State) (v i w : Nat) : (s.chmPost v i).notices w = s.notices w := by
  simp [State.notices]

@[simp] theorem hif_chmPost (s : State) (v i : Nat) : (s.chmPost v i).hif = s.hif :=
  (chmPost_only s v i).2.1 .hif (by decide)

/-! ### Notices -/

/-- The state with a notice at the end of a view's FIFO. -/
def withNotice (s : State) (v : Nat) (k : NoticeKind) (tag : Nat) : State :=
  { s with chm := { s.chm with notices := NTab.set s.chm.notices [] v (s.notices v ++ [(k, tag)]) } }

theorem notices_withNotice (s : State) (v : Nat) (k : NoticeKind) (tag : Nat) :
    (withNotice s v k tag).notices v = s.notices v ++ [(k, tag)] :=
  (ntab_get_set ..).trans (if_pos rfl)

section
variable {s : State} {v : Nat} (k : NoticeKind) (tag : Nat)

theorem notice_of_room (hroom : (s.notices v).length < 16) :
    s.notice v k tag = (withNotice s v k tag).chmPost v 1 := if_neg (Nat.not_le.2 hroom)

theorem notice_of_full (hfull : 16 ≤ (s.notices v).length) : s.notice v k tag = s.chmPost v 4 := if_pos hfull

/-- With room, the notice is the last of its view, which has the NOTICE event. -/
theorem notices_and_event_notice_of_room (hroom : (s.notices v).length < 16) :
    (s.notice v k tag).notices v = s.notices v ++ [(k, tag)] ∧
      (s.notice v k tag).get (F.CHM_EVENT_EVENTS v) = setBit (s.get (F.CHM_EVENT_EVENTS v)) 1 := by
  rw [notice_of_room k tag hroom]
  exact ⟨(notices_chmPost ..).trans (notices_withNotice ..), get_chmPost_self ..⟩

/-- Behind sixteen notices another one is lost, and the view has the NOTICE_LOST event. -/
theorem notices_and_event_notice_of_full (hfull : 16 ≤ (s.notices v).length) :
    (s.notice v k tag).chm.notices = s.chm.notices ∧
      (s.notice v k tag).get (F.CHM_EVENT_EVENTS v) = setBit (s.get (F.CHM_EVENT_EVENTS v)) 4 := by
  rw [notice_of_full k tag hfull]
  exact ⟨by rw [chm_chmPost], get_chmPost_self ..⟩

end

@[simp] theorem box_notice (s : State) (v : Nat) (k : NoticeKind) (tag b : Nat) :
    (s.notice v k tag).box b = s.box b := by
  rcases Nat.lt_or_ge (s.notices v).length 16 with hroom | hfull
  · rw [notice_of_room k tag hroom, box_chmPost]
    rfl
  · rw [notice_of_full k tag hfull, box_chmPost]

theorem notice_onlyIn (s : State) (v : Nat) (k : NoticeKind) (tag : Nat) :
    OnlyIn [.CHM_EVENT] [.irq, .chm, .out] s (s.notice v k tag) :=
  outside_only (outside_notice (K := (· ∈ [.CHM_EVENT])) (P := (· ∈ [.irq, .chm, .out])) s v k tag
    (by simp) (by simp) (by simp) (by simp))

/-! ### An emptied mailbox -/

theorem tab_get_filter_removed {κ α : Type} [DecidableEq κ] (t : Tab κ α) (d : α) (k : κ) (f : κ × α → Bool)
    (h : ∀ v, f (k, v) = false) : Tab.get (t.filter f) d k = d := by
  induction t with
  | nil => rfl
  | cons p t ih =>
    obtain ⟨j, v⟩ := p
    by_cases hj : k = j
    · subst hj
      simpa [h] using ih
    · cases hf : f (j, v)
      · simpa [hf] using ih
      · simpa [hf, Tab.get, hj] using ih

theorem reset_outData (e : Nat) : (F.CHM_OUT_DATA_DATA e).reset = 0 := rfl

theorem get_outData_emptyBox (s : State) (b : Nat) {w : Nat} (hw : w < 64) :
    (s.emptyBox b).get (F.CHM_OUT_DATA_DATA (senderView b * 64 + w)) = 0 := by
  have hview : (senderView b * 64 + w) / 64 = senderView b := by omega
  rw [← reset_outData]
  exact tab_get_filter_removed _ _ _ _ (fun v => by simp [hview])

theorem box_emptyBox (s : State) (b c : Nat) : (s.emptyBox b).box c = if c = b then {} else s.box c := box_setBox ..

theorem emptyBox_onlyIn (s : State) (b : Nat) : OnlyIn [.CHM_OUT_DATA] [.chm] s (s.emptyBox b) :=
  outside_only (outside_emptyBox (K := (· ∈ [.CHM_OUT_DATA])) (P := (· ∈ [.chm])) s b (by simp) (by simp))

theorem get_event_emptyBox (s : State) (b v : Nat) :
    (s.emptyBox b).get (F.CHM_EVENT_EVENTS v) = s.get (F.CHM_EVENT_EVENTS v) :=
  (emptyBox_onlyIn s b).1 _ (by simp)

/-- Mailbox `b` and its words are zeroized, the other mailboxes are as they were, and beside them only notices, their
events and interrupts may differ. -/
def Emptied (b : Nat) (s t : State) : Prop :=
  t.box b = {} ∧ (∀ c, c ≠ b → t.box c = s.box c) ∧
    (∀ w < 64, t.get (F.CHM_OUT_DATA_DATA (senderView b * 64 + w)) = 0) ∧
    OnlyIn [.CHM_OUT_DATA, .CHM_EVENT] [.chm, .irq, .out] s t

theorem emptied_emptyBox (s : State) (b : Nat) : Emptied b s (s.emptyBox b) :=
  ⟨by simp [box_emptyBox], fun c hc => by simp [box_emptyBox, hc], fun _ hw => get_outData_emptyBox s b hw,
    frame_mono (emptyBox_onlyIn s b) (by simp +contextual) (by simp)⟩

/-- A notice leaves an emptied mailbox emptied. -/
theorem emptied_notice {b : Nat} {s t : State} (h : Emptied b s t) (v : Nat) (k : NoticeKind) (tag : Nat) :
    Emptied b s (t.notice v k tag) := by
  obtain ⟨hempty, hothers, hwords, hframe⟩ := h
  have hnotice := notice_onlyIn t v k tag
  refine ⟨by simpa using hempty, by simpa using hothers, fun w hw => ?_, frame_trans hframe ?_⟩
  · rw [hnotice.1 _ (by simp)]
    exact hwords w hw
  · exact frame_mono hnotice (by simp +contextual) (by simp)

/-! ### POP -/

section
variable {s : State} {v : Nat} (who : Nat)

/-- A POP that was asked for an acknowledgement gives the sender its notice. -/
theorem chmPop_of_ack (hfull : (s.box (inBox v)).full = true) (hack : (s.box (inBox v)).ack = true) :
    s.chmPop who v = (s.emptyBox (inBox v)).notice (otherView v) .acked (s.box (inBox v)).tag := by
  simp [State.chmPop, hfull, hack]

theorem chmPop_of_noAck (hfull : (s.box (inBox v)).full = true) (hack : (s.box (inBox v)).ack = false) :
    s.chmPop who v = s.emptyBox (inBox v) := by
  simp [State.chmPop, hfull, hack]

theorem chmPop_of_empty (hempty : (s.box (inBox v)).full = false) :
    s.chmPop who v = s.ignored who F.CHM_STATUS_WRITE_IGNORED := by
  simp [State.chmPop, hempty]

theorem emptied_chmPop (hfull : (s.box (inBox v)).full = true) : Emptied (inBox v) s (s.chmPop who v) := by
  rcases Bool.eq_false_or_eq_true (s.box (inBox v)).ack with hack | hack
  · rw [chmPop_of_ack who hfull hack]
    exact emptied_notice (emptied_emptyBox _ _) _ _ _
  · rw [chmPop_of_noAck who hfull hack]
    exact emptied_emptyBox _ _

end

/-! ### The commands at a view -/

section
variable {who pair v : Nat} {s : State}

theorem exec_send_of_view (hv : s.viewOf who pair = some v) (len : Nat) (ack : Bool) (tag : Nat) :
    exec (.send who pair len ack tag) s = .next (s.chmSend who v len ack tag) := by
  change execSend who pair len ack tag s = _
  simp [execSend, hv]

/-- The state with a message sent from a view, before the other view's doorbell rings. -/
def withMessage (s : State) (who v len : Nat) (ack : Bool) (tag : Nat) : State :=
  s.setBox (outBox v) { full := true, len := len % 64, ack := ack, tag := tag % 2 ^ 16, sender := who }

theorem chmSend_of_empty (hempty : (s.box (outBox v)).full = false) (len : Nat) (ack : Bool) (tag : Nat) :
    s.chmSend who v len ack tag = (withMessage s who v len ack tag).chmPost (otherView v) 0 := by
  simp [State.chmSend, hempty, withMessage]

theorem chmSend_of_full (hfull : (s.box (outBox v)).full = true) (len : Nat) (ack : Bool) (tag : Nat) :
    s.chmSend who v len ack tag = s.fullWrite who v := by
  simp [State.chmSend, hfull]

theorem box_chmSend_of_empty (hempty : (s.box (outBox v)).full = false) (len : Nat) (ack : Bool) (tag b : Nat) :
    (s.chmSend who v len ack tag).box b =
      if b = outBox v then { full := true, len := len % 64, ack := ack, tag := tag % 2 ^ 16, sender := who }
      else s.box b := by
  rw [chmSend_of_empty hempty, box_chmPost]
  exact box_setBox ..

/-- SEND and a write of OUT_DATA at a full mailbox are one and the same abort (R340). -/
theorem exec_of_full (hv : s.viewOf who pair = some v) (hfull : (s.box (outBox v)).full = true) {c : Instr} {len : Nat}
    {ack : Bool} {tag : Nat} (hc : c = Instr.send who pair len ack tag ∨ c = .fullWrite who pair) :
    exec c s = .next (s.fullWrite who v) := by
  rcases hc with rfl | rfl
  · rw [exec_send_of_view hv, chmSend_of_full hfull]
  · change execFullWrite who pair s = _
    simp [execFullWrite, hv, hfull]

theorem exec_pop_of_view (hv : s.viewOf who pair = some v) : exec (.pop who pair) s = .next (s.chmPop who v) := by
  change execPop who pair s = _
  simp [execPop, hv]

theorem exec_withdraw_of_full (hv : s.viewOf who pair = some v) (hfull : (s.box (outBox v)).full = true) :
    exec (.withdraw who pair) s =
      .next ((s.emptyBox (outBox v)).notice (otherView v) .abortedIn (s.box (outBox v)).tag) := by
  change execWithdraw who pair s = _
  simp [execWithdraw, hv, hfull]

theorem exec_chmNoticeRead_of_view (hv : s.viewOf who pair = some v) :
    exec (.chmNoticeRead who pair) s = .next ((s.noticePop v).emit (.read who (s.noticeHead v))) := by
  change execChmNoticeRead who pair s = _
  simp [execChmNoticeRead, hv]

end

theorem notices_noticePop (s : State) (v : Nat) : (s.noticePop v).notices v = (s.notices v).drop 1 :=
  (ntab_get_set ..).trans (if_pos rfl)

/-- The state in which a crossed pair counts as reported, before its doorbells ring. -/
def withCrossed (s : State) (pair : Nat) : State := { s with chm := { s.chm with crossed := s.chm.crossed ++ [pair] } }

theorem exec_crossed_of_both {pair : Nat} {s : State} (hpair : pair < 8) (hfull : (s.box (2 * pair)).full = true)
    (hack : (s.box (2 * pair)).ack = true) (hfull' : (s.box (2 * pair + 1)).full = true)
    (hack' : (s.box (2 * pair + 1)).ack = true) (hnew : pair ∉ s.chm.crossed) :
    exec (.crossed pair) s = .next (((withCrossed s pair).chmPost pair 2).chmPost (8 + pair) 2) := by
  change execCrossed pair s = _
  simp [execCrossed, withCrossed, hpair, hfull, hack, hfull', hack', hnew]

/-! ### The settlement -/

/-- Settles O43: each command at a view is an update of one mailbox or FIFO, followed by the doorbells of the views it
concerns, and a doorbell leaves the mailboxes alone. -/
theorem chimeMailboxes : Obligations.ChimeMailboxes := by
  intro who pair v s hwho hv o i
  refine ⟨?send, ?fullWrite, ?pop, ?withdraw, ?popEmpty, ?noticeRead, ?crossed⟩
  case send =>
    intro len ack tag hempty
    refine ⟨_, exec_send_of_view hv len ack tag, ?_, fun b hb => ?_, ?_⟩
    · exact (box_chmSend_of_empty hempty ..).trans (if_pos rfl)
    · exact (box_chmSend_of_empty hempty ..).trans (if_neg hb)
    · rw [chmSend_of_empty hempty, chm_chmPost]
      exact ⟨get_chmPost_self .., rfl,
        frame_chmPost _ _ (by simp) (by simp) (by simp) (frame_mk_chm _ (by simp) frame_refl)⟩
  case fullWrite =>
    intro c len ack tag hfull hc
    exact ⟨_, exec_of_full hv hfull hc, hif_chmPost .., get_chmPost_self ..,
      frame_chmPost _ _ (by simp) (by simp) (by simp) (frame_mk_hif _ (by simp) frame_refl)⟩
  case pop =>
    intro hfull
    obtain ⟨hempty, hothers, hwords, hframe⟩ := emptied_chmPop who hfull
    rw [senderView_inBox] at hwords
    refine ⟨_, exec_pop_of_view hv, hempty, hothers, hwords, fun hack hroom => ?_, fun hack hlost => ?_, fun hack => ?_,
      hframe⟩
    · rw [chmPop_of_ack who hfull hack, ← get_event_emptyBox s i]
      exact notices_and_event_notice_of_room _ _ hroom
    · rw [chmPop_of_ack who hfull hack, ← get_event_emptyBox s i]
      exact notices_and_event_notice_of_full _ _ hlost
    · rw [chmPop_of_noAck who hfull hack]
      exact ⟨rfl, get_event_emptyBox ..⟩
  case withdraw =>
    intro hfull hroom
    obtain ⟨hempty, hothers, hwords, hframe⟩ :=
      emptied_notice (emptied_emptyBox s (outBox v)) (otherView v) .abortedIn (s.box (outBox v)).tag
    obtain ⟨hnotices, hevent⟩ := notices_and_event_notice_of_room (s := s.emptyBox (outBox v)) .abortedIn
      (s.box (outBox v)).tag hroom
    rw [senderView_outBox (lt_of_viewOf hv)] at hwords
    rw [get_event_emptyBox] at hevent
    exact ⟨_, exec_withdraw_of_full hv hfull, hempty, hothers, hwords, hnotices, hevent, hframe⟩
  case popEmpty =>
    intro hempty
    have hignored : s.chmPop who v = s.set F.CHM_STATUS_WRITE_IGNORED 1 := by
      simp [chmPop_of_empty who hempty, State.ignored, isVf_eq_false_of_le_four hwho]
    exact ⟨_, (exec_pop_of_view hv).trans (congrArg _ hignored), get_set_self .., frame_set _ _ (by simp) frame_refl⟩
  case noticeRead =>
    intro k tag rest hnotices
    refine ⟨_, exec_chmNoticeRead_of_view hv, ?_, ?_, rfl, ?_⟩
    · exact (notices_noticePop s v).trans (by rw [hnotices]; rfl)
    · simp [State.noticeHead, hnotices, State.noticePop]
    · exact frame_emit _ (by simp) (frame_mk_chm _ (by simp) frame_refl)
  case crossed =>
    intro hpair hfull hack hfull' hack' hnew
    refine ⟨_, exec_crossed_of_both hpair hfull hack hfull' hack' hnew, by simp [withCrossed], ?_, ?_, ?_⟩
    · simp [get_chmPost, withCrossed]
    · simp [get_chmPost, withCrossed]
    · exact frame_chmPost _ _ (by simp) (by simp) (by simp)
        (frame_chmPost _ _ (by simp) (by simp) (by simp) (frame_mk_chm _ (by simp) frame_refl))

end Sys2Proof.Proofs
end
